-- ==== Sys2Proof/Word.lean ====
section
/-! DEFINITION. The words of the SV8: bytes, 32-bit registers, wire fields, and sparse tables. -/

namespace Sys2Proof

/-- One byte. -/
abbrev Byte := BitVec 8

/-- A host-visible register or a wire word (R7). -/
abbrev Word := BitVec 32

/-- A cycle number: the 48-bit cycle counter of R31. -/
abbrev CycleNo := BitVec 48

/-- A table keyed by number, in ascending order of key; a key that is not listed holds the table's
reset value (each reader names it). -/
abbrev SMap (α : Type) := List (Nat × α)

end Sys2Proof
end

