-- ==== Sys2Proof/Config/Types.lean ====
section
/-! DEFINITION. The named alternatives of the manual and the data that commands carry: device states,
phases, roles, status codes, wire words and message headers. -/

namespace Sys2Proof

/-- Variant (R1); the code is VARIANT of R327. -/
inductive Variant where
  | sv8x32 | sv8x16
deriving DecidableEq, Repr

/-- Silicon stepping (R4). -/
inductive Stepping where
  | a0 | b0
deriving DecidableEq, Repr

/-- Device states (R19), in the order of their codes in R327. -/
inductive DevState where
  | reset | boot | idle | loaded | ready | running | ramping | blocked | faulted
deriving DecidableEq, Repr

/-- Control phases (R24), in the order of their codes in R327; `none` before any entry to RUNNING. -/
inductive Phase where
  | none | startup | service | test | recovery
deriving DecidableEq, Repr

/-- Tandem roles (R428), in the order of their codes in R327. -/
inductive Role where
  | active | standby | resync | eligible | isolated
deriving DecidableEq, Repr

/-- Roles of a session (R338). -/
inductive SessRole where
  | observer | operator | engineer | protection
deriving DecidableEq, Repr

/-- Generations of the basin link (R162). -/
inductive Gen where
  | bl1 | bl2 | bl3
deriving DecidableEq, Repr

/-- Lane states of a basin port (R184), in the order of their codes in R422. -/
inductive LaneState where
  | dark | acquire | negotiate | step | train | up | relock
deriving DecidableEq, Repr

/-- States of a mooring (R206). -/
inductive MoorState where
  | vacant | admitted | refused | ranged | serving
deriving DecidableEq, Repr

/-- Categories of an arm member (R129). -/
inductive Category where
  | active | excluded | failed | lost
deriving DecidableEq, Repr

/-- What a mooring holds (R205, R197). -/
inductive CellType where
  | halfBridge | fullBridge | gauge
deriving DecidableEq, Repr

/-- The STATE field of a command word (R194). -/
inductive CellCmd where
  | bypass | insPos | insNeg | block
deriving DecidableEq, Repr

/-- Types of a basin frame (R188). -/
inductive FType where
  | command | block | serviceOnly | inhibit
deriving DecidableEq, Repr

/-- States of the safety die (R403), in the order of their codes in R412. -/
inductive SrbState where
  | hold | armed | ramp | tripped
deriving DecidableEq, Repr

/-- The five phase-locked loops (R272). -/
inductive Pll where
  | c | e | a | b | d
deriving DecidableEq, Repr

/-- States of a capture channel (R443). -/
inductive CapState where
  | idle | preFill | armed | postTrigger | done | overflow
deriving DecidableEq, Repr

/-- Domains of a block reset (R375). -/
inductive BlockDomain where
  | fabric | basinPort (n : Nat) | stationPort (n : Nat) | pulseChannel (n : Nat)
deriving DecidableEq, Repr

/-- Status codes (R351). -/
inductive Status where
  | ok | mbxFull | flushed | noSession | noMailbox | sequence | length | version | opcode | role
  | auth | sessionStale | roleChanged | notActive | state | range | tooLate | busy | resource
  | consistency | digest | signature | poundFull | notChecked | countersignRequired
  | countersignMismatch | sameParty | notConverged | tdInvalid | offsetLimit | aborted
  | completedBeforeAbort | nothingToAbort | overflow | notFound | acceptedAlone
deriving DecidableEq, Repr

/-- The WHEN field of a command (R341). -/
structure When where
  asap  : Bool := false
  cycle : CycleNo := 0
deriving DecidableEq, Repr

/-- What a BCS message's header carries (R333, R334), with the mailbox it came by and the length of
its body in bytes. -/
structure BcsHdr where
  mbx          : Nat
  version      : Byte := 1
  kind         : Byte := 1
  tag          : BitVec 16 := 0
  sessionEpoch : Word := 0
  roleEpoch    : Word := 0
  bodyLen      : Nat := 240
deriving DecidableEq, Repr

/-- A stage of block floating point (R56, R57): one exponent, one mantissa per element. The same
shape holds a plain stage (24-bit mantissas) and an extended stage (48-bit mantissas). -/
structure Stage where
  e : Int := -128
  m : List Int := []
deriving DecidableEq, Repr

/-- An element word of R59 as mantissa and exponent. -/
structure ElemWord where
  m : Int := 0
  e : Int := -128
deriving DecidableEq, Repr

/-- A report word of R200 as received, field by field. -/
structure ReportWord where
  vDev         : Nat := 0xFFFF
  sampleOffset : Nat := 0
  temp         : Int := 0
  firePast     : Bool := false
  bypassClosed : Bool := false
  holding      : Bool := false
  selfBlocked  : Bool := false
  inhibited    : Bool := false
  frameError   : Bool := false
  gauge        : Bool := false
  epochLo      : Nat := 0
  faultCode    : Nat := 0
  echoState    : CellCmd := .block
  echoSeq      : Nat := 0
  unitEcho     : Nat := 0
  vAux         : Nat := 0
  q0           : Int := 0
  q1           : Int := 0
deriving DecidableEq, Repr

/-- What the receiver measured in a burst (R176, R177). -/
structure BurstMeas where
  thresh : Int := 0
  eq     : Nat := 0
  phase  : Nat := 0
  ampl   : Nat := 0
deriving DecidableEq, Repr

/-- A burst as a port's receiver takes it from the line (R168, R172, R202): the 32 bits in the place of US_DELIM, and
the line bits after them to the end of the stuff margin. -/
structure Burst where
  delim : BitVec 32
  line  : List Bool
deriving DecidableEq, Repr

/-- A level that a trip input has been at for `n` consecutive samples, up to a position in eu (R299). -/
structure TripSeen where
  level : Bool
  n     : Nat
  eu    : Nat
deriving DecidableEq, Repr

/-- A DISC_REPLY (R197); a code of CELL_TYPE that the table does not give is none. -/
structure DiscReply where
  location : BitVec 48
  serial   : BitVec 64
  genMax   : Nat
  cellType : Option CellType
  discIndex : Nat := 0
  cellRx   : Nat := 0
  cellTx   : Nat := 0
  model    : BitVec 16 := 0
  fw       : BitVec 16 := 0
deriving DecidableEq, Repr

/-- A credential of the boot configuration record (R337). -/
structure Credential where
  credId : Word
  key    : List Byte
  roles  : List SessRole
  party  : Nat
deriving DecidableEq, Repr

/-- One instant as whole nanoseconds and a fraction in units of 2^-32 ns. -/
structure TimeCtr where
  /-- SECONDS, 48 bits (R254). -/
  sec  : BitVec 48 := 0
  /-- NANOSECONDS, 0 to 999,999,999 (R254). -/
  ns   : BitVec 30 := 0
  /-- FRACTION, in units of 2^-32 ns (R254). -/
  frac : BitVec 32 := 0
deriving DecidableEq, Repr

/-- A timestamp as the device exports it (R256): the top 16 bits of FRACTION. -/
structure Stamp where
  sec  : BitVec 48 := 0
  ns   : BitVec 30 := 0
  frac : BitVec 16 := 0
deriving DecidableEq, Repr

/-- PTP message types the ports handle (R257). -/
inductive PtpKind where
  | sync | followUp | announce | pdelayReq | pdelayResp | pdelayRespFollowUp | delayReq
  | signaling | management
deriving DecidableEq, Repr

/-- The data set of an Announce that the default best master clock algorithm compares (R257, R258): a grandmaster's
priorities, quality and identity, and the steps and port it was heard through. -/
structure AnnData where
  pri1     : Nat := 128
  cls      : Nat := 248
  accuracy : Nat := 254
  variance : Nat := 65535
  pri2     : Nat := 128
  gm       : Nat := 0
  steps    : Nat := 0
  sender   : Nat := 0
deriving DecidableEq, Repr

/-- A PTP message as a port receives it, with the timestamp it carries where it has one. -/
structure PtpMsg where
  kind       : PtpKind
  domain     : Nat
  /-- sourcePortIdentity: clock identity and port number. -/
  sourcePort : Nat := 0
  seqId      : Nat := 0
  twoStep    : Bool := false
  /-- correctionField, in units of 2^-16 ns. -/
  correction : Int := 0
  /-- The timestamp of the message: origin, request receipt or response origin, in units of 2^-32 ns. -/
  origin     : Nat := 0
  /-- The data set of an Announce. -/
  ann        : AnnData := {}
deriving DecidableEq, Repr

/-- A PTP message as a port sends it (R256–R258). -/
structure PtpOut where
  kind       : PtpKind
  domain     : Nat
  seqId      : Nat
  twoStep    : Bool := false
  correction : Int := 0
  stamp      : Option Stamp := none
  ann        : Option AnnData := none
  /-- requestingPortIdentity of a peer delay answer. -/
  reqPort    : Nat := 0
deriving DecidableEq, Repr

/-- One quantity of a sampled-value ASDU (R234, R236). -/
structure SvQty where
  value : Int
  /-- validity: 0 good, 1 invalid, 2 reserved, 3 questionable. -/
  validity : Nat := 0
  test : Bool := false
deriving DecidableEq, Repr

/-- A sampled-value ASDU (R235). -/
structure Asdu where
  svId     : List Byte := []
  confRev  : Nat
  smpCnt   : Nat
  smpSynch : Nat
  qtys     : List SvQty
deriving DecidableEq, Repr

/-- A dataset member of a GOOSE message (R239). -/
inductive GooseVal where
  | bool (b : Bool)
  | int32 (x : Int)
  /-- FLOAT32 as sign-carrying integer mantissa and exponent of two. -/
  | float32 (m : Int) (e : Int)
  | dbpos (x : Nat)
  | quality (x : Nat)
deriving DecidableEq, Repr

/-- A GOOSE message (R239, R240). -/
structure GooseMsg where
  appid      : Nat := 0
  gocbRef    : List Byte := []
  datSet     : List Byte := []
  confRev    : Nat
  stNum      : Word
  sqNum      : Word
  simulation : Bool := false
  test       : Bool := false
  ndsCom     : Bool := false
  /-- timeAllowedToLive in ms. -/
  ttl        : Nat := 2000
  members    : List GooseVal := []
deriving DecidableEq, Repr

/-- Datagram types of the mailbox transport (R249, R250). -/
inductive UdpKind where
  | open | openAck | h2fData | empty | reject | f2hData | f2hAck | close | sessionReset
  | keepalive | other
deriving DecidableEq, Repr

/-- A UDP datagram over IPv4 as it arrives (R248): addresses, ports and its payload. -/
structure UdpFrame where
  host     : Nat
  udpPort  : Nat
  dstIp    : Nat
  dstPort  : Nat := 50741
  /-- The more-fragments flag or a fragment offset is set. -/
  fragment : Bool := false
  bytes    : List Byte
deriving DecidableEq, Repr

/-- A datagram of the mailbox transport (R249) with the host it came from. -/
structure Datagram where
  kind       : UdpKind
  host       : Nat
  udpPort    : Nat
  /-- Source address of the frame that brought it. -/
  mac        : BitVec 48 := 0
  mbx        : Nat := 0
  seq        : Word := 0
  sessionTag : Word := 0
  length     : Nat := 0
  payload    : List Byte := []
  fragment   : Bool := false
deriving DecidableEq, Repr

/-- What a frame received on a station port turns out to carry (R233). -/
inductive StPayload where
  | sv (appid : Nat) (asdus : List Asdu)
  | goose (g : GooseMsg)
  | ptp (p : PtpMsg)
  | safety (payload : List Byte)
  | udp (d : UdpFrame)
  | icmpEcho (src dst : Nat) (data : List Byte)
  | arp (src target : Nat)
  | prpSupervision
  | pause
  | unknown
deriving DecidableEq, Repr

/-- A redundancy control trailer (R244): sequence number, LanId, LSDUsize and suffix. -/
structure Rct where
  seqNr  : BitVec 16
  lanId  : Nat
  size   : Nat
  suffix : Nat := 0x88FB
deriving DecidableEq, Repr

/-- A frame received on a station port, as its header and checks show it (R231, R233). -/
structure StFrame where
  len      : Nat
  fcsGood  : Bool := true
  tags     : Nat := 0
  dst      : BitVec 48
  srcMac   : BitVec 48 := 0
  etherType : Nat
  /-- Octets that follow the EtherType, trailer included (R244). -/
  lsdu     : Nat := 46
  rct      : Option Rct := none
  payload  : StPayload
deriving DecidableEq, Repr

/-- A mirror record or beacon as received on TP0 (R422, R423). -/
structure MirrorRec where
  intact      : Bool := true
  beacon      : Bool := false
  full        : Bool := false
  cycle       : CycleNo := 0
  unitId      : Nat := 0
  launched    : Bool := false
  missed      : Bool := false
  takeoverReq : Bool := false
  hostBlock   : Bool := false
  clean       : Bool := false
  devState    : DevState := .idle
  phase       : Phase := .none
  mirrorEpoch : Word := 0
  roleEpoch   : Word := 0
  digest      : Word := 0
  plateTag    : BitVec 16 := 0
  role        : Role := .isolated
  activeTd    : Bool := false
  tdValid0    : Bool := false
  tdValid1    : Bool := false
  ctOffset    : Int := 0
  transferSeq : BitVec 16 := 0
  handover    : CycleNo := 0
  variant     : Variant := .sv8x32
  fwVersion   : Word := 0
  /-- d and r of each arm (R132, R138). -/
  arms        : List (Int × Int) := []
  /-- Slot, cycle in force and stage of the mirrored setpoints. -/
  setpoints   : List (Nat × CycleNo × Stage) := []
  /-- CI, end state and DWELL of the mirrored selection states. -/
  sel         : List (Nat × CellCmd × Nat) := []
  lanes       : List (LaneState × Gen) := []
  /-- Mirrored extended elements in the order of the mirror list (R424). -/
  states      : List ElemWord := []
  /-- Step cycles of the sender's ports: no field of the record, they come beside it over TP1 (R186, R419). -/
  steps       : List CycleNo := []
deriving DecidableEq, Repr

/-- Arguments of CAPTURE_ARM (R347). -/
structure CapArm where
  mode       : Nat
  srcKind    : Nat
  element    : Nat
  srcIndex   : Nat
  trgMask    : Byte
  decimation : Nat
  preCount   : Nat
  postCount  : Nat
  modeParam  : Word := 0
deriving DecidableEq, Repr

/-- A safety telegram copy's 32 bytes (R398), field by field. -/
structure Telegram where
  version  : Byte := 1
  demand   : Byte
  profile  : Byte := 0
  rsv3     : Byte := 0
  sourceId : Word
  pairId   : Word
  seq      : Word
  rsv16    : List Byte := List.replicate 12 0
  scrc     : Word
deriving DecidableEq, Repr

/-- The header of a plate image (R352). -/
structure PlateHdr where
  magic        : Word
  format       : BitVec 16
  variant      : Byte
  keySlot      : Byte
  imageSize    : Word
  minFw        : Word
  plateTag     : BitVec 16
  nodeCount    : BitVec 16
  homeBound    : Word
  sectionCount : BitVec 16
  sigOffset    : Word
deriving DecidableEq, Repr

/-- Outcomes of an AVSBus transaction (R458). -/
inductive AvsResult where
  /-- A Vout write that was acknowledged, with the value read back in 0.1 mV. -/
  | write (readBack : Nat)
  /-- A Vout read, in 0.1 mV. -/
  | read (vout : Nat)
  /-- A status read that succeeded. -/
  | statusOk
  /-- Not acknowledged, or the CRC failed. -/
  | failed
deriving DecidableEq, Repr

/-- Boundary operations a SYNC event can come from (R302). -/
inductive SyncSrc where
  | none | channel | syncIn | cycle
deriving DecidableEq, Repr

end Sys2Proof
end

