-- ==== Sys2Proof/Config/Plate.lean ====
section
/-! DEFINITION. What a plate carries: the parameters by identifier (R356) and the tables that are not
single parameters (arms, nodes, parameter stages, subscriptions, mirror list). -/

namespace Sys2Proof

/-- An input reference (R78). -/
structure NodeRef where
  kind  : Nat
  index : Nat
deriving DecidableEq, Repr

/-- A node descriptor (R77, R98) with the limits of its output (R58). -/
structure NodeDef where
  /-- The NODE field of word 0. -/
  node     : Nat
  opcode   : Nat
  prio     : Nat := 0
  pin      : Bool := false
  inBase   : Nat := 0
  refs     : List NodeRef := []
  homeLane : Nat := 0
  armSel   : Nat := 0
  steps    : Nat
  outLen   : Nat
  opt      : BitVec 32 := 0
  parCount : Nat := 0
  parBase  : Nat := 0
  efloor   : Int := -128
  eceil    : Int := 127
deriving DecidableEq, Repr

/-- A parameter stage (R99) with its limits (R58), its protection bit (R352) and the nominal amplitude
that its header may carry (R109). -/
structure PStage where
  val     : Stage
  efloor  : Int := -128
  eceil   : Int := 127
  prot    : Bool := false
  ampBase : ElemWord := { m := 4194304, e := 1 }
deriving DecidableEq, Repr

/-- One arm member (R124). -/
structure Member where
  ci   : Nat
  fb   : Bool := false
  trim : Bool := false
deriving DecidableEq, Repr

/-- A sampled-value stream (R234): its groups of quantities; the scalar parameters stand among the
parameters. -/
structure SvDef where
  ports  : Nat
  dst    : BitVec 48
  appid  : Nat
  svId   : List Byte
  confRev : Nat
  asdu   : Nat := 1
  rate   : Nat := 4800
  qty    : Nat := 8
  groups : List (List Nat) := [[0, 1, 2, 3, 4, 5, 6, 7]]
  domain : Nat := 0
  hold   : Bool := false
  /-- ALIGN_DELAY in 10 ns. -/
  delay  : Nat := 50000
  /-- SV_LATENCY in 10 ns. -/
  latency : Nat := 0
  timeout : Nat := 8
  acceptTest : Bool := false
deriving DecidableEq, Repr

/-- A GOOSE subscription (R239): the dataset members mapped to groups. -/
structure GooseSubDef where
  ports   : Nat
  dst     : BitVec 48
  appid   : Nat
  gocbRef : List Byte
  datSet  : List Byte
  confRev : Nat
  acceptTest : Bool := false
  groups  : List (List Nat) := []
deriving DecidableEq, Repr

/-- What a published member is taken from (R241). -/
inductive PubSrc where
  | node (n el : Nat)
  /-- An extended state of a node, as element words (R59). -/
  | state (n k el : Nat)
  | devState | phase | role
deriving DecidableEq, Repr

/-- How a published member is converted (R241). -/
inductive PubFmt where
  | int32 | float32 | bool
deriving DecidableEq, Repr

/-- A published control block (R241, R242); T1 in 10 µs, T0 in 10 ms. -/
structure GoosePubDef where
  ports   : Nat
  dst     : BitVec 48 := 0x010CCD010000
  appid   : Nat := 0
  gocbRef : List Byte := []
  datSet  : List Byte := []
  members : List (PubSrc × PubFmt)
  t1      : Nat := 200
  t0      : Nat := 100
  always  : Bool := false
deriving DecidableEq, Repr

/-- Writer and source of a plate point 112–127 (R219, R59). -/
structure PointMap where
  /-- 0 INT32, 1 UINT32, 2 element word (R220). -/
  format : Nat := 2
  /-- Node and element written through WHARF_5; none where firmware writes. -/
  source : Option (Nat × Nat) := none
  /-- The extended state of the node that is mapped; none for its output (R59). -/
  state : Option Nat := none
deriving DecidableEq, Repr

/-- A plate: the header's fields and the content of its sections (R352). -/
structure Plate where
  hdr       : PlateHdr
  /-- VALUE (R357) by PARAM_ID (R356); a parameter that is not listed has the default of its table. -/
  params    : SMap Int := []
  /-- Moorings named on each basin port, in the plate's report order (R204). -/
  order     : SMap (List Nat) := []
  /-- Arm tables (R124). -/
  arms      : SMap (List Member) := []
  /-- Cell seed table (R149): CAP_GAIN and ESR by CI. -/
  seeds     : SMap (Nat × Nat) := []
  nodes     : List NodeDef := []
  stages    : SMap PStage := []
  /-- Setpoint slots (R114): slot to parameter stage number. -/
  slots     : SMap Nat := []
  /-- Limits of the graph inputs (R58, R60); an input that is not listed has −128 and 127. -/
  inLims    : SMap (Int × Int) := []
  /-- Limits of the observer stages (R160). -/
  obsLims   : SMap (Int × Int) := []
  points    : SMap PointMap := []
  svs       : SMap SvDef := []
  gooseSubs : SMap GooseSubDef := []
  goosePubs : SMap GoosePubDef := []
  /-- PRP pairs formed (R243): bit 0 SP0/SP1, bit 1 SP2/SP3. -/
  prpPairs  : Nat := 0
  /-- The safety pair (R247). -/
  safetyPair : Option Nat := none
  /-- GPIO pins that are outputs (R475). -/
  gpioOut   : Nat := 0
  /-- Mirror list (R424): node, state slot and element of STATE_0 onwards. -/
  mirror    : List (Nat × Nat × Nat) := []
  /-- Size of the signed image and its digest, set at END. -/
  imageDigest : List Byte := []
deriving DecidableEq, Repr

/-- The boot configuration record (R492), authenticated. -/
structure BootRec where
  /-- Boot defaults of the station ports and of PTP, as VALUE by PARAM_ID of groups 0x30 and 0x31. -/
  params       : SMap Int := []
  subsystem    : Word := 0
  openObserver : Bool := false
  creds        : List Credential := []
  /-- Filled plate key slots (R353), one bit each. -/
  keySlots     : Nat := 0
  /-- Which copy authenticated, 0 or 1. -/
  copy         : Nat := 0
deriving DecidableEq, Repr

/-- A firmware slot as its header and signature check show it (R491). -/
structure FwImage where
  release  : Word
  rollback : Nat
  /-- The key's digest equals ROOT_KEY_DIGEST and the signature verifies. -/
  signed   : Bool
deriving DecidableEq, Repr

/-- A class A command as it is transferred to the follower (R434, R368). -/
structure Transfer where
  seq    : BitVec 16
  opcode : Nat
  cycle  : CycleNo
  /-- Operands of the command, in the order of its body. -/
  args   : List Int := []
  digest : List Byte := []
  entries : List (Nat × Int) := []
  plate  : Option Plate := none
  /-- Bytes of a transferred plate image. -/
  image  : List Byte := []
deriving DecidableEq, Repr

end Sys2Proof
end

