-- ==== Sys2Proof/Syntax.lean ====
section
/-! DEFINITION. The commands of the SV8: one constructor per row of the table of operations and
events. A command that carries an instant names it as a count of local ticks, `t`, or of edge units of
the pulse clock, `eu` (R292). -/

namespace Sys2Proof

/-- One command: an operation of a host, an event at a pin or link, or a completion inside the device. -/
inductive Instr where
  /-- PORST_N_ASSERT (R485). -/
  | porstNAssert
  /-- PORST_N_RELEASE (R488). -/
  | porstNRelease (unitSel testMode : Bool)
  /-- WARM_RST_N_ASSERT (R486). -/
  | warmRstNAssert
  /-- WARM_RST_N_RELEASE (R485). -/
  | warmRstNRelease
  /-- RAIL_MONITOR_TRIP (R483). -/
  | railMonitorTrip
  /-- PLL_C_E_INITIAL_LOCK (R488). -/
  | pllCEInitialLock
  /-- RESET_CALIBRATION_DONE (R488). -/
  | resetCalibrationDone (txp rxp : SMap Nat) (failed : List Nat)
  /-- BAND_SEARCH_DONE (R275). -/
  | bandSearchDone
  /-- BOOT_RECORD_AUTHENTICATED (R492). -/
  | bootRecordAuthenticated (rec : BootRec)
  /-- BYBEX_READY (R19). -/
  | bybexReady (slotA slotB : Option FwImage) (railOrder : List Nat)
  /-- BOOT_AUTH_FAIL (R497). -/
  | bootAuthFail (noRecord : Bool)
  /-- CYCLE_START (R31). -/
  | cycleStart (t : Nat)
  /-- SCHEDULED_COMMAND_APPLY (R341). -/
  | scheduledCommandApply
  /-- LOCK_THROUGH (R364). -/
  | lockThrough (digestOk : Bool)
  /-- WHOLE_PLATE_LOCK_THROUGH (R367). -/
  | wholePlateLockThrough (t : Nat) (digestOk : Bool)
  /-- IDLE_PLATE_LOCK_THROUGH (R367). -/
  | idlePlateLockThrough (t : Nat) (digestOk : Bool)
  /-- CYCLE_BASE_REACHED (R31). -/
  | cycleBaseReached (t : Nat)
  /-- REPORT_WORD_INGRESS (R16). -/
  | reportWordIngress (ci : Nat)
  /-- REPORT_BURST_RECEIVED (R174). -/
  | reportBurstReceived (p m : Nat) (off : Int) (delim : Option (BitVec 32)) (payload margin : List Bool) (signal : Bool) (meas : BurstMeas)
  /-- MEASUREMENT_CUTOFF (R14). -/
  | measurementCutoff (t : Nat)
  /-- OBSERVER_UPDATE_COMPLETE (R150). -/
  | observerUpdateComplete
  /-- LANE_STEP_COMPLETE (R53). -/
  | laneStepComplete (lane dur : Nat) (residue : Option Nat)
  /-- NODE_OUTPUT_COMPLETE (R80). -/
  | nodeOutputComplete (lane dur : Nat)
  /-- ARM_ENGINE_COMPLETE (R132). -/
  | armEngineComplete (arm : Nat)
  /-- PACK_READY (R41). -/
  | packReady (p packed : Nat) (canary : SMap Nat)
  /-- LAUNCH_TICK (R40). -/
  | launchTick (t : Nat)
  /-- FRAME_DEADLINE (R48). -/
  | frameDeadline (t : Nat)
  /-- INHIBIT_LINE_RISE (R199). -/
  | inhibitLineRise (p : Nat)
  /-- INHIBIT_FRAME_REPEAT (R199). -/
  | inhibitFrameRepeat (p : Nat)
  /-- INHIBIT_READBACK (R406). -/
  | inhibitReadback (p : Nat) (word : Option Word)
  /-- DISC_REPLY_RECEIVED (R206). -/
  | discReplyReceived (p : Nat) (b : Burst) (delimEnd : Nat)
  /-- RANGE_REPLY_RECEIVED (R208). -/
  | rangeReplyReceived (p : Nat) (delim : BitVec 32) (payload margin : List Bool) (bit phase : Nat)
  /-- STEP_ACK_RECEIVED (R184). -/
  | stepAckReceived (p : Nat) (delim : BitVec 32) (payload margin : List Bool) (bit phase : Nat)
  /-- SVC_DATA_RECEIVED (R225). -/
  | svcDataReceived (p : Nat) (delim : BitVec 32) (payload margin : List Bool) (t bit phase : Nat)
  /-- TRAINING_BURST_ACCEPTED (R177). -/
  | trainingBurstAccepted (p m : Nat) (meas : BurstMeas)
  /-- REQUEST_UNANSWERED (R198). -/
  | requestUnanswered (p tag : Nat)
  /-- RANGE_REFRESH_DUE (R209). -/
  | rangeRefreshDue (p m : Nat)
  /-- READMISSION_DUE (R210). -/
  | readmissionDue (p m : Nat)
  /-- DISCOVER_DUE (R207). -/
  | discoverDue (p : Nat)
  /-- STEP_ACK_DEADLINE (R184). -/
  | stepAckDeadline (p : Nat)
  /-- STEP_CYCLE_START (R184). -/
  | stepCycleStart (p : Nat)
  /-- STEP_GAP_ELAPSED (R184). -/
  | stepGapElapsed (p : Nat)
  /-- STEP_LOCK_TIMEOUT (R184). -/
  | stepLockTimeout (p : Nat)
  /-- TRAIN_TIMEOUT (R184). -/
  | trainTimeout (p : Nat)
  /-- BASIN_LOS (R179). -/
  | basinLos (p : Nat)
  /-- BASIN_LOL (R180). -/
  | basinLol (p : Nat)
  /-- BASIN_RELOCK_COMPLETE (R184). -/
  | basinRelockComplete (p : Nat) (cacheMiss : Bool)
  /-- PLL_LOSS_OF_LOCK (R276). -/
  | pllLossOfLock (pll : Pll)
  /-- PLL_RELOCK (R278). -/
  | pllRelock (pll : Pll) (cacheMiss : Bool)
  /-- SAFETY_OSC_TIMEBASE_CHECK (R12). -/
  | safetyOscTimebaseCheck (ppm : Int)
  /-- STATION_FRAME_RECEIVED (R233). -/
  | stationFrameReceived (p : Nat) (f : StFrame) (t : Nat)
  /-- GOOSE_TIMEOUT (R240). -/
  | gooseTimeout (sub : Nat)
  /-- GOOSE_RETRANSMIT (R241). -/
  | gooseRetransmit (pub : Nat)
  /-- PRP_SUPERVISION_SEND (R246). -/
  | prpSupervisionSend (pair : Nat)
  /-- PRP_LAN_SILENT (R246). -/
  | prpLanSilent (pair lan : Nat)
  /-- STATION_LINK_DOWN (R232). -/
  | stationLinkDown (p : Nat)
  /-- ANNOUNCE_RECEIPT_TIMEOUT (R261). -/
  | announceReceiptTimeout (td : Nat)
  /-- TD_STEP (R255). -/
  | tdStep (td : Nat) (delta : Int)
  /-- INC_WRITE (R255). -/
  | incWrite (td val : Nat)
  /-- CT_SLEW_COMPLETE (R265). -/
  | ctSlewComplete (t : Nat)
  /-- PPS_IN_EDGE (R271). -/
  | ppsInEdge (t : Nat) (frac : Nat)
  /-- PPS_IN_TIMEOUT (R271). -/
  | ppsInTimeout (td : Nat)
  /-- PPS_OUT_EDGE (R270). -/
  | ppsOutEdge (level : Bool)
  /-- GE_EDGE (R282). -/
  | geEdge (input : Nat) (rising : Bool) (eu : Nat)
  /-- GET_COASTING (R284). -/
  | getCoasting (pt : Nat)
  /-- GET_STANDSTILL (R284). -/
  | getStandstill (pt : Nat)
  /-- PERIOD_START (R296). -/
  | periodStart (ch eu : Nat)
  /-- PULSE_EDGE_POSITION (R298). -/
  | pulseEdgePosition (ch eu : Nat)
  /-- TRIP_QUALIFIED (R300). -/
  | tripQualified (ti : Nat) (seen : TripSeen)
  /-- SYNC_EVENT (R302). -/
  | syncEvent (ch eu : Nat)
  /-- SYNC_IN_EDGE (R302). -/
  | syncInEdge (eu : Nat)
  /-- SYNC_LOSS (R302). -/
  | syncLoss (ch : Nat)
  /-- H2F_PAYLOAD_WRITE (R316). -/
  | h2fPayloadWrite (mbx off : Nat) (bytes : List Byte)
  /-- H2F_DOORBELL (R315). -/
  | h2fDoorbell (mbx len : Nat)
  /-- H2F_TAKE (R315). -/
  | h2fTake (mbx : Nat)
  /-- CORE_IDLE_GATE (R317). -/
  | coreIdleGate (core : Nat)
  /-- F2H_RELEASE (R318). -/
  | f2hRelease (mbx : Nat)
  /-- F2H_MESSAGE_ENTER (R318). -/
  | f2hMessageEnter (mbx : Nat)
  /-- MBX_RESET (R322). -/
  | mbxReset (mbx val : Nat)
  /-- PCIE_LINK_RESET (R322). -/
  | pcieLinkReset (perst flr : Bool)
  /-- MPC_RECEIVER_RESET (R321). -/
  | mpcReceiverReset
  /-- MSIX_VECTOR_SEND (R313). -/
  | msixVectorSend (v : Nat)
  /-- REGISTER_WRITE (R8), of a BAR and an offset in it. -/
  | registerWrite (target : Nat × Nat) (val : Word)
  /-- OBSERVER_IMAGE_HOLD (R327). -/
  | observerImageHold (on : Bool)
  /-- HOLD_TIMEOUT_RELEASE (R30). -/
  | holdTimeoutRelease
  /-- SNAP_TRIGGER (R330). -/
  | snapTrigger (t : Nat)
  /-- EMERG_KEY (R331). -/
  | emergKey (spi : Bool) (val : Word)
  /-- EMERG_ARM_EXPIRE (R331). -/
  | emergArmExpire (spi : Bool)
  /-- HOST_BLOCK (R332). -/
  | hostBlock (spi : Bool)
  /-- MPC_RESTART (R332). -/
  | mpcRestart (spi : Bool)
  /-- WARM_RESET (R331). -/
  | warmReset (spi : Bool)
  /-- EMERG_CTRL_IGNORED (R331). -/
  | emergCtrlIgnored (spi : Bool)
  /-- INJECT_KEY (R387). -/
  | injectKey (val : Word) (t : Nat)
  /-- SPI_STATUS (R325). -/
  | spiStatus
  /-- SPI_REG_READ (R325). -/
  | spiRegRead (off count : Nat)
  /-- SPI_REG_WRITE (R325). -/
  | spiRegWrite (off : Nat) (val : Word) (crc : BitVec 16)
  /-- SPI_H2F_WRITE (R325). -/
  | spiH2fWrite (len : Nat) (payload : List Byte) (crc : BitVec 16)
  /-- SPI_F2H_READ (R325). -/
  | spiF2hRead
  /-- SPI_F2H_ACK (R325). -/
  | spiF2hAck
  /-- SPI_SESSION_END (R325). -/
  | spiSessionEnd
  /-- SPI_SESSION_IDLE_TIMEOUT (R322). -/
  | spiSessionIdleTimeout
  /-- F2H_DATA_RESEND (R251). -/
  | f2hDataResend (mbx : Nat)
  /-- UDP_SESSION_TIMEOUT (R251). -/
  | udpSessionTimeout (mbx : Nat)
  /-- SESSION_CHALLENGE (R337). -/
  | sessionChallenge (h : BcsHdr)
  /-- NONCE_EXPIRY (R337). -/
  | nonceExpiry (mbx : Nat)
  /-- AUTH_LOCKOUT_EXPIRY (R337). -/
  | authLockoutExpiry (mbx : Nat)
  /-- SESSION_OPEN (R336). -/
  | sessionOpen (h : BcsHdr) (role : Nat) (credId eventMask : Word) (authTag : List Byte)
  /-- SESSION_CLOSE (R342). -/
  | sessionClose (h : BcsHdr)
  /-- EVENT_MASK_SET (R342). -/
  | eventMaskSet (h : BcsHdr) (mask : Word)
  /-- DEVICE_STATUS (R342). -/
  | deviceStatus (h : BcsHdr)
  /-- DEBLOCK (R343). -/
  | deblock (h : BcsHdr) (w : When)
  /-- BLOCK (R343). -/
  | block (h : BcsHdr)
  /-- BLOCK_CLEAR (R343). -/
  | blockClear (h : BcsHdr) (w : When)
  /-- PHASE_SET (R343). -/
  | phaseSet (h : BcsHdr) (w : When) (phase : Nat)
  /-- SRB_REQUEST (R343). -/
  | srbRequest (h : BcsHdr) (profile : Nat)
  /-- SRB_WITHDRAW (R348). -/
  | srbWithdraw (h : BcsHdr)
  /-- TIME_DOMAIN_SELECT (R266). -/
  | timeDomainSelect (h : BcsHdr) (w : When) (td : Nat)
  /-- TIME_SET (R343). -/
  | timeSet (h : BcsHdr) (td seconds : Nat)
  /-- BASIN_RESTART (R184). -/
  | basinRestart (h : BcsHdr) (basin : Nat)
  /-- PLATE_LOAD_BEGIN (R344). -/
  | plateLoadBegin (h : BcsHdr) (size : Nat) (digest : List Byte)
  /-- PLATE_LOAD_DATA (R344). -/
  | plateLoadData (h : BcsHdr) (off : Nat) (data : List Byte)
  /-- PLATE_LOAD_END (R354). -/
  | plateLoadEnd (h : BcsHdr) (content : Plate)
  /-- STAGE_SET (R344). -/
  | stageSet (h : BcsHdr) (entries : List (Nat × Int))
  /-- STAGE_CHECK (R358). -/
  | stageCheck (h : BcsHdr)
  /-- STAGE_CHECK_COMPLETE (R358). -/
  | stageCheckComplete
  /-- STAGE_COUNTERSIGN (R361). -/
  | stageCountersign (h : BcsHdr) (digest : List Byte)
  /-- STAGE_COMMIT (R363). -/
  | stageCommit (h : BcsHdr) (w : When) (digest : List Byte)
  /-- STAGE_ABORT (R369). -/
  | stageAbort (h : BcsHdr)
  /-- STAGE_READ (R344). -/
  | stageRead (h : BcsHdr) (first : Nat)
  /-- PARAM_GET (R344). -/
  | paramGet (h : BcsHdr) (ids : List Nat)
  /-- SETPOINT_SET (R114). -/
  | setpointSet (h : BcsHdr) (w : When) (slot : Nat) (elems : List ElemWord)
  /-- SETPOINT_GET (R345). -/
  | setpointGet (h : BcsHdr) (slot : Nat)
  /-- CELL_EXCLUDE (R129). -/
  | cellExclude (h : BcsHdr) (w : When) (ci : Nat)
  /-- CELL_RESTORE (R129). -/
  | cellRestore (h : BcsHdr) (w : When) (ci : Nat)
  /-- CELL_BYPASS_CLOSE (R214). -/
  | cellBypassClose (h : BcsHdr) (ci confirm : Nat)
  /-- MOORING_RANGE (R345). -/
  | mooringRange (h : BcsHdr) (basin mooring : Nat)
  /-- MOORING_RANGE_ABORT (R348). -/
  | mooringRangeAbort (h : BcsHdr) (basin : Nat)
  /-- PRESET_READ (R345). -/
  | presetRead (h : BcsHdr) (basin first count : Nat)
  /-- NODE_FLAGS_CLEAR (R67). -/
  | nodeFlagsClear (h : BcsHdr) (w : When) (first count : Nat)
  /-- SCHED_STATS_CLEAR (R97). -/
  | schedStatsClear (h : BcsHdr) (w : When)
  /-- POINT_MINMAX_CLEAR (R223). -/
  | pointMinmaxClear (h : BcsHdr) (w : When) (first count : Nat)
  /-- PULSE_STATUS (R307). -/
  | pulseStatus (h : BcsHdr)
  /-- PULSE_FLAGS_CLEAR (R307). -/
  | pulseFlagsClear (h : BcsHdr) (w : When) (mask : Nat)
  /-- CLOCK_STATUS (R346). -/
  | clockStatus (h : BcsHdr)
  /-- EYE_SCAN (R253). -/
  | eyeScan (h : BcsHdr) (lane dwell : Nat)
  /-- EYE_SCAN_COMPLETE (R253). -/
  | eyeScanComplete (counts : List Nat)
  /-- EYE_SCAN_ABORT (R348). -/
  | eyeScanAbort (h : BcsHdr)
  /-- FAULT_READ (R380). -/
  | faultRead (h : BcsHdr) (source : Nat)
  /-- FAULT_ACK (R385). -/
  | faultAck (h : BcsHdr) (source : Nat) (lastSeq : Word)
  /-- FAULT_INJECT (R387). -/
  | faultInject (h : BcsHdr) (source : Nat)
  /-- CAPTURE_ARM (R453). -/
  | captureArm (h : BcsHdr) (cap : Nat) (a : CapArm)
  /-- CAPTURE_ABORT (R348). -/
  | captureAbort (h : BcsHdr) (cap : Nat)
  /-- CAPTURE_STATUS (R347). -/
  | captureStatus (h : BcsHdr) (cap : Nat)
  /-- TANDEM_STATUS (R438). -/
  | tandemStatus (h : BcsHdr)
  /-- TANDEM_SWITCH (R432). -/
  | tandemSwitch (h : BcsHdr) (w : When)
  /-- UNKNOWN_OPCODE (R339). -/
  | unknownOpcode (h : BcsHdr) (opcode : Nat)
  /-- TRAP_ENTRY (R372). -/
  | trapEntry (source : Nat)
  /-- LEVEL_SOURCE_CLEAR (R380). -/
  | levelSourceClear (source : Nat)
  /-- SRAM_ECC_ERROR (R28). -/
  | sramEccError (addr : Nat) (corrected onComputeDie : Bool)
  /-- POINT_STALE (R224). -/
  | pointStale (pt : Nat)
  /-- SAFE_REQ_CHANGE (R397). -/
  | safeReqChange (a b : Bool) (t : Nat)
  /-- PIN_WINDOW_EXPIRY (R397). -/
  | pinWindowExpiry
  /-- SAFETY_TELEGRAM_COPY (R400). -/
  | safetyTelegramCopy (lan : Nat) (payload : List Byte) (t : Nat)
  /-- DISC_WINDOW_EXPIRY (R400). -/
  | discWindowExpiry (lan : Nat)
  /-- TELE_TIMEOUT (R400). -/
  | teleTimeout (lan : Nat)
  /-- SRB_TIMEOUT_EXPIRY (R396). -/
  | srbTimeoutExpiry
  /-- SMP_VERDICT (R407). -/
  | smpVerdict (cycle : CycleNo) (lockstepOk : Bool)
  /-- SMP_WATCHDOG_EXPIRY (R407). -/
  | smpWatchdogExpiry
  /-- BLOCK_OUT_READBACK_FAIL (R405). -/
  | blockOutReadbackFail
  /-- TANDEM_RECORD_RECEIVED (R421). -/
  | tandemRecordReceived (r : MirrorRec) (t : Nat)
  /-- BEACON_SEND (R423). -/
  | beaconSend
  /-- BEACON_INTERVAL_JUDGE (R423). -/
  | beaconIntervalJudge
  /-- HB_RX_EDGE (R420). -/
  | hbRxEdge (t : Nat) (frac : Nat)
  /-- TAKEOVER_REQUEST_RECEIVED (R430). -/
  | takeoverRequestReceived
  /-- TAKEOVER_WITHHOLD_END (R430). -/
  | takeoverWithholdEnd
  /-- BECOME_ACTIVE (R431). -/
  | becomeActive
  /-- TP1_LINK_LOSS (R419). -/
  | tp1LinkLoss
  /-- CLASS_A_TRANSFER_RECEIVED (R434). -/
  | classATransferReceived (tr : Transfer)
  /-- TRANSFER_CONFIRM_TIMEOUT (R434). -/
  | transferConfirmTimeout
  /-- HANDOVER_CYCLE (R432). -/
  | handoverCycle
  /-- HANDOVER_RESULT (R432). -/
  | handoverResult (twinActive : Bool)
  /-- SOLO_WAIT_EXPIRY (R428). -/
  | soloWaitExpiry
  /-- HOLD_OFF_EXPIRY (R428). -/
  | holdOffExpiry
  /-- TRIGGER_FIRE (R451). -/
  | triggerFire (trg : Nat) (t : Nat)
  /-- CAPTURE_DONE (R453). -/
  | captureDone (cap : Nat)
  /-- GOV_WINDOW_END (R463). -/
  | govWindowEnd
  /-- GOV_RECOVER_HOLD_EXPIRY (R464). -/
  | govRecoverHoldExpiry
  /-- AVS_TRANSACTION_DONE (R458). -/
  | avsTransactionDone (r : AvsResult)
  /-- CORE_VOLTAGE_OUT_OF_RANGE (R460). -/
  | coreVoltageOutOfRange
  /-- THERMAL_SAMPLE (R471). -/
  | thermalSample (dies : List Int)
  /-- JTAG_TRST (R494). -/
  | jtagTrst
  /-- BYPASS (R494). -/
  | bypass
  /-- IDCODE (R494). -/
  | idcode
  /-- SAMPLE_PRELOAD (R494). -/
  | samplePreload (pins : List Bool)
  /-- EXTEST (R494). -/
  | extest
  /-- EXTEST_PULSE (R494). -/
  | extestPulse
  /-- EXTEST_TRAIN (R494). -/
  | extestTrain
  /-- CLAMP (R494). -/
  | clamp
  /-- HIGHZ (R494). -/
  | highz
  /-- DEVKEY (R494). -/
  | devkey
  /-- OTP_PROGRAM (R494). -/
  | otpProgram (digest : List Byte)
  /-- CORE_DEBUG (R494). -/
  | coreDebug
  /-- RAIL_MONITOR_RELEASE (R483). -/
  | railMonitorRelease
  /-- STATION_LINK_UP (R232). -/
  | stationLinkUp (p : Nat)
  /-- TANDEM_LINK_UP (R419). -/
  | tandemLinkUp (lane : Nat)
  /-- PTP_INTERVAL_SEND (R258). -/
  | ptpIntervalSend (td p : Nat) (kind : PtpKind)
  /-- TRANSFER_CONFIRM_RECEIVED (R434). -/
  | transferConfirmReceived (seq : BitVec 16) (status : Status)
  /-- MPC_RESTART_COMPLETE (R332). -/
  | mpcRestartComplete
  /-- CORE_VOLTAGE_RECOVERED (R460). -/
  | coreVoltageRecovered
  /-- PCIE_PERST_N_RELEASE (R487). -/
  | pciePerstNRelease
  /-- PCIE_CONFIG_READY (R487). -/
  | pcieConfigReady
deriving DecidableEq, Repr

end Sys2Proof
end

