-- ==== Sys2Proof/Config.lean ====
section
/-! DEFINITION. The free values: what the manual leaves open, as constants without a body. No proof
can see what they are, so what is proved holds whatever they are. -/

namespace Sys2Proof.Config

/-- Approximation error of a shared unit of R64, relative for the reciprocal units and absolute for the
sine-cosine unit: by unit (0 sine, 1 cosine, 2 reciprocal, 3 reciprocal square root), mantissa and
exponent of the operand.  The reader clamps it to the tolerance of 2^-22 (log 6). -/
opaque unitError : Nat → Int → Int → Rat
/-- The idle bits ahead of a lead-in (R169): nothing but their bounds is given (log 7). -/
opaque idleBits : Nat → Nat → BitVec 58
/-- NONCE of a challenge (R337), by the number of challenges taken (log 8). -/
opaque nonce : Nat → BitVec 128
/-- SESSION_TAG of an OPEN (R249), by the number of bindings made; the reader never takes 0 (log 8). -/
opaque sessionTag : Nat → BitVec 32
/-- Byte offset of a value in its plate section (R358): the manual gives no byte layout of the
sections (log 9). -/
opaque plateOffset : Nat → BitVec 16
/-- The diagnostic state Bybex copies at level 2 (R372, R381), by source and FAULT_SEQ (log 10). -/
opaque trapBytes : Nat → Nat → List (BitVec 8)
/-- Outcome of an ECDSA P-256 check over a digest by a key slot (R353, R491, R492): the manual names
the standard and gives no arithmetic of it (log 12). -/
opaque ecdsaOk : Nat → List (BitVec 8) → List (BitVec 8) → Bool
/-- Public half of the device key (R490): generated at manufacture (log 13). -/
opaque deviceKey : Nat → BitVec 8
/-- Outcome of a Control Lane's self-test after a block reset (R55, R375), by lane and a counter (log 19). -/
opaque laneSelfTest : Nat → Nat → Bool
/-- Outcome of the HWSL self-test on entry to READY (R403), by a counter (log 19). -/
opaque hwslSelfTest : Nat → Bool
/-- Values of registers, counts or fields that the manual leaves undefined after an event (log 14). -/
opaque freeWord : Nat → BitVec 32
/-- What the manual leaves open of the device as a PTP grandmaster (R258): 0 clockClass, 1 accuracy, 2 variance, 3 clock
identity (log 120). -/
opaque ptpOwn : Nat → Nat
/-- LSDUsize of a sent frame (R244), by the number of frames sent: the manual gives no encoding of GOOSE (log 119). -/
opaque lsduSize : Nat → BitVec 12
/-- A band-search result (R275), by synthesiser and rate and the number of searches made (log 121). -/
opaque bandSearch : Nat → Nat → BitVec 32
/-- A byte of a log ring entry (R381), by FAULT_SEQ, SOURCE, LEVEL_APPLIED, the two flags, CT and its offset (log 124). -/
opaque logEntry : Nat → Nat → Nat → Bool × Bool → Nat → Nat → BitVec 8
/-- The calibrated delay of a clock output (R274: reset value 'Calibration') (log 15). -/
opaque calDelay : Nat → BitVec 8

end Sys2Proof.Config
end

