-- ==== Sys2Proof/Machine/State.lean ====
section
/-! DEFINITION. The state of one SV8 as plain data. The default of a field is its value at reset: the
value the manual states, and where it states none zero, empty or absent (log 2). -/

namespace Sys2Proof.Machine

/-- Reasons for which the machine stops. -/
inductive Fault where
  /-- Raised by a meaning whose operand names a port, lane, channel, mailbox or other unit that the part
  does not have (R1, R2). Safe: such a command cannot reach the part. -/
  | noSuchUnit
deriving DecidableEq, Repr

/-- Reasons for which the model has no meaning. -/
inductive Refusal where
  /-- Raised by an arm of `exec` whose command has no meaning in the model yet. Safe: nothing is claimed. -/
  | notModelled (mnemonic : String)
deriving DecidableEq, Repr

/-- Device, boot, straps and pins. -/
structure Dev where
  /-- VARIANT (R1, R327): silicon. -/
  variant : Variant := .sv8x32
  /-- STEPPING (R4, R327): silicon. -/
  stepping : Stepping := .b0
  /-- Device state (R19). -/
  state : DevState := .reset
  /-- Control phase (R24). -/
  phase : Phase := .none
  /-- The current cycle is the first of its control phase (R71). -/
  phaseFirst : Bool := false
  /-- A phase the graph requested for the next cycle (R25, R26). -/
  phaseReq : Option Phase := none
  /-- Entry to RECOVERY by takeover or PHASE_JUMP for the next cycle (R25). -/
  recoveryReq : Bool := false
  /-- RECOVERY was entered by takeover or PHASE_JUMP at the start of this cycle (R25). -/
  recoveryNow : Bool := false
  /-- Rejected requests of the graph (R25). -/
  phaseRejects : Nat := 0
  /-- Level of PORST_N, low until released (R485). -/
  porstN : Bool := false
  /-- Level of WARM_RST_N after its filter (R486). -/
  warmN : Bool := true
  /-- A rail monitor holds the device in reset (R483). -/
  railHold : Bool := false
  /-- The reset in force is power-on, not warm (R485). -/
  coldStart : Bool := true
  /-- UNIT_ID (R476, R327): 1 unit A, 2 unit B. -/
  unitId : Nat := 1
  /-- TEST_MODE strap (R476, R388). -/
  testStrap : Bool := false
  /-- KEY_STEP of R388 and the tick of the last accepted key word (R387). -/
  keyStep : Nat := 0
  keyTick : Nat := 0
  /-- FW_VERSION (R327). -/
  fwVersion : Word := 0
  /-- Bybex runs (R19, R332). -/
  mpcReady : Bool := false
  /-- MPC_RESTARTING (R331). -/
  mpcRestarting : Bool := false
  /-- The authenticated boot configuration record (R492). -/
  bootRec : Option BootRec := none
  /-- Start-up events of R488 that have come about: ticks run, calibrated, bands searched. -/
  ticksRun : Bool := false
  calibrated : Bool := false
  bandsDone : Bool := false
  /-- Calibrations replaced by their default (R488), FLT_CALIBRATION. -/
  calFailed : List Nat := []
  /-- First entry to IDLE since PORST_N has happened (R493). -/
  idleSeen : Bool := false
  /-- FAULT_N is driven low (R377). -/
  faultN : Bool := false
  /-- FAULT_N is held from a level-5 reaction to the next IDLE (R377). -/
  faultHold : Bool := false
  /-- TAKEOVER_REQ: a takeover request to the twin is in force (R329, R376). -/
  takeoverReq : Bool := false
  /-- A pin of BLOCK_OUT read back wrong: both are forced low (R405). -/
  readbackBad : Bool := false
  /-- Pins GPIO0–GPIO15 that are outputs (R475). -/
  gpioOut : Nat := 0
  /-- ROLE_EPOCH (R340). -/
  roleEpoch : Word := 0
  /-- SCRATCH (R327). -/
  scratch : Word := 0
  /-- Block reset under way, by domain (R375). -/
  blockReset : List BlockDomain := []
deriving DecidableEq, Repr

/-- One-time-programmable memory (R490); kept through every reset (R485). -/
structure Otp where
  /-- OWNER_KEY_DIGEST, blank until programmed. -/
  ownerKey : Option (List Byte) := none
  /-- ROLLBACK. -/
  rollback : Nat := 0
deriving DecidableEq, Repr

/-- State of a PTP port (R257–R259). -/
inductive PtpSt where
  | listening | slave | master | passive
deriving DecidableEq, Repr

/-- One PTP port: a domain on one station port (R259). -/
structure PtpPort where
  st  : PtpSt := .listening
  /-- The best data set heard on the port. -/
  ann : Option AnnData := none
deriving DecidableEq, Repr

/-- Status of one PTP time domain (R254, R255, R261, R271). -/
structure TimeDom where
  ctr : TimeCtr := {}
  /-- INC_n, 40 bits, in units of 2^-32 ns (R255). -/
  inc : Nat := 0x280000000
  valid : Bool := false
  /-- Writes of INC_n that were clamped (R255). -/
  clamps : Nat := 0
  /-- Consecutive Sync intervals with the offset below 1.0 µs, and above it (R261). -/
  good : Nat := 0
  bad : Nat := 0
  /-- Last offset from master, in 2^-16 ns. -/
  offset : Int := 0
  /-- Some port follows a master (R261). -/
  slave : Bool := false
  master : Option Nat := none
  /-- Tick of the last Sync received (R261). -/
  lastSync : Option Nat := none
  /-- Edges of PPS_IN within 100 ns in a row (R271). -/
  ppsGood : Nat := 0
  /-- SECONDS to set at the next edge of PPS_IN (TIME_SET). -/
  setSec : Option Nat := none
  /-- PTP ports of the domain by station port (R259). -/
  ports : SMap PtpPort := []
deriving DecidableEq, Repr

/-- A Sync awaiting its Follow_Up, in a clock or a transparent clock (R263): its ingress stamps in TD0 and TD1, its own
correctionField, and the sum of each egress port in 2^-16 ns. -/
structure SyncWait where
  port : Nat
  source : Nat
  seqId : Nat
  domain : Nat
  tick : Nat
  rx0 : Int
  rx1 : Int
  corr : Int
  gains : SMap Int := []
deriving DecidableEq, Repr

/-- A Pdelay_Req that awaits its answers (R257, R263): t1, and t4 and t2 with the correction once the response is in; t1 and
t4 in 2^-16 ns of local ticks, t2 in 2^-32 ns. -/
structure PdWait where
  port : Nat
  seqId : Nat
  t1 : Int
  t4 : Option Int := none
  t2 : Nat := 0
  corr : Int := 0
deriving DecidableEq, Repr

/-- An event message's timestamps (R260), in all three counters. -/
structure EvStamp where
  port : Nat
  out  : Bool
  kind : PtpKind
  td0  : Stamp
  td1  : Stamp
  ct   : Stamp
deriving DecidableEq, Repr

/-- Timebase, converter time, PTP and PPS. -/
structure Time where
  td0 : TimeDom := {}
  td1 : TimeDom := {}
  /-- CT (R254). -/
  ct : TimeCtr := {}
  /-- CT runs in SLEW (R265). -/
  slew : Bool := false
  /-- Active domain (R266): 0 TD0, 1 TD1. -/
  active : Nat := 0
  /-- The active domain became INVALID since the last cycle start (R266). -/
  lostSinceStart : Bool := false
  /-- A follower closes on its twin's CT: offset twin − own, in 2^-32 ns (R269). -/
  twinOff : Option Int := none
  /-- Mean link delay by port, in 2^-16 ns (R263). -/
  linkDelay : SMap Rat := []
  syncs : List SyncWait := []
  pdelays : List PdWait := []
  /-- Messages that the transparent clock forwarded, with their egress ports (R262, R263). -/
  forwarded : List (Nat × PtpMsg) := []
  /-- Timestamps of the last event message received and sent on each port (R260), by 2 × port + direction. -/
  stamps : SMap EvStamp := []
  /-- Counts of discarded PTP messages (R257) and of forwarded ones without a match (R263). -/
  discarded : Nat := 0
  unmatched : Nat := 0
  /-- PTP messages sent, with their ports (R257, R258). -/
  sent : List (Nat × PtpOut) := []
  seqNo : Nat := 0
  /-- Tick of the last accepted PPS_IN edge (R271) and its timestamps in TD0, TD1, CT, in 2^-32 ns. -/
  ppsTick : Option Nat := none
  ppsStamp : List Stamp := []
  ppsIgnored : Nat := 0
  /-- Level of PPS_OUT (R270), the whole second of PPS_SOURCE that its last rising edge marked, and that edge's instant in
  1/64 tick of PPS_SOURCE. -/
  ppsOut : Bool := false
  ppsSec : Int := 0
  ppsEdge : Int := 0
  /-- Time snapshot block (R256, R330). -/
  snapDone : Bool := false
  snapSeq : BitVec 16 := 0
  snapFlags : Word := 0
  snapRegs : SMap Word := []
deriving DecidableEq, Repr

/-- Clock synthesis (R272–R277). -/
structure Clk where
  /-- Locked loops, in the order C, E, A, B, D. -/
  locked : List Bool := [false, false, false, false, false]
  /-- The timebase is driven by PLL-E (R276, R277). -/
  onE : Bool := false
  /-- Band cache misses (R275). -/
  cacheMisses : BitVec 16 := 0
  /-- The band cache holds every search result (R275). -/
  bandCache : Bool := false
  /-- The results by synthesiser and line rate: 16 × lane + rate, lanes 0 to 31 the basin ports, 32 to 39 the station ports,
  40 and 41 TP0 and TP1, 42 to 46 the PLLs. -/
  bands : SMap Word := []
  /-- Active and shadow control words by output (R274); an output that is not listed holds its reset
  word. -/
  active : SMap Word := []
  shadow : SMap Word := []
deriving DecidableEq, Repr

/-- A command that waits for its cycle (R341). -/
structure Waiting where
  mbx    : Nat
  tag    : BitVec 16
  epoch  : Word
  opcode : Nat
  cycle  : CycleNo
  args   : List Int := []
  elems  : List ElemWord := []
deriving DecidableEq, Repr

/-- The control cycle (R31–R51). -/
structure Cyc where
  /-- Cycle counter, 48 bits (R31). -/
  n : CycleNo := 0
  /-- Times that the counter has wrapped since CYCLE_BASE (R31, R32). -/
  wraps : Nat := 0
  /-- Cycles run (R22); cleared in IDLE and below. -/
  running : Bool := false
  /-- CYCLE_BASE in whole seconds of converter time (R31). -/
  base : Nat := 0
  /-- The plate has locked through and CYCLE_BASE is to come (R367). -/
  baseWait : Bool := false
  /-- CYCLE_BASE agreed with the twin (R367). -/
  baseAgreed : Option Nat := none
  /-- Tick at which the current cycle started. -/
  startTick : Nat := 0
  /-- The measurement cutoff of the current cycle has come. -/
  frozen : Bool := false
  /-- The frames of the current cycle have been launched, or their deadline has passed. -/
  launched : Bool := false
  /-- line_ratio at the cutoff as increment of CT, in 2^-32 ns (R267). -/
  ctInc : Nat := 0x280000000
  /-- The observer update, the graph and each arm are complete (R84). -/
  obsDone : Bool := false
  graphDone : Bool := false
  armsDone : List Nat := []
  packed : List Nat := []
  /-- Latest pack-ready instant, in 0.1 ns after the cutoff (R40, R461). -/
  packTime : Nat := 0
  /-- The last cycle and the one before were missed (R50). -/
  missed : Bool := false
  missedPrev : Bool := false
  /-- A lane mismatch or a block reset makes this cycle, or the next, a miss (R55, R375). -/
  forceMiss : Nat := 0
  /-- Events waiting for the cycle boundary (R20). -/
  level4 : Bool := false
  hwslBlock : Bool := false
  blockReq : Bool := false
  /-- Block request that came with a level-4 reaction (R430). -/
  block4 : Bool := false
  waiting : List Waiting := []
deriving DecidableEq, Repr

/-- States of one node (R57, R107, R111, R116, R120). -/
structure NodeSt where
  /-- Output stage of the last launched cycle or of this one. -/
  out  : Stage := {}
  /-- Extended stages of the node's states, in the order of its operation. -/
  st   : List Stage := []
  /-- Counters, indices and flags of the node. -/
  ints : List Int := []
  /-- Transfer record: ds per element (R120). -/
  xfer : Option Stage := none
deriving DecidableEq, Repr

/-- A node status word's fields (R66). -/
structure NodeStat where
  satCount : Nat := 0
  domSticky : Bool := false
  clampSticky : Bool := false
  satSticky : Bool := false
  domain : Bool := false
  clamp : Bool := false
  sat : Bool := false
  executed : Bool := false
deriving DecidableEq, Repr

/-- One Control Lane (R52–R55, R82). Times in 0.1 ns after the WHARF_0 freeze. -/
structure Lane where
  exec : Option Nat := none
  stepsLeft : Nat := 0
  staged : Option Nat := none
  time : Nat := 0
  opBusy : Nat := 0
  busy : Nat := 0
  ops : Nat := 0
  retired : Bool := false
deriving DecidableEq, Repr

/-- An entry of the placement table (R96); `exec` in 0.1 ns. -/
structure Place where
  lane : Nat := 0
  home : Nat := 0
  moves : Nat := 0
  freeze : Nat := 0
  exec : Nat := 0
deriving DecidableEq, Repr

/-- A move set that is pending, in evaluation or to be reverted (R89, R90). -/
structure MoveSet where
  moves : List (Nat × Nat × Nat)
  base : CycleNo
  /-- Normalised completion and mean step of the base cycle. -/
  norm : Rat
  mean : Rat
  /-- 0 pending, 1 in effect, 2 to be reverted. -/
  phase : Nat := 0
deriving DecidableEq, Repr

/-- A record of the scheduler observable ring (R95). -/
structure ObsRing where
  cycle : CycleNo := 0
  completion : Nat := 0
  norm : Nat := 0
  qmax : List Nat := []
  epoch : Nat := 0
  missed : Bool := false
  home : Bool := true
  suspended : Bool := false
  pending : Bool := false
  moves : Nat := 0
  retired : List Nat := []
  load : List Nat := []
  ops : List Nat := []
  hist : List Nat := []
deriving DecidableEq, Repr

/-- Graph and scheduler (R54, R66, R76–R97). -/
structure Graph where
  /-- Current and working copies of node states and outputs (R54, R78). -/
  cur : SMap NodeSt := []
  work : SMap NodeSt := []
  stat : SMap NodeStat := []
  workStat : SMap NodeStat := []
  /-- Graph inputs frozen at the cutoff (R60, R78). -/
  inputs : SMap Stage := []
  /-- Observer stages of this cycle (R160). -/
  obs : SMap Stage := []
  lanes : SMap Lane := []
  /-- Ready queues 0–7, each of (node, entry time). -/
  queues : SMap (List (Nat × Nat)) := []
  pendCount : SMap Nat := []
  waitObs : List Nat := []
  done : List Nat := []
  /-- Completion of the last output step so far, in 0.1 ns after the freeze (R95). -/
  gt : Nat := 0
  stepsRun : Nat := 0
  /-- Busy time of each node in this cycle, and of each lane in the last launched one (R93, R96). -/
  execNow : SMap Nat := []
  lastLoad : SMap Nat := []
  qmax : SMap Nat := []
  hist : SMap Nat := []
  place : SMap Place := []
  /-- The placement table of R96 as it was last rewritten, with the record of R95. -/
  table : SMap Place := []
  moveSet : Option MoveSet := none
  /-- Home placement to be restored at the cutoff of this cycle (R91, R92). -/
  goHome : Option CycleNo := none
  /-- Cycles of suspension left (R92). -/
  holdoff : Nat := 0
  /-- The next move set may be built from this cycle on (R90). -/
  buildFrom : Option CycleNo := none
  placeEpoch : Nat := 0
  movesNow : Nat := 0
  boundRaised : Bool := false
  ring : SMap ObsRing := []
  /-- Slot flags SP_CLAMPED (R115) and the cycle of the value in force. -/
  spClamped : SMap Bool := []
  spCycle : SMap CycleNo := []
deriving DecidableEq, Repr

/-- Category and echo bookkeeping of one member (R129). -/
structure Cat where
  cat : Category := .active
  /-- Consecutive reports whose echo disagrees, and valid reports while LOST. -/
  echoBad : Nat := 0
  valid : Nat := 0
deriving DecidableEq, Repr

/-- Selection state of one member (R141). -/
structure Sel where
  endSt : CellCmd := .bypass
  dwell : Nat := 0
  trans : Nat := 0
deriving DecidableEq, Repr

/-- What an arm engine produced in this cycle (R139, R144). -/
structure ArmOut where
  states : SMap CellCmd := []
  /-- CI, ON and OFF of a trim entry. -/
  trim : Option (Nat × Nat × Nat) := none
  feedback : List Int := []
  limit : Bool := false
  swallow : Bool := false
  stretch : Bool := false
deriving DecidableEq, Repr

/-- One arm engine (R124–R144). -/
structure Arm where
  cats : SMap Cat := []
  /-- Current direction d and residue r (R132, R138), and the polarity of the last launched cycle. -/
  d : Int := 1
  r : Int := 0
  pol : Int := 1
  sel : SMap Sel := []
  /-- Working copies (R141). -/
  dW : Int := 1
  rW : Int := 0
  polW : Int := 1
  selW : SMap Sel := []
  out : Option ArmOut := none
  /-- Arm feedback of the last launched cycle (R144). -/
  feedback : List Int := [0, 0, 0, 0, 0, 0, 0, 0]
  limit : Bool := false
  swallows : Nat := 0
  stretches : Nat := 0
  /-- Transitions of ACTIVE members and ACTIVE members, per launched cycle, newest first (R140). -/
  window : List (Nat × Nat) := []
  /-- ACTIVE members are below N_MIN (R131). -/
  short : Bool := false
  /-- CELL_RESTORE commands of this cycle, settled at its cutoff (R130). -/
  restores : List Waiting := []
deriving DecidableEq, Repr

/-- Observer record of one cell (R149) and its counts (R153, R154); `q` and DELTA as stored. -/
structure ObsRec where
  vAnchor : Nat := 0
  vLatent : Nat := 0
  /-- DELTA_1 to DELTA_3 in 2^-8 V; none is INVALID. -/
  d1 : Option Int := some 0
  d2 : Option Int := some 0
  d3 : Option Int := some 0
  qWin : Int := 0
  winCount : Nat := 0
  winV : Nat := 0
  lastDev : Nat := 0
  capGain : Nat := 0x8000
  esr : Nat := 0
  resMs : Nat := 0xFFFF
  conf : Nat := 0
  age : Nat := 0xFF
  miss : Nat := 0
  seeded : Bool := false
  converged : Bool := false
  capLow : Bool := false
  capHigh : Bool := false
  esrHigh : Bool := false
  lastIns : Bool := false
  rejLast : Bool := false
  winVoid : Bool := false
  /-- The last report showed the bypass device closed (R147). -/
  bypass : Bool := false
  /-- What `bypass` was when the interval of DELTA_1, DELTA_2, DELTA_3 was last computed (R146, R147). -/
  by1 : Bool := false
  by2 : Bool := false
  by3 : Bool := false
  missing : Nat := 0
  corrupt : Nat := 0
  late : Nat := 0
  stale : Nat := 0
  dup : Nat := 0
  rejected : Nat := 0
  echoBad : Nat := 0
  /-- Sample cycles of the reports last applied (R153 Duplicate). -/
  samples : List CycleNo := []
deriving DecidableEq, Repr

/-- One sample of an arm current, in µA (R146). -/
structure CurSample where
  val : Int := 0
  meas : Bool := false
deriving DecidableEq, Repr

/-- Arm current history i(M) to i(M − 3), newest first (R146). -/
structure ArmCur where
  hist : List CurSample := []
  lastMeas : Option Int := none
  noMeas : Nat := 0
  /-- Cycle of the cutoff at which the history was last formed. -/
  cycle : Option CycleNo := none
deriving DecidableEq, Repr

/-- A report in the capture buffer or the observer store (R16, R153). -/
structure Report where
  ci : Nat
  rep : ReportWord
  cycle : CycleNo
  late : Bool := false
deriving DecidableEq, Repr

/-- One launched frame as the observer keeps it (R147): the ports that launched it, and the state by CI, with ON and
OFF of a trim pulse. -/
structure FrameRec where
  cycle : CycleNo
  ports : List Nat := []
  block : Bool := false
  cmds : SMap (CellCmd × Option (Nat × Nat)) := []
deriving DecidableEq, Repr

/-- Cell State Observer (R145–R161). -/
structure Obs where
  recs : SMap ObsRec := []
  cur : SMap ArmCur := []
  /-- Report capture buffers, the store behind WHARF_2, and late reports kept for the next cutoff. -/
  buf : List Report := []
  store : List Report := []
  late : List Report := []
  /-- Reports frozen at the cutoff for this update. -/
  taken : List Report := []
  /-- Corrupt reports of this cycle by CI (R153), and those of the next while it is not frozen. -/
  corrupt : List Nat := []
  corruptNew : List Nat := []
  /-- A follower's frame of a cycle, until its twin's record tells whether it was launched (R426). -/
  pendFrame : Option FrameRec := none
  frames : List FrameRec := []
  /-- Image buffers, the current one, its cycle and the hold (R30, R327). -/
  image0 : SMap ObsRec := []
  image1 : SMap ObsRec := []
  curBuf : Nat := 0
  imgCycle : CycleNo := 0
  written : Bool := false
  wrCycle : CycleNo := 0
  hold : Bool := false
  timeoutRel : Bool := false
deriving DecidableEq, Repr

/-- Entry of the burst preset table (R176). -/
structure Preset where
  valid : Bool := false
  stale : Bool := false
  gen : Nat := 0
  fails : Nat := 0
  thresh : Int := 0
  eq : Nat := 0
  phase : Nat := 0
  ampl : Nat := 0
deriving DecidableEq, Repr

/-- One mooring at the SV8 (R206); delays in 0.1 ns. -/
structure Moor where
  st : MoorState := .vacant
  serial : BitVec 64 := 0
  cellRx : Nat := 0
  cellTx : Nat := 0
  dDown : Int := 0
  dUp : Int := 0
  /-- Value that replaces d_down at the next cutoff (R209), and a first measurement awaiting its twin. -/
  dNext : Option Int := none
  dCand : Option Int := none
  /-- The delays in use have been ranged since the mooring was last VACANT (R195); ranged since the plate's lock-through
  (R206, R210). -/
  known : Bool := false
  everRanged : Bool := false
  /-- Generation of the last ranging, 0 none. -/
  rgen : Nat := 0
  /-- A SLOT_ASSIGN with the current epoch is queued or sent, and the D_UP it carries. -/
  assigned : Bool := false
  upSent : Int := 0
  unanswered : Nat := 0
  preset : Preset := {}
  last : Option ReportWord := none
  /-- past_fire_clamp_count (R43). -/
  clamps : Nat := 0
  /-- Points 16–26, 43–44: counts of the basin port and the report capture (R219). -/
  firePast : Nat := 0
  malformed : Nat := 0
  codeErrors : Nat := 0
  reranges : Nat := 0
  frameErr : Nat := 0
  holding : Nat := 0
  selfBlocked : Nat := 0
  inhibited : Nat := 0
  faultReps : Nat := 0
  lastFault : Nat := 0
deriving DecidableEq, Repr

/-- A service message of the downstream service area (R197). -/
structure SvcMsg where
  type : Nat
  flags : Nat := 0
  mooring : Nat := 0
  tag : Nat := 0
  payload : List Byte := []
  /-- Frames in which it is still sent, or the last cycle whose frame carries it (R184, R198). -/
  frames : Nat := 1
  til : Option CycleNo := none
  reqKind : Nat := 0
deriving DecidableEq, Repr

/-- An outstanding request (R198, R203): kind 1 RANGE_REQ, 2 POLL, 3 STEP_ANNOUNCE, 4 DISCOVER. Times in ns. -/
structure Req where
  kind : Nat
  mooring : Nat := 0
  tag : Nat
  /-- D in line bits. -/
  d : Nat := 0
  train : Bool := false
  /-- Preamble of the reply in bits (R202), as the request was sent. -/
  pre : Nat := 0
  page : Nat := 0
  /-- Given up by an abort; its reply position stays taken (R348, R499). -/
  dead : Bool := false
  /-- Moorings a STEP_ANNOUNCE asks. -/
  asked : List Nat := []
  /-- Cycle of the request's frame. -/
  cycle : CycleNo := 0
  /-- The service window of the reply, by the cycle whose cutoff opens it, and its opening after the request's
  launch tick. -/
  win : CycleNo := 0
  opens : Rat := 0
  /-- Span of the reply after the opening (R499): a reply position, or the span of a broadcast's replies. -/
  pos : Rat := 0
  len : Rat := 0
deriving DecidableEq, Repr

/-- One downstream frame (R188–R196). -/
structure Frame where
  ftype : FType
  gen : Gen
  cycle : CycleNo
  header : List Word := []
  trims : List (BitVec 64) := []
  cmds : List Word := []
  svc : List SvcMsg := []
  /-- Line bits from the lead-in on, most significant first (R166–R170, R189). -/
  line : List Bool := []
deriving DecidableEq, Repr

/-- A ranging command outstanding on a port (R345, R348). -/
structure RangeCmd where
  mooring : Nat
  mbx : Nat
  tag : BitVec 16
  epoch : Word := 0
  /-- TAG of the RANGE_REQ once sent. -/
  reqTag : Option Nat := none
  /-- Completed: kept as the target of an abort (R348). -/
  completed : Bool := false
  /-- Its boundary. -/
  cycle : CycleNo := 0
  tick : Nat := 0
deriving DecidableEq, Repr

/-- One basin port (R162–R215). -/
structure Port where
  lane : LaneState := .dark
  gen : Gen := .bl1
  /-- The lane synthesiser is locked, and the tick of its last lock, to which the bit grid is aligned (R163). -/
  locked : Bool := false
  lockTick : Nat := 0
  /-- The output is squelched (R180, R186). -/
  squelch : Bool := true
  attempts : Nat := 0
  stepCycle : CycleNo := 0
  acked : List Nat := []
  /-- A port whose step failed stays in ACQUIRE until this cycle (R184). -/
  holdUntil : Option CycleNo := none
  relockFrom : LaneState := .dark
  los : Bool := false
  epoch : BitVec 16 := 0
  lastDisc : Option CycleNo := none
  svc : List SvcMsg := []
  reqs : List Req := []
  nextTag : BitVec 8 := 0
  rangeCmd : Option RangeCmd := none
  /-- Next mooring and page of the poll round (R226). -/
  pollMoor : Nat := 0
  pollPage : Nat := 0
  /-- Moorings whose word carries BYPASS_CLOSE, with the frames left (R214, R345). -/
  bypass : SMap Nat := []
  lastFrame : Option Frame := none
  /-- Downstream scrambler register after the last frame (R166), and that frame's end in bits of the grid since lock. -/
  scr : BitVec 58 := 0
  lineBit : Nat := 0
  /-- Inhibit line of the port (R199). -/
  inhibit : Bool := false
  /-- INHIBIT frames sent since the line rose (R199) and word 0 returned (R406). -/
  inhibits : Nat := 0
  t_txp : Nat := 0
  t_rxp : Nat := 0
deriving DecidableEq, Repr

/-- One point record (R220); limits and enables stand among the parameters of group 0x14. -/
structure Point where
  val : Word := 0
  min : Word := 0
  max : Word := 0
  cycle : CycleNo := 0
  tick : Nat := 0
  events : Nat := 0
  dataLost : Bool := false
  stale : Bool := false
  below : Bool := false
  above : Bool := false
  valid : Bool := false
  /-- HIST_0 to HIST_3: value and AGE. -/
  hist : List (Word × Nat) := [(0, 0), (0, 0), (0, 0), (0, 0)]
  updates : Word := 0
  /-- Cycle in which the record was last written (R224). -/
  wrote : CycleNo := 0
  /-- The next write sets MIN and MAX (R221), and rebuilds a lost record (R227). -/
  fresh : Bool := true
  rebuild : Bool := false
deriving DecidableEq, Repr

/-- One sampled-value stream (R235–R238). Instants in ns of CT times 2^32. -/
structure Sv where
  /-- Samples, newest first: instant, quantities, gap before it. -/
  buf : List (Rat × List SvQty × Bool) := []
  lastCnt : Option Nat := none
  synch : Nat := 0
  unsynced : Bool := false
  lost : Bool := false
  held : List Int := []
  gaps : Nat := 0
  confRaised : Bool := false
  /-- Arrival of the last ASDU (R256). -/
  arrival : Stamp := {}
deriving DecidableEq, Repr

/-- One GOOSE subscription (R239, R240). -/
structure GooseSub where
  valid : Bool := false
  stNum : Word := 0
  sqNum : Word := 0
  seen : Bool := false
  flags : Nat := 0
  vals : List GooseVal := []
  /-- Messages accepted since the last cutoff, applied at it in order. -/
  pend : List GooseMsg := []
  ttl : Nat := 0
  restarts : Nat := 0
  discards : Nat := 0
  confRaised : Bool := false
  /-- timeAllowedToLive has run out since the last accepted message. -/
  lost : Bool := false
deriving DecidableEq, Repr

/-- One published control block (R241, R242). -/
structure GoosePub where
  sent : Option (List GooseVal) := none
  stNum : Word := 0
  sqNum : Word := 0
  /-- Interval to the next retransmission, in 10 µs, and timeAllowedToLive. -/
  interval : Nat := 0
  ttl : Nat := 0
  messages : Nat := 0
  heard : Word := 0
deriving DecidableEq, Repr

/-- A binding of the mailbox transport (R250). -/
structure Bind where
  host : Nat
  udp : Nat
  tag : Word
  port : Nat := 0
  mac : BitVec 48 := 0
  h2fSeq : Word := 0
  taken : Bool := true
  f2hSeq : Word := 0
  outstanding : Bool := false
  repeats : Nat := 0
deriving DecidableEq, Repr

/-- One station port (R229–R233). -/
structure StPort where
  up : Bool := false
  long : Nat := 0
  tagged : Nat := 0
  badFcs : Nat := 0
  pauses : Nat := 0
  discards : Nat := 0
  icmpArp : Nat := 0
  /-- Frames to the MPC in the running second, by kind: 0 datagrams, 1 ARP, 2 ICMP (R233). -/
  rateSec : Nat := 0
  rateCount : SMap Nat := []
  rxFrames : Nat := 0
deriving DecidableEq, Repr

/-- A datagram that was sent (R248, R249): the host's address and port, and the station port. -/
structure UdpOut where
  host    : Nat
  udp     : Nat
  port    : Nat
  kind    : UdpKind
  st      : Status := .ok
  mbx     : Nat := 0
  sq      : Word := 0
  tag     : Word := 0
  payload : List Byte := []
deriving DecidableEq, Repr

/-- What a frame that a station port sends carries (R241, R246, R248). -/
inductive TxBody where
  | goose (pub : Nat) (stNum sqNum : Word) (ttl : Nat) (vals : List GooseVal)
  | prpSupervision
  | arpReply (ip : Nat)
  | icmpReply (ip : Nat) (data : List Byte)
  | udp (ip udpPort : Nat) (payload : List Byte)
deriving DecidableEq, Repr

/-- A frame that a station port sends (R229, R231, R244): at most one tag, and the trailer of a PRP pair. -/
structure TxFrame where
  port      : Nat
  dst       : BitVec 48
  src       : BitVec 48
  tag       : Option (BitVec 16) := none
  etherType : Nat
  body      : TxBody
  trailer   : List Byte := []
deriving DecidableEq, Repr

/-- An eye scan (R252, R253): lane, DWELL_EXP, and the command that waits for the counts. -/
structure EyeScan where
  lane  : Nat
  dwell : Nat
  mbx   : Nat
  epoch : Word
  tag   : BitVec 16
deriving DecidableEq, Repr

/-- Station ports and their functions. -/
structure Stn where
  ports : SMap StPort := []
  svs : SMap Sv := []
  subs : SMap GooseSub := []
  pubs : SMap GoosePub := []
  /-- Duplicate discard per pair (R245): source, sequence number, tick; newest first. -/
  dup : SMap (List (Nat × Nat × Nat)) := []
  evicted : SMap Nat := []
  wrongLan : SMap Nat := []
  prpSeq : SMap (BitVec 16) := []
  prpSup : SMap Nat := []
  safetyCount : Nat := 0
  binds : SMap Bind := []
  bindCount : Nat := 0
  /-- Hosts whose session was lost, to be told at their next OPEN (R250). -/
  lostHosts : List Nat := []
  /-- Datagrams sent, oldest first. -/
  outbox : List UdpOut := []
  /-- Frames sent, oldest first. -/
  sent : List TxFrame := []
  /-- The eye scan that runs (R252, R253), and the boundary of a completed one, still the target of its abort. -/
  scan : Option EyeScan := none
  scanDone : Option (CycleNo × Nat) := none
deriving DecidableEq, Repr

/-- One measurement point of the Grid Edge Timer (R279–R290). Instants in 2^-32 ns of CT. -/
structure GetPt where
  /-- Last accepted edge per input 0–2, and the newest of all with its input and ambiguity. -/
  last : SMap Nat := []
  newest : Option (Nat × Nat × Bool) := none
  /-- Edge used for the phase (R286): instant and input. -/
  phaseEdge : Option (Nat × Nat) := none
  valid : Bool := false
  freq : Rat := 0
  goodRun : Nat := 0
  coasting : Bool := false
  standstill : Bool := true
  /-- 0 UNKNOWN, 1 POSITIVE, 2 NEGATIVE. -/
  seq : Nat := 0
  runDir : Nat := 0
  runLen : Nat := 0
  fast : Nat := 0
  coinc : Nat := 0
  /-- Phase jump to deliver (R288), the part frozen for this cycle, ambiguous pair and fast edge in this cycle. -/
  jump : Option Rat := none
  jumpOut : Option Rat := none
  ambig : Bool := false
  fastNow : Bool := false
  /-- Tick of the last FLT_GET_FAST. -/
  fastTick : Option Nat := none
deriving DecidableEq, Repr

/-- The accepted edges of one 2.5 ns sample (R283), by input, each with the timestamp measured for it, and the points as they
stood before the sample. -/
structure GetSample where
  tick  : Nat
  edges : SMap Nat
  pt0   : GetPt := {}
  pt1   : GetPt := {}
deriving DecidableEq, Repr

/-- One pulse channel (R291–R308). Positions in eu of the pulse clock. -/
structure Pch where
  running : Bool := false
  /-- A start waits for the first accepted restart (R305). -/
  waitSync : Bool := false
  /-- Position and counter value of the last reference: counter = k0 + (position − p0). -/
  p0 : Nat := 0
  k0 : Nat := 0
  period : Nat := 0
  cmpOn : Nat := 0
  cmpOff : Nat := 0
  /-- Shadow values and the LOAD bits of the last write; those visible before it, and the position from which the last
  write is visible (R295). -/
  periodSh : Nat := 0
  onSh : Nat := 0
  offSh : Nat := 0
  loadPer : Bool := false
  loadCmp : Bool := false
  prevSh : Nat × Nat × Nat := (0, 0, 0)
  prevLoad : Bool × Bool := (false, false)
  vis : Nat := 0
  /-- The first transfer after a start takes every value (R296). -/
  full : Bool := true
  onA : Bool := false
  onB : Bool := false
  tOnA : Nat := 0
  tOnB : Nat := 0
  tOffA : Nat := 0
  tOffB : Nat := 0
  wantA : Bool := false
  wantB : Bool := false
  tWantA : Nat := 0
  tWantB : Nat := 0
  blkA : Bool := false
  blkB : Bool := false
  cutA : Bool := false
  cutB : Bool := false
  trippedNow : Bool := false
  tripConsec : Nat := 0
  /-- FLT_PULSE_TRIP_REPEAT may be raised: a period without a trip has passed since it was (R300). -/
  tripArmed : Bool := true
  lastTi : Nat := 0
  syncLost : Bool := false
  firstSync : Bool := true
  perClamped : Bool := false
  cmpClamped : Bool := false
  stretched : Bool := false
  swallowed : Bool := false
  trips : Nat := 0
  swallows : Nat := 0
  stretches : Nat := 0
  rejects : Nat := 0
  /-- Events since the last cutoff freeze (R308). -/
  tripSince : Bool := false
  evSince : Nat := 0
  /-- The outputs are held off until the first period start in role ACTIVE (R306). -/
  holdOff : Bool := true
  /-- The reference before the last period start or restart: position, counter value, on_eff and off_eff. -/
  before : Option (Nat × Nat × Nat × Nat) := none
deriving DecidableEq, Repr

/-- A trip input as it was last sampled (R299): its level, the consecutive samples at it, and whether it is qualified. -/
structure TripIn where
  level     : Bool
  count     : Nat
  qualified : Bool := false
deriving DecidableEq, Repr

/-- Pulse engine (R291–R308). -/
structure Pul where
  ch : SMap Pch := []
  /-- Mask (R301): shadow and pending bit, those visible before the last write, its visibility, and the active mask. -/
  maskSh : Nat := 0
  maskLoad : Bool := false
  maskPrev : Nat := 0
  maskPrevLoad : Bool := false
  maskVis : Nat := 0
  mask : Nat := 0
  /-- Position in eu of the last rise of SYNC_OUT (R303). -/
  syncOut : Option Nat := none
  /-- Trip inputs that have been sampled (R299). -/
  ti : SMap TripIn := []
deriving DecidableEq, Repr

/-- A message of the F2H side or queue (R334). -/
structure Msg where
  kind : Nat
  opcode : Nat
  status : Status := .ok
  tag : BitVec 16 := 0
  part : Nat := 0
  more : Bool := false
  sess : Word := 0
  role : Word := 0
  body : List Byte := []
deriving DecidableEq, Repr

/-- Commands of a session that a sender reset ended, still to be executed (R322). -/
structure Ghost where
  epoch : Word
  role  : SessRole
  party : Nat := 0
  left  : Nat := 0
deriving DecidableEq, Repr

/-- One mailbox (R314–R322, R328) with its session (R336, R337). -/
structure Mbx where
  h2fFull : Bool := false
  f2hFull : Bool := false
  rejected : Bool := false
  sessOpen : Bool := false
  coreAwake : Bool := false
  emptyStatus : Bool := false
  reason : Nat := 0
  role : Option SessRole := none
  h2fLen : Nat := 0
  h2f : List Byte := []
  side : Option Msg := none
  f2h : List Msg := []
  /-- Commands taken whose response is not queued (R319). -/
  reserved : Nat := 0
  intStatus : BitVec 4 := 0
  intEnable : BitVec 4 := 0
  sessTag : Word := 0
  h2fCount : Word := 0
  respDropped : Nat := 0
  overruns : Nat := 0
  eventsLost : Nat := 0
  rejects : Nat := 0
  epoch : Word := 0
  credId : Word := 0
  party : Nat := 0
  mask : Word := 0
  nonce : Option (BitVec 128) := none
  /-- Ticks of the last ST_AUTH results (R337), and the lock-out. -/
  authFails : List Nat := []
  locked : Bool := false
  /-- Further parts of a multi-part response (R335). -/
  parts : List Msg := []
  /-- Commands doorbelled before a sender reset (R322). -/
  ghost : Option Ghost := none
deriving DecidableEq, Repr

/-- Host interface outside the mailboxes. -/
structure HostIf where
  bulk0 : Nat := 0
  bulk1 : Nat := 32
  /-- Endpoint (R487): out of PERST, configured identity, link. -/
  perstHigh : Bool := false
  cfgReady : Bool := false
  /-- MSI-X: vectors with an occurrence to send, sent counts, mask and pending bits (R313). -/
  due : List Nat := []
  sent : SMap Nat := []
  vecMask : BitVec 32 := 0xFFFFFFFF
  vecPend : BitVec 32 := 0
  /-- Words of the MSI-X table (R310), by word offset. -/
  msix : SMap Word := []
  /-- Unsupported Request and Completer Abort logged in AER (R311, R316), and the last: whether a Completer Abort, BAR and offset. -/
  aerLast : Option (Bool × Nat × Nat) := none
  aerUr : Nat := 0
  aerCa : Nat := 0
  armedPcie : Bool := false
  armedSpi : Bool := false
  ignored : Nat := 0
  /-- SPI: bits 2–5 of SPI_STATUS, MISO bytes of the last transaction (R325, R326). -/
  spiSticky : BitVec 4 := 0
  miso : List Byte := []
deriving DecidableEq, Repr

/-- Staging area (R344, R353–R369). -/
structure Pound where
  owner : Option (Nat × Word) := none
  /-- Staged entries, in ascending PARAM_ID. -/
  entries : List (Nat × Int) := []
  /-- Plate load in progress: SIZE, IMAGE_DIGEST and the bytes received. -/
  load : Option (Nat × List Byte) := none
  image : List Byte := []
  plate : Option Plate := none
  /-- A check runs for this mailbox, session and tag. -/
  checking : Option (Nat × Word × BitVec 16) := none
  /-- CHANGE_DIGEST and protection class of the valid check. -/
  check : Option (List Byte × Bool) := none
  signs : List (Nat × SessRole) := []
  /-- Pending commit: cycle, mailbox, tag, whole plate. -/
  commit : Option (CycleNo × Nat × BitVec 16 × Bool) := none
  /-- An abort has come after the flip of the pending commit (R348). -/
  late : Bool := false
  /-- The last completed commit, still the target of an abort: its cycle (R348). -/
  target : Option CycleNo := none
deriving DecidableEq, Repr

/-- The configuration in force (R17, R355): the plate and the values as amended; each value has an
active copy and an inactive one (R364). -/
structure Cfg where
  plate : Option Plate := none
  par : SMap Int := []
  parI : SMap Int := []
  stages : SMap PStage := []
  stagesI : SMap PStage := []
  plateTag : BitVec 16 := 0
deriving DecidableEq, Repr

/-- A cause record (R380); times in 2^-32 ns of CT. -/
structure Cause where
  cls : Nat := 0
  levelCfg : Nat := 0
  applied : Nat := 0
  preReset : Bool := false
  injected : Bool := false
  convBlock : Bool := false
  escalated : Bool := false
  read : Bool := false
  clearedBeforeRead : Bool := false
  active : Bool := false
  latched : Bool := false
  firstSeq : Word := 0
  firstTime : TimeCtr := {}
  firstCycle : CycleNo := 0
  phase : Phase := .none
  dstate : DevState := .reset
  role : Role := .isolated
  occurrences : Nat := 0
  lastTime : TimeCtr := {}
  lastSeq : Word := 0
  detail : List Byte := []
  /-- Tick at which each level was last applied, by level (R384). -/
  appliedAt : SMap Nat := []
deriving DecidableEq, Repr

/-- An entry of the log ring (R381). -/
structure LogEnt where
  seq : Word
  source : Nat
  level : Nat
  escalated : Bool
  block : Bool
  time : TimeCtr
deriving DecidableEq, Repr

/-- Fault Collection and Reaction Unit (R370–R388). -/
structure Fcru where
  recs : SMap Cause := []
  seq : Word := 0
  ring : SMap LogEnt := []
  /-- Traps waiting to be entered, by source (R376). -/
  traps : List Nat := []
  /-- Tick at which a warm reset or a level-5 reset last took effect (R498). -/
  resetTick : Option Nat := none
deriving DecidableEq, Repr

/-- Envelope state of one monitored quantity in one carrier (R394, R395). -/
structure SrbQ where
  pk : Int := 0
  i0 : Option Int := none
  zero : Nat := 0
  miss : Nat := 0
deriving DecidableEq, Repr

/-- A telegram copy that waits for its partner (R400). -/
structure TeleWait where
  lan : Nat
  seq : Word
  bytes : List Byte
  tick : Nat
deriving DecidableEq, Repr

/-- A registered request (R401, R402): cause 1 pins, 2 telegrams, 3 command; its profile, none for PIN_PROFILE;
the tick of its registration; mailbox and session of a commanded one (R343). -/
structure SrbReq where
  cause   : Nat
  profile : Option Nat := none
  tick    : Nat := 0
  own     : Option (Nat × Word) := none
deriving DecidableEq, Repr

/-- Safe Ramp-and-Block on the safety die (R389–R414). -/
structure Srb where
  st : SrbState := .hold
  /-- Request pins, filtered levels, with the ticks of their last rising edges (R397). -/
  pinA : Bool := false
  pinB : Bool := false
  riseA : Option Nat := none
  riseB : Option Nat := none
  /-- No release before both channels have been low together (R397). -/
  barred : Bool := false
  /-- Requests that are held, oldest first: after PORST_N the pins and the telegram path are in stop. -/
  reqs : List SrbReq := [{ cause := 1 }, { cause := 2 }]
  /-- Telegrams by LAN, 0 A and 1 B (R399, R400): degraded, timed out, last valid SEQ; copies that wait. -/
  degraded : SMap Bool := []
  timedOut : SMap Bool := []
  lastTel : SMap Word := []
  waits : List TeleWait := []
  /-- Mailbox and session of each commanded request that is held (R343, R401), and of each one consumed by a ramp, with its
  boundary: still the target of its abort (R348). -/
  cmd : List (Nat × Word) := []
  cmdDone : List (Nat × Word × CycleNo) := []
  /-- Ramp: cycle number of t0 and profile in force (R394), with the parameters frozen for it (R392). -/
  t0 : Option CycleNo := none
  profile : Nat := 0
  frozen : SMap Int := []
  qs : SMap SrbQ := []
  /-- The SMP has signalled completion; the timeout counter runs (R396). -/
  complete : Bool := false
  timeoutRun : Bool := false
  /-- SMP failure, and the cycle of the last verdict (R407). -/
  smpBad : Bool := false
  lastVerdict : Option CycleNo := none
  /-- The inhibit lines are raised (R404). -/
  inhibit : Bool := false
deriving DecidableEq, Repr

/-- A class A command sent to the follower and not yet confirmed (R434): the transfer, the mailbox, session and
tag that wait for the response, its body, and what acceptance posts. -/
structure XferWait where
  tr    : Transfer
  mbx   : Nat
  epoch : Word
  tag   : BitVec 16
  body  : List Byte := []
  w     : Waiting
deriving DecidableEq, Repr

/-- Tandem redundancy (R416–R438). -/
structure Tan where
  role : Role := .isolated
  mirrorEpoch : Word := 0
  tp0Up : Bool := false
  tp1Up : Bool := false
  /-- Silent counts of the towpaths (R421). -/
  silentA : Nat := 0
  silentB : Nat := 0
  /-- A beacon heard in this interval (R423); an HB_RX edge heard for this cycle or interval, and for the next cycle. -/
  heardA : Bool := false
  heardB : Bool := false
  heardBNext : Bool := false
  /-- Records not yet judged, and the last intact one. -/
  recv : List MirrorRec := []
  last : Option MirrorRec := none
  /-- Consecutive refreshes clean and not clean, and digest mismatches since lock-through (R425, R426, R438). -/
  clean : Nat := 0
  notClean : Nat := 0
  mismatches : Nat := 0
  transferSeq : BitVec 16 := 0
  /-- Hold-off is running or has run out (R428), with the tick of its start. -/
  holdOff : Bool := false
  holdOffDone : Bool := false
  holdTick : Nat := 0
  /-- FLT_TANDEM_VETO's condition holds (R429). -/
  veto : Bool := false
  /-- HANDOVER_CYCLE (R432), the command that named it, and that this unit is dark for it. -/
  handover : CycleNo := 0
  handoverCmd : Option Waiting := none
  handed : Bool := false
  /-- No revertive handover before this tick (R432). -/
  revertAfter : Nat := 0
  roleCycle : CycleNo := 0
  /-- Takeovers since PORST_N (R438). -/
  takeovers : Nat := 0
  /-- CT phase error to the twin in 2^-32 ns (R435), and active TD − CT at the cycle start tick (R422). -/
  phaseErr : Int := 0
  startOff : Int := 0
  /-- A takeover request has arrived (R430): its tick. -/
  reqTick : Option Nat := none
  /-- A requester withholds its frames: cycles left (R430). -/
  withhold : Option Nat := none
  darkForGood : Bool := false
  /-- ACTIVE by a takeover on silence, the twin not heard since (R433). -/
  silenceTakeover : Bool := false
  hbTx : Bool := false
  /-- HOST_BLOCK to be forwarded in a follower's records (R332). -/
  fwdBlock : Bool := false
  xfers : List XferWait := []
  /-- The last confirmation sent on TP1, by the transfer's number (R434). -/
  confirmed : Option (BitVec 16 × Status) := none
  /-- RESULT_DIGEST of the last cycle that this unit computed (R426). -/
  digest : Word := 0
  /-- The last record or beacon sent, and beacons sent (R422, R423). -/
  sent : Option MirrorRec := none
  beacons : Nat := 0
  /-- Last cycles launched by this unit, newest first (R433). -/
  launches : List CycleNo := []
deriving DecidableEq, Repr

/-- One capture channel (R440–R456). Its record lies in the store. -/
structure CapCh where
  st : CapState := .idle
  arm : CapArm := { mode := 0, srcKind := 0, element := 0, srcIndex := 0, trgMask := 0, decimation := 1, preCount := 0, postCount := 1 }
  armSeq : Word := 0
  mbx : Nat := 0
  epoch : Word := 0
  tag : BitVec 16 := 0
  cause : Nat := 0xFF
  coincident : Nat := 0
  overflow : Bool := false
  aborted : Bool := false
  dataError : Bool := false
  plateStop : Bool := false
  trigCycle : CycleNo := 0
  trigTick : Nat := 0
  samples : Nat := 0
  below : Nat := 0
  above : Nat := 0
  gaps : Nat := 0
  unplotted : Nat := 0
  /-- Values of the source seen (DECIMATION), a gap to mark, entries written, the trigger sample's number among
  them, samples left after the trigger. -/
  seen : Nat := 0
  gapNext : Bool := false
  written : Nat := 0
  trigW : Option Nat := none
  left : Nat := 0
  /-- Triggers fired since the last sample (R452). -/
  fired : Nat := 0
  /-- The last sample: its tick, whether the channel was armed, value, map column, cycle and tick of its instant. -/
  lastTick : Option Nat := none
  lastArmed : Bool := false
  lastV : Int := 0
  lastX : Option Nat := none
  lastCyc : CycleNo := 0
  lastTk : Nat := 0
  /-- Boundary of the completed capture (R348); none when no abort target stands. -/
  doneAt : Option (CycleNo × Nat) := none
deriving DecidableEq, Repr

/-- Capture engine (R440–R456). -/
structure Cap where
  ch : SMap CapCh := []
  /-- Triggers primed for RISE and for FALL, and inside the window (R451). -/
  primedR : SMap Bool := []
  primedF : SMap Bool := []
  inside : SMap Bool := []
  /-- Entries in the channels' queues at most, and the tick they were last counted (R454). -/
  queued : Nat := 0
  drainTick : Nat := 0
deriving DecidableEq, Repr

/-- Supply governor and thermal (R457–R472); voltages in 0.1 mV, slack in 0.1 ns. -/
structure Gov where
  v : Nat := 8000
  /-- The value last written, its AVSBus transaction under way, and that it is the retry. -/
  written : Nat := 8000
  writePend : Bool := false
  retry : Bool := false
  /-- No write until a status read succeeds. -/
  blocked : Bool := false
  sMin : Option Int := none
  canaryMax : Nat := 0
  recover : Bool := false
  lastCanary : Option Nat := none
  /-- Graph input 0xFFF1 (R468). -/
  stage : List Int := [0, 0, 0, 0]
  temps : List Int := [0, 0, 0, 0]
deriving DecidableEq, Repr

/-- Test port (R494). -/
structure Jtag where
  /-- Instruction register of IEEE 1149.1 after its reset: IDCODE. -/
  instr : Nat := 1
  boundary : List Bool := []
  driving : Bool := false
  floating : Bool := false
  debug : Bool := false
  tdo : List Byte := []
deriving DecidableEq, Repr

/-- The whole machine. -/
structure State where
  /-- Commands that wait, first in first out. -/
  pending : List Instr := []
  /-- Ticks of 2.5 ns since the start of the model (R254). -/
  now : Nat := 0
  dev : Dev := {}
  otp : Otp := {}
  time : Time := {}
  clk : Clk := {}
  cyc : Cyc := {}
  cfg : Cfg := {}
  graph : Graph := {}
  arms : SMap Arm := []
  obs : Obs := {}
  ports : SMap Port := []
  moors : SMap Moor := []
  points : SMap Point := []
  /-- Writes that carried no later sample, by writer of R220 (R221). -/
  ptDiscards : SMap Nat := []
  stn : Stn := {}
  get : SMap GetPt := []
  /-- The sample in which the newest accepted edges of the GET fell, with the points as they stood before it (R283). -/
  getLast : Option GetSample := none
  pul : Pul := {}
  host : HostIf := {}
  mbx : SMap Mbx := []
  pound : Pound := {}
  fcru : Fcru := {}
  srb : Srb := {}
  tan : Tan := {}
  cap : Cap := {}
  gov : Gov := {}
  jtag : Jtag := {}
  /-- Stacked memory that is held byte by byte: Capture Store, Plate Store and trap area (R27). -/
  store : List Host.Cell := []
  /-- The model's own counter for free values; the manual has no such register. -/
  free : Nat := 0
deriving DecidableEq, Repr

/-- The device as power comes on: PORST_N is low and the device is in RESET (R19, R485). -/
def State.reset : State := {}

end Sys2Proof.Machine
end

