-- ==== Sys2Proof/Machine/Ops.lean ====
section
/-! DEFINITION. Named operations over tables, bytes, exact numbers, the stacked memory and time. -/

namespace Sys2Proof

/-- The entry of a table at a key, if it is listed. -/
def SMap.find {α : Type} (m : SMap α) (k : Nat) : Option α :=
  match m with
  | [] => none
  | (j, v) :: rest => if j = k then some v else SMap.find rest k

/-- The entry of a table at a key, with the value of a key that is not listed. -/
def SMap.get {α : Type} (m : SMap α) (k : Nat) (d : α) : α := (m.find k).getD d

/-- Write one entry, keeping the keys in ascending order. -/
def SMap.set {α : Type} (m : SMap α) (k : Nat) (v : α) : SMap α :=
  match m with
  | [] => [(k, v)]
  | (j, w) :: rest =>
    if k < j then (k, v) :: (j, w) :: rest
    else if k = j then (k, v) :: rest
    else (j, w) :: SMap.set rest k v

/-- Change one entry in place, starting from a value where none is listed. -/
def SMap.upd {α : Type} (m : SMap α) (k : Nat) (d : α) (f : α → α) : SMap α :=
  m.set k (f (m.get k d))

/-- Remove one entry. -/
def SMap.del {α : Type} (m : SMap α) (k : Nat) : SMap α := m.filter (fun x => x.1 != k)

/-- Apply a function to every listed entry. -/
def SMap.mapVals {α β : Type} (m : SMap α) (f : Nat → α → β) : SMap β :=
  m.map (fun x => (x.1, f x.1 x.2))

/-- The keys that are listed. -/
def SMap.keys {α : Type} (m : SMap α) : List Nat := m.map (fun x => x.1)

/-! ### Codes of the manual's names, and time counters (R254) -/

/-- Units of 2^-32 ns in a second. -/
def secUnits : Nat := 1000000000 * 2 ^ 32

/-- Code of a device state (R327). -/
def DevState.code : DevState → Nat
  | .reset => 0 | .boot => 1 | .idle => 2 | .loaded => 3 | .ready => 4 | .running => 5
  | .ramping => 6 | .blocked => 7 | .faulted => 8

/-- Code of a control phase (R327). -/
def Phase.code : Phase → Nat
  | .none => 0 | .startup => 1 | .service => 2 | .test => 3 | .recovery => 4

/-- Phase of a code of R327. -/
def Phase.ofCode : Nat → Option Phase
  | 1 => some .startup | 2 => some .service | 3 => some .test | 4 => some .recovery | _ => none

/-- Code of a tandem role (R327). -/
def Role.code : Role → Nat
  | .active => 0 | .standby => 1 | .resync => 2 | .eligible => 3 | .isolated => 4

/-- Value of a status code (R351). -/
def Status.code : Status → Nat
  | .ok => 0x00 | .mbxFull => 0x01 | .flushed => 0x02 | .noSession => 0x03 | .noMailbox => 0x04
  | .sequence => 0x05 | .length => 0x06 | .version => 0x07 | .opcode => 0x08 | .role => 0x09
  | .auth => 0x0A | .sessionStale => 0x0B | .roleChanged => 0x0C | .notActive => 0x0D
  | .state => 0x0E | .range => 0x0F | .tooLate => 0x10 | .busy => 0x11 | .resource => 0x12
  | .consistency => 0x13 | .digest => 0x14 | .signature => 0x15 | .poundFull => 0x16
  | .notChecked => 0x17 | .countersignRequired => 0x18 | .countersignMismatch => 0x19
  | .sameParty => 0x1A | .notConverged => 0x1B | .tdInvalid => 0x1C | .offsetLimit => 0x1D
  | .aborted => 0x1E | .completedBeforeAbort => 0x1F | .nothingToAbort => 0x20 | .overflow => 0x21
  | .notFound => 0x22 | .acceptedAlone => 0x23

/-- Code of a lane state (R422). -/
def LaneState.code : LaneState → Nat
  | .dark => 0 | .acquire => 1 | .negotiate => 2 | .step => 3 | .train => 4 | .up => 5 | .relock => 6

/-- Code of a generation (R162). -/
def Gen.code : Gen → Nat | .bl1 => 1 | .bl2 => 2 | .bl3 => 3

/-- Generation of a code. -/
def Gen.ofCode : Nat → Gen | 1 => .bl1 | 2 => .bl2 | _ => .bl3

/-- The STATE field of a command word (R194). -/
def CellCmd.code : CellCmd → Nat | .bypass => 0 | .insPos => 1 | .insNeg => 2 | .block => 3

/-- State of a code of R194. -/
def CellCmd.ofCode : Nat → CellCmd | 0 => .bypass | 1 => .insPos | 2 => .insNeg | _ => .block

/-- Code of a state of the safety die (R412). -/
def SrbState.code : SrbState → Nat | .hold => 0 | .armed => 1 | .ramp => 2 | .tripped => 3

/-- Code of a capture state (R443). -/
def CapState.code : CapState → Nat
  | .idle => 0 | .preFill => 1 | .armed => 2 | .postTrigger => 3 | .done => 4 | .overflow => 5

/-- A state in which a plate is in force and cycles are laid out (LOADED and later, R264). -/
def DevState.loadedOn : DevState → Bool
  | .loaded | .ready | .running | .ramping | .blocked | .faulted => true
  | _ => false

/-- IDLE and later. -/
def DevState.idleOn : DevState → Bool
  | .reset | .boot => false
  | _ => true

/-- States in which the graph runs (R22). -/
def DevState.graphOn : DevState → Bool
  | .ready | .running | .ramping | .blocked => true
  | _ => false

/-- States in which the observer runs (R22): in FAULTED as in READY. -/
def DevState.observes (d : DevState) : Bool := d.graphOn || d == .faulted

/-- A counter as one number of units of 2^-32 ns. -/
def TimeCtr.toNat (c : TimeCtr) : Nat := c.sec.toNat * secUnits + c.ns.toNat * 2 ^ 32 + c.frac.toNat

/-- The counter that holds a number of units of 2^-32 ns; SECONDS wraps (R254). -/
def TimeCtr.ofNat (n : Nat) : TimeCtr :=
  { sec := BitVec.ofNat 48 (n / secUnits), ns := BitVec.ofNat 30 (n % secUnits / 2 ^ 32), frac := BitVec.ofNat 32 n }

/-- Add a signed number of units. -/
def TimeCtr.add (c : TimeCtr) (d : Int) : TimeCtr :=
  TimeCtr.ofNat (((c.toNat : Int) + d) % ((2 ^ 48 * secUnits : Nat) : Int)).toNat

namespace Machine

/-- A next state. -/
abbrev ok (s : State) : Host.Outcome State Fault Refusal := .next s

/-- A next state where the named unit exists, else the fault of R1 and R2. -/
def unit (c : Bool) (s : State) : Host.Outcome State Fault Refusal :=
  if c then .next s else .fault .noSuchUnit

/-! ### Exact numbers -/

/-- Rounding of a rational to the nearest integer, ties to even (R62, R148). -/
def rhe (q : Rat) : Int :=
  let f := q.floor
  let r := q - (f : Rat)
  if r < 1 / 2 then f else if 1 / 2 < r then f + 1 else if f % 2 = 0 then f else f + 1

/-- Division of integers rounded half to even; a zero divisor gives 0. -/
def rheDiv (a b : Int) : Int := if b = 0 then 0 else rhe ((a : Rat) / (b : Rat))

/-- Two to an integer power. -/
def pow2 (e : Int) : Rat := if 0 ≤ e then ((2 ^ e.toNat : Nat) : Rat) else 1 / ((2 ^ (-e).toNat : Nat) : Rat)

/-- Bring a value into a range. -/
def clampI (lo hi x : Int) : Int := max lo (min hi x)

/-- Absolute value of a rational. -/
def absR (q : Rat) : Rat := if q < 0 then -q else q

/-- Integer square root by bisection over the bits of the root. -/
def isqrtAux (n : Nat) : Nat → Nat → Nat
  | 0, r => r
  | k + 1, r => isqrtAux n k (if (r + 2 ^ k) * (r + 2 ^ k) ≤ n then r + 2 ^ k else r)

/-- The largest integer whose square does not exceed `n`, for `n` below 2^128. -/
def isqrt (n : Nat) : Nat := isqrtAux n 64 0

/-- Fractional part of a rational, in [0, 1). -/
def fracR (q : Rat) : Rat := q - (q.floor : Rat)

/-- A difference of phases brought into [−1/2, 1/2) (R113, R287). -/
def wrapHalf (q : Rat) : Rat := fracR (q + 1 / 2) - 1 / 2

/-! ### Bytes -/

/-- `n` bytes of a value, most significant first (R7, R333). -/
def be : Nat → Nat → List Byte
  | 0, _ => []
  | n + 1, v => BitVec.ofNat 8 (v / 256 ^ n) :: be n v

/-- `n` bytes of a value, least significant first (R7). -/
def le : Nat → Nat → List Byte
  | 0, _ => []
  | n + 1, v => BitVec.ofNat 8 v :: le n (v / 256)

/-- The number that bytes spell, most significant first. -/
def ofBe (bs : List Byte) : Nat := bs.foldl (fun a b => a * 256 + b.toNat) 0

/-- The number that bytes spell, least significant first. -/
def ofLe (bs : List Byte) : Nat := bs.foldr (fun b a => a * 256 + b.toNat) 0

/-- A signed value as `n` bytes, most significant first. -/
def beI (n : Nat) (v : Int) : List Byte := be n (v % (256 ^ n : Nat)).toNat

/-- A flag as a number. -/
abbrev b2n (b : Bool) : Nat := if b then 1 else 0

/-- Bit `i` of a number. -/
abbrev bitN (x i : Nat) : Bool := x.testBit i

/-- Set bit `i` of a number. -/
def setBit (x i : Nat) (b : Bool) : Nat :=
  if x.testBit i = b then x else if b then x + 2 ^ i else x - 2 ^ i

/-- Counts that hold at a ceiling. -/
def holdAt (ceil n : Nat) : Nat := min ceil n

/-- Add to a 32-bit count that holds at 0xFFFF_FFFF (R219, R328). -/
def cnt32 (n : Nat) : Nat := min 0xFFFFFFFF (n + 1)

/-- The bits of a list of bytes, most significant first (R7). -/
def bitsOf (bs : List Byte) : List Bool :=
  bs.flatMap (fun b => (List.range 8).map (fun i => b.getLsbD (7 - i)))

/-- The bits of a number in `n` places, most significant first. -/
def bitsN (n v : Nat) : List Bool := (List.range n).map (fun i => v.testBit (n - 1 - i))

/-! ### Order of cycles (R32) -/

/-- `c` lies after `r` among numbers of `k` bits. -/
def after (k : Nat) (c r : Nat) : Bool :=
  let d := (c + 2 ^ k - r % 2 ^ k) % 2 ^ k
  1 ≤ d && d ≤ 2 ^ (k - 1) - 1

/-- `c` and `r` lie exactly half the range apart, so neither is before the other. -/
def halfAway (k : Nat) (c r : Nat) : Bool := (c + 2 ^ k - r % 2 ^ k) % 2 ^ k == 2 ^ (k - 1)

/-! ### Stacked memory (R27, R488) -/

/-- What an address that is not listed reads as: the memory is written to 0 at start-up (R488). -/
def Memory.dflt : Byte := 0

/-- The canonical form: addresses rise strictly, and no entry holds what an unlisted address reads. -/
def Memory.wf : List Host.Cell → Bool
  | [] => true
  | [(_, v)] => v != Memory.dflt
  | (a, v) :: (b, w) :: rest => v != Memory.dflt && a < b && Memory.wf ((b, w) :: rest)

/-- Read one byte. -/
def Memory.read (m : List Host.Cell) (a : Nat) : Byte :=
  match m with
  | [] => Memory.dflt
  | (b, v) :: rest => if a = b then v else Memory.read rest a

/-- Write one byte. -/
def Memory.write (m : List Host.Cell) (a : Nat) (v : Byte) : List Host.Cell :=
  match m with
  | [] => if v = Memory.dflt then [] else [(a, v)]
  | (b, w) :: rest =>
    if a < b then (if v = Memory.dflt then (b, w) :: rest else (a, v) :: (b, w) :: rest)
    else if a = b then (if v = Memory.dflt then rest else (a, v) :: rest)
    else (b, w) :: Memory.write rest a v

/-- Write bytes from an address upwards. -/
def Memory.writes (m : List Host.Cell) (a : Nat) : List Byte → List Host.Cell
  | [] => m
  | v :: vs => Memory.writes (Memory.write m a v) (a + 1) vs

/-- Read `n` bytes from an address upwards. -/
def Memory.reads (m : List Host.Cell) (a n : Nat) : List Byte :=
  (List.range n).map (fun i => Memory.read m (a + i))

/-- Clear an address range. -/
def Memory.clear (m : List Host.Cell) (a n : Nat) : List Host.Cell :=
  m.filter (fun c => !(a ≤ c.1 && c.1 < a + n))

/-! ### Variant and states (R1, R2, R22) -/

/-- Basin ports of the variant. -/
def nPorts (s : State) : Nat := match s.dev.variant with | .sv8x32 => 32 | .sv8x16 => 16
/-- Code of the variant in R327's ID word and R422's record. -/
def variantCode : Variant → Nat | .sv8x32 => 0x20 | .sv8x16 => 0x10
/-- Arm engines of the variant. -/
def nArms (s : State) : Nat := match s.dev.variant with | .sv8x32 => 12 | .sv8x16 => 6
/-- Cell indices of the variant. -/
def nCells (s : State) : Nat := nPorts s * 256





/-- Code of a session role (R328). -/
def roleCode : Option SessRole → Nat
  | none => 0 | some .observer => 1 | some .operator => 2 | some .engineer => 3 | some .protection => 4









/-- RUNNING or RAMPING. -/
def runs (s : State) : Bool := s.dev.state == .running || s.dev.state == .ramping


/-- A follower: not ACTIVE and not ISOLATED (R418). -/
def follower (s : State) : Bool :=
  match s.tan.role with | .active | .isolated => false | _ => true

/-- BLOCK_OUT_A and BLOCK_OUT_B drive release: both pins low while this is false (R21, R405, R436). -/
def blockOutRelease (s : State) : Bool :=
  runs s && s.srb.st != .tripped && !s.dev.readbackBad && !s.dev.railHold &&
  (match s.tan.role with | .active | .standby | .eligible => true | _ => false)

/-- The governor commands a voltage (R457, R458): one Vout write where it differs from the one written, held back
while another is under way or the regulator has failed. -/
def govCommand (v : Nat) (g : Gov) : Gov :=
  let g := { g with v := v }
  if g.blocked || g.writePend || g.written = v then g else { g with written := v, writePend := true, retry := false }

/-- States in which the governor commands 0.800 V (R467). -/
def fixedVolt : DevState → Bool | .reset | .boot | .idle | .faulted => true | _ => false

/-! ### Time (R254, R264, R265) -/





/-- The active domain (R266). -/
def Time.act (t : Time) : TimeDom := if t.active = 0 then t.td0 else t.td1

/-- A domain by number. -/
def Time.dom (t : Time) (i : Nat) : TimeDom := if i = 0 then t.td0 else t.td1

/-- Change a domain by number. -/
def Time.setDom (t : Time) (i : Nat) (d : TimeDom) : Time :=
  if i = 0 then { t with td0 := d } else { t with td1 := d }

/-- What CT closes on: the active domain, or the twin's CT on a follower (R265, R269), as offset in
units of 2^-32 ns. -/
def ctOff (t : Time) : Int :=
  match t.twinOff with
  | some o => o
  | none => (t.act.ctr.toNat : Int) - (t.ct.toNat : Int)

/-- SLEW_STEP for a SLEW_RATE counted in 0.01 µs/s (R265). -/
def slewStep (rate : Int) : Int := rhe ((rate : Rat) / 100 / 1000000 * (5 / 2) * ((2 ^ 32 : Nat) : Rat))

/-- The increment of CT in force (R265). -/
def ctIncrement (t : Time) (step : Int) : Int :=
  if t.slew then (t.act.inc : Int) + (if 0 < ctOff t then step else if ctOff t < 0 then -step else 0)
  else t.act.inc

/-- Ticks for which a slew of `n` ticks still moves CT: it stops at |off| ≤ SLEW_STEP, where the event of
completion is due. -/
def slewTicks (off step : Int) (n : Nat) : Nat :=
  if step ≤ 0 then 0 else min n (((off.natAbs : Int) - 1) / step).toNat

/-- `n` ticks of the three counters (R254, R264, R265). -/
def advanceTime (follow : Bool) (step : Int) (n : Nat) (t : Time) : Time :=
  let td0 := { t.td0 with ctr := t.td0.ctr.add (n * t.td0.inc) }
  let td1 := { t.td1 with ctr := t.td1.ctr.add (n * t.td1.inc) }
  let base := if t.active = 0 then td0.ctr else td1.ctr
  let off := ctOff t
  if follow then { t with td0 := td0, td1 := td1, ct := base, slew := false, twinOff := none }
  else
    let moved : Int := if t.slew then (slewTicks off step n : Int) * (if 0 < off then step else -step) else 0
    { t with td0 := td0, td1 := td1, ct := t.ct.add ((n * t.act.inc : Nat) + moved),
             twinOff := t.twinOff.map (fun o => o - moved) }

end Machine
end Sys2Proof
end

