-- ==== Sys2Proof/Machine/Params.lean ====
section
/-! DEFINITION. Parameters by identifier (R356, R357): ranges, defaults and classes of the tables, the
catalogue of fault sources (R370), and the readers of the values in force. -/

namespace Sys2Proof.Machine

/-- One row of a parameter table: ITEM, least and greatest count of the stated step, default, class
(0 ordinary, 1 whole plate, 2 protection), and whether none is admitted (R357). -/
structure ParRow where
  item : Nat
  lo   : Int
  hi   : Int
  dflt : Int
  cls  : Nat := 0
  opt  : Bool := false
deriving DecidableEq, Repr

/-- Groups of R356; those from 0x60 on are tables that R356 gives no GROUP (log 16): governor, capture
shares, triggers, TJ_WARN, SYNC_OUT and mask, servo, safety pair. -/
def parTable : Nat → List ParRow
  | 0x01 => [⟨0, 250, 10000, 1000, 1, false⟩, ⟨2, 50, 9910, 650, 1, false⟩, ⟨4, 0, 1000, 100, 1, false⟩,
      ⟨6, 0, 3, 0, 1, false⟩, ⟨8, 1, 16, 1, 1, false⟩, ⟨10, 0, 15, 0, 1, false⟩, ⟨12, 5, 260, 260, 1, false⟩,
      ⟨14, 2, 16, 4, 1, false⟩]
  | 0x02 => [⟨0, 1, 3, 3, 1, false⟩, ⟨2, 16, 1024, 64, 1, false⟩, ⟨4, 2, 255, 2, 1, false⟩,
      ⟨6, 1, 1000, 100, 1, false⟩, ⟨8, 1, 7, 3, 1, false⟩, ⟨10, 2, 15, 4, 1, false⟩, ⟨12, 6, 20, 12, 1, false⟩]
  | 0x03 => [⟨0, -2000, 2000, 0, 1, false⟩, ⟨2, 4, 64, 16, 1, false⟩, ⟨4, 100, 10000, 1000, 1, false⟩,
      ⟨6, 10, 6000, 100, 1, false⟩, ⟨8, 0, 0xFFFFFFFFFFFF, 0, 1, false⟩, ⟨10, 0, 2, 0, 1, false⟩,
      ⟨12, 0, 1, 1, 1, false⟩, ⟨14, 0, 4, 2, 1, false⟩, ⟨16, 1, 10, 10, 1, false⟩]
  | 0x10 => [⟨0, 0, 1, 0, 1, false⟩, ⟨2, 1, 1024, 1, 0, false⟩, ⟨4, 0, 20000, 2000, 0, false⟩,
      ⟨6, 0, 1000, 4, 0, false⟩, ⟨8, 0, 5000, 200, 0, false⟩, ⟨10, 10, 500, 50, 0, false⟩,
      ⟨12, 0, 1, 0, 0, false⟩, ⟨14, 2, 64, 8, 0, false⟩, ⟨16, 0, 5000, 0, 0, false⟩]
  | 0x11 => [⟨0, 100, 50000, 8000, 1, false⟩, ⟨2, 0, 65535, 1000, 0, false⟩,
      ⟨4, 0, 0xFFFFFFFF0003FFFF, 0x100000000, 1, false⟩, ⟨6, 0, 0xFFFFFFFF0003FFFF, -1, 1, true⟩,
      ⟨8, 1, 256, 64, 0, false⟩, ⟨10, 1, 256, 192, 0, false⟩, ⟨12, 10, 5000, 500, 0, false⟩,
      ⟨14, 10, 5000, 200, 0, false⟩, ⟨16, 5, 5000, 100, 0, false⟩, ⟨18, 8, 255, 128, 0, false⟩,
      ⟨20, 1, 512, 64, 0, false⟩, ⟨22, 1, 10000, 100, 0, false⟩, ⟨24, 1, 1024, 256, 0, false⟩,
      ⟨26, 1, 256, 16, 0, false⟩, ⟨28, 10, 5000, 200, 0, false⟩, ⟨30, 510, 1000, 920, 0, false⟩,
      ⟨32, 1000, 1990, 1080, 0, false⟩, ⟨34, 0, 65535, 0, 0, false⟩, ⟨36, 10, 250, 100, 0, false⟩,
      ⟨38, 10, 250, 100, 0, false⟩]
  | 0x12 => [⟨0, 0, 8, 2, 0, false⟩, ⟨2, 2, 80, 8, 0, false⟩, ⟨4, 0, 65535, 10000, 0, false⟩, ⟨6, 0, 4, 2, 0, false⟩]
  | 0x15 => [⟨0, 0, 3, 1, 1, false⟩, ⟨2, 0, 4095, -1, 1, true⟩]
  | 0x20 => [⟨0, 0, 1, 0, 1, false⟩, ⟨1, 0, 1, 0, 1, false⟩, ⟨2, 0, 4095, -1, 1, true⟩,
      ⟨4, 25600, 268435455, 102400, 0, false⟩, ⟨5, 25600, 268435455, 268435455, 0, false⟩,
      ⟨6, 0, 65535, 25600, 1, false⟩, ⟨8, 0, 65535, 25600, 1, false⟩, ⟨10, 0, 1, 0, 0, false⟩,
      ⟨12, 0, 65535, 0, 2, false⟩, ⟨14, 0, 1, 0, 2, false⟩, ⟨16, 1, 255, 8, 0, false⟩, ⟨18, 0, 1, 0, 0, false⟩,
      ⟨20, 0, 3, 0, 1, false⟩, ⟨22, 0, 11, 0, 1, false⟩, ⟨24, 0, 268435454, 0, 0, false⟩,
      ⟨26, 0, 134217727, 1280, 1, false⟩, ⟨28, 1, 255, 4, 1, false⟩]
  | 0x21 => [⟨0, 0, 1, 1, 2, false⟩, ⟨2, 0, 1, 0, 2, false⟩, ⟨4, 2, 255, 4, 2, false⟩, ⟨6, 0, 11, 0, 2, false⟩]
  | 0x30 => [⟨0, 0, 3, 0, 1, false⟩, ⟨2, 0, 1, 1, 1, false⟩, ⟨4, 0, 1, 0, 1, false⟩, ⟨6, 0, 31, 12, 1, false⟩,
      ⟨8, 0, 0xFFFFFFFFFFFF, 0, 1, false⟩, ⟨10, 0, 0xFFFFFFFF, 0, 1, false⟩, ⟨11, 0, 0xFFFFFFFF, 0, 1, false⟩,
      ⟨12, 0, 65535, 0x8000, 1, false⟩]
  | 0x31 => [⟨0, 0, 2, 0, 1, false⟩, ⟨2, 0, 127, 0, 1, false⟩, ⟨4, 0, 255, 0, 1, false⟩, ⟨6, 0, 1, 1, 1, false⟩,
      ⟨8, 0, 255, 128, 1, false⟩, ⟨9, 0, 255, 128, 1, false⟩, ⟨10, -4, 1, 0, 1, false⟩, ⟨12, 0, 2, 0, 1, false⟩,
      ⟨14, -4, 2, 0, 1, false⟩, ⟨16, 2, 10, 3, 1, false⟩, ⟨18, 0, 1, 0, 1, false⟩, ⟨20, -1000, 1000, 0, 1, false⟩,
      ⟨21, -1000, 1000, 0, 1, false⟩]
  | 0x32 => [⟨0, 0, 1, 0, 0, false⟩, ⟨2, 10, 5000, 100, 0, false⟩, ⟨4, 0, 1, 1, 0, false⟩,
      ⟨6, 1, 10000, 100, 1, false⟩, ⟨8, 1, 10000, 100, 1, false⟩]
  | 0x33 => [⟨0, 0, 2, 0, 1, false⟩, ⟨2, 1, 500000, 100000, 1, false⟩, ⟨4, -1000, 1000, 0, 1, false⟩, ⟨6, 0, 1, 0, 1, false⟩]
  | 0x34 => [⟨0, 0, 1, 1, 1, false⟩, ⟨2, 0, 1, 0, 1, false⟩, ⟨4, 1600, 7000, 5000, 1, false⟩, ⟨6, 10, 95, 50, 1, false⟩,
      ⟨8, 50, 150, 80, 1, false⟩, ⟨9, 50, 150, 120, 1, false⟩, ⟨10, 10, 2000, 100, 1, false⟩,
      ⟨12, 20, 500, 100, 1, false⟩, ⟨14, 1, 250, 14, 1, false⟩]
  | 0x40 => [⟨0, 0, 1, 1, 0, false⟩, ⟨4, 0, 255, 0, 0, false⟩, ⟨8, 1, 1023, 1, 0, false⟩]
  | 0x50 => [⟨0, 0, 5, 0, 2, false⟩, ⟨2, 0, 1, 0, 2, false⟩, ⟨4, 0, 16, 0, 2, false⟩]
  | 0x52 => [⟨0, 0, 1, 1, 3, false⟩, ⟨2, 0, 2, 1, 2, false⟩, ⟨4, 0, 1, 1, 2, false⟩, ⟨6, 2, 16, 3, 2, false⟩,
      ⟨8, 0, 3600, 60, 2, false⟩, ⟨10, 1, 64, 8, 2, false⟩, ⟨12, 1, 255, 8, 2, false⟩, ⟨14, 1, 60, 10, 2, false⟩,
      ⟨16, 0, 10000, 0, 2, false⟩]
  | 0x60 => [⟨0, 8, 160, 48, 0, false⟩, ⟨2, 16, 240, 96, 0, false⟩, ⟨4, 2, 1000, 10, 0, false⟩, ⟨6, 1, 10, 4, 0, false⟩,
      ⟨8, 1, 4, 1, 0, false⟩, ⟨10, 20, 60, 50, 0, false⟩, ⟨12, 252, 348, 252, 0, false⟩, ⟨14, 280, 348, 320, 0, false⟩]
  | 0x61 => [⟨0, 0, 192, 12, 1, false⟩]
  | 0x62 => [⟨0, 0, 7, 0, 1, false⟩, ⟨2, 0, 2, 0, 1, false⟩, ⟨3, 0, 0x7FFFFFFF, 0, 1, false⟩, ⟨4, 0, 15, 0, 1, false⟩,
      ⟨6, -2147483648, 2147483647, 0, 1, false⟩, ⟨7, 0, 2147483647, 0, 1, false⟩, ⟨8, 0, 2, 0, 1, false⟩,
      ⟨10, -2147483648, 2147483647, 0, 1, false⟩, ⟨11, -2147483648, 2147483647, 0, 1, false⟩,
      ⟨12, 0, 527, 0, 1, false⟩, ⟨14, 0, 4095, 0, 1, false⟩, ⟨16, 0, 15, 0, 1, false⟩]
  | 0x63 => [⟨0, 85, 105, 100, 1, false⟩]
  | 0x64 => [⟨0, 0, 11, -1, 1, true⟩, ⟨2, 0, 5120, 0, 1, false⟩, ⟨4, 4, 255, 40, 1, false⟩, ⟨6, 512, 51200, 1024, 1, false⟩,
      ⟨8, 0, 4095, -1, 1, true⟩, ⟨10, 0, 3, 0, 1, false⟩, ⟨12, 0, 11, 0, 1, false⟩]
  | 0x65 => [⟨0, 0, 1, 0, 1, false⟩, ⟨2, -2147483648, 2147483647, 0, 1, false⟩]
  | 0x66 => [⟨0, 0, 65535, 0x88B5, 1, false⟩, ⟨2, 0, 0xFFFFFFFFFFFF, 0, 1, false⟩]
  | _ => []

/-- Rows of GROUP 0x51 (R391, R392) by kind of INSTANCE: profile, quantity, request table. -/
def srbTable (inst : Nat) : List ParRow :=
  if inst < 4 then [⟨0, 0, 1, 0, 2, false⟩, ⟨2, 1, 5000, 200, 2, false⟩, ⟨4, 1, 10000, 200, 2, false⟩, ⟨6, 1, 255, 4, 2, false⟩]
  else if 0x10 ≤ inst ∧ inst < 0x18 then
    [⟨0, 0, 8191, -1, 2, true⟩, ⟨2, 0, 1, 0, 2, false⟩, ⟨4, 1, 65535, 100, 2, false⟩, ⟨6, 1, 5000, 150, 2, false⟩,
     ⟨8, 1, 1000, 20, 2, false⟩, ⟨10, 10, 20000, 10, 2, false⟩, ⟨12, 1, 5000, 50, 2, false⟩, ⟨14, 1, 8, 2, 2, false⟩]
  else if inst = 0x20 then
    [⟨0, 0, 3, 0, 2, false⟩, ⟨2, 1, 100, 2, 2, false⟩, ⟨4, 5, 1000, 100, 2, false⟩, ⟨6, 0, 0xFFFFFFFF, -1, 2, true⟩,
     ⟨8, 0, 0xFFFFFFFF, -1, 2, true⟩, ⟨10, 0, 0xFFFFFFFF, -1, 2, true⟩, ⟨12, 5, 200, 20, 2, false⟩,
     ⟨14, 2, 1000, 20, 2, false⟩, ⟨16, 0, 1, 1, 2, false⟩]
  else []

/-- PARAM_ID of R356. -/
def pid (group inst item : Nat) : Nat := group * 2 ^ 24 + inst * 2 ^ 8 + item

/-- Dividers of R272 by output: C0–C2, E0–E2, A0, A1, B0, B1, D0, D1. -/
def clkDiv (k : Nat) : Int := ([8, 4, 128, 8, 4, 128, 33, 32, 33, 32, 80, 32] : List Int).getD k 1

/-- What R370, R413, R439, R455, R472 and R496 say of a source: class, level source, reaction level, converter
block, fixed. -/
structure FaultInfo where
  cls   : Nat
  level : Bool
  dflt  : Nat
  block : Bool := false
  fixed : Bool := false
deriving DecidableEq, Repr

/-- Instances of a row that the variant has (R2). -/
def inRow (n base count : Nat) : Bool := base ≤ n && n < base + count

/-- The catalogue of fault sources; none for a reserved number. -/
def faultInfo (n : Nat) : Option FaultInfo :=
  if n = 0 then some ⟨0, true, 4, false, true⟩
  else if n = 1 then some ⟨0, false, 1, false, false⟩
  else if n = 2 then some ⟨0, false, 1, false, false⟩
  else if n = 3 then some ⟨0, true, 3, true, false⟩
  else if n = 4 then some ⟨0, false, 4, true, false⟩
  else if n = 5 then some ⟨0, true, 2, true, false⟩
  else if n = 6 then some ⟨0, true, 4, true, true⟩
  else if n = 7 then some ⟨0, true, 4, true, false⟩
  else if inRow n 8 12 then some ⟨0, true, 2, true, false⟩
  else if inRow n 32 2 then some ⟨0, false, 2, true, true⟩
  else if inRow n 34 3 then some ⟨0, true, 4, true, true⟩
  else if n = 37 then some ⟨0, false, 4, true, true⟩
  else if n = 38 then some ⟨0, true, 4, true, true⟩
  else if n = 39 then some ⟨0, true, 2, true, true⟩
  else if inRow n 40 3 then some ⟨0, true, 1, false, true⟩
  else if n = 43 then some ⟨0, false, 1, false, true⟩
  else if inRow n 64 32 then some ⟨0, true, 2, false, false⟩
  else if inRow n 96 32 then some ⟨1, true, 1, false, false⟩
  else if inRow n 128 32 then some ⟨2, false, 1, false, false⟩
  else if inRow n 160 12 then some ⟨1, false, 2, true, false⟩
  else if inRow n 172 12 then some ⟨1, false, 1, false, false⟩
  else if inRow n 184 12 then some ⟨3, true, 0, false, false⟩
  else if inRow n 196 12 then some ⟨3, false, 0, false, false⟩
  else if inRow n 208 12 then some ⟨1, true, 1, false, false⟩
  else if inRow n 220 12 then some ⟨2, true, 1, false, false⟩
  else if inRow n 232 12 then some ⟨3, false, 0, false, false⟩
  else if inRow n 244 2 then some ⟨2, true, 1, false, false⟩
  else if inRow n 246 2 then some ⟨2, false, 1, false, false⟩
  else if inRow n 248 2 then some ⟨1, false, 1, false, false⟩
  else if inRow n 250 14 then some ⟨2, true, 1, false, false⟩
  else if inRow n 264 4 then some ⟨1, false, 1, false, false⟩
  else if n = 268 then some ⟨3, false, 0, false, false⟩
  else if inRow n 269 7 then some ⟨2, false, 1, false, false⟩
  else if n = 276 ∨ n = 278 then some ⟨2, true, 1, false, false⟩
  else if n = 277 ∨ n = 279 then some ⟨2, false, 1, false, false⟩
  else if inRow n 280 6 then some ⟨2, true, 1, false, false⟩
  else if inRow n 286 6 then some ⟨3, false, 0, false, false⟩
  else if inRow n 300 3 then some ⟨2, true, 1, false, false⟩
  else if inRow n 303 3 then some ⟨1, false, 1, false, false⟩
  else if n = 306 then some ⟨0, false, 2, false, false⟩
  else if n = 307 then some ⟨2, false, 1, false, false⟩
  else if n = 308 then some ⟨2, true, 1, false, false⟩
  else if n = 309 then some ⟨1, true, 1, false, false⟩
  else if n = 310 then some ⟨2, false, 1, false, false⟩
  else if n = 340 then some ⟨3, false, 0, false, false⟩
  else if n = 352 then some ⟨2, true, 1, false, false⟩
  else if n = 353 then some ⟨0, true, 4, true, false⟩
  else if n = 354 then some ⟨2, true, 1, false, false⟩
  else if n = 355 then some ⟨3, false, 0, false, false⟩
  else if n = 356 then some ⟨2, true, 1, false, false⟩
  else if n = 357 then some ⟨0, true, 4, true, false⟩
  else if inRow n 368 3 then some ⟨2, false, 1, false, false⟩
  else if n = 371 then some ⟨3, false, 0, false, false⟩
  else none

/-- The block-reset domain of a source (R370). -/
def faultDomain (n : Nat) : Option BlockDomain :=
  if n = 3 then some .fabric
  else if inRow n 64 32 then some (.basinPort (n - 64))
  else if inRow n 128 32 then some (.basinPort (n - 128))
  else if inRow n 208 12 then some (.pulseChannel (n - 208))
  else if inRow n 220 12 then some (.pulseChannel (n - 220))
  else if inRow n 252 8 then some (.stationPort (n - 252))
  else none

/-- A source whose resource the variant lacks is never asserted (R370). -/
def faultAbsent (v : Variant) (n : Nat) : Bool :=
  v == .sv8x16 && (inRow n 14 6 || inRow n 80 16 || inRow n 112 16 || inRow n 144 16 || inRow n 166 6 ||
    inRow n 178 6 || inRow n 190 6 || inRow n 202 6)

/-- The row of a PARAM_ID. -/
def parRow (id : Nat) : Option ParRow :=
  let g := id / 2 ^ 24
  let inst := id / 2 ^ 8 % 2 ^ 16
  (if g = 0x51 then srbTable inst else parTable g).find? (fun r => r.item = id % 2 ^ 8)

/-- Default of a parameter: its table's, with the defaults that depend on other values (R33, R125, R164,
R258, R272, R370). -/
def parDflt (par : SMap Int) (arms : SMap (List Member)) (id : Nat) : Int :=
  let g : Nat := id / 2 ^ 24
  let inst : Nat := id / 2 ^ 8 % 2 ^ 16
  let item : Nat := id % 2 ^ 8
  let base : Int := match parRow id with | some r => r.dflt | none => 0
  if g = 0x01 ∧ item = 10 then (inst : Int) % (par.get (pid 1 (inst / 256) 8) 1)
  else if g = 0x02 ∧ item = 4 then max 2 (Int.ediv (15000 + par.get (pid 1 0 0) 1000 - 1) (par.get (pid 1 0 0) 1000))
  else if g = 0x10 ∧ item = 2 then ((arms.get inst []).length : Int)
  else if g = 0x31 ∧ item = 2 then (inst : Int)
  else if g = 0x31 ∧ item = 4 then (if inst = 0 then 3 else 0)
  else if g = 0x40 ∧ item = 8 then clkDiv inst
  else if g = 0x50 ∧ item = 0 then ((match faultInfo inst with | some f => f.dflt | none => 0) : Int)
  else if g = 0x50 ∧ item = 2 then (match faultInfo inst with | some f => (b2n f.block : Int) | none => 0)
  else base

/-- A parameter's value among given values. -/
def parOf (par : SMap Int) (arms : SMap (List Member)) (id : Nat) : Int :=
  match par.find id with
  | some v => v
  | none => parDflt par arms id

/-- Arm tables of the plate in force. -/
def armTab (s : State) : SMap (List Member) := match s.cfg.plate with | some p => p.arms | none => []

/-- The value in force of a parameter (R355). -/
def par (s : State) (group inst item : Nat) : Int := parOf s.cfg.par (armTab s) (pid group inst item)

/-- As a natural number. -/
def parN (s : State) (group inst item : Nat) : Nat := (par s group inst item).toNat

/-- Tcc in ticks (R33: 10 ns is four ticks). -/
def tccTicks (s : State) : Nat := parN s 1 0 0 * 4
/-- CUTOFF in ticks. -/
def cutoffTicks (s : State) : Nat := parN s 1 0 2 * 4
/-- The frame deadline in ticks from the cycle start (R40). -/
def deadlineTicks (s : State) : Nat := cutoffTicks s + 340
/-- The fire-offset unit as a rational number of ns (R33). -/
def fireUnit (s : State) : Rat := ((2 ^ parN s 1 0 6 : Nat) : Rat) / 4
/-- Tcc in fire-offset units, T of R137. -/
def tUnits (s : State) : Rat := (parN s 1 0 0 : Rat) * 10 / fireUnit s

/-- Named moorings of a port in report order (R204). -/
def portOrder (s : State) (p : Nat) : List Nat :=
  match s.cfg.plate with | some pl => pl.order.get p [] | none => []

/-- The plate names the port. -/
def portNamed (s : State) (p : Nat) : Bool :=
  match s.cfg.plate with | some pl => (pl.order.find p).isSome && p < nPorts s | none => false

/-- Ports that the plate names. -/
def namedPorts (s : State) : List Nat := (List.range (nPorts s)).filter (portNamed s)

/-- The plate names the mooring. -/
def moorNamed (s : State) (p m : Nat) : Bool := (portOrder s p).contains m

/-- CELL_TYPE of a mooring (R205). -/
def cellType (s : State) (ci : Nat) : CellType :=
  match parN s 3 ci 10 with | 0 => .halfBridge | 1 => .fullBridge | _ => .gauge

/-- A gauge mooring. -/
def isGauge (s : State) (ci : Nat) : Bool := cellType s ci == .gauge

/-- REQUIRED of a mooring (R205). -/
def required (s : State) (ci : Nat) : Bool := par s 3 ci 12 == 1

/-- Working generation of a port (R164). -/
def basinGen (s : State) (p : Nat) : Gen := Gen.ofCode (parN s 2 p 0)

/-- Arms that the plate uses. -/
def armsUsed (s : State) : List Nat := ((armTab s).keys).filter (· < nArms s)

/-- Members of an arm. -/
def members (s : State) (a : Nat) : List Member := (armTab s).get a []

/-- The arm and member entry of a cell index (R124: at most one). -/
def memberOf (s : State) (ci : Nat) : Option (Nat × Member) :=
  (armsUsed s).findSome? (fun a => ((members s a).find? (fun m => m.ci = ci)).map (fun m => (a, m)))

/-- Nodes of the graph (R77). -/
def nodes (s : State) : List NodeDef :=
  match s.cfg.plate with | some p => p.nodes.take p.hdr.nodeCount.toNat | none => []

/-- A node by number. -/
def node? (s : State) (n : Nat) : Option NodeDef := (nodes s)[n]?

/-- A parameter stage of the active bank (R17, R99). -/
def pstage (s : State) (k : Nat) : PStage := s.cfg.stages.get k { val := { e := -128, m := [0] } }

/-- A fault source's LEVEL, CONV_BLOCK and EVT_ROUTE in force (R373); a fixed source keeps its own. -/
def faultLevel (s : State) (n : Nat) : Nat :=
  match faultInfo n with
  | some f => if f.fixed then f.dflt else parN s 0x50 n 0
  | none => 0
/-- CONV_BLOCK in force. -/
def faultBlock (s : State) (n : Nat) : Bool :=
  match faultInfo n with
  | some f => if f.fixed then f.block else par s 0x50 n 2 == 1
  | none => false

end Sys2Proof.Machine
end

