-- ==== Sys2Proof/Machine/Mail.lean ====
section
/-! DEFINITION. What the firmware and the mailbox logic do for every subsystem: the timebase's advance,
MSI-X vectors, mailbox bits, queued messages and events (R254, R313, R318, R319, R335, R350). -/

namespace Sys2Proof.Machine

/-! ### Time -/

/-- Device states in which CT takes the value of the active domain at every tick (R264). -/
def ctFollows (s : State) : Bool :=
  match s.dev.state with | .reset | .boot | .idle => true | _ => false

/-- `n` ticks of the timebase (R254); the counters stand still until the ticks run (R488). -/
def advance (n : Nat) (s : State) : State :=
  { s with now := s.now + n,
           time := if s.dev.ticksRun then advanceTime (ctFollows s) (slewStep (par s 0x32 0 2)) n s.time
                   else s.time }

/-- Bring the clock to a tick; a tick that has passed changes nothing. -/
def advanceTo (t : Nat) (s : State) : State := if s.now < t then advance (t - s.now) s else s

/-- One tick with no command waiting (log 3). -/
def tick (s : State) : State := advance 1 s

/-- CT in units of 2^-32 ns. -/
def ctNow (s : State) : Nat := s.time.ct.toNat

/-- Ticks since the current cycle's start (TICK_PHASE of R330). -/
def tickPhase (s : State) : Nat := if s.cyc.running then s.now - s.cyc.startTick else 0

/-- A counter as a host reads it: seconds 6 bytes, nanoseconds 4 bytes, 16 bits of fraction (R256). -/
def stampBytes (c : TimeCtr) : List Byte := be 6 c.sec.toNat ++ be 4 c.ns.toNat ++ be 2 (c.frac.toNat / 2 ^ 16)

/-! ### Vectors (R313) -/

/-- An occurrence of a vector's cause. A masked vector keeps its pending bit; an endpoint without identity
sends nothing (R487, R497). -/
def vector (v : Nat) (s : State) : State :=
  if !s.host.cfgReady then s
  else if s.host.vecMask.getLsbD v then { s with host := { s.host with vecPend := s.host.vecPend ||| BitVec.ofNat 32 (2 ^ v) } }
  else { s with host := { s.host with due := s.host.due ++ [v] } }

/-! ### Mailboxes (R314–R319, R328) -/

/-- Mailbox `n`. -/
def mget (s : State) (n : Nat) : Mbx := s.mbx.get n {}
/-- Change mailbox `n`. -/
def mset (n : Nat) (f : Mbx → Mbx) (s : State) : State := { s with mbx := s.mbx.upd n {} f }

/-- A bit of INT_STATUS is set: 0 H2F_EMPTY, 1 F2H_READY, 2 SESSION_RESET, 3 OVERRUN. A rise whose enable
bit is set is a cause of vector n (R313); events of MBX14 are copied into SPI_STATUS (R326). -/
def intBit (n b : Nat) (s : State) : State :=
  let m := mget s n
  let rise := !m.intStatus.getLsbD b
  let s := mset n (fun m => { m with intStatus := m.intStatus ||| BitVec.ofNat 4 (2 ^ b) }) s
  let s := if rise && n < 8 && m.intEnable.getLsbD b then vector n s else s
  if n = 14 ∧ b ≠ 1 then
    { s with host := { s.host with spiSticky := s.host.spiSticky ||| (if b = 0 then 1#4 else if b = 2 then 4#4 else 8#4) } }
  else s

/-- HOST_WAKE_N is driven low (R326). -/
def hostWake (s : State) : Bool := (mget s 14).f2hFull || s.host.spiSticky != 0

/-! ### Frames that leave on station ports (R229, R243, R244, R249) -/

/-- The pair is formed (R243). -/
def pairOn (s : State) (q : Nat) : Bool := match s.cfg.plate with | some pl => q < 2 && pl.prpPairs.testBit q | none => false

/-- The port is one of a PRP pair. -/
def inPair (s : State) (p : Nat) : Bool := p < 4 && pairOn s (p / 2)

/-- The redundancy control trailer as it is sent (R244, R7): sequence number, LanId, LSDUsize, suffix. -/
def rctBytes (sq : BitVec 16) (lan : Nat) (size : BitVec 12) : List Byte :=
  be 2 sq.toNat ++ be 2 ((0xA + lan) * 4096 + size.toNat) ++ be 2 0x88FB

/-- Ports on which a frame for port `p` leaves: both of a pair, where they have link (R244). -/
def txPorts (s : State) (p : Nat) : List Nat :=
  (if inPair s p then [p / 2 * 2, p / 2 * 2 + 1] else [p]).filter (fun q => (s.stn.ports.get q {}).up)

/-- A frame leaves on a port, on a pair with one sequence number for both copies (R244). -/
def stSend (p : Nat) (dst : BitVec 48) (tag : Nat → Option (BitVec 16)) (et : Nat) (body : TxBody) (s : State) : Stn :=
  let sq := s.stn.prpSeq.get (p / 2) 0
  let size := Config.lsduSize s.stn.sent.length
  let f := fun q => { port := q, dst := dst, src := BitVec.ofNat 48 (parN s 0x30 q 8), tag := tag q, etherType := et, body := body,
                      trailer := if inPair s p then rctBytes sq (q % 2) size else [] : TxFrame }
  { s.stn with sent := s.stn.sent ++ (txPorts s p).map f,
               prpSeq := if inPair s p then s.stn.prpSeq.set (p / 2) (sq + 1) else s.stn.prpSeq }

/-- TYPE codes of the transport (R249). -/
def udpCode : UdpKind → Nat
  | .open => 1 | .openAck => 2 | .h2fData => 3 | .empty => 4 | .reject => 5 | .f2hData => 6 | .f2hAck => 7 | .close => 8
  | .sessionReset => 9 | .keepalive => 10 | .other => 0

/-- The datagram type of a TYPE code. -/
def udpKindOf (n : Nat) : UdpKind :=
  match [UdpKind.open, .openAck, .h2fData, .empty, .reject, .f2hData, .f2hAck, .close, .sessionReset, .keepalive].find? (fun k => udpCode k = n) with
  | some k => k
  | none => .other

/-- STATUS codes of the transport (R249). -/
def udpStatus : Status → Nat
  | .mbxFull => 1 | .flushed => 2 | .noSession => 3 | .noMailbox => 4 | .sequence => 5 | .length => 6 | _ => 0

/-- The UDP payload of a datagram (R249): the 16-byte header, most significant byte first, and PAYLOAD. -/
def udpBytes (x : UdpOut) : List Byte :=
  be 1 (udpCode x.kind) ++ be 1 (udpStatus x.st) ++ be 1 x.mbx ++ be 1 0 ++ be 4 x.sq.toNat ++ be 4 x.tag.toNat ++
    be 2 x.payload.length ++ be 2 0 ++ x.payload

/-- A datagram of the mailbox transport leaves for a binding's host (R248, R249). -/
def udpSend (b : Bind) (k : UdpKind) (st : Status) (mbx : Nat) (sq : Word) (payload : List Byte) (s : State) : State :=
  let x : UdpOut := { host := b.host, udp := b.udp, port := b.port, kind := k, st := st, mbx := mbx, sq := sq, tag := b.tag, payload := payload }
  { s with stn := { stSend b.port b.mac (fun _ => none) 0x0800 (.udp b.host b.udp (udpBytes x)) s with outbox := s.stn.outbox ++ [x] } }

/-- A mailbox on Ethernet (R314). -/
def onUdp (n : Nat) : Bool := 8 ≤ n && n ≤ 13

/-- The H2F side becomes empty, taken or flushed (R315, R321): H2F_EMPTY on PCI Express and SPI, an EMPTY
datagram on Ethernet. -/
def h2fEmpty (n : Nat) (flushed : Bool) (s : State) : State :=
  let s := mset n (fun m => { m with h2fFull := false, emptyStatus := flushed }) s
  let s := intBit n 0 s
  let s := if n = 14 ∧ flushed then { s with host := { s.host with spiSticky := s.host.spiSticky ||| 2#4 } } else s
  match onUdp n, s.stn.binds.find n with
  | true, some b =>
    udpSend b .empty (if flushed then .flushed else .ok) n b.h2fSeq []
      { s with stn := { s.stn with binds := s.stn.binds.set n { b with taken := true } } }
  | _, _ => s

/-- Messages of a queue that are events. -/
def isEvent (m : Msg) : Bool := m.kind = 3

/-- Remove the oldest event of a queue. -/
def dropEvent : List Msg → List Msg
  | [] => []
  | m :: ms => if isEvent m then ms else m :: dropEvent ms

/-- Queue a message behind the F2H side (R318, R319): a full queue loses its oldest event, and an event that
finds only responses is dropped itself. -/
def queueMsg (n : Nat) (msg : Msg) (s : State) : State :=
  mset n (fun m =>
    if m.f2h.length < 8 then { m with f2h := m.f2h ++ [msg] }
    else if m.f2h.any isEvent then { m with f2h := dropEvent m.f2h ++ [msg], eventsLost := cnt32 m.eventsLost }
    else if isEvent msg then { m with eventsLost := cnt32 m.eventsLost }
    else { m with f2h := m.f2h ++ [msg] }) s

/-- Queue the response of a command; its reserved place becomes the queue place (R319, R335). -/
def respond (n : Nat) (tag : BitVec 16) (op : Nat) (st : Status) (body : List Byte) (s : State) : State :=
  queueMsg n { kind := 2, opcode := op, status := st, tag := tag, sess := (mget s n).epoch, role := s.dev.roleEpoch, body := body }
    (mset n (fun m => { m with reserved := m.reserved - 1 }) s)

/-- The response falls due for a session that a sender reset ended: dropped and counted (R322). -/
def dropResponse (n : Nat) (s : State) : State :=
  mset n (fun m => { m with reserved := m.reserved - 1, respDropped := cnt32 m.respDropped }) s

/-- The response of a deferred command, for the session that sent it. -/
def respondLate (n : Nat) (epoch : Word) (tag : BitVec 16) (op : Nat) (st : Status) (body : List Byte) (s : State) : State :=
  if (mget s n).epoch = epoch then respond n tag op st body s else dropResponse n s

/-- A response of several parts: one place until the last part is queued; each further part follows when the
one before has left the side (R335). -/
def respondParts (n : Nat) (epoch : Word) (tag : BitVec 16) (op : Nat) (bodies : List (List Byte)) (s : State) : State :=
  if (mget s n).epoch ≠ epoch then dropResponse n s else
  let k := bodies.length
  let msgs : List Msg := bodies.zipIdx.map (fun (b, i) =>
    { kind := 2, opcode := op, tag := tag, part := i, more := i + 1 < k, sess := epoch, role := s.dev.roleEpoch, body := b })
  match msgs with
  | [] => s
  | [m] => queueMsg n m (mset n (fun x => { x with reserved := x.reserved - 1 }) s)
  | m :: ms => queueMsg n m (mset n (fun x => { x with parts := ms }) s)

/-- Firmware sends an event of a group to every session whose EVENT_MASK has its bit, and one that carries a
command's tag to that command's session in any case (R350). -/
def eventTag (own : Option (Nat × Word)) (tag : BitVec 16) (code bit : Nat) (body : List Byte) (s : State) : State :=
  if !s.dev.mpcReady then s else
  (List.range 16).foldl (fun s n =>
    let m := mget s n
    let mine := match own with | some (k, e) => k = n && e = m.epoch | none => false
    if m.role.isSome && (mine || m.mask.getLsbD bit) then
      queueMsg n { kind := 3, opcode := code, tag := tag, sess := m.epoch, role := s.dev.roleEpoch, body := body } s
    else s) s

/-- An event that reports on no command. -/
def event (code bit : Nat) (body : List Byte) (s : State) : State := eventTag none 0 code bit body s

/-- SCHEDULED_RESULT for a command that waited (R350). -/
def scheduledResult (w : Waiting) (st : Status) (cycle : CycleNo) (s : State) : State :=
  eventTag (some (w.mbx, w.epoch)) w.tag 0x83 2 (be 1 w.opcode ++ be 1 st.code ++ be 6 cycle.toNat) s

/-- PORT_CHANGE (R350). -/
def portChange (port st : Nat) (s : State) : State := event 0x89 6 (be 1 port ++ be 1 st) s

/-- A scan on a lane whose link drops ends (R253). -/
def scanDrop (lane : Nat) (s : State) : State :=
  match s.stn.scan with
  | some x =>
    if x.lane = lane then respondLate x.mbx x.epoch x.tag 0x46 .aborted [] { s with stn := { s.stn with scan := none } } else s
  | none => s

/-- A station port's link goes down (R232). -/
def linkDown (p : Nat) (s : State) : State :=
  if (s.stn.ports.get p {}).up then
    scanDrop p (portChange (32 + p) 0 { s with stn := { s.stn with ports := s.stn.ports.upd p {} (fun x => { x with up := false }) } })
  else s

/-! ### Device outputs and session ends -/

/-- A session is bound to the mailbox. -/
def sessionOf (s : State) (n : Nat) : Bool := (mget s n).role.isSome

/-- A session ends (R336, R344): the epoch rises, and an owner's staging area is emptied unless a commit is
pending. `lost` sets SESSION_RESET (R321, R322). -/
def endSession (n : Nat) (lost : Bool) (s : State) : State :=
  let m := mget s n
  let owner := s.pound.owner == some (n, m.epoch)
  let had := m.role.isSome
  let s := mset n (fun m => { m with sessOpen := false, role := none, mask := 0, credId := 0, party := 0, nonce := none,
                                     epoch := if had then m.epoch + 1 else m.epoch }) s
  let s := if lost then intBit n 2 s else s
  if had && owner && s.pound.commit.isNone then
    { s with pound := { s.pound with owner := none, entries := [], load := none, image := [], plate := none,
                                     check := none, signs := [] } }
  else s

/-- The session of one mailbox ends from outside (R322, R336): queued responses and the one in the side are
dropped and counted, what was doorbelled is still to be executed. -/
def senderEnd (n : Nat) (lost : Bool) (s : State) : State :=
  let m := mget s n
  let inSide := match m.side with | some x => !isEvent x | none => false
  let queued := (m.f2h.filter (fun x => !isEvent x)).length
  let left := m.reserved + b2n m.h2fFull
  let g := match m.role with
    | some r => if left = 0 then none else some { epoch := m.epoch, role := r, party := m.party, left := left }
    | none => m.ghost
  let dropped := m.respDropped + queued + b2n inSide
  endSession n lost (mset n (fun m =>
    { m with f2h := [], side := none, f2hFull := false, intStatus := if m.side.isSome then m.intStatus &&& 0xD#4 else m.intStatus,
             respDropped := min 0xFFFFFFFF dropped, ghost := g, parts := [],
             h2f := if m.h2fFull then m.h2f else [] }) s)

/-- A sender reset of one mailbox (R322): SESSION_RESET is set if a session ended. -/
def senderReset (n : Nat) (s : State) : State := senderEnd n (mget s n).role.isSome s

/-- What a receiver reset leaves of a mailbox whose H2F side is empty. -/
def mbxCleared (m : Mbx) : Mbx :=
  { m with f2h := [], side := none, f2hFull := false, reserved := 0, parts := [],
           intStatus := if m.side.isSome then m.intStatus &&& 0xD#4 else m.intStatus, ghost := none,
           locked := false, authFails := [], coreAwake := false }

/-- The transport has no F2H_DATA outstanding once the F2H side is cleared (R251, R321). -/
def bindCleared (n : Nat) (s : State) : State :=
  { s with stn := { s.stn with binds := match s.stn.binds.find n with
      | some b => s.stn.binds.set n { b with outstanding := false, repeats := 0 }
      | none => s.stn.binds } }

/-- A receiver reset of one mailbox. -/
def receiverResetOne (n : Nat) (s : State) : State :=
  let m := mget s n
  endSession n m.role.isSome (bindCleared n (mset n mbxCleared (if m.h2fFull then h2fEmpty n true s else s)))

/-- A receiver reset (R321): messages not taken are flushed, sides and queues are cleared, sessions end. -/
def receiverReset (s : State) : State :=
  (List.range 16).foldl (fun s n => receiverResetOne n s) { s with pound := { s.pound with checking := none } }

end Sys2Proof.Machine
end

