-- ==== Sys2Proof/Machine/Reset.lean ====
section
/-! DEFINITION. Entering RESET (R19, R485, R498, R500): what each reset keeps. -/

namespace Sys2Proof.Machine

/-- Store addresses a warm reset keeps: the Capture Store (R456) and the fault log (R381). -/
def keptAddr (a : Nat) : Bool := (0x04000000 ≤ a && a < 0x07000000) || 0x07F00000 ≤ a

/-- A power-on reset (R485): nothing is kept but silicon, the OTP, the test port, which PORST_N does not reset
(R494), and the levels at the pins. -/
def powerOnState (s : State) : State :=
  { State.reset with
    pending := s.pending
    now := s.now
    free := s.free
    otp := s.otp
    jtag := s.jtag
    dev := { State.reset.dev with
             variant := s.dev.variant, stepping := s.dev.stepping, warmN := s.dev.warmN, porstN := false,
             railHold := s.dev.railHold, coldStart := true }
    host := { State.reset.host with perstHigh := s.host.perstHigh } }

/-- A record through a warm reset (R380, R500). -/
def recThroughReset (c : Cause) : Cause := { c with active := false, preReset := c.preReset || c.latched }

/-- A mailbox through a warm reset: a receiver reset (R321), counts and sticky bits kept (log 17). -/
def mbxThroughReset (m : Mbx) : Mbx :=
  { ({} : Mbx) with rejected := m.rejected, reason := m.reason, emptyStatus := m.emptyStatus, intStatus := m.intStatus,
                    h2fCount := m.h2fCount, respDropped := m.respDropped, overruns := m.overruns,
                    eventsLost := m.eventsLost, rejects := m.rejects }

/-- A warm reset (R485): the whole device restarts and keeps what the table lists. -/
def warmState (s0 : State) : State :=
  let s := receiverReset s0
  let p := powerOnState s
  { p with
    dev := { p.dev with
             porstN := s.dev.porstN, coldStart := false, unitId := s.dev.unitId, testStrap := s.dev.testStrap,
             keyStep := s.dev.keyStep, keyTick := s.dev.keyTick, calFailed := s.dev.calFailed,
             calibrated := s.dev.calibrated, bandsDone := s.dev.bandsDone, idleSeen := s.dev.idleSeen,
             faultHold := s.dev.faultHold, faultN := s.dev.faultHold }
    clk := { p.clk with
             bandCache := s.clk.bandCache, bands := s.clk.bands, cacheMisses := s.clk.cacheMisses,
             active := s.clk.active.filter (fun x => x.1 = 0 || x.1 = 3), shadow := s.clk.shadow.filter (fun x => x.1 = 0 || x.1 = 3) }
    time := { p.time with snapSeq := s.time.snapSeq }
    ports := s.ports.mapVals (fun _ x => { ({} : Port) with t_txp := x.t_txp, t_rxp := x.t_rxp })
    mbx := s.mbx.mapVals (fun _ m => mbxThroughReset m)
    host := { p.host with
              ignored := s.host.ignored, spiSticky := s.host.spiSticky, aerUr := s.host.aerUr, aerCa := s.host.aerCa, aerLast := s.host.aerLast,
              sent := s.host.sent }
    obs := { p.obs with timeoutRel := s.obs.timeoutRel }
    fcru := { s.fcru with recs := s.fcru.recs.mapVals (fun _ c => recThroughReset c), traps := [], resetTick := some s.now }
    cap := { p.cap with ch := s.cap.ch.mapVals (fun _ c => { c with st := .idle, doneAt := none, fired := 0, lastTick := none }) }
    tan := { p.tan with mirrorEpoch := s.tan.mirrorEpoch, takeovers := s.tan.takeovers }
    store := s.store.filter (fun c => keptAddr c.1) }

/-- A reaction of level 5 (R19, R377): a warm reset that keeps FAULT_N low until the next IDLE. -/
def level5State (s : State) : State :=
  let w := warmState s
  { w with dev := { w.dev with faultHold := true, faultN := true } }

/-- RESET is released into BOOT (R19, R488): VDD_CORE is requested at 0.80 V, and a boundary-scan instruction
drives no pin any more (R494). -/
def bootState (s : State) : State :=
  { s with dev := { s.dev with state := .boot }, gov := { s.gov with v := 8000, written := 8000, writePend := true },
           jtag := { s.jtag with driving := false, floating := false } }

/-- Some reset holds the device: PORST_N, WARM_RST_N after its filter, or a rail monitor. -/
def heldInReset (s : State) : Bool := !s.dev.porstN || !s.dev.warmN || s.dev.railHold

end Sys2Proof.Machine
end

