-- ==== Sys2Proof/Machine/CapTrig.lean ====
section
/-! DEFINITION. Capture records and triggers (R440, R443–R448, R451, R452): what the engine writes to the Capture
Store, and what a trigger does to the channels that listen to it. -/

namespace Sys2Proof.Machine

/-- CAP_SHARE in bytes (R440). -/
def capShare (s : State) (c : Nat) : Nat := parN s 0x61 c 0 * 262144

/-- Base of a channel's share: shares lie in channel order from 0x0400_0000. -/
def capBase (s : State) (c : Nat) : Nat := 0x04000000 + ((List.range c).map (capShare s)).sum

/-- Channel `c`. -/
def capGet (s : State) (c : Nat) : CapCh := s.cap.ch.get c {}

/-- Entries, bins or cells of the data area. -/
def capCapacity (a : CapArm) : Nat := if a.mode = 0 then a.preCount + a.postCount else if a.mode = 1 then 1024 else 65536

/-- Number of the oldest entry kept (R444, R453). -/
def capOldest (c : CapCh) : Nat :=
  match c.trigW with
  | some w => w - min w c.arm.preCount
  | none => c.written - min c.written (capCapacity c.arm)

/-- LAST_VALID (R443): time-order index of the newest entry. -/
def capLast (c : CapCh) : Nat := if c.arm.mode ≠ 0 ∨ c.written = 0 then 0xFFFFFFFF else c.written - 1 - capOldest c

/-- The 64-byte header (R443), little-endian. -/
def capHeader (n : Nat) (c : CapCh) : List Byte :=
  le 1 n ++ le 1 c.arm.mode ++ le 1 c.arm.srcKind ++ le 1 c.arm.element ++ le 4 c.arm.srcIndex ++
  le 1 c.st.code ++ le 1 c.cause ++ le 1 c.coincident ++
  le 1 (b2n c.overflow + 2 * b2n c.aborted + 4 * b2n c.dataError + 8 * b2n c.plateStop) ++
  le 4 (capCapacity c.arm) ++
  le 4 (if c.arm.mode = 0 then capOldest c % (max 1 (capCapacity c.arm)) else 0) ++ le 4 (capLast c) ++
  le 6 c.trigCycle.toNat ++ le 2 c.trigTick ++
  le 4 (match c.trigW with | some w => if c.arm.mode = 0 then w - capOldest c else 0 | none => 0) ++
  le 4 (min 0xFFFFFFFF c.samples) ++ le 4 c.below ++ le 4 c.above ++ le 4 c.gaps ++ le 4 c.unplotted ++
  le 4 c.arm.modeParam.toNat ++ le 4 c.armSeq.toNat

/-- Store a channel; the header is rewritten when its state changes or it completes. -/
def capPut (n : Nat) (c : CapCh) (hdr : Bool) (s : State) : State :=
  { s with cap := { s.cap with ch := s.cap.ch.set n c },
           store := if hdr then Memory.writes s.store (capBase s n) (capHeader n c) else s.store }

/-- SHIFT and OFFSET applied to a value (R447): b or y. -/
def capScale (a : CapArm) (v : Int) : Int :=
  let p := a.modeParam.toNat
  let off : Int := if p.testBit 23 then (p % 2 ^ 24 : Nat) - (2 ^ 24 : Nat) else (p % 2 ^ 24 : Nat)
  Int.fdiv v ((2 ^ (p / 2 ^ 24 % 32) : Nat) : Int) - off

/-- Add a sample to a histogram or map (R447, R448). -/
def capBin (n : Nat) (c : CapCh) (v : Int) (x : Option Nat) (s : State) : CapCh × List Host.Cell :=
  let b := capScale c.arm v
  let data := capBase s n + 64
  if c.arm.mode = 1 then
    if b < 0 then ({ c with below := cnt32 c.below }, s.store)
    else if 1023 < b then ({ c with above := cnt32 c.above }, s.store)
    else
      let a := data + 4 * b.toNat
      (c, Memory.writes s.store a (le 4 (cnt32 (ofLe (Memory.reads s.store a 4)))))
  else if c.arm.mode = 2 then
    match x with
    | none => ({ c with unplotted := cnt32 c.unplotted }, s.store)
    | some x =>
      if b < 0 then ({ c with below := cnt32 c.below }, s.store)
      else if 255 < b then ({ c with above := cnt32 c.above }, s.store)
      else
        let a := data + 2 * (256 * b.toNat + x)
        (c, Memory.writes s.store a (le 2 (min 0xFFFF (ofLe (Memory.reads s.store a 2) + 1))))
  else (c, s.store)

/-- The sample becomes the trigger sample (R453): CAUSE_TRG is the lowest of the triggers. -/
def capTrigger (c : CapCh) (fired : Nat) : CapCh :=
  { c with st := .postTrigger, cause := ((List.range 8).find? (fun i => fired.testBit i)).getD 0xFF, coincident := fired,
           trigCycle := c.lastCyc, trigTick := c.lastTk, trigW := some (c.written - 1), left := c.arm.postCount - 1 }

/-- Address of the entry written last. -/
def capEntryAddr (s : State) (n : Nat) (c : CapCh) : Nat :=
  capBase s n + 64 + 16 * ((c.written - 1) % (max 1 (capCapacity c.arm)))

/-- Bits of the last entry of a time record set after it was written: FIRED, and TRIGGER. -/
def capMark (n : Nat) (c : CapCh) (bit : Nat) (trig : Bool) (s : State) : List Host.Cell :=
  if c.arm.mode ≠ 0 then s.store else
  let a := capEntryAddr s n c
  let f := Memory.read s.store (a + 13) ||| BitVec.ofNat 8 (2 ^ bit)
  let g := if trig then Memory.read s.store (a + 12) ||| 2#8 else Memory.read s.store (a + 12)
  Memory.write (Memory.write s.store (a + 13) f) (a + 12) g

/-- Trigger `t` fires for one listening channel (R452): it belongs to the sample taken in the same tick, else to the
next one. -/
def trgFireOne (t n : Nat) (s : State) : State :=
  let c := capGet s n
  let live := match c.st with | .preFill | .armed | .postTrigger => c.arm.trgMask.getLsbD t | _ => false
  if !live then s
  else if c.lastTick = some s.now then
    if c.lastArmed && c.st == .armed then
      let c1 := capTrigger c (2 ^ t)
      let (c2, st) := capBin n c1 c1.lastV c1.lastX s
      let st := capMark n c2 t true { s with store := st }
      capPut n { c2 with doneAt := if c2.left = 0 then some (s.cyc.n, tickPhase s) else none } true { s with store := st }
    else
      let now := c.st == .postTrigger && c.trigW == some (c.written - 1)
      let c := if now then { c with coincident := c.coincident ||| 2 ^ t, cause := min c.cause t } else c
      capPut n c false { s with store := capMark n c t false s }
  else capPut n { c with fired := c.fired ||| 2 ^ t } false s

/-- Trigger `t` fires at this tick (R451). -/
def trgFire (t : Nat) (s : State) : State :=
  s.cap.ch.keys.foldl (fun s n => trgFireOne t n s) s

/-- Fire every trigger of a kind that meets a condition. -/
def trgKind (kind : Nat) (p : Nat → Bool) (s : State) : State :=
  (List.range 8).foldl (fun s t => if parN s 0x62 t 0 = kind && p t then trgFire t s else s) s

/-- An assertion fires FAULT triggers that name the source or its class (R451). -/
def trgFault (src cls : Nat) (s : State) : State :=
  trgKind 3 (fun t =>
    let sel := parN s 0x62 t 12
    if sel < 512 then sel = src else (sel - 512).testBit cls) s

/-- A change of DEVICE_STATE or of the SRB state fires STATE triggers (R451). -/
def trgState (s : State) : State := trgKind 4 (fun _ => true) s

end Sys2Proof.Machine
end

