-- ==== Sys2Proof/Machine/Fcru.lean ====
section
/-! DEFINITION. Changes of the device state (R19, R403, R412), and the Fault Collection and Reaction Unit:
assertion, escalation, reaction and clearing of a source (R370–R384, R497, R498). -/

namespace Sys2Proof.Machine

/-! ### The safety die's events (R412) -/

/-- A request is held or registered (R401, R411). -/
def srbHeld (s : State) : Bool := !s.srb.reqs.isEmpty

/-- A stop of a cause is held. -/
def srbHas (s : State) (cause : Nat) : Bool := s.srb.reqs.any (fun r => r.cause = cause)

/-- Body of the SAFETY event. -/
def safetyBody (cause prof k : Nat) (value e : Int) (s : State) : List Byte :=
  be 1 s.srb.st.code ++ be 1 cause ++ be 1 prof ++
  be 1 (b2n (!s.srb.pinA) + 2 * b2n (!s.srb.pinB) + 4 * b2n (srbHas s 2) +
        8 * b2n (s.srb.degraded.get 0 false) + 16 * b2n (s.srb.degraded.get 1 false)) ++
  be 6 s.cyc.n.toNat ++ be 1 k ++ be 1 0 ++ beI 4 value ++ beI 4 e

/-- The SAFETY event. -/
def safetyEvent (cause prof k : Nat) (value e : Int) (s : State) : State :=
  event 0x88 7 (safetyBody cause prof k value e s) s

/-- DETAIL of a safety source: bytes 1 and 10 to 19 of the event (R413). -/
def safetyDetail (cause k : Nat) (value e : Int) : List Byte :=
  be 1 cause ++ be 1 k ++ be 1 0 ++ beI 4 value ++ beI 4 e

/-- The safety die changes state, with its event. -/
def srbGo (st : SrbState) (cause k : Nat) (value e : Int) (s : State) : State :=
  if s.srb.st = st then s else (let t := { s with srb := { s.srb with st := st } }
    trgState (safetyEvent cause t.srb.profile k value e t))

/-- SRB parameters in force, frozen when a ramp starts (R392). -/
def srbFreeze (s : State) : SMap Int := s.cfg.par.filter (fun x => x.1 / 2 ^ 24 = 0x51)

/-- The request that takes effect at a boundary: the oldest registered at least 1.0 µs before it (R402). -/
def srbDue (s : State) : Option SrbReq := s.srb.reqs.find? (fun r => r.tick + 400 ≤ s.now)

/-- Profile of a request: PIN_PROFILE where it names none (R392). -/
def srbProfile (s : State) (r : SrbReq) : Nat := r.profile.getD (parN s 0x51 0x20 0)

/-- RAMPING is entered: t0 is the start of the next cycle, the timeout and the completion count start
(R394, R396, R403). A commanded request is consumed (R401). -/
def srbStartRamp (s : State) : State :=
  let r := (srbDue s).getD ((s.srb.reqs.head?).getD { cause := 0, profile := some 0 })
  srbGo .ramp r.cause 0 0 0 { s with srb := { s.srb with
    t0 := some (s.cyc.n + 1), profile := srbProfile s r, complete := false, timeoutRun := true,
    frozen := srbFreeze s, qs := s.srb.qs.mapVals (fun _ q => { q with i0 := none, zero := 0 }),
    cmdDone := s.srb.cmd.map (fun x => (x.1, x.2, s.cyc.n)) ++ s.srb.cmdDone.filter (fun x => !s.srb.cmd.contains (x.1, x.2.1)),
    cmd := [], reqs := s.srb.reqs.filter (fun r => r.cause ≠ 3) } }

/-- What a change of the device state does to the safety die (R403), but for arming, which follows the
self-test. -/
def srbOnState (new : DevState) (s : State) : State :=
  match s.srb.st, new with
  | .hold, _ => s
  | .armed, .ready => s
  | .armed, .running => s
  | .armed, .ramping => srbStartRamp s
  | .armed, _ => srbGo .hold 0 0 0 0 s
  | .ramp, .blocked => srbGo .hold (if s.srb.complete then 4 else 0) 0 0 0 { s with srb := { s.srb with t0 := none, timeoutRun := false, complete := false } }
  | .ramp, _ => s
  | .tripped, _ => s

/-! ### Device states (R19) -/

/-- The device state changes: FAULT_N (R377), the control phase on entry to RUNNING (R24), vector 11 (R313),
the event STATE_CHANGE (R350), the core voltage (R467) and the safety die (R403). -/
def moveState (new : DevState) (s : State) : State :=
  if s.dev.state = new then s else
  let old := s.dev.state
  let phase := if new = .running ∧ old = .ready then Phase.startup else s.dev.phase
  let hold := s.dev.faultHold && new != .idle
  let s := { s with dev := { s.dev with state := new, phase := phase, faultHold := hold, faultN := hold || new == .faulted || s.cyc.level4 },
                    gov := if fixedVolt new then govCommand 8000 s.gov else s.gov }
  let s := event 0x80 0 (be 1 old.code ++ be 1 new.code ++ be 1 phase.code ++ be 1 0 ++ be 6 s.cyc.n.toNat) (vector 11 s)
  srbOnState new (trgState s)

/-- A change of the control phase alone (R313, R350). -/
def setPhase (p : Phase) (s : State) : State :=
  if s.dev.phase = p then s else
  event 0x80 0 (be 1 s.dev.state.code ++ be 1 s.dev.state.code ++ be 1 p.code ++ be 1 0 ++ be 6 s.cyc.n.toNat)
    (vector 11 { s with dev := { s.dev with phase := p } })

/-! ### Records and summary (R329, R379, R380) -/

/-- The cause record of a source. -/
def rec? (s : State) (src : Nat) : Cause := s.fcru.recs.get src {}

/-- Unacknowledged records of a class. -/
def pendingOf (s : State) (cls : Nat) : Nat := (s.fcru.recs.filter (fun x => x.2.latched && x.2.cls = cls)).length

/-- An unacknowledged class A record exists (R19, R385). -/
def classAPending (s : State) : Bool := 0 < pendingOf s 0

/-- The oldest latched record: FIRST_SOURCE. -/
def firstSource (s : State) : Option Nat :=
  (s.fcru.recs.filter (fun x => x.2.latched)).foldl
    (fun best x => match best with
      | none => some x.1
      | some b => if (rec? s b).firstSeq.toNat ≤ x.2.firstSeq.toNat then some b else some x.1) none

/-- A unit in factory test mode (R387). -/
def factoryMode (s : State) : Bool := s.dev.testStrap && s.dev.keyStep = 3

/-- A level source clears (R371, R380). -/
def clear (src : Nat) (s : State) : State :=
  let r := rec? s src
  let r' := { r with active := false, clearedBeforeRead := r.clearedBeforeRead || (r.latched && !r.read) }
  if r.active then { s with fcru := { s.fcru with recs := s.fcru.recs.set src r' } } else s

/-! ### Block resets (R375) -/

/-- A basin port drops into RELOCK (R180, R184, R375); moorings keep their states. -/
def portRelock (p : Nat) (s : State) : State :=
  let x := s.ports.get p {}
  if x.lane = .dark ∨ x.lane = .relock then s else
  portChange p LaneState.relock.code
    { s with ports := s.ports.set p { x with lane := .relock, relockFrom := x.lane, locked := false, squelch := true } }

/-- A channel stops and its outputs are off at once (R305, R375). -/
def chanOff (c : Pch) : Pch :=
  { c with running := false, waitSync := false, onA := false, onB := false, wantA := false, wantB := false, full := true,
           firstSync := true, cutA := false, cutB := false, trippedNow := false }

/-- Every channel stops (R305). -/
def pulStop (s : State) : State := { s with pul := { s.pul with ch := s.pul.ch.mapVals (fun _ c => chanOff c), syncOut := none } }

/-- The block reset of a domain. -/
def blockReset (d : BlockDomain) (s : State) : State :=
  match d with
  | .fabric =>
    let back := fun k (l : Lane) => { ({} : Lane) with retired := l.retired && !Config.laneSelfTest k s.free, ops := l.ops, busy := l.busy }
    let lanes := s.graph.lanes.mapVals back
    let s := if (lanes.filter (fun x => x.2.retired)).length < 3 then clear 3 s else s
    let freed := (lanes.zip s.graph.lanes).any (fun x => x.2.2.retired && !x.1.2.retired)
    let home := fun k (p : Place) => match node? s k with
      | some n => { p with lane := n.homeLane, home := n.homeLane, moves := if p.lane = n.homeLane then p.moves else min 255 (p.moves + 1) }
      | none => p
    let place := s.graph.place.mapVals home
    let moved := (place.zip s.graph.place).any (fun x => x.1.2.lane != x.2.2.lane)
    let s := if freed then { s with graph := { s.graph with place := place, placeEpoch := s.graph.placeEpoch + b2n moved } } else s
    { s with
      free := s.free + 1
      graph := { s.graph with
                 lanes := lanes,
                 queues := [], pendCount := [], work := [], workStat := [], done := [], waitObs := [] }
      arms := s.arms.mapVals (fun _ a => { a with out := none, dW := a.d, rW := a.r, polW := a.pol, selW := a.sel })
      cyc := { s.cyc with forceMiss := 2, armsDone := [], graphDone := false }
      dev := { s.dev with blockReset := s.dev.blockReset ++ [.fabric] } }
  | .basinPort p => portRelock p { s with dev := { s.dev with blockReset := s.dev.blockReset ++ [.basinPort p] } }
  | .stationPort p => linkDown p s
  | .pulseChannel c =>
    { s with pul := { s.pul with ch := s.pul.ch.upd c {} chanOff },
             dev := { s.dev with blockReset := s.dev.blockReset ++ [.pulseChannel c] } }

/-! ### Assertion and reaction (R372, R376, R379, R382–R384) -/

/-- The unit has a twin to ask: it is ACTIVE in PAIR mode (R376, R378, R430; log 18). -/
def mayRequestTakeover (s : State) : Bool := s.tan.role == .active && par s 0x52 0 0 == 1

/-- A reaction of level 4 (R19, R20, R376, R377, R430): FAULT_N at once, FAULTED at the next boundary, or at once
where no cycle runs. -/
def react4 (block : Bool) (s : State) : State :=
  match s.dev.state with
  | .reset | .faulted => s
  | _ =>
    let s := { s with dev := { s.dev with faultN := true, takeoverReq := s.dev.takeoverReq || mayRequestTakeover s } }
    if s.cyc.running then { s with cyc := { s.cyc with level4 := true, block4 := s.cyc.block4 || block } }
    else pulStop (moveState .faulted s)

/-- The level at which an assertion is applied (R382), with whether it is escalated. -/
def appliedLevel (s : State) (src : Nat) (f : FaultInfo) : Nat × Bool :=
  let lvl := faultLevel s src
  if !f.fixed && 0 < pendingOf s f.cls then
    let l := min 5 (lvl + 1)
    (if l = 3 ∧ (faultDomain src).isNone then 2 else l, true)
  else (lvl, false)

/-- The record after an assertion (R379, R380). -/
def assertRec (s : State) (src : Nat) (f : FaultInfo) (lvl : Nat) (esc block injected : Bool) (detail : List Byte) : Cause :=
  let r := rec? s src
  let sq := s.fcru.seq + 1
  if r.latched then
    { r with applied := max r.applied lvl, escalated := r.escalated || esc, convBlock := r.convBlock || block,
             injected := r.injected || injected, occurrences := cnt32 r.occurrences, lastTime := s.time.ct, lastSeq := sq,
             active := r.active || f.level }
  else
    { cls := f.cls, levelCfg := faultLevel s src, applied := lvl, injected := injected, convBlock := block, escalated := esc,
      active := f.level, latched := true, firstSeq := sq, firstTime := s.time.ct, firstCycle := s.cyc.n, phase := s.dev.phase,
      dstate := s.dev.state, role := s.tan.role, occurrences := 1, lastTime := s.time.ct, lastSeq := sq, detail := detail,
      appliedAt := r.appliedAt }

/-- Level 1: the vector of the class, the routed vector of a source that has one, and the event FAULT (R313, R350, R372). -/
def reactSignal (src : Nat) (f : FaultInfo) (lvl : Nat) (s : State) : State :=
  let s := vector (if f.cls = 0 then 8 else if f.cls = 1 then 9 else 10) s
  let s := if !f.fixed ∧ par s 0x50 src 4 > 0 then vector (15 + parN s 0x50 src 4) s else s
  event 0x82 1 (be 2 src ++ be 1 f.cls ++ be 1 lvl ++ be 4 s.fcru.seq.toNat ++ be 6 s.time.ct.sec.toNat ++ be 4 s.time.ct.ns.toNat) s

/-- Level 2: a trap to firmware that runs (R372). -/
def reactTrap (src : Nat) (s : State) : State :=
  if s.dev.mpcReady then { s with fcru := { s.fcru with traps := s.fcru.traps ++ [src] } } else s

/-- Level 3: the block reset of the source's domain (R375). -/
def reactDomain (src : Nat) (s : State) : State :=
  match faultDomain src with | some d => blockReset d s | none => s

/-- Levels 1 to 3, and the block request of CONV_BLOCK. -/
def reactLow (src : Nat) (f : FaultInfo) (lvl : Nat) (block : Bool) (s : State) : State :=
  let s := if 1 ≤ lvl then reactSignal src f lvl s else s
  let s := if 2 ≤ lvl then reactTrap src s else s
  let s := if 3 ≤ lvl then reactDomain src s else s
  if block ∧ runs s then { s with cyc := { s.cyc with blockReq := true } } else s

/-- Vector, event, trap, block reset and the higher levels of a reaction (R372). -/
def react (src : Nat) (f : FaultInfo) (lvl : Nat) (block : Bool) (s : State) : State :=
  let s := { s with fcru := { s.fcru with recs := s.fcru.recs.upd src {} (fun r => { r with appliedAt := r.appliedAt.set lvl s.now }) } }
  let s := reactLow src f lvl block s
  if lvl = 5 then level5State s else if lvl = 4 then react4 block s else s

/-- The unit is inside the tick of a reset, where an assertion is logged and nothing more (R380, R500). -/
def inReset (s : State) : Bool := s.dev.state == .reset && s.fcru.resetTick == some s.now

/-- An assertion latches its source's record and enters the log (R379, R381). -/
def logSource (src : Nat) (f : FaultInfo) (injected : Bool) (detail : List Byte) (s : State) : State :=
  let a := appliedLevel s src f
  let live := !inReset s
  let lvl := if live then a.1 else 0
  let block := faultBlock s src && live
  let r0 := assertRec s src f lvl (a.2 && live) block injected detail
  let r := if live then r0 else { r0 with preReset := true }
  let sq := s.fcru.seq + 1
  let ent : LogEnt := { seq := sq, source := src, level := lvl, escalated := a.2 && live, block := block, time := s.time.ct }
  { s with fcru := { s.fcru with seq := sq, recs := s.fcru.recs.set src r, ring := s.fcru.ring.set (sq.toNat % 15360) ent } }

/-- A repeated assertion of a latched source within 1 ms of a reaction at its level or above reacts no more (R384). -/
def quietSource (src lvl : Nat) (s : State) : Bool :=
  (rec? s src).latched && lvl ≤ 2 && (rec? s src).appliedAt.any (fun x => lvl ≤ x.1 && s.now - x.2 ≤ 400000)

/-- One assertion of a source, latched, logged and reacted to. -/
def assertSource (src : Nat) (f : FaultInfo) (injected : Bool) (detail : List Byte) (s : State) : State :=
  let lvl := (appliedLevel s src f).1
  let t := trgFault src f.cls (logSource src f injected detail s)
  if inReset s || quietSource src lvl s then t else react src f lvl (faultBlock s src) t

/-- A fault source asserts. A level source that is asserted already, a reserved number and an absent resource do
nothing (R370, R371); a power-on reset holds every record clear (R380). -/
def raise (src : Nat) (detail : List Byte) (s : State) : State :=
  match faultInfo src with
  | none => s
  | some f =>
    if faultAbsent s.dev.variant src || !s.dev.porstN || s.dev.railHold || (f.level && (rec? s src).active) then s
    else assertSource src f false detail s

/-- A source of the safety die asserts, with its SAFETY event (R412, R413). -/
def srbFault (src cause k : Nat) (value e : Int) (s : State) : State :=
  if (rec? s src).active then s
  else safetyEvent cause s.srb.profile k value e (raise src (safetyDetail cause k value e) s)

/-- A level source follows its condition. -/
def levelSource (src : Nat) (on : Bool) (detail : List Byte) (s : State) : State :=
  if on then raise src detail s else clear src s

/-- FLT_CT_OFFSET follows |active TD − CT| (R265): raised beyond CT_OFFSET_ALARM, cleared below half of it. -/
def judgeCtOffset (s : State) : State :=
  let off : Int := if ctFollows s then 0 else ((ctOff s.time).natAbs : Int)
  let alarm : Int := par s 0x32 0 8 * 100 * ((2 ^ 32 : Nat) : Int)
  if alarm < off then raise 280 [] s else if 2 * off < alarm then clear 280 s else s

end Sys2Proof.Machine
end

