-- ==== Sys2Proof/Machine/Bfp.lean ====
section
/-! DEFINITION. Block floating point (R52, R56–R64, R100): operands, terms, accumulation, the output rule, the
shared units, and what one assignment of the pseudocode does to a stage. -/

namespace Sys2Proof.Machine

/-- Flags that a node raises in one cycle (R66). -/
structure NFlags where
  sat   : Bool := false
  dom   : Bool := false
  clamp : Bool := false
deriving DecidableEq, Repr

/-- A computation of a node: a value, and the flags raised on the way. -/
abbrev FM := StateM NFlags

/-- Set SAT. -/
def fmSat : FM Unit := fun f => ((), { f with sat := true })
/-- Set DOMAIN where a condition holds. -/
def fmDom (c : Bool) : FM Unit := fun f => ((), { f with dom := f.dom || c })
/-- Set CLAMP where a condition holds. -/
def fmClamp (c : Bool) : FM Unit := fun f => ((), { f with clamp := f.clamp || c })

/-- One element as an operand: mantissa, exponent, and whether it is extended (R56, R57). -/
structure Opd where
  m : Int
  e : Int
  ext : Bool := false
deriving DecidableEq, Repr

/-- The exact value of an element (R56, R57). -/
def Opd.val (a : Opd) : Rat := (a.m : Rat) * pow2 (a.e - (if a.ext then 46 else 23))

/-- A term of R61: weight 2^(e − 46) per unit of t. -/
structure Term where
  t : Int
  e : Int
deriving DecidableEq, Repr

/-- Shift right by a number of places with floor. -/
def shr (t : Int) (k : Nat) : Int := Int.fdiv t ((2 ^ k : Nat) : Int)

/-- A product (R61). -/
def mulT (a b : Opd) : Term :=
  match a.ext, b.ext with
  | false, false => ⟨a.m * b.m, a.e + b.e⟩
  | true, true => ⟨shr (a.m * b.m) 48, a.e + b.e + 2⟩
  | _, _ => ⟨shr (a.m * b.m) 24, a.e + b.e + 1⟩

/-- An element on its own (R61). -/
def oneT (a : Opd) : Term := if a.ext then ⟨a.m, a.e⟩ else ⟨a.m * 8388608, a.e⟩

/-- A subtracted term: formed, then negated. -/
def negT (x : Term) : Term := ⟨-x.t, x.e⟩

/-- An integer graph input (R60, R61). -/
def intT (x : Int) : Term := ⟨x * 32768, 31⟩

/-- The largest exponent among terms that are not zero. -/
def accExp (ts : List Term) : Int :=
  match ts.filter (fun x => x.t != 0) with
  | [] => 0
  | x :: xs => xs.foldl (fun s y => max s y.e) x.e

/-- The exact content of an accumulation (R61). -/
def accum (ts : List Term) : Rat :=
  let s := accExp ts
  let a := (ts.filter (fun x => x.t != 0)).foldl (fun n x => n + shr x.t (s - x.e).toNat) 0
  (a : Rat) * pow2 (s - 46)

/-- `mant` of R62 at one exponent. -/
def mantAt (f e : Int) (x : Rat) : Int := rhe (x * pow2 (f - e))

/-- A mantissa of width `w` holds the number. -/
def fitsW (w : Nat) (m : Int) : Bool := -(2 ^ (w - 1) : Int) ≤ m && m ≤ 2 ^ (w - 1) - 1

/-- The upward search of R62 for the exponent, by the exponents left to try. -/
def outExp (w : Nat) (f : Int) (xs : List Rat) : Nat → Int → Int
  | 0, e => e
  | n + 1, e => if xs.all (fun x => fitsW w (mantAt f e x)) then e else outExp w f xs n (e + 1)

/-- The output rule (R62, R63) for the exact element values of one stage. -/
def outRule (w : Nat) (efloor eceil : Int) (xs : List Rat) : FM Stage := fun fl =>
  let f : Int := if w = 24 then 23 else 46
  let e := outExp w f xs (eceil - efloor).toNat efloor
  let ms := xs.map (mantAt f e)
  ({ e := e, m := ms.map (clampI (-(2 ^ (w - 1))) (2 ^ (w - 1) - 1)) },
   { fl with sat := fl.sat || ms.any (fun m => !fitsW w m) })

/-- The output rule where no flag is set (R59, R60, R114). -/
def outPlain (w : Nat) (efloor eceil : Int) (xs : List Rat) : Stage := (outRule w efloor eceil xs {}).1

/-- A stage as operands: plain or extended. -/
structure Vec where
  st  : Stage := {}
  ext : Bool := false
deriving DecidableEq, Repr

/-- Element `i`; a stage of length 1 is broadcast (R99, R101). -/
def Vec.el (v : Vec) (i : Nat) : Opd :=
  { m := if v.st.m.length = 1 then v.st.m.getD 0 0 else v.st.m.getD i 0, e := v.st.e, ext := v.ext }

/-- A plain stage as operands. -/
def plainV (s : Stage) : Vec := { st := s }
/-- An extended stage as operands. -/
def extV (s : Stage) : Vec := { st := s, ext := true }
/-- One element as a stage of length 1. -/
def Opd.vec (a : Opd) : Vec := { st := { e := a.e, m := [a.m] }, ext := a.ext }

/-- One assignment over `l` elements from exact values: the output rule with a node's limits (R100). -/
def asgVal (n : NodeDef) (w l : Nat) (f : Nat → Rat) : FM Vec := fun fl =>
  let (s, fl) := outRule w n.efloor n.eceil ((List.range l).map f) fl
  ({ st := s, ext := w = 48 }, fl)

/-- One assignment over `l` elements, each a sum of terms: one accumulation and the output rule (R100). -/
def asg (n : NodeDef) (w l : Nat) (f : Nat → List Term) : FM Vec := asgVal n w l (fun i => accum (f i))

/-- Built-in constants (R100): 24-bit mantissas at the exponent that normalises them. -/
def kOne : Opd := { m := 4194304, e := 1 }
/-- 2. -/
def kTwo : Opd := { m := 4194304, e := 2 }
/-- 1/2. -/
def kHalf : Opd := { m := 4194304, e := 0 }
/-- 1/3. -/
def kThird : Opd := { m := 5592405, e := -1 }
/-- 2/3. -/
def kTwoThirds : Opd := { m := 5592405, e := 0 }
/-- 1/√3. -/
def kInvSqrt3 : Opd := { m := 4843165, e := 0 }
/-- √3/2. -/
def kSqrt3Half : Opd := { m := 7264748, e := 0 }

/-! Exact selection (R100, R102): the operand keeps its own kind. -/

/-- The lesser of two operands. -/
def minO (a b : Opd) : Opd := if b.val < a.val then b else a
/-- The greater of two operands. -/
def maxO (a b : Opd) : Opd := if a.val < b.val then b else a
/-- The operand with the other sign. -/
def negO (a : Opd) : Opd := { a with m := -a.m }
/-- The operand's magnitude. -/
def absO (a : Opd) : Opd := { a with m := a.m.natAbs }

/-! ### Shared units (R64) -/

/-- Bring a rational into ±`t`. -/
def clampR (t x : Rat) : Rat := if x < -t then -t else if t < x then t else x

/-- An approximation error inside the tolerance of R64 (log 6). -/
def unitErr (k : Nat) (a : Opd) : Rat := clampR (1 / 4194304) (Config.unitError k a.m a.e)

/-- An approximation error of the sine-cosine unit, for the fractional part of the angle alone (R64, log 6). -/
def angleErr (k : Nat) (q : Rat) : Rat :=
  clampR (1 / 4194304) (Config.unitError k (fracR q).num (-(Nat.log2 (fracR q).den : Int)))

/-- π in units of 2^-200. -/
def piFix : Int := 5048344754617993871973410141242436836214643421488662971535368

/-- Sum of a Taylor series: the term, the square of the argument, terms left and the next factor. -/
def taylor (x2 : Rat) : Nat → Nat → Rat → Rat → Rat
  | 0, _, _, acc => acc
  | n + 1, k, t, acc =>
    let t' := -t * x2 / (((k + 1) * (k + 2) : Nat) : Rat)
    taylor x2 n (k + 2) t' (acc + t')

/-- Sine and cosine of an angle in turns of [−1/2, 1/2), within 2^-60. -/
def sinCosTurns (q : Rat) : Rat × Rat :=
  let x : Rat := 2 * q * (Rat.divInt piFix (2 ^ 200))
  let r : Rat := Rat.divInt (rhe (x * pow2 80)) (2 ^ 80)
  (taylor (r * r) 20 1 r r, taylor (r * r) 20 0 1 1)

/-- Limits of a unit result (R64). -/
def unitOut (xs : List Rat) : FM Vec := fun fl =>
  let (s, fl) := outRule 48 (-128) 127 xs fl
  (extV s, fl)

/-- Cosines and sines of the elements of an angle stage (R64). -/
def cosSin (v : Vec) (l : Nat) : FM (Vec × Vec) :=
  let sc := (List.range l).map (fun i => ((v.el i).val, sinCosTurns (wrapHalf (v.el i).val)))
  do
    let c ← unitOut (sc.map (fun x => x.2.2 + angleErr 1 x.1))
    let s ← unitOut (sc.map (fun x => x.2.1 + angleErr 0 x.1))
    pure (c, s)

/-- The largest value of a unit result: largest mantissa at exponent 127. -/
def unitMax : Rat := ((2 ^ 47 - 1 : Int) : Rat) * pow2 (127 - 46)

/-- 1/x of one element (R64). -/
def recipVal (a : Opd) : FM Rat := fun fl =>
  if a.m = 0 then (unitMax, { fl with sat := true, dom := true }) else ((1 + unitErr 2 a) / a.val, fl)

/-- The reciprocal unit over `l` elements (R64). -/
def recipU (v : Vec) (l : Nat) : FM Vec := fun fl =>
  let (xs, fl) := (List.range l).foldl (fun (acc : List Rat × NFlags) i =>
    let (x, g) := recipVal (v.el i) acc.2
    (acc.1 ++ [x], g)) ([], fl)
  unitOut xs fl

/-- 1/√q for q above 0, with at least 62 significant bits. -/
def rsqrtQ (q : Rat) : Rat :=
  let n := q.num.toNat
  let k : Int := (127 + (Nat.log2 n : Int) - (Nat.log2 q.den : Int)) / 2
  let y : Nat := (pow2 (2 * k) / q).floor.toNat
  ((isqrt (min y (2 ^ 128 - 1)) : Nat) : Rat) * pow2 (-k)

/-- 1/√x of one element (R64). -/
def rsqrtVal (a : Opd) : FM Rat := fun fl =>
  if a.m = 0 then (unitMax, { fl with sat := true, dom := true })
  else if a.m < 0 then (0, { fl with dom := true })
  else ((1 + unitErr 3 a) * rsqrtQ a.val, fl)

/-- The reciprocal square root unit over `l` elements (R64). -/
def rsqrtU (v : Vec) (l : Nat) : FM Vec := fun fl =>
  let (xs, fl) := (List.range l).foldl (fun (acc : List Rat × NFlags) i =>
    let (x, g) := rsqrtVal (v.el i) acc.2
    (acc.1 ++ [x], g)) ([], fl)
  unitOut xs fl

/-! ### Conversions at the edge of the fabric -/

/-- A graph input of integers (R60). -/
def inputStage (lims : Int × Int) (xs : List Int) : Stage := outPlain 24 lims.1 lims.2 (xs.map (fun x => (x : Rat)))

/-- The element word of R59. -/
def elemWord (s : Stage) (i : Nat) : ElemWord :=
  if s.m.isEmpty then { m := 0, e := -128 } else { m := s.m.getD i 0, e := s.e }

/-- An extended stage that leaves the fabric: converted as a whole through the output rule at W = 24, with the limits of
its node and no flag (R58, R59, R100). -/
def exportStage (n : NodeDef) (x : Stage) : Stage :=
  outPlain 24 n.efloor n.eceil ((List.range x.m.length).map (fun i => ((extV x).el i).val))

/-- The 32 bits of an element word (R59). -/
def elemBits (w : ElemWord) : Word := BitVec.ofInt 24 w.m ++ BitVec.ofInt 8 w.e

/-- The value of an element word. -/
def ewVal (w : ElemWord) : Rat := (w.m : Rat) * pow2 (w.e - 23)

/-- The element word of 32 bits. -/
def elemOfBits (w : Word) : ElemWord := { m := (w.extractLsb' 8 24).toInt, e := (w.extractLsb' 0 8).toInt }

end Sys2Proof.Machine
end

