-- ==== Sys2Proof/Machine/Nodes.lean ====
section
/-! DEFINITION. What each operation of the catalogue computes (R70–R72, R101–R121): from the input stages, the
coefficient stages and the node's state to its new state and flags. -/

namespace Sys2Proof.Machine

/-- What a node sees besides its own descriptor. -/
structure NodeEnv where
  /-- The control phase in force and whether this is its first cycle (R70, R71). -/
  phase : Phase := .none
  first : Bool := false
  /-- READY or BLOCKED: integrators are held (R22, R72). -/
  held : Bool := false
  /-- RUNNING or RAMPING. -/
  run : Bool := false
  /-- Input stages and coefficient stages. -/
  ins : List Vec := []
  cf : List Vec := []
  /-- AMP_BASE of GRID_PLL (R109). -/
  ampBase : ElemWord := { m := 4194304, e := 1 }
deriving DecidableEq, Repr

/-- Input `k`. -/
def NodeEnv.inp (v : NodeEnv) (k : Nat) : Vec := v.ins.getD k {}
/-- Coefficient stage `k`. -/
def NodeEnv.co (v : NodeEnv) (k : Nat) : Vec := v.cf.getD k {}

/-- A state slot as operands. -/
def stV (o : NodeSt) (k : Nat) : Vec := extV (o.st.getD k {})

/-- An integrator in a phase that clamps (R70). -/
def NodeEnv.clamps (v : NodeEnv) : Bool := match v.phase with | .startup | .test | .recovery => true | _ => false

/-- Clamp an operand to limits. -/
def limO (lo hi x : Opd) : Opd := if hi.val < x.val then hi else if x.val < lo.val then lo else x

/-- `integrate` of R70–R72 over `l` elements: the state, its limits and the increments' terms. -/
def integrate (n : NodeDef) (v : NodeEnv) (l : Nat) (s lo hi : Vec) (inc : Nat → List Term) : FM Vec := do
  if v.held then pure s else
  let start := fun i => if v.clamps && v.first then limO (lo.el i) (hi.el i) (s.el i) else s.el i
  let raw := fun i => accum (oneT (start i) :: inc i)
  fmClamp ((List.range l).any (fun i => start i != s.el i))
  if v.clamps then do
    fmClamp ((List.range l).any (fun i => (hi.el i).val < raw i || raw i < (lo.el i).val))
    asgVal n 48 l (fun i => if (hi.el i).val < raw i then (hi.el i).val else if raw i < (lo.el i).val then (lo.el i).val else raw i)
  else asgVal n 48 l raw

/-! ### Elementwise and matrix operations (R101–R103) -/

/-- Elementwise operations whose output is one accumulation. -/
def nodeSum (n : NodeDef) (o : NodeSt) (f : Nat → List Term) : FM NodeSt := do
  let y ← asg n 24 n.outLen f
  pure { o with out := y.st }

/-- Elementwise operations that select exact values. -/
def nodePick (n : NodeDef) (o : NodeSt) (f : Nat → Rat) : FM NodeSt := do
  let y ← asgVal n 24 n.outLen f
  pure { o with out := y.st }

/-- Inputs concatenated to one vector (MATVEC). -/
def concat (ins : List Vec) : List Opd := ins.flatMap (fun v => (List.range v.st.m.length).map v.el)

/-- CLARKE and INV_CLARKE (R103): one accumulation per element over the built-in constants (log 21). -/
def clarkeT (x : Vec) (i : Nat) : List Term :=
  if i = 0 then [mulT kTwoThirds (x.el 0), negT (mulT kThird (x.el 1)), negT (mulT kThird (x.el 2))]
  else if i = 1 then [mulT kInvSqrt3 (x.el 1), negT (mulT kInvSqrt3 (x.el 2))]
  else [mulT kThird (x.el 0), mulT kThird (x.el 1), mulT kThird (x.el 2)]

/-- INV_CLARKE (R103). -/
def invClarkeT (x : Vec) (i : Nat) : List Term :=
  if i = 0 then [oneT (x.el 0), oneT (x.el 2)]
  else
    let b := mulT kSqrt3Half (x.el 1)
    [negT (mulT kHalf (x.el 0)), if i = 1 then b else negT b, oneT (x.el 2)]

/-- PARK and INV_PARK (R103). -/
def nodePark (inv : Bool) (n : NodeDef) (v : NodeEnv) (o : NodeSt) : FM NodeSt := do
  let x := v.inp 0
  let (c, s) ← cosSin (v.inp 1) (v.inp 1).st.m.length
  nodeSum n o (fun i =>
    let p := i / 2
    let a := x.el (2 * p)
    let b := x.el (2 * p + 1)
    let sn := fun y => if inv then negT (mulT y (s.el p)) else mulT y (s.el p)
    if i % 2 = 0 then [mulT a (c.el p), sn b]
    else [if inv then mulT a (s.el p) else negT (mulT a (s.el p)), mulT b (c.el p)])

/-- LIMIT (R104). -/
def nodeLimit (n : NodeDef) (v : NodeEnv) (o : NodeSt) : FM NodeSt := do
  let dyn := n.opt.getLsbD 0
  let lo := if dyn then v.inp 1 else v.co 0
  let hi := if dyn then v.inp 2 else v.co 1
  fmDom (dyn && (List.range n.outLen).any (fun i => (hi.el i).val < (lo.el i).val))
  nodePick n o (fun i => (minO (maxO ((v.inp 0).el i) (lo.el i)) (hi.el i)).val)

/-! ### RAMP (R115–R118) -/

/-- The element target, brought inside the limits. -/
def rampTgt (v : NodeEnv) (i : Nat) : Opd := minO (maxO ((v.inp 0).el i) ((v.co 2).el i)) ((v.co 3).el i)

/-- Some element's target lies outside the limits (R115). -/
def rampClamped (n : NodeDef) (v : NodeEnv) : Bool :=
  (List.range n.outLen).any (fun i => (rampTgt v i).val != ((v.inp 0).el i).val)

/-- Position and velocity before the cycle: INIT and 0 where the node has none yet (R118). -/
def rampStart (n : NodeDef) (v : NodeEnv) (o : NodeSt) : FM (Vec × Vec) := do
  if o.st.isEmpty || (v.held && n.opt.getLsbD 0) then
    let p ← asgVal n 48 n.outLen (fun i => ((v.co 4).el i).val)
    let w ← asgVal n 48 n.outLen (fun _ => 0)
    pure (p, w)
  else pure (stV o 0, stV o 1)

/-- One cycle of RAMP (R116): elements that arrive take no part in the assignments of the other branch. -/
def nodeRamp (n : NodeDef) (v : NodeEnv) (o : NodeSt) : FM NodeSt := do
  let l := n.outLen
  let (p, w) ← rampStart n v o
  let flag : List Int := [b2n (rampClamped n v)]
  if v.held && n.opt.getLsbD 0 then
    let y ← asg n 24 l (fun i => [oneT (p.el i)])
    pure { o with out := y.st, st := [p.st, w.st], ints := flag }
  else
    let acc := fun i => (v.co 1).el i
    let tgt ← asgVal n 48 l (fun i => (rampTgt v i).val)
    let dist ← asg n 48 l (fun i => [oneT (tgt.el i), negT (oneT (p.el i))])
    let here := fun i => absR (dist.el i).val ≤ (acc i).val && absR (w.el i).val ≤ (acc i).val
    let go := fun (f : Nat → List Term) i => if here i then [] else f i
    let arg1 ← asg n 48 l (go (fun i => [mulT kTwo (acc i)]))
    let arg ← asg n 48 l (go (fun i => [mulT (arg1.el i) (absO (dist.el i))]))
    let live := (List.range l).filter (fun i => !here i)
    let r ← rsqrtU { arg with st := { arg.st with m := live.map (fun i => (arg.el i).m) } } live.length
    let rs := fun i => ({ r.el (live.idxOf i) with m := r.st.m.getD (live.idxOf i) 0 } : Opd)
    let q1 ← asg n 48 l (go (fun i => [mulT (absO (dist.el i)) kTwo]))
    let q2 ← asg n 48 l (go (fun i => [mulT (q1.el i) (acc i)]))
    let q3 ← asg n 48 l (go (fun i => [mulT (q2.el i) (rs i)]))
    let sp := fun i => minO ((v.co 0).el i) (q3.el i)
    let vd ← asgVal n 48 l (fun i => if here i then 0 else if 0 < (dist.el i).m then (sp i).val else if (dist.el i).m < 0 then -(sp i).val else 0)
    let dv ← asg n 48 l (go (fun i => [oneT (vd.el i), negT (oneT (w.el i))]))
    let w' ← asg n 48 l (go (fun i => [oneT (w.el i), oneT (minO (maxO (dv.el i) (negO (acc i))) (acc i))]))
    let p' ← asg n 48 l (fun i => if here i then [oneT (tgt.el i)] else [oneT (p.el i), oneT (w'.el i)])
    let y ← asg n 24 l (fun i => [oneT (p'.el i)])
    pure { o with out := y.st, st := [p'.st, w'.st], ints := flag }

/-! ### LOOKUP (R105) -/

/-- Point `j` of a table of coefficient stages from `base`. -/
def lookPt (v : NodeEnv) (base j : Nat) : Opd :=
  let s := (v.co (base + j / 16)).st
  { m := s.m.getD (j % 16) 0, e := s.e }

/-- The reciprocal inv(j) of an interval, as an extended element. -/
def lookInv (v : NodeEnv) (j : Nat) : Opd :=
  let d := (lookPt v 0 (j + 1)).val - (lookPt v 0 j).val
  (extV (outPlain 48 (-128) 127 [1 / d])).el 0

/-- One cycle of LOOKUP. -/
def nodeLookup (n : NodeDef) (v : NodeEnv) (o : NodeSt) : FM NodeSt := do
  let p := n.opt.toNat % 512
  let half := (p + 15) / 16
  let x := fun i => (v.inp 0).el i
  let below := fun i => decide ((x i).val < (lookPt v 0 0).val)
  let last := fun i => decide ((lookPt v 0 (p - 1)).val ≤ (x i).val)
  let j := fun i => ((List.range p).filter (fun j => (lookPt v 0 j).val ≤ (x i).val)).length - 1
  let mid := fun (f : Nat → List Term) i => if below i || last i then [] else f i
  fmDom ((List.range n.outLen).any (fun i => below i || decide ((lookPt v 0 (p - 1)).val < (x i).val)))
  let d ← asg n 48 n.outLen (mid (fun i => [oneT (x i), negT (oneT (lookPt v 0 (j i)))]))
  let dy ← asg n 48 n.outLen (mid (fun i => [oneT (lookPt v half (j i + 1)), negT (oneT (lookPt v half (j i)))]))
  let q ← asg n 48 n.outLen (mid (fun i => [mulT (d.el i) (lookInv v (j i))]))
  nodeSum n o (fun i =>
    if below i then [oneT (lookPt v half 0)] else if last i then [oneT (lookPt v half (p - 1))]
    else [oneT (lookPt v half (j i)), mulT (q.el i) (dy.el i)])

/-! ### INTEG and LAW (R106–R108, R121) -/

/-- INTEG: s plus K_H × x (R70, R101). -/
def nodeInteg (n : NodeDef) (v : NodeEnv) (o : NodeSt) : FM NodeSt := do
  let s ← integrate n v n.outLen (stV o 0) (v.co 1) (v.co 2) (fun i => [mulT ((v.co 0).el i) ((v.inp 0).el i)])
  let y ← asg n 24 n.outLen (fun i => [oneT (s.el i)])
  pure { o with out := y.st, st := [s.st] }

/-- Coefficient `k` of section `j` (R106). -/
def sosC (v : NodeEnv) (j k : Nat) : Vec := v.co (9 + 6 * j + k)

/-- The sections' part of `apply_transfer`: new z1 and z2 from section `j` on, with the shift of the section's
input. -/
def transferSos (n : NodeDef) (v : NodeEnv) (o : NodeSt) : Nat → Nat → Vec → FM (List Stage)
  | 0, _, _ => pure []
  | k + 1, j, xs => do
    let l := n.outLen
    let g := sosC v j 5
    let d1 ← asg n 48 l (fun i => [oneT (g.el i), negT (oneT ((sosC v j 0).el i))])
    let z1 ← asg n 48 l (fun i => [oneT ((stV o (4 + 2 * j)).el i), mulT (d1.el i) (xs.el i)])
    let d2 ← asg n 48 l (fun i => [oneT ((sosC v j 2).el i), negT (mulT ((sosC v j 4).el i) (g.el i))])
    let z2 ← asg n 48 l (fun i => [oneT ((stV o (5 + 2 * j)).el i), mulT (d2.el i) (xs.el i)])
    let xs' ← asg n 48 l (fun i => [mulT (g.el i) (xs.el i)])
    let rest ← transferSos n v o k (j + 1) xs'
    pure (z1.st :: z2.st :: rest)

/-- `apply_transfer(ds)` (R121). -/
def applyTransfer (n : NodeDef) (v : NodeEnv) (o : NodeSt) (ds : Vec) : FM NodeSt := do
  let l := n.outLen
  let s ← asg n 48 l (fun i => [oneT ((stV o 0).el i), oneT (ds.el i)])
  let u ← asg n 48 l (fun i => [oneT ((stV o 3).el i), mulT ((v.co 7).el i) (ds.el i)])
  let z ← transferSos n v o (n.opt.toNat % 16) 0 ds
  pure { o with st := [s.st, (stV o 1).st, (stV o 2).st, u.st] ++ z, xfer := none }

/-- The sections of a law node, direct form II transposed (R107): the new z1 and z2, and the output. -/
def lawSos (n : NodeDef) (v : NodeEnv) (o : NodeSt) : Nat → Nat → Vec → FM (List Stage × Vec)
  | 0, _, x => pure ([], x)
  | k + 1, j, x => do
    let l := n.outLen
    let z1 := stV o (4 + 2 * j)
    let z2 := stV o (5 + 2 * j)
    let y ← asg n 48 l (fun i => [mulT ((sosC v j 0).el i) (x.el i), oneT (z1.el i)])
    let z1' ← asg n 48 l (fun i => [mulT ((sosC v j 1).el i) (x.el i), negT (mulT ((sosC v j 3).el i) (y.el i)), oneT (z2.el i)])
    let z2' ← asg n 48 l (fun i => [mulT ((sosC v j 2).el i) (x.el i), negT (mulT ((sosC v j 4).el i) (y.el i))])
    let (rest, y') ← lawSos n v o k (j + 1) y
    pure (z1'.st :: z2'.st :: rest, y')

/-- One cycle of LAW (R107). -/
def nodeLaw (n : NodeDef) (v : NodeEnv) (o : NodeSt) : FM NodeSt := do
  let l := n.outLen
  let meas := n.opt.getLsbD 4
  let track := n.opt.getLsbD 5
  let o ← match o.xfer with | some ds => applyTransfer n v o (extV ds) | none => pure o
  let e := v.inp 0
  let q ← asg n 48 l (fun i => if meas then [negT (oneT ((v.inp 1).el i))] else [oneT (e.el i)])
  let inc0 ← asg n 48 l (fun i => [mulT ((v.co 1).el i) (e.el i)])
  let inc ← if track then do
      let tr := v.inp (v.ins.length - 1)
      let d ← asg n 48 l (fun i => [oneT (tr.el i), negT (oneT ((stV o 3).el i))])
      asg n 48 l (fun i => [oneT (inc0.el i), mulT ((v.co 2).el i) (d.el i)])
    else pure inc0
  let s ← integrate n v l (stV o 0) (v.co 5) (v.co 6) (fun i => [oneT (inc.el i)])
  let dq ← asg n 48 l (fun i => [oneT (q.el i), negT (oneT ((stV o 2).el i))])
  let d ← asg n 48 l (fun i => [mulT ((v.co 3).el i) ((stV o 1).el i), mulT ((v.co 4).el i) (dq.el i)])
  let x ← asg n 48 l (fun i => [mulT ((v.co 0).el i) (e.el i), oneT (s.el i), oneT (d.el i)])
  let (z, x) ← lawSos n v o (n.opt.toNat % 16) 0 x
  let u ← asg n 24 l (fun i => [oneT (x.el i)])
  let up ← asg n 48 l (fun i => [oneT (x.el i)])
  pure { o with out := u.st, st := [s.st, d.st, q.st, up.st] ++ z, xfer := none }

/-! ### SEQ_DECOMP and GRID_PLL (R109–R113) -/

/-- One cycle of SEQ_DECOMP (R110): elements 0 and 1 are α and β. -/
def nodeSeq (n : NodeDef) (v : NodeEnv) (o : NodeSt) : FM NodeSt := do
  let x1 := stV o 0
  let x2 := stV o 1
  let wh ← asg n 48 1 (fun _ => [mulT ((v.co 1).el 0) ((v.inp 1).el 0)])
  let err ← asg n 48 2 (fun i => [oneT ((v.inp 0).el i), negT (oneT (x1.el i))])
  let par ← asg n 48 2 (fun i => [mulT ((v.co 0).el 0) (err.el i), negT (oneT (x2.el i))])
  let y1 ← asg n 48 2 (fun i => [oneT (x1.el i), mulT (wh.el 0) (par.el i)])
  let y2 ← asg n 48 2 (fun i => [oneT (x2.el i), mulT (wh.el 0) (y1.el i)])
  let sum ← asg n 48 4 (fun i =>
    if i = 0 then [oneT (y1.el 0), negT (oneT (y2.el 1))]
    else if i = 1 then [oneT (y2.el 0), oneT (y1.el 1)]
    else if i = 2 then [oneT (y1.el 0), oneT (y2.el 1)]
    else [oneT (y1.el 1), negT (oneT (y2.el 0))])
  let y ← asg n 24 4 (fun i => [mulT (sum.el i) kHalf])
  pure { o with out := y.st, st := [y1.st, y2.st] }

/-- The reference input of a resync cycle (R112). -/
def resyncCycle (v : NodeEnv) (n : NodeDef) : Bool :=
  n.opt.getLsbD 2 && ((v.inp 1).el 2).m != 0 && ((v.inp 1).el 3).m != 0

/-- LOCK and its two counters after a tracking cycle (R111). -/
def lockNext (err thr : Rat) (lock ok bad : Int) : Int × Int × Int :=
  let ok' := if err ≤ thr then min 64 (ok + 1) else 0
  let bad' := if 2 * thr < err then min 8 (bad + 1) else 0
  (if 8 ≤ bad' then 0 else if 64 ≤ ok' then 1 else lock, ok', bad')

/-- θ minus the reference phase and PHASE_OFFSET, wrapped (R112, R113). -/
def pllDiff (n : NodeDef) (v : NodeEnv) (th : Vec) : FM Rat := do
  let d ← asg n 48 1 (fun _ => [oneT (th.el 0), negT (oneT ((v.inp 1).el 0)), negT (oneT ((v.co 8).el 0))])
  pure (wrapHalf (d.el 0).val)

/-- θ advanced: frac of a sum (R111, R112). -/
def pllTheta (n : NodeDef) (ts : List Term) : FM Vec := do
  let a ← asg n 48 1 (fun _ => ts)
  asgVal n 48 1 (fun _ => fracR (a.el 0).val)

/-- A clamped frequency as stored. -/
def pllFreq (n : NodeDef) (v : NodeEnv) (x : Opd) : FM Vec :=
  asgVal n 48 1 (fun _ => (minO (maxO x ((v.co 2).el 0)) ((v.co 3).el 0)).val)

/-- States after the part of GRID_PLL that moves the loop: θ, wi, f, LOCK with its counters, slew in progress. -/
structure PllMove where
  th : Vec
  wi : Vec
  f  : Vec
  lock : Int
  ok   : Int
  bad  : Int
  slew : Bool := false
deriving DecidableEq, Repr

/-- A tracking or coasting cycle (R111). -/
def pllTrack (n : NodeDef) (v : NodeEnv) (old : PllMove) (vq amp rs : Vec) : FM PllMove := do
  let adv := fun (f : Vec) => pllTheta n [oneT (old.th.el 0), mulT ((v.co 4).el 0) (f.el 0)]
  if (amp.el 0).val < ((v.co 5).el 0).val then
    let th ← adv old.f
    pure { old with th := th, lock := 0, ok := 0, bad := 0 }
  else
    let vn ← asg n 48 1 (fun _ => [mulT (vq.el 0) (rs.el 0)])
    let lo ← asg n 48 1 (fun _ => [oneT ((v.co 2).el 0), negT (oneT kOne)])
    let hi ← asg n 48 1 (fun _ => [oneT ((v.co 3).el 0), negT (oneT kOne)])
    let inc ← asg n 48 1 (fun _ => [mulT ((v.co 1).el 0) (vn.el 0)])
    let wi ← integrate n v 1 old.wi lo hi (fun _ => [oneT (inc.el 0)])
    let raw ← asg n 48 1 (fun _ => [oneT kOne, oneT (wi.el 0), mulT ((v.co 0).el 0) (vn.el 0)])
    let f ← pllFreq n v (raw.el 0)
    let th ← adv f
    let (lock, ok, bad) := lockNext (absR (vn.el 0).val) ((v.co 6).el 0).val old.lock old.ok old.bad
    pure { th := th, wi := wi, f := f, lock := lock, ok := ok, bad := bad }

/-- RELOCK (R112). -/
def pllRelock (n : NodeDef) (v : NodeEnv) : FM PllMove := do
  let th ← pllTheta n [oneT ((v.inp 1).el 0), oneT ((v.co 8).el 0)]
  let lo ← asg n 48 1 (fun _ => [oneT ((v.co 2).el 0), negT (oneT kOne)])
  let hi ← asg n 48 1 (fun _ => [oneT ((v.co 3).el 0), negT (oneT kOne)])
  let w ← asg n 48 1 (fun _ => [oneT ((v.inp 1).el 1), negT (oneT kOne)])
  let wi ← asgVal n 48 1 (fun _ => (limO (lo.el 0) (hi.el 0) (w.el 0)).val)
  let f ← pllFreq n v ((v.inp 1).el 1)
  pure { th := th, wi := wi, f := f, lock := 0, ok := 0, bad := 0 }

/-- One cycle of a slew (R112): the advance at f_prev, then at most SLEW_MAX towards the target. The rule leaves two
points open (DESIGN CHOICE, log 105): with VALID = 0, θ only advances and the slew stays on, and the remaining difference
that ends a slew is the one before the cycle's own correction. -/
def pllSlew (n : NodeDef) (v : NodeEnv) (old : PllMove) (start : Bool) : FM PllMove := do
  let th ← pllTheta n [oneT (old.th.el 0), mulT ((v.co 4).el 0) (old.f.el 0)]
  let lock := if start then 0 else old.lock
  if ((v.inp 1).el 2).m = 0 then pure { old with th := th, lock := lock, slew := true } else
  let d ← pllDiff n v th
  let mx := ((v.co 7).el 0).val
  let step ← asgVal n 48 1 (fun _ => if mx < -d then mx else if mx < d then -mx else -d)
  let th' ← pllTheta n [oneT (th.el 0), oneT (step.el 0)]
  pure { old with th := th', lock := lock, ok := 0, bad := 0, slew := decide (mx < absR d) }

/-- One cycle of GRID_PLL (R109, R111–R113). Counters: LOCK, cycles within and beyond the lock threshold, cycles
beyond DIVERGE_MAX, slew in progress, and a divergence to report with its difference in units of 2^-46. R111 leaves out
resync cycles: vd, vq and the amplitude output are computed in every cycle, and the θ that R113 compares with the phase is
the one after the cycle's update (DESIGN CHOICE, log 105). -/
def nodePll (n : NodeDef) (v : NodeEnv) (o : NodeSt) : FM NodeSt := do
  let old : PllMove := { th := stV o 0, wi := stV o 1, f := stV o 2, lock := o.ints.getD 0 0, ok := o.ints.getD 1 0,
                         bad := o.ints.getD 2 0, slew := o.ints.getD 4 0 != 0 }
  let mode := n.opt.toNat % 4
  let re := resyncCycle v n
  let al := (v.inp 0).el 0
  let be := (v.inp 0).el 1
  let (c, s) ← cosSin old.th 1
  let vd ← asg n 48 1 (fun _ => [mulT al (c.el 0), mulT be (s.el 0)])
  let vq ← asg n 48 1 (fun _ => [negT (mulT al (s.el 0)), mulT be (c.el 0)])
  let m2 ← asg n 48 1 (fun _ => [mulT (vd.el 0) (vd.el 0), mulT (vq.el 0) (vq.el 0)])
  let rs ← rsqrtU m2 1
  let amp ← asg n 48 1 (fun _ => [mulT (m2.el 0) (rs.el 0)])
  let mv ← if re && mode = 1 then pllRelock n v
    else if (re && mode = 2) || old.slew then pllSlew n v old re
    else do
      let x ← pllTrack n v old vq amp rs
      pure (if re then { x with lock := 0, ok := 0, bad := 0 } else x)
  let valid := n.opt.getLsbD 2 && ((v.inp 1).el 2).m != 0
  let d ← if valid then pllDiff n v mv.th else pure 0
  let judged := valid && !re && !(old.slew || mv.slew)
  let div := if judged && ((v.co 9).el 0).val < absR d then o.ints.getD 3 0 + 1 else 0
  let hit := 0 < div && ((v.co 10).el 0).val ≤ div
  let inv ← recipU { st := { e := v.ampBase.e, m := [v.ampBase.m] } } 1
  let base := inv.el 0
  let y ← asgVal n 24 4 (fun i =>
    if i = 0 then (mv.th.el 0).val else if i = 1 then (mv.f.el 0).val
    else if i = 2 then accum [mulT (amp.el 0) base] else (mv.lock : Rat))
  pure { o with out := y.st, st := [mv.th.st, mv.wi.st, mv.f.st],
                ints := [mv.lock, mv.ok, mv.bad, div, b2n mv.slew, b2n hit, rhe (d * pow2 46)] }

/-! ### MODE_SELECT (R119–R123) -/

/-- What a transfer target lends to the selector: its integrator of this cycle, LIM_LO, LIM_HI, GAIN_DC and
INV_GAIN. -/
structure Target where
  s  : Vec
  lo : Vec
  hi : Vec
  gain : Vec
  inv  : Vec
deriving DecidableEq, Repr

/-- Number of candidates (R119). -/
def modeCount (n : NodeDef) (v : NodeEnv) : Nat := if n.opt.getLsbD 0 then v.ins.length else v.ins.length - 1

/-- The index asked for (R119). -/
def modeIndex (n : NodeDef) (v : NodeEnv) : Int :=
  if n.opt.getLsbD 0 then
    let fld : Nat := match v.run, v.phase with
      | true, .service => 11 | true, .test => 14 | true, .recovery => 17 | _, _ => 8
    ((n.opt.toNat / 2 ^ fld % 8 : Nat) : Int)
  else
    let x := ((v.inp (v.ins.length - 1)).el 0).val
    if x < 0 then -(-x).floor else x.floor

/-- The product o_res × (t − tc + 1), before its last factor (R120). -/
def modeOffset (n : NodeDef) (v : NodeEnv) (ores : Vec) (tc : Int) : FM Vec := do
  let k ← asg n 48 1 (fun _ => [oneT ((v.co 0).el 0), negT (intT tc), oneT kOne])
  asg n 48 n.outLen (fun i => [mulT (ores.el i) (k.el 0)])

/-- One cycle of MODE_SELECT: its state, and the transfer record it makes with the candidate it is for. An index that
truncates to a negative number is taken as one beyond the last candidate, of which alone R119 speaks: the selection stays
and DOMAIN is set (DESIGN CHOICE, log 61). -/
def nodeMode (n : NodeDef) (v : NodeEnv) (tgt : Nat → Option Target) (o : NodeSt) : FM (NodeSt × Option (Nat × Stage)) := do
  let l := n.outLen
  let kPrev := (o.ints.getD 0 0).toNat
  let idx := modeIndex n v
  let bad := idx < 0 || (modeCount n v : Int) ≤ idx
  fmDom bad
  let k := if bad then kPrev else idx.toNat
  let tc := o.ints.getD 1 0
  let due := match o.st with | [x] => if (tc : Rat) < ((v.co 0).el 0).val then some (extV x) else none | _ => none
  let off ← match due with
    | some x => do pure (some (← modeOffset n v x (tc + 1)))
    | none => pure none
  let offT := fun i => match off with | some q => [mulT (q.el i) ((v.co 1).el 0)] | none => []
  let c := v.inp k
  if k = kPrev then
    let y ← asg n 24 l (fun i => oneT (c.el i) :: offT i)
    pure ({ o with out := y.st, ints := [(k : Int), if due.isSome then tc + 1 else tc] }, none)
  else if !v.run then
    let y ← asg n 24 l (fun i => [oneT (c.el i)])
    pure ({ o with out := y.st, st := [], ints := [(k : Int), 0] }, none)
  else
    let yOld ← asg n 48 l (fun i => oneT ((v.inp kPrev).el i) :: offT i)
    let r ← asg n 48 l (fun i => [oneT (yOld.el i), negT (oneT (c.el i))])
    let y ← asg n 24 l (fun i => [oneT (c.el i), oneT (r.el i)])
    match tgt k with
    | none =>
      let ores ← asg n 48 l (fun i => [oneT (r.el i)])
      pure ({ o with out := y.st, st := [ores.st], ints := [(k : Int), 0] }, none)
    | some t =>
      let lo ← asgVal n 48 l (fun i => (minO (t.lo.el i) (t.s.el i)).val)
      let hi ← asgVal n 48 l (fun i => (maxO (t.hi.el i) (t.s.el i)).val)
      let want ← asg n 48 l (fun i => [oneT (t.s.el i), mulT (r.el i) (t.inv.el i)])
      let lim := fun i => minO (maxO (want.el i) (lo.el i)) (hi.el i)
      let ds ← asg n 48 l (fun i => [oneT (lim i), negT (oneT (t.s.el i))])
      let rint ← asg n 48 l (fun i => [mulT (t.gain.el i) (ds.el i)])
      let ores ← asg n 48 l (fun i => [oneT (r.el i), negT (oneT (rint.el i))])
      pure ({ o with out := y.st, st := [ores.st], ints := [(k : Int), 0] }, some (k, ds.st))

/-! ### The catalogue (R101) -/

/-- One cycle of a node other than MODE_SELECT. -/
def nodeOp (n : NodeDef) (v : NodeEnv) (o : NodeSt) : FM NodeSt :=
  let a := v.inp 0
  let b := v.inp 1
  match n.opcode with
  | 0x01 => nodeSum n o (fun i => [mulT ((v.co 0).el i) (a.el i), oneT ((v.co 1).el i)])
  | 0x02 => nodeSum n o (fun i => [oneT (a.el i), oneT (b.el i)])
  | 0x03 => nodeSum n o (fun i => [oneT (a.el i), negT (oneT (b.el i))])
  | 0x04 => nodeSum n o (fun i => [mulT (a.el i) (b.el i)])
  | 0x05 => nodeSum n o (fun i => [mulT ((v.co 0).el i) (a.el i)])
  | 0x06 => nodeSum n o (fun i => [negT (oneT (a.el i))])
  | 0x07 => nodePick n o (fun i => absR (a.el i).val)
  | 0x08 => nodePick n o (fun i => (minO (a.el i) (b.el i)).val)
  | 0x09 => nodePick n o (fun i => (maxO (a.el i) (b.el i)).val)
  | 0x0A => nodePick n o (fun i =>
      if (b.el i).val < (a.el i).val || (n.opt.getLsbD 0 && (b.el i).val = (a.el i).val) then 1 else 0)
  | 0x0B => nodePick n o (fun i => if 0 < (a.el i).m then (b.el i).val else ((v.inp 2).el i).val)
  | 0x10 => nodeSum n o (fun i => (concat v.ins).zipIdx.map (fun (x, j) => mulT ((v.co j).el i) x))
  | 0x11 => nodeSum n o (clarkeT a)
  | 0x12 => nodeSum n o (invClarkeT a)
  | 0x14 => nodePark false n v o
  | 0x15 => nodePark true n v o
  | 0x18 => nodeLimit n v o
  | 0x19 => nodeRamp n v o
  | 0x1A => nodeLookup n v o
  | 0x1B => do
    let r ← recipU a n.outLen
    nodeSum n o (fun i => [mulT ((v.co 0).el i) (r.el i)])
  | 0x1C => do
    let r ← rsqrtU a n.outLen
    nodeSum n o (fun i => [mulT ((v.co 0).el i) (r.el i)])
  | 0x1D => nodeInteg n v o
  | 0x20 => nodeLaw n v o
  | 0x24 => nodeSeq n v o
  | 0x25 => nodePll n v o
  | _ => pure o

/-- STEPS of an operation (R74, R101): k is the number of elements of all inputs. -/
def opSteps (opcode : Nat) (opt : BitVec 32) (k : Nat) : Option Nat :=
  match opcode with
  | 0x01 | 0x02 | 0x03 | 0x04 | 0x05 | 0x06 | 0x07 | 0x08 | 0x09 | 0x0A | 0x0B | 0x18 | 0x1D | 0x21 => some 2
  | 0x10 => some ((k + 2) / 3 + 1)
  | 0x11 | 0x12 => some 2
  | 0x14 | 0x15 => some 5
  | 0x19 | 0x1B | 0x1C => some 4
  | 0x1A => some 3
  | 0x20 => some (5 + 2 * (opt.toNat % 16))
  | 0x24 => some 9
  | 0x25 => some 14
  | _ => none

end Sys2Proof.Machine
end

