-- ==== Sys2Proof/Machine/Graph.lean ====
section
/-! DEFINITION. The dataflow scheduler (R77–R97): readiness, queues, dispatch, placement and its adaptation, the
lanes' steps, and the evaluation of a node at its output step. Times in 0.1 ns after the WHARF_0 freeze. -/

namespace Sys2Proof.Machine

/-! ### Inputs of a node (R78) -/

/-- Output of a node in a copy of the node states. -/
def nodeOut (m : SMap NodeSt) (n : Nat) : Stage := (m.get n {}).out

/-- The stage an input reference names (R78). -/
def refStage (s : State) (r : NodeRef) : Stage :=
  match r.kind with
  | 0 => nodeOut s.graph.work r.index
  | 1 => nodeOut s.graph.cur r.index
  | 2 => s.graph.inputs.get r.index { e := -128, m := [0] }
  | 3 => s.graph.obs.get r.index { e := -128, m := [0] }
  | _ => (pstage s r.index).val

/-- Coefficient stages of a node (R99). -/
def coefs (s : State) (n : NodeDef) : List Vec := (List.range n.parCount).map (fun k => plainV (pstage s (n.parBase + k)).val)

/-- What a node sees in this cycle. -/
def nodeEnv (s : State) (n : NodeDef) : NodeEnv :=
  { phase := s.dev.phase, first := s.dev.phaseFirst,
    held := s.dev.state == .ready || s.dev.state == .blocked, run := runs s,
    ins := n.refs.map (fun r => plainV (refStage s r)), cf := coefs s n,
    ampBase := (pstage s (n.parBase + 5)).ampBase }

/-- The transfer target behind candidate `k` of a selector: a LAW node of this cycle (R119, R120). -/
def modeTarget (s : State) (n : NodeDef) (k : Nat) : Option Target :=
  match n.refs[k]? with
  | some r =>
    match node? s r.index with
    | some d =>
      if d.opcode = 0x20 then
        let cf := coefs s d
        some { s := stV (s.graph.work.get r.index {}) 0, lo := cf.getD 5 {}, hi := cf.getD 6 {}, gain := cf.getD 7 {}, inv := cf.getD 8 {} }
      else none
    | none => none
  | none => none

/-- Evaluate a node: its new state, the flags, and a transfer record for another node. -/
def nodeEval (s : State) (n : NodeDef) : (NodeSt × Option (Nat × Stage)) × NFlags :=
  let o := s.graph.cur.get n.node {}
  if n.opcode = 0x21 then
    let (r, f) := nodeMode n (nodeEnv s n) (modeTarget s n) o {}
    ((r.1, match r.2 with | some (k, ds) => (n.refs[k]?).map (fun x => (x.index, ds)) | none => none), f)
  else
    let (r, f) := nodeOp n (nodeEnv s n) o {}
    ((r, none), f)

/-! ### Queues and dispatch (R80–R82) -/

/-- The node waits for the observer update. -/
def needsObs (n : NodeDef) : Bool := n.refs.any (fun r => r.kind = 3)

/-- KIND 0b000 references of a node to a node. -/
def refsTo (n : NodeDef) (p : Nat) : Nat := (n.refs.filter (fun r => r.kind = 0 && r.index = p)).length

/-- Placement of a node. -/
def placeOf (g : Graph) (n : Nat) : Place := g.place.get n {}

/-- Nodes, in ascending number, enter the tails of their queues at a time (R81). -/
def enqueue (s : State) (t : Nat) (ns : List Nat) (g : Graph) : Graph :=
  ns.foldl (fun g n =>
    match node? s n with
    | some d =>
      let q := (g.queues.get d.prio []) ++ [(n, t)]
      { g with queues := g.queues.set d.prio q, qmax := g.qmax.set d.prio (max (g.qmax.get d.prio 0) q.length) }
    | none => g) g

/-- The first ready node placed on a lane, in order of PRIO and queue position (R82). -/
def pickFor (g : Graph) (l : Nat) : Option (Nat × Nat × Nat) :=
  (List.range 8).findSome? (fun p => ((g.queues.get p []).find? (fun x => (placeOf g x.1).lane = l)).map (fun x => (p, x.1, x.2)))

/-- Bin of a waiting time (R95). -/
def waitBin (s : State) (w : Nat) : Nat := min 31 (w / (25 * 2 ^ parN s 0x12 0 6))

/-- Fill one slot of a lane, if a ready node is placed on it. -/
def fillSlot (s : State) (l : Nat) (g : Graph) : Graph :=
  let x := g.lanes.get l {}
  if x.exec.isSome && x.staged.isSome then g else
  match pickFor g l with
  | none => g
  | some (p, n, t) =>
    let steps := match node? s n with | some d => d.steps | none => 0
    let now := max t x.time
    let g := { g with queues := g.queues.set p ((g.queues.get p []).filter (fun y => y.1 != n)),
                      hist := g.hist.upd (waitBin s (now - t)) 0 cnt32 }
    if x.exec.isNone then
      { g with lanes := g.lanes.set l { x with exec := some n, stepsLeft := steps, time := now, opBusy := 0 } }
    else { g with lanes := g.lanes.set l { x with staged := some n } }

/-- Dispatch to every lane with a free slot (R82). -/
def dispatchAll (s : State) (g : Graph) : Graph :=
  (List.range 64).foldl (fun g l => fillSlot s l (fillSlot s l g)) g

/-- Store a new graph. -/
def withGraph (s : State) (g : Graph) : State := { s with graph := g }

/-- A cycle without the graph has measured nothing (log 102). -/
def graphIdle (g : Graph) : Graph :=
  { g with lanes := g.lanes.mapVals (fun _ l => { ({} : Lane) with retired := l.retired }), queues := [], waitObs := [], done := [],
           gt := 0, stepsRun := 0, execNow := [], qmax := [] }

/-- The graph starts at the cutoff freeze (R80). -/
def graphStart (s : State) : State :=
  let ns := nodes s
  let pend := ns.map (fun n => (n.node, (n.refs.filter (fun r => r.kind = 0)).length))
  let free := (ns.filter (fun n => !n.refs.any (fun r => r.kind = 0)))
  let lanes : SMap Lane := (List.range 64).map (fun l => (l, { retired := (s.graph.lanes.get l {}).retired }))
  let g := { s.graph with
    work := [], workStat := [], lanes := lanes, queues := [], pendCount := pend, done := [], gt := 0, stepsRun := 0, execNow := [],
    qmax := [], waitObs := (free.filter needsObs).map (·.node) }
  withGraph s (dispatchAll s (enqueue s 0 ((free.filter (fun n => !needsObs n)).map (·.node)) g))

/-- The observer update completes at a time: nodes that only waited for it become ready (R80), in ascending number (R81). -/
def graphObsDone (t : Nat) (s : State) : State :=
  let ns := ((nodes s).map (·.node)).filter s.graph.waitObs.contains
  withGraph s (dispatchAll s (enqueue s t ns { s.graph with waitObs := [] }))

/-- An output step completes: the successors' pending counts fall, and nodes become ready (R80). -/
def release (s : State) (p t : Nat) (g : Graph) : Graph :=
  let hit := (nodes s).filter (fun n => 0 < refsTo n p)
  let pend := hit.foldl (fun m n => m.upd n.node 0 (fun c => c - refsTo n p)) g.pendCount
  let free := hit.filter (fun n => pend.get n.node 0 = 0)
  let now := free.filter (fun n => !needsObs n || s.cyc.obsDone)
  enqueue s t (now.map (·.node)) { g with pendCount := pend, waitObs := g.waitObs ++ (free.filter (fun n => needsObs n && !s.cyc.obsDone)).map (·.node) }

/-! ### Steps of a lane (R53, R55, R75) -/

/-- The graph is running in this cycle: after the freeze, before the launch or the deadline stop. -/
def graphLive (s : State) : Bool := s.cyc.frozen && !s.cyc.launched && !s.cyc.graphDone

/-- A step of a lane ends: its time passes. -/
def laneTick (l dur : Nat) (g : Graph) : Graph :=
  let x := g.lanes.get l {}
  { g with lanes := g.lanes.set l { x with time := x.time + dur, opBusy := x.opBusy + dur, busy := x.busy + dur, stepsLeft := x.stepsLeft - 1 },
           stepsRun := g.stepsRun + 1 }

/-- A residue mismatch (R55): the cycle counts as a miss, the lane is retired, and a third retirement raises
FLT_LANE_DEPLETED. DETAIL names the lane, the step and the slice. -/
def laneMismatch (l slice : Nat) (s : State) : State :=
  let x := s.graph.lanes.get l {}
  let steps := match x.exec with | some n => (match node? s n with | some d => d.steps | none => 0) | none => 0
  let g := { s.graph with lanes := s.graph.lanes.set l { x with retired := true } }
  let s := { s with graph := g, cyc := { s.cyc with forceMiss := max 1 s.cyc.forceMiss } }
  let s := raise 2 (be 1 l ++ be 1 (steps - x.stepsLeft) ++ be 1 slice) s
  if 3 ≤ (s.graph.lanes.filter (fun x => x.2.retired)).length then raise 3 [] s else s

/-- A step of a lane other than an output step completes (R53). -/
def execLaneStepComplete (lane dur : Nat) (residue : Option Nat) (s : State) : Host.Outcome State Fault Refusal :=
  let x := s.graph.lanes.get lane {}
  if !graphLive s || x.exec.isNone || x.stepsLeft ≤ 1 then unit (lane < 64) s else
  let s' := match residue with | some sl => laneMismatch lane sl s | none => s
  unit (lane < 64) (if graphLive s' && ((s'.graph.lanes.get lane {}).exec).isSome then withGraph s' (dispatchAll s' (laneTick lane dur s'.graph)) else s')

/-- A request of PHASE_REQ_NODE (R26). -/
def phaseNode (n : NodeDef) (out : Stage) (s : State) : State :=
  if par s 0x15 0 2 ≠ (n.node : Int) then s else
  let v := ((plainV out).el 0).val
  let x : Int := if v < 0 then -(-v).floor else v.floor
  if x = 0 ∨ x = (s.dev.phase.code : Int) then s else
  match Phase.ofCode x.toNat with
  | some p => if 0 < x then { s with dev := { s.dev with phaseReq := some p } } else { s with dev := { s.dev with phaseRejects := s.dev.phaseRejects + 1 } }
  | none => { s with dev := { s.dev with phaseRejects := s.dev.phaseRejects + 1 } }

/-- A node's output step completes (R54, R80): its results go to the working copy. -/
def nodeDone (l n : Nat) (s : State) : State :=
  match node? s n with
  | none => s
  | some d =>
    let ((st, rec), f) := nodeEval s d
    let x := s.graph.lanes.get l {}
    let g := s.graph
    let work := g.work.set n { st with xfer := none }
    let work := match rec with | some (k, ds) => work.upd k {} (fun o => { o with xfer := some ds }) | none => work
    let stat : NodeStat := { sat := f.sat, domain := f.dom, clamp := f.clamp, executed := true }
    let lane := { x with exec := x.staged, staged := none, opBusy := 0, ops := x.ops + 1,
                         stepsLeft := match x.staged with | some m => (match node? s m with | some e => e.steps | none => 0) | none => 0 }
    let g := { g with work := work, workStat := g.workStat.set n stat, lanes := g.lanes.set l lane, done := g.done ++ [n],
                      gt := max g.gt x.time, execNow := g.execNow.set n x.opBusy }
    let s := phaseNode d st.out { s with graph := g }
    let g := dispatchAll s (release s n x.time s.graph)
    { s with graph := g, cyc := { s.cyc with graphDone := g.done.length = (nodes s).length } }

/-- The output step of a lane completes. -/
def execNodeOutputComplete (lane dur : Nat) (s : State) : Host.Outcome State Fault Refusal :=
  let x := s.graph.lanes.get lane {}
  unit (lane < 64) (match x.exec with
  | some n => if !graphLive s || x.stepsLeft ≠ 1 then s else nodeDone lane n (withGraph s (laneTick lane dur s.graph))
  | none => s)

/-! ### Placement (R88–R94) -/

/-- The home placement is in force. -/
def atHome (g : Graph) : Bool := g.place.all (fun x => x.2.lane = x.2.home)

/-- Move one node, with MOVE_COUNT. -/
def moveNode (n l : Nat) (g : Graph) : Graph :=
  let p := placeOf g n
  if p.lane = l then g else { g with place := g.place.set n { p with lane := l, moves := min 255 (p.moves + 1) } }

/-- Restore the home placement. -/
def homeAll (g : Graph) : Graph := g.place.keys.foldl (fun g n => moveNode n (placeOf g n).home g) g

/-- Nodes whose lane differs between two placements. -/
def movedNodes (a b : Graph) : Nat := (b.place.keys.filter (fun n => (placeOf a n).lane ≠ (placeOf b n).lane)).length

/-- A change of the placement that is applied counts in PLACEMENT_EPOCH (R95). -/
def placeChange (f : Graph → Graph) (g : Graph) : Graph :=
  let h := f g
  if movedNodes g h = 0 then h else { h with placeEpoch := h.placeEpoch + 1 }

/-- A cycle has been reached. -/
def cycleReached (s : State) (c : CycleNo) : Bool := c = s.cyc.n || after 48 s.cyc.n.toNat c.toNat

/-- Nodes of retired lanes move (R93): ascending, each to the live lane with the smallest load. -/
def retireMoves (g : Graph) : Graph :=
  let live := (List.range 64).filter (fun l => !(g.lanes.get l {}).retired)
  let ns := g.place.keys.filter (fun n => (g.lanes.get (placeOf g n).lane {}).retired)
  (ns.foldl (fun (acc : Graph × SMap Nat) n =>
    let g := acc.1
    let load := fun l => g.lastLoad.get l 0 + acc.2.get l 0
    match live with
    | [] => acc
    | a :: rest =>
      let l := rest.foldl (fun b l => if load l < load b then l else b) a
      let g := moveNode n l g
      ({ g with place := g.place.upd n {} (fun p => { p with home := l }) }, acc.2.upd l 0 (· + (placeOf g n).exec))) (g, [])).1

/-- A restoration of the home placement that is due (R91, R92). -/
def goHomeDue (s : State) (g : Graph) : Graph :=
  match g.goHome with
  | some c => if cycleReached s c then { homeAll g with goHome := none } else g
  | none => g

/-- A move set takes effect, or is undone with its nodes frozen (R90). -/
def moveSetDue (s : State) (g : Graph) : Graph :=
  match g.moveSet with
  | some m =>
    if m.phase = 0 ∧ cycleReached s (m.base + 2) then
      { m.moves.foldl (fun g x => moveNode x.1 x.2.2 g) g with moveSet := some { m with phase := 1 } }
    else if m.phase = 2 ∧ cycleReached s (m.base + 4) then
      let g := m.moves.foldl (fun g x => moveNode x.1 x.2.1 g) g
      { g with place := m.moves.foldl (fun p x => p.upd x.1 {} (fun q => { q with freeze := 1000 })) g.place, moveSet := none,
               buildFrom := some s.cyc.n }
    else g
  | none => g

/-- Placement changes at the cutoff freeze of a cycle (R90–R93), with MOVES: a node that is sent home and off a retired
lane at one cutoff has changed its lane once. -/
def placeAtCutoff (s : State) : State :=
  let g := placeChange (fun g => retireMoves (moveSetDue s (goHomeDue s g))) s.graph
  withGraph s { g with movesNow := min 255 (movedNodes s.graph g) }

/-- Total busy time and mean step of the cycle (R90). -/
def meanStep (g : Graph) : Rat :=
  let busy := (g.lanes.map (fun x => x.2.busy)).sum
  if g.stepsRun = 0 then 0 else (busy : Rat) / (g.stepsRun : Rat)

/-- The normalised completion (R90), in steps. -/
def normOf (g : Graph) : Rat := if meanStep g = 0 then 0 else (g.gt : Rat) / meanStep g

/-- Index of the greatest, or the least, of a table of loads; ties go to the lower lane. -/
def pickLane (most : Bool) (est : SMap Rat) : Option (Nat × Rat) :=
  est.foldl (fun b x => match b with
    | none => some x
    | some y => if (if most then y.2 < x.2 else x.2 < y.2) then some x else b) none

/-- The loop of R89. -/
def buildMoves (s : State) (thr mean : Rat) : Nat → SMap Rat → List (Nat × Nat × Nat) → List (Nat × Nat × Nat)
  | 0, _, mv => mv
  | k + 1, est, mv =>
    match pickLane true est, pickLane false est with
    | some (hi, eh), some (lo, el) =>
      let gap := eh - el
      if gap ≤ thr then mv else
      let exec := fun (n : NodeDef) =>
        let e := (placeOf s.graph n.node).exec
        if e = 0 then (n.steps : Rat) * mean else (e : Rat)
      let cand := (nodes s).filter (fun n =>
        let p := placeOf s.graph n.node
        p.lane = hi && !n.pin && p.freeze = 0 && !mv.any (fun x => x.1 = n.node) && decide (exec n ≤ gap / 2))
      match cand with
      | [] => mv
      | c :: rest =>
        let v := rest.foldl (fun b n => if exec b < exec n then n else b) c
        buildMoves s thr mean k ((est.set hi (eh - exec v)).set lo (el + exec v)) (mv ++ [(v.node, hi, lo)])
    | _, _ => mv

/-- ADAPT_THRESHOLD in 0.1 ns. -/
def adaptThr (s : State) : Rat := (par s 0x12 0 2 : Rat) * 25

/-- Evaluation of a move set in effect (R90). -/
def judgeMoves (s : State) : State :=
  let g := s.graph
  match g.moveSet with
  | some m =>
    if m.phase = 1 ∧ cycleReached s (m.base + 2) then
      let worse := 0 < m.mean && m.norm + adaptThr s / m.mean < normOf g
      withGraph s (if worse then { g with moveSet := some { m with phase := 2 } } else { g with moveSet := none, buildFrom := some s.cyc.n })
    else s
  | none => s

/-- The bound of R91. A second excess before the restoration leaves its cycle as it stands. The rule names no cause data:
DETAIL is the normalised completion in 1/256 step, four bytes (DESIGN CHOICE, log 103). -/
def judgeBound (s : State) : State :=
  let g := s.graph
  let bound : Rat := match s.cfg.plate with | some p => (p.hdr.homeBound.toNat : Rat) / 60 | none => 0
  if normOf g ≤ bound then s
  else if atHome g then
    (if g.boundRaised then s else raise 289 (be 4 (normOf g * 256).floor.toNat) (withGraph s { g with boundRaised := true }))
  else withGraph s { g with goHome := some (g.goHome.getD (s.cyc.n + 2)), moveSet := none }

/-- A move set is built after the launch tick (R89), from the cycle on that R90 names. -/
def buildSet (s : State) : State :=
  let g := s.graph
  let early := match g.buildFrom with | some c => !cycleReached s c | none => false
  if parN s 0x12 0 0 = 0 || g.moveSet.isSome || 0 < g.holdoff || early then s else
  let est : SMap Rat := (g.lanes.filter (fun x => !x.2.retired)).map (fun x => (x.1, (x.2.busy : Rat)))
  match buildMoves s (adaptThr s) (meanStep g) (parN s 0x12 0 0) est [] with
  | [] => s
  | mv => withGraph s { g with moveSet := some { moves := mv, base := s.cyc.n, norm := normOf g, mean := meanStep g } }

/-- The record of R95, with the entries of the placement table rewritten at the same instant (R96). R95 gives
NORM_COMPLETION no value for a missed cycle and no rounding: it is 0 there, and rounded down (DESIGN CHOICE, log 103). -/
def writeObservables (missed : Bool) (s : State) : State :=
  let g := s.graph
  let lanes := (List.range 64).map (fun l => g.lanes.get l {})
  let r : ObsRing :=
    { cycle := s.cyc.n, completion := if missed then 0xFFFFFFFF else g.gt, norm := if missed then 0 else (normOf g * 256).floor.toNat,
      qmax := (List.range 8).map (fun p => g.qmax.get p 0), epoch := g.placeEpoch, missed := missed, home := atHome g,
      suspended := 0 < g.holdoff, pending := g.moveSet.isSome, moves := g.movesNow,
      retired := (List.range 64).filter (fun l => (g.lanes.get l {}).retired),
      load := lanes.map (·.busy), ops := lanes.map (·.ops), hist := (List.range 32).map (fun b => g.hist.get b 0) }
  withGraph s { g with ring := g.ring.set (s.cyc.n.toNat % 16) r, table := g.place }

/-- The suspension of R92 is one cycle shorter. -/
def holdoffTick (s : State) : State := withGraph s { s.graph with holdoff := s.graph.holdoff - 1 }

/-- A launched cycle has passed for the placement: busy times of the nodes that ran, and the freezes of R90. -/
def placeLaunched (g : Graph) : Graph :=
  { g with place := g.place.mapVals (fun n p => { p with exec := g.execNow.get n p.exec, freeze := p.freeze - 1 }) }

/-- What the scheduler does at the launch tick, apart from the commit of the node states. -/
def schedLaunch (s : State) : State :=
  let g := { placeLaunched s.graph with lastLoad := s.graph.lanes.map (fun x => (x.1, x.2.busy)) }
  holdoffTick (buildSet (judgeBound (judgeMoves (writeObservables false (withGraph s g)))))

/-- What it does in a launched cycle in which the graph is off (R22): the record of R95 with nothing measured, and no node
has run (R66). A move set in effect is judged on such a cycle all the same, and kept (log 102). -/
def schedIdle (s : State) : State :=
  let g := s.graph
  let quiet := fun _ (x : NodeStat) => { x with domain := false, clamp := false, sat := false, executed := false }
  holdoffTick (judgeMoves (writeObservables false (withGraph s { placeLaunched g with stat := g.stat.mapVals quiet })))

/-- What the scheduler does at a missed deadline (R69, R75, R85, R92): nothing is kept but the record. A set that has been
judged for reversion and not been undone yet is discarded with the pending ones, and its nodes are not frozen (DESIGN
CHOICE, log 104). -/
def schedMiss (s : State) : State :=
  let stop := fun _ (x : Lane) => { x with exec := none, staged := none, stepsLeft := 0 }
  let s := writeObservables true s
  withGraph s { s.graph with
    lanes := s.graph.lanes.mapVals stop, queues := [], waitObs := [], work := [], workStat := [],
    goHome := some (s.cyc.n + 1), moveSet := none, holdoff := parN s 0x12 0 4 }

/-! ### Commit of the node states (R54, R66–R68) -/

/-- A node's status word after a launched cycle (R66). -/
def statNext (old new : NodeStat) : NodeStat :=
  { satCount := if new.sat then min 65535 (old.satCount + 1) else old.satCount,
    domSticky := old.domSticky || new.domain, clampSticky := old.clampSticky || new.clamp, satSticky := old.satSticky || new.sat,
    domain := new.domain, clamp := new.clamp, sat := new.sat, executed := true }

/-- The status word's 32 bits (R66). -/
def statWord (x : NodeStat) : Word :=
  BitVec.ofNat 32 (x.satCount * 65536 + b2n x.domSticky * 1024 + b2n x.clampSticky * 512 + b2n x.satSticky * 256 +
    b2n x.domain * 8 + b2n x.clamp * 4 + b2n x.sat * 2 + b2n x.executed)

/-- FLT_NODE_SAT for nodes whose SAT_STICKY rises (R68), with node, cycle and phase. -/
def raiseSat (ns : List Nat) (s : State) : State :=
  ns.foldl (fun s n => raise 288 (be 2 n ++ be 6 s.cyc.n.toNat ++ be 1 s.dev.phase.code) s) s

/-- FLT_PLL_DIVERGE follows the GRID_PLL nodes that have counted DIVERGE_CYCLES (R113), with the node number and
the last difference, in units of 2^-46 turn. -/
def raiseDiverge (s : State) : State :=
  let bad := (nodes s).filter (fun n => n.opcode = 0x25 && (s.graph.cur.get n.node {}).ints.getD 5 0 != 0)
  match bad with
  | [] => clear 5 s
  | n :: _ => raise 5 (be 2 n.node ++ beI 8 ((s.graph.cur.get n.node {}).ints.getD 6 0)) s

/-- SP_LINK of a RAMP node: the slot's number plus 1, or 0 (R115). -/
def spLink (n : NodeDef) : Nat := if n.opcode = 0x19 then n.opt.toNat / 65536 % 512 else 0

/-- Some element of some RAMP node that reports to a slot is clamped in this cycle (R115). -/
def spClampedBy (s : State) (slot : Nat) : Bool :=
  (nodes s).any (fun n => spLink n = slot + 1 && (s.graph.cur.get n.node {}).ints.getD 0 0 != 0)

/-- SP_CLAMPED of the slots that RAMP nodes report to (R115). -/
def spFlags (s : State) : State :=
  (((nodes s).map spLink).filter (fun k => 0 < k)).eraseDups.foldl (fun s k =>
    let on := spClampedBy s (k - 1)
    let rise := on && !s.graph.spClamped.get (k - 1) false
    let s := withGraph s { s.graph with spClamped := s.graph.spClamped.set (k - 1) on }
    if rise then event 0x85 4 (be 1 (k - 1) ++ be 1 0 ++ be 6 s.cyc.n.toNat) s else s) s

/-- The working copies become current at the launch tick (R54). -/
def commitNodes (s : State) : State :=
  let g := s.graph
  let stat := g.workStat.foldl (fun m x => m.upd x.1 {} (fun o => statNext o x.2)) g.stat
  let rises := (g.workStat.filter (fun x => x.2.sat && !(g.stat.get x.1 {}).satSticky)).map (·.1)
  let s := withGraph s { g with cur := g.work, stat := stat }
  raiseDiverge (raiseSat rises (spFlags s))

/-- The stage of a node that leaves the fabric: its output, or an extended state (R59). -/
def nodeExport (s : State) (n : Nat) (k : Option Nat) : Stage :=
  match k with
  | none => nodeOut s.graph.cur n
  | some j =>
    match node? s n with
    | some d => exportStage d ((s.graph.cur.get n {}).st.getD j {})
    | none => {}

end Sys2Proof.Machine
end

