-- ==== Sys2Proof/Machine/Get.lean ====
section
/-! DEFINITION. The Grid Edge Timer (R279–R290): edge acceptance, frequency, sequence, phase and phase jumps.
Instants in units of 2^-32 ns of CT. -/

namespace Sys2Proof.Machine

/-- The cycles from CYCLE_BASE to cycle `n`, counted on over the wraps of the counter (R31, R32): `n` is taken by its
signed difference from the current cycle. -/
def cycleIndex (s : State) (n : CycleNo) : Nat :=
  (((s.cyc.wraps * 2 ^ 48 + s.cyc.n.toNat : Nat) : Int) + (n - s.cyc.n).toInt).toNat

/-- Start of a cycle in CT (R31). -/
def cycleStartCt (s : State) (n : CycleNo) : Nat := s.cyc.base * secUnits + cycleIndex s n * (parN s 1 0 0 * 10) * 2 ^ 32

/-- F_NOM_GET in Hz. -/
def getNom (s : State) (p : Nat) : Rat := (par s 0x34 p 4 : Rat) / 100

/-- Nominal periods in a span of CT. -/
def getPeriods (s : State) (p : Nat) (d : Int) : Rat := (d : Rat) / (secUnits : Rat) * getNom s p

/-- Edge phase of an input of a point (R279), by its sequence: 2 is negative. -/
def edgePhase (sq k : Nat) : Rat :=
  match k with | 0 => 0 | 1 => if sq = 2 then 2 / 3 else 1 / 3 | _ => if sq = 2 then 1 / 3 else 2 / 3

/-- The phase of a point at an instant (R286). -/
def getPhase (s : State) (p : Nat) (x : GetPt) (t : Nat) : Rat :=
  match x.valid, x.phaseEdge with
  | true, some (te, k) => fracR (edgePhase x.seq k + getPeriods s p ((t : Int) - te) * x.freq)
  | _, _ => 0

/-- The run of pairs and the sequence after a pair of an order, 1 positive or 2 negative (R285). -/
def seqStep (x : GetPt) (d : Nat) : GetPt :=
  let n := if x.runDir = d then x.runLen + 1 else 1
  { x with runDir := d, runLen := n, seq := if 2 ≤ n then d else x.seq }

/-- The pair an accepted edge forms with the newest one (R285). -/
def seqPair (x : GetPt) (k : Nat) (ambig : Bool) : GetPt :=
  match x.newest with
  | some (_, j, a) => if j = k || a || ambig then x else seqStep x (if (j + 1) % 3 = k then 1 else 2)
  | none => x

/-- Frequency after an interval (R284). -/
def freqStep (s : State) (p : Nat) (x : GetPt) (iv : Int) : GetPt :=
  let r : Rat := if iv ≤ 0 then 0 else 1 / getPeriods s p iv
  if (par s 0x34 p 8 : Rat) / 100 ≤ r && r ≤ (par s 0x34 p 9 : Rat) / 100 then
    let n := x.goodRun + 1
    if x.valid || 2 ≤ n then { x with goodRun := n, valid := true, freq := r } else { x with goodRun := n }
  else { x with goodRun := 0 }

/-- The step an edge that ends coasting shows (R287). -/
def jumpOf (s : State) (p : Nat) (x : GetPt) (k t : Nat) : Option Rat :=
  if !x.coasting || x.standstill || (x.seq = 0 && k ≠ 0) then none else
  let d := wrapHalf (edgePhase x.seq k - getPhase s p x t)
  if (par s 0x34 p 14 : Rat) / 1000 ≤ absR d then some d else none

/-- An accepted edge of input `k` of a point (R284–R287). -/
def edgeAccept (s : State) (p k t : Nat) (ambig : Bool) (x : GetPt) : GetPt :=
  let x := match jumpOf s p x k t with | some d => { x with jump := some (x.jump.getD 0 + d) } | none => x
  let x := seqPair x k ambig
  let x := match x.last.find k with | some u => freqStep s p x ((t : Int) - u) | none => x
  { x with last := x.last.set k t, newest := some (t, k, ambig), phaseEdge := if x.seq ≠ 0 || k = 0 then some (t, k) else x.phaseEdge,
           coasting := false, standstill := false, ambig := x.ambig || ambig }

/-- A fast edge (R282). -/
def isFast (s : State) (p k t : Nat) (x : GetPt) : Bool :=
  match x.last.find k with
  | some u => decide (getPeriods s p ((t : Int) - u) < (par s 0x34 p 6 : Rat) / 100)
  | none => false

/-- A point of the GET. -/
def getPt (s : State) (p : Nat) : GetPt := s.get.get p {}
/-- Change a point of the GET. -/
def setPt (p : Nat) (x : GetPt) (s : State) : State := { s with get := s.get.set p x }

/-- A fast edge is counted, and reported at most once per second (R282). -/
def fastEdge (p : Nat) (s : State) : State :=
  let x := getPt s p
  let due : Bool := match x.fastTick with | some t => decide (400000000 ≤ s.now - t) | none => true
  let s := setPt p { x with fast := x.fast + 1, fastNow := true, fastTick := if due then some s.now else x.fastTick } s
  if due then raise (246 + p) (be 1 p) s else s

/-- A point before the sample. -/
def GetSample.pt (g : GetSample) (p : Nat) : GetPt := if p = 0 then g.pt0 else g.pt1

/-- A point after the accepted edges of a sample (R283–R287): all take the timestamp measured for the lowest-numbered input,
two of one point are ambiguous, and the sample counts once as a coincidence of the point that owns that input (log 123).
Fast edges of the sample keep what they counted. -/
def samplePoint (s : State) (g : GetSample) (p : Nat) : GetPt :=
  let low := g.edges.head?.getD (0, 0)
  let mine := g.edges.filter (fun e => e.1 / 3 = p)
  let x := mine.foldl (fun x e => edgeAccept s p (e.1 % 3) low.2 (decide (2 ≤ mine.length)) x) (g.pt p)
  let cur := getPt s p
  { x with fast := cur.fast, fastNow := cur.fastNow, fastTick := cur.fastTick,
           coinc := if 2 ≤ g.edges.length && low.1 / 3 = p then (g.pt p).coinc + 1 else (g.pt p).coinc }

/-- A sample is complete: a change of sequence that it made is reported (R285). -/
def getClose (s : State) : State :=
  match s.getLast with
  | none => s
  | some g =>
    [0, 1].foldl (fun s p =>
      let y := getPt s p
      if (g.pt p).seq ≠ 0 && y.seq ≠ (g.pt p).seq then raise (248 + p) (be 1 p ++ be 1 y.seq) s else s) { s with getLast := none }

/-- An accepted edge joins its sample (R283). -/
def takeEdge (i t : Nat) (s : State) : State :=
  let s := match s.getLast with | some g => if g.tick = s.now then s else getClose s | none => s
  let g : GetSample := match s.getLast with
    | some g => { g with edges := g.edges.set i t }
    | none => { tick := s.now, edges := [(i, t)], pt0 := getPt s 0, pt1 := getPt s 1 }
  let s := { s with getLast := some g }
  clear (244 + i / 3) ([0, 1].foldl (fun s p => if g.edges.any (fun e => e.1 / 3 = p) then setPt p (samplePoint s g p) s else s) s)

/-- An edge at GE0–GE5 (R280–R283); `eu` is its position in edge units. -/
def execGeEdge (input : Nat) (rising : Bool) (eu : Nat) (s : State) : Host.Outcome State Fault Refusal :=
  let s := advanceTo (eu / 64) s
  let p := input / 3
  let t := ctNow s + eu % 64 * (ctIncrement s.time (slewStep (par s 0x32 0 2))).toNat / 64
  let on := s.dev.state.loadedOn && par s 0x34 input 0 = 1 && (rising == (par s 0x34 input 2 == 0))
  unit (input < 6)
    (if !on then s
     else if isFast s p (input % 3) t (getPt s p) then fastEdge p s
     else takeEdge input t s)

/-- JUMP_GAP has passed without an accepted edge (R284). -/
def execGetCoasting (pt : Nat) (s : State) : Host.Outcome State Fault Refusal :=
  let s := getClose s
  let x := getPt s pt
  unit (pt < 2) (if x.standstill || !s.dev.state.loadedOn then s else setPt pt { x with coasting := true } s)

/-- STANDSTILL_TIMEOUT has passed without an accepted edge (R284–R286): with the sequence UNKNOWN only
an edge of phase a places the phase. -/
def execGetStandstill (pt : Nat) (s : State) : Host.Outcome State Fault Refusal :=
  let s := getClose s
  let x := getPt s pt
  unit (pt < 2)
    (if x.standstill || !s.dev.state.loadedOn then s
     else raise (244 + pt) (be 1 pt)
      (setPt pt { x with standstill := true, coasting := false, valid := false, freq := 0, goodRun := 0, seq := 0, runDir := 0, runLen := 0,
                         phaseEdge := (x.last.find 0).map (fun t => (t, 0)) } s))

/-- Graph inputs of a point at the cutoff (R289): input number and elements. -/
def getInputs (s : State) (p : Nat) : List (Nat × List Int) :=
  let x := getPt s p
  [(0x0100 + p, [rhe (getPhase s p x (cycleStartCt s s.cyc.n) * 16777216) % 16777216, rhe (x.freq * 1048576), b2n x.valid,
                 rhe (x.jump.getD 0 * 16777216)]),
   (0x0102 + p, [x.seq, ((b2n x.coasting + 2 * b2n x.standstill + 4 * b2n x.ambig + 8 * b2n x.fastNow : Nat) : Int),
                 (x.coinc % 8388608 : Nat), (x.fast % 8388608 : Nat)])]

/-- The freeze takes what is delivered in this cycle (R286, R288). -/
def getFreeze (s : State) : State :=
  [0, 1].foldl (fun s p => let x := getPt s p
    setPt p { x with jumpOut := x.jump, ambig := false, fastNow := false } s) s

/-- A launched cycle has delivered its jumps (R288), which may request RECOVERY (R26). -/
def getLaunch (s : State) : State :=
  [0, 1].foldl (fun s p =>
    let x := getPt s p
    match x.jumpOut with
    | none => s
    | some d =>
    let rest := x.jump.getD 0 - d
    let s := setPt p { x with jump := if rest = 0 then none else some rest, jumpOut := none } s
    if (parN s 0x15 0 0).testBit p && s.dev.phase == .service && s.dev.state == .running then
      { s with dev := { s.dev with recoveryReq := true } } else s) s

end Sys2Proof.Machine
end

