-- ==== Sys2Proof/Machine/CapSample.lean ====
section
/-! DEFINITION. Samples of the capture engine (R441–R454): the value of a source goes to the triggers that watch it and
to the channels that record it. -/

namespace Sys2Proof.Machine

/-- One value of a source: the word recorded, v of R446, its instant, and STALE. -/
structure CapVal where
  word  : Word
  v     : Int
  cycle : CycleNo
  tick  : Nat
  stale : Bool := false
deriving DecidableEq, Repr

/-- v of a word in a point format (R446): 0 INT32, 1 UINT32, 2 element word. -/
def capV (fmt : Nat) (w : Word) : Int :=
  if fmt = 0 then w.toInt else if fmt = 1 then (w.toNat : Int)
  else clampI (-2147483648) 2147483647 (rhe (ewVal (elemOfBits w) * 65536))

/-! ### Triggers that watch a source (R451) -/

/-- A CROSS trigger takes a value: whether it fires, and the primed flags. -/
def crossStep (thr hyst edge v : Int) (pr pf : Bool) : Bool × Bool × Bool :=
  let up := edge ≠ 1 && pr && decide (thr < v)
  let dn := edge ≠ 0 && pf && decide (v < thr)
  (up || dn, (pr && !up) || decide (v ≤ thr - hyst), (pf && !dn) || decide (thr + hyst ≤ v))

/-- Triggers of kinds CROSS and WINDOW take a value of the source they name. -/
def trgWatch (kind idx el : Nat) (v : Int) (s : State) : State :=
  (List.range 8).foldl (fun s t =>
    let k := parN s 0x62 t 0
    if (k ≠ 1 && k ≠ 2) || parN s 0x62 t 2 ≠ kind || parN s 0x62 t 3 ≠ idx || (kind ≠ 0 && parN s 0x62 t 4 ≠ el) then s
    else if k = 1 then
      let (f, pr, pf) := crossStep (par s 0x62 t 6) (par s 0x62 t 7) (par s 0x62 t 8) v (s.cap.primedR.get t false) (s.cap.primedF.get t false)
      let s := { s with cap := { s.cap with primedR := s.cap.primedR.set t pr, primedF := s.cap.primedF.set t pf } }
      if f then trgFire t s else s
    else
      let inR := decide (par s 0x62 t 10 ≤ v) && decide (v ≤ par s 0x62 t 11)
      let was := s.cap.inside.get t false
      let s := { s with cap := { s.cap with inside := s.cap.inside.set t inR } }
      if was && !inR then trgFire t s else s) s

/-! ### One sample of a channel (R444–R448, R452–R454) -/

/-- Column of a persistence map (R448). -/
def capColumn (s : State) (a : CapArm) (x : CapVal) : Option Nat :=
  let p := a.modeParam.toNat
  if p.testBit 31 then
    let g := b2n (p.testBit 30)
    let pt := getPt s g
    if pt.valid then some (getPhase s g pt (cycleStartCt s x.cycle + x.tick * 0x280000000) * 256).floor.toNat else none
  else some (min 255 (256 * x.tick / max 1 (tccTicks s)))

/-- The entry of a time record. -/
def capEntry (x : CapVal) (gap : Bool) (fired : Nat) : List Byte :=
  le 4 x.word.toNat ++ le 6 x.cycle.toNat ++ le 2 x.tick ++ le 1 (b2n gap + 4 * b2n x.stale) ++ le 1 fired ++ le 2 0

/-- A channel that is taking samples. -/
def capLive (c : CapCh) : Bool :=
  match c.st with | .preFill | .armed => true | .postTrigger => 0 < c.left | _ => false

/-- Triggers of kind ALWAYS among those a channel listens to. -/
def capAlways (s : State) (c : CapCh) : Nat :=
  ((List.range 8).filter (fun t => parN s 0x62 t 0 = 7 && c.arm.trgMask.getLsbD t)).foldl (fun n t => n ||| 2 ^ t) 0

/-- Entries still queued at most, drained at the guaranteed rate of one in eight ticks (R454). -/
def capDrain (s : State) : State :=
  let d := (s.now - s.cap.drainTick) / 8
  { s with cap := { s.cap with queued := s.cap.queued - d, drainTick := if s.cap.queued ≤ d then s.now else s.cap.drainTick + 8 * d } }

/-- The channel stops with OVERFLOW (R454, R455). -/
def capOverflow (n : Nat) (s : State) : State :=
  let c := { capGet s n with st := .overflow, overflow := true, doneAt := some (s.cyc.n, tickPhase s) }
  let s := capPut n c true s
  let s := eventTag (some (c.mbx, c.epoch)) c.tag 0x84 3 (be 1 n ++ be 1 Status.overflow.code ++ be 2 0 ++ be 4 (capLast c) ++ be 4 (capBase s n)) s
  raise 340 (be 1 n ++ be 4 (capLast c)) s

/-- A sample is written or binned, and the channel moves on. -/
def capWrite (n : Nat) (x : CapVal) (s : State) : State :=
  let c := capGet s n
  let fired := c.fired ||| capAlways s c
  let col := if c.arm.mode = 2 then capColumn s c.arm x else none
  let st := if c.arm.mode = 0 then
      Memory.writes s.store (capBase s n + 64 + 16 * (c.written % max 1 (capCapacity c.arm))) (capEntry x c.gapNext fired)
    else s.store
  let wasArmed := c.st == .armed
  let c := { c with samples := cnt32 c.samples, written := c.written + 1, fired := 0, gapNext := false, lastTick := some s.now,
                    lastArmed := wasArmed, lastV := x.v, lastX := col, lastCyc := x.cycle, lastTk := x.tick }
  let s := { s with store := st }
  match c.st with
  | .preFill => if c.written = c.arm.preCount then capPut n { c with st := .armed } true s else capPut n c false s
  | .armed =>
    if fired = 0 then capPut n c false s
    else
      let c := capTrigger c fired
      let (c, st) := capBin n c x.v col s
      let s := { s with store := st }
      let st := if c.arm.mode = 0 then
          let a := capEntryAddr s n c
          Memory.write s.store (a + 12) (Memory.read s.store (a + 12) ||| 2#8)
        else s.store
      capPut n { c with doneAt := if c.left = 0 then some (s.cyc.n, tickPhase s) else none } true { s with store := st }
  | .postTrigger =>
    let (c, st) := capBin n c x.v col s
    let c := { c with left := c.left - 1 }
    capPut n { c with doneAt := if c.left = 0 then some (s.cyc.n, tickPhase s) else none } false { s with store := st }
  | _ => s

/-- A value of a channel's source (R441, R454): every DECIMATION-th one is a sample; a queue that may be full loses
it or not as the stack link decides (log 14). -/
def capTake (n : Nat) (x : CapVal) (s : State) : State :=
  let c := capGet s n
  if !capLive c then s
  else if c.seen % max 1 c.arm.decimation ≠ 0 then capPut n { c with seen := c.seen + 1 } false s
  else
    let s := capDrain (capPut n { c with seen := c.seen + 1 } false s)
    let full := 64 ≤ s.cap.queued && (Config.freeWord s.free).getLsbD 0
    let last := c.st == .postTrigger && c.left = 1
    let s := { s with free := if 64 ≤ s.cap.queued then s.free + 1 else s.free, cap := { s.cap with queued := s.cap.queued + 1 } }
    if full && !last then capOverflow n s else capWrite n x s

/-- Channels that record a source. -/
def capOn (s : State) (kind idx el : Nat) : List Nat :=
  (s.cap.ch.filter (fun x =>
    let a := x.2.arm
    capLive x.2 && a.srcKind = kind && a.srcIndex = idx && (kind = 0 || kind = 3 || a.element = el))).map (·.1)

/-- A value of a source comes: triggers first, then the channels (R451, R452). -/
def capFeed (kind idx el : Nat) (x : CapVal) (s : State) : State :=
  let s := trgWatch kind idx el x.v s
  (capOn s kind idx el).foldl (fun s n => capTake n x s) s

/-- A value of a source did not come (R442). -/
def capGap (kind idx : Nat) (s : State) : State :=
  (s.cap.ch.filter (fun x => capLive x.2 && x.2.arm.srcKind = kind && x.2.arm.srcIndex = idx)).foldl
    (fun s x => capPut x.1 { x.2 with gapNext := true, gaps := cnt32 x.2.gaps } false s) s

/-- An edge event of a pulse channel (R441, R445): event code, trip input, edge unit within the tick. -/
def capEdge (ch ev ti eu : Nat) (s : State) : State :=
  let sel := if ev ≤ 3 then 0 else if ev = 4 then 1 else 2
  let w := BitVec.ofNat 32 (ev * 2 ^ 24 + ti * 2 ^ 20 + eu % 64)
  let x : CapVal := { word := w, v := w.toNat, cycle := s.cyc.n, tick := tickPhase s }
  ((capOn s 3 ch 0).filter (fun n => (capGet s n).arm.element.testBit sel)).foldl (fun s n => capTake n x s) s

end Sys2Proof.Machine
end

