-- ==== Sys2Proof/Machine/Points.lean ====
section
/-! DEFINITION. The Point Store (R218–R228): records, writes, limits and staleness. -/

namespace Sys2Proof.Machine

/-- Point `k` of a mooring (R218). -/
def ptOf (ci k : Nat) : Nat := ci * 128 + k

/-- WRITER of a point of the catalogue (R219, R220), 0 where none writes. -/
def ptWriter (s : State) (p : Nat) : Nat :=
  let k := p % 128
  if k ≤ 12 then 3
  else if (16 ≤ k ∧ k ≤ 26) then 7
  else if k = 32 ∨ k = 33 then 4
  else if 40 ≤ k ∧ k ≤ 44 then 1
  else if 48 ≤ k ∧ k ≤ 107 then 2
  else if 112 ≤ k then
    (match s.cfg.plate with
     | some pl => (match pl.points.find p with | some m => if m.source.isSome then 5 else 6 | none => 0)
     | none => 0)
  else 0

/-- FORMAT of a point (R219, R220): 0 INT32, 1 UINT32, 2 element word. -/
def ptFormat (s : State) (p : Nat) : Nat :=
  let k := p % 128
  if (6 ≤ k ∧ k ≤ 12) ∨ (16 ≤ k ∧ k ≤ 18) ∨ (21 ≤ k ∧ k ≤ 26) ∨ k = 32 ∨ k = 44 then 1
  else if 112 ≤ k then
    (match s.cfg.plate with
     | some pl => (match pl.points.find p with | some m => m.format | none => 0)
     | none => 0)
  else 0

/-- A point's value in its format, for comparison (R221). -/
def ptVal (fmt : Nat) (w : Word) : Rat :=
  if fmt = 0 then (w.toInt : Rat) else if fmt = 1 then (w.toNat : Rat) else ewVal (elemOfBits w)

/-- Limits and enables of a point (R220): LIMIT_HI, LIMIT_LO, LIM_HI_EN, LIM_LO_EN, EVENT_FAULT. -/
def ptLim (s : State) (p item : Nat) : Int := parOf s.cfg.par (armTab s) (0x14000000 + p * 16 + item)

/-- The hysteresis h of R222. -/
def ptHyst (fmt : Nat) (hi lo : Word) : Rat :=
  if fmt < 2 then ((max 1 ((ptVal fmt hi - ptVal fmt lo) / 32).floor : Int) : Rat)
  else
    let u := pow2 (min (elemOfBits hi).e (elemOfBits lo).e - 23)
    ((max 1 ((ptVal 2 hi - ptVal 2 lo) / u / 32).floor : Int) : Rat) * u

/-- ABOVE_HI and BELOW_LO that follow from a value (R222). -/
def ptFlags (s : State) (p : Nat) (x : Point) : Bool × Bool :=
  let fmt := ptFormat s p
  let hi : Word := BitVec.ofInt 32 (ptLim s p 0)
  let lo : Word := BitVec.ofInt 32 (ptLim s p 1)
  let v := ptVal fmt x.val
  let h := ptHyst fmt hi lo
  let above := ptLim s p 2 = 1 && (ptVal fmt hi < v || (x.above && ptVal fmt hi - h < v))
  let below := ptLim s p 3 = 1 && (v < ptVal fmt lo || (x.below && v < ptVal fmt lo + h))
  (above, below)

/-- The limit check after a write, with its events (R222). -/
def ptCheck (p : Nat) (x : Point) (s : State) : State :=
  let (a, b) := ptFlags s p x
  let rises : List Nat := (if a && !x.above then [2] else []) ++ (if b && !x.below then [3] else [])
  let x := { x with above := a, below := b, stale := false, events := min 0xFFFFFFFF (x.events + rises.length) }
  let s := { s with points := s.points.set p x }
  if ptLim s p 4 = 1 then rises.foldl (fun s f => raise 290 (be 4 p ++ be 4 x.val.toNat ++ be 1 f) s) s else s

/-- The instant is later than the record's (R221, R32). -/
def ptLater (x : Point) (cycle : CycleNo) (tick : Nat) : Bool :=
  after 48 cycle.toNat x.cycle.toNat || (cycle = x.cycle && x.tick < tick)

/-- One write of a point (R221, R227): discarded where its instant is not later than the record's, VALID or not; the write
that rebuilds a lost record counts alone. -/
def ptWrite (p : Nat) (v : Word) (cycle : CycleNo) (tick : Nat) (s : State) : State :=
  let x := s.points.get p {}
  if !x.rebuild && !ptLater x cycle tick then { s with ptDiscards := s.ptDiscards.upd (ptWriter s p) 0 cnt32 } else
  let fmt := ptFormat s p
  let gap := (cycle - x.cycle).toNat
  let age := fun n => min 65535 (n + gap)
  let hist := if x.rebuild then [(0, 0), (0, 0), (0, 0), (0, 0)]
    else ((x.val, age 0) :: x.hist.map (fun y => (y.1, age y.2))).take 4
  let first := x.fresh || x.rebuild
  let x := { x with
    val := v, cycle := cycle, tick := tick % 65536, hist := hist, updates := (if x.rebuild then 0 else x.updates) + 1, valid := true,
    above := x.above && !x.rebuild, below := x.below && !x.rebuild, wrote := s.cyc.n,
    min := if first || ptVal fmt v < ptVal fmt x.min then v else x.min,
    max := if first || ptVal fmt x.max < ptVal fmt v then v else x.max,
    events := if x.rebuild then 0 else x.events, fresh := false, rebuild := false }
  capFeed 0 p 0 { word := v, v := capV fmt v, cycle := cycle, tick := tick } (ptCheck p x s)

/-- A count written to a point. -/
def ptCount (p n : Nat) (cycle : CycleNo) (tick : Nat) (s : State) : State :=
  ptWrite p (BitVec.ofNat 32 (min 0xFFFFFFFF n)) cycle tick s

/-- A signed value written to a point. -/
def ptInt (p : Nat) (x : Int) (cycle : CycleNo) (tick : Nat) (s : State) : State :=
  ptWrite p (BitVec.ofInt 32 (clampI (-2147483648) 2147483647 x)) cycle tick s

/-- At a lock-through the flags follow the new limits, without an event (R223). -/
def ptRelimit (s : State) : State :=
  { s with points := s.points.mapVals (fun p x =>
      if x.valid then { x with above := (ptFlags s p x).1, below := (ptFlags s p x).2 } else x) }

/-- POINT_MINMAX_CLEAR of one point (R223). -/
def ptMinMaxClear (x : Point) : Point := { x with min := 0, max := 0, events := 0, fresh := true }

/-- POLLs of one poll round of a basin (R226): the polled pages of its SERVING moorings. -/
def pollRound (s : State) (p : Nat) : Nat :=
  (((portOrder s p).filter (fun m => (s.moors.get (p * 256 + m) {}).st == .serving)).map
    (fun m => if isGauge s (p * 256 + m) then 1 else parN s 3 p 16)).sum

/-- The writer writes a point of its part of the catalogue for this mooring (R219). -/
def ptWritten (s : State) (p : Nat) : Bool :=
  let ci := p / 128
  ptWriter s p ≠ 0 && (ptWriter s p = 5 || (moorNamed s (ci / 256) (ci % 256) && (p % 128 ≠ 42 || !isGauge s ci)))

/-- Cycles after which a point that has not been written is STALE (R224); none where it never is. -/
def staleAfter (s : State) (p : Nat) : Option Nat :=
  let ci := p / 128
  let rot := parN s 1 (ci / 256) 8
  if !ptWritten s p then none
  else match ptWriter s p with
    | 1 => some (if isGauge s ci then 8 else match memberOf s ci with | some (a, _) => parN s 0x10 a 14 * rot | none => 8 * rot)
    | 2 => let k := parN s 3 (ci / 256) 14
           if k = 0 then none else some ((4 * pollRound s (ci / 256) + k - 1) / k)
    | 5 => if s.cyc.missed then some 1 else none
    | _ => none

/-- A point has not been written within its interval (R224): STALE rises, nothing else changes. A point that has not been
written since the lock-through has waited since cycle 0 (log 118). -/
def execPointStale (pt : Nat) (s : State) : Host.Outcome State Fault Refusal :=
  let x := s.points.get pt {}
  let due := match staleAfter s pt with | some k => decide (k < (s.cyc.n - x.wrote).toNat) | none => false
  unit (pt < nCells s * 128) (if due then { s with points := s.points.set pt { x with stale := true } } else s)

end Sys2Proof.Machine
end

