-- ==== Sys2Proof/Machine/Observer.lean ====
section
/-! DEFINITION. The Cell State Observer (R145–R161): arm current history, insertion sign, nominal charge, the
update at a cutoff, convergence, health flags and what is published. Instants in ns from the start of cycle M. -/

namespace Sys2Proof.Machine

/-! ### Parameters (R145) -/

/-- An observer parameter of an arm. -/
def obsP (s : State) (a item : Nat) : Int := par s 0x11 a item

/-- Tcc in ns. -/
def tccNs (s : State) : Rat := (par s 1 0 0 : Rat) * 10
/-- FIRE_DELAY in ns. -/
def fireNs (s : State) : Rat := (par s 1 0 4 : Rat) * 10
/-- HOLD_CYCLES. -/
def holdCycles (s : State) : Nat := parN s 1 0 14
/-- ROTATION_PERIOD of a cell's basin. -/
def rotPeriod (s : State) (ci : Nat) : Nat := max 1 (parN s 1 (ci / 256) 8)
/-- The cell has a slot in a cycle (R38); a gauge has one in every cycle (R203). -/
def scheduled (s : State) (ci : Nat) (n : CycleNo) : Bool := isGauge s ci || (n.toNat % rotPeriod s ci : Int) == par s 1 ci 10

/-! ### Frames in force (R147) -/

/-- State that the frame of cycle M − d gives a cell, through a cell hold and past it. -/
def inForce (s : State) (ci d : Nat) : CellCmd × Option (Nat × Nat) :=
  let dist := fun (f : FrameRec) => (s.cyc.n - f.cycle).toNat
  match s.obs.frames.find? (fun f => dist f = d && f.ports.contains (ci / 256)) with
  | some f => if f.block then (.block, none) else f.cmds.get ci (.block, none)
  | none =>
    match s.obs.frames.find? (fun f => d < dist f && dist f ≤ d + holdCycles s && f.ports.contains (ci / 256)) with
    | some f =>
      if f.block then (.block, none)
      else match f.cmds.get ci (.block, none) with
        | (_, some _) => (.bypass, none)
        | x => x
    | none => (.block, none)

/-- State in force just before any change at the start of cycle M − a (R147): frame M − a − 2. -/
def codeAt (s : State) (ci a : Nat) : CellCmd :=
  match inForce s ci (a + 2) with
  | (c, none) => c
  | (c, some (on, off)) =>
    let x := (tccNs s - fireNs s) / fireUnit s
    if (on : Rat) < x && x ≤ (off : Rat) then c else .bypass

/-- Insertion sign for a state and a current (R147). -/
def signOf (fb : Bool) (c : CellCmd) (i : Rat) : Int :=
  match c with
  | .bypass => 0
  | .insPos => 1
  | .insNeg => -1
  | .block => if 0 < i then 1 else if fb && i < 0 then -1 else 0

/-! ### Charge (R148) -/

/-- Integral of max(i, 0) for a current linear between two values over a span. -/
def posInt (i0 i1 span : Rat) : Rat :=
  if 0 ≤ i0 && 0 ≤ i1 then (i0 + i1) * span / 2
  else if i0 ≤ 0 && i1 ≤ 0 then 0
  else let p := max i0 i1; span * p * p / (2 * (absR i0 + absR i1))

/-- Integral of s × i over a piece. -/
def pieceInt (fb : Bool) (c : CellCmd) (i0 i1 span : Rat) : Rat :=
  match c with
  | .bypass => 0
  | .insPos => (i0 + i1) * span / 2
  | .insNeg => -((i0 + i1) * span / 2)
  | .block => posInt i0 i1 span + (if fb then posInt (-i0) (-i1) span else 0)

/-- Pieces of the application interval of the frame of cycle M − d (R147), as start, end and state. -/
def framePieces (s : State) (ci d : Nat) : List (Rat × Rat × CellCmd) :=
  let t := tccNs s
  let a := (1 - (d : Rat)) * t + fireNs s
  match inForce s ci d with
  | (c, none) => [(a, a + t, c)]
  | (c, some (on, off)) =>
    let u := fireUnit s
    [(a, a + (on : Rat) * u, .bypass), (a + (on : Rat) * u, a + (off : Rat) * u, c), (a + (off : Rat) * u, a + t, .bypass)]

/-- ∫ s i dt in µA·ns over a span in which the current is linear from i0 to i1. -/
def spanInt (fb : Bool) (ps : List (Rat × Rat × CellCmd)) (x0 x1 i0 i1 : Rat) : Rat :=
  ps.foldl (fun acc p =>
    let a := max p.1 x0
    let b := min p.2.1 x1
    if b ≤ a then acc
    else
      let at_ := fun x => i0 + (i1 - i0) * (x - x0) / (x1 - x0)
      acc + pieceInt fb p.2.2 (at_ a) (at_ b) (b - a)) 0

/-- Nominal volts of a charge in µA·ns on C_NOM counted in µF. -/
def nomVolts (s : State) (a : Nat) (x : Rat) : Rat := x / 1000000000 / (obsP s a 0 : Rat)

/-- Current i(M − d) of a history, newest first; before the history, the value held (R146). -/
def histAt (h : List CurSample) (held : Int) (d : Nat) : Rat := (((h[d]?).map (·.val)).getD held : Int)

/-- Nominal charge of the interval that ends at the start of cycle M − e, for samples given by their age. -/
def chargeBack (s : State) (arm : Nat) (fb bypass : Bool) (ci e : Nat) (i : Nat → Rat) : Rat :=
  if bypass then 0 else
  let t := tccNs s
  nomVolts s arm (spanInt fb (framePieces s ci (e + 3) ++ framePieces s ci (e + 2)) (-((e : Rat) + 1) * t) (-(e : Rat) * t) (i (e + 1)) (i e))

/-- Nominal charge from the start of cycle M to the fire instant of frame M, the current held (R150). -/
def chargeAhead (s : State) (arm : Nat) (fb bypass : Bool) (ci : Nat) (i0 : Rat) : Rat :=
  if bypass then 0 else
  nomVolts s arm (spanInt fb (framePieces s ci 2 ++ framePieces s ci 1) 0 (tccNs s + fireNs s) i0 i0)

/-! ### Arm current (R146) -/

/-- Sample cycle of a report. -/
def sampleOf (r : Report) : CycleNo := r.cycle - BitVec.ofNat 48 r.rep.sampleOffset

/-- The value a gauge source gives for a sample instant, in µA (R145, R357). -/
def gaugeSample (s : State) (src : Int) (k : CycleNo) : Option Int :=
  if src < 0 then none else
  let v := src.toNat
  (s.obs.taken.find? (fun r => r.ci = v % 65536 && r.rep.gauge && sampleOf r = k)).map (fun r =>
    let q := if v.testBit 16 then r.rep.q1 else r.rep.q0
    (if v.testBit 17 then -q else q) * ((v / 2 ^ 32 : Nat) : Int))

/-- Values of a history from the oldest on, HELD samples taking the newest measured one before them. -/
def resolveHeld : Int → List (Option Int) → List CurSample
  | _, [] => []
  | _, some v :: rest => { val := v, meas := true } :: resolveHeld v rest
  | h, none :: rest => { val := h, meas := false } :: resolveHeld h rest

/-- A history as it stands before the newest sample of a cutoff: the cycle starts since, at which the observer formed no
sample, are HELD (R146, log 113). -/
def curSince (s : State) (c : ArmCur) : ArmCur :=
  match c.cycle with
  | some k =>
    let gap := (s.cyc.n - k).toNat
    { c with hist := List.replicate (min 4 (gap - 1)) { val := (c.hist.head?.map (·.val)).getD (c.lastMeas.getD 0), meas := false } ++ c.hist }
  | none => c

/-- The history at this cutoff (R146). -/
def newCurrent (s : State) (a : Nat) : ArmCur :=
  let c := curSince s (s.obs.cur.get a {})
  let keep := c.hist.take 3
  let lost := c.hist.drop 3
  let base := match lost.find? (·.meas) with | some x => some x.val | none => c.lastMeas
  let src := fun d =>
    let k := s.cyc.n - BitVec.ofNat 48 d
    match gaugeSample s (obsP s a 4) k with
    | some v => some v
    | none => gaugeSample s (obsP s a 6) k
  let raw : List (Option Int) := src 0 :: keep.zipIdx.map (fun x => if x.1.meas then some x.1.val else src (x.2 + 1))
  let hist := (resolveHeld (base.getD 0) raw.reverse).reverse
  let miss := match hist.findIdx? (fun x => x.meas) with | some d => d | none => c.noMeas + 1
  { hist := hist, lastMeas := base, noMeas := miss, cycle := some s.cyc.n }

/-- A sample leaves the history still HELD (R146). -/
def leavesHeld (s : State) (a : Nat) : Bool :=
  let c := s.obs.cur.get a {}
  let gap := match c.cycle with | some k => (s.cyc.n - k).toNat | none => 1
  (c.hist.drop (4 - gap)).any (fun x => !x.meas)

/-! ### One report (R151) -/

/-- Write V_ANCHOR. -/
def setAnchor (r : ObsRec) (v : Rat) : ObsRec := { r with vAnchor := (clampI 0 0xFFFFFFFF (rhe (max 0 v * 65536))).toNat }
/-- V_ANCHOR in volts. -/
def anchorV (r : ObsRec) : Rat := (r.vAnchor : Rat) / 65536
/-- CAP_GAIN as a number. -/
def gainV (r : ObsRec) : Rat := (r.capGain : Rat) / 32768
/-- Write Q_WIN. -/
def setQ (r : ObsRec) (v : Rat) : ObsRec := { r with qWin := clampI (-8388608) 8388607 (rhe (v * 1024)) }
/-- A DELTA field for an increment in volts (R149). -/
def deltaCode (dx : Rat) : Option Int := if 128 ≤ absR dx then none else some (clampI (-32767) 32767 (rhe (dx * 256)))

/-- DELTA_1 to DELTA_a. -/
def deltas (r : ObsRec) : List (Option Int) := [r.d1, r.d2, r.d3]
/-- Their sum in volts; none if one is INVALID. -/
def deltaSum (ds : List (Option Int)) : Option Rat :=
  ds.foldl (fun acc d => match acc, d with | some x, some y => some (x + (y : Rat) / 256) | _, _ => none) (some 0)

/-- `open_window` of R151. -/
def openWindow (vc dsum : Rat) (r : ObsRec) : ObsRec :=
  { setQ r (dsum / gainV r) with winV := (clampI 0 65535 (rhe (vc * 10))).toNat, winCount := 0, winVoid := false }

/-- What every applied report leaves. -/
def markApplied (raw a : Nat) (ins : Bool) (k : CycleNo) (r : ObsRec) : ObsRec :=
  { r with lastDev := raw, lastIns := ins, age := a, miss := 0, samples := (k :: r.samples).take 8 }

/-- `reseed` of R151. -/
def reseed (vc dsum : Rat) (r : ObsRec) : ObsRec :=
  openWindow vc dsum { setAnchor r (vc + dsum) with resMs := 0xFFFF, converged := false, seeded := true, rejLast := false }

/-- ESR after an insertion step (R151). -/
def esrNext (s : State) (arm : Nat) (r : ObsRec) (raw a : Nat) (ss : Int) (iA : Rat) : Nat :=
  let ok := !r.lastIns && ss ≠ 0 && (obsP s arm 28 : Rat) ≤ absR iA && r.age ≤ 3 && a < r.age
  match ok, deltaSum ((deltas r).drop a |>.take (r.age - a)) with
  | true, some d =>
    let step := ((raw : Rat) - (r.lastDev : Rat)) / 10 - d
    let est := step / ((ss : Rat) * iA) * 1000000
    (clampI 0 65535 (rhe ((r.esr : Rat) + (obsP s arm 26 : Rat) / 256 * (est - (r.esr : Rat))))).toNat
  | _, _ => r.esr

/-- The capacitance window after a correction (R151). -/
def windowNext (s : State) (arm : Nat) (vc dsum : Rat) (r : ObsRec) : ObsRec :=
  let qw := (r.qWin : Rat) / 1024 - dsum / gainV r
  let r := { r with winCount := min 255 (r.winCount + 1) }
  if (obsP s arm 14 : Rat) / 10 ≤ absR qw || obsP s arm 18 ≤ (r.winCount : Int) then
    let r :=
      if (obsP s arm 16 : Rat) / 10 ≤ absR qw && !r.winVoid then
        let ew := (vc - (r.winV : Rat) / 10) - gainV r * qw
        let dg := (obsP s arm 20 : Rat) / 1024 * ew * qw / (qw * qw + (obsP s arm 22 : Rat) / 100)
        let st := (obsP s arm 24 : Rat) / 32768
        { r with capGain := (clampI 0x4000 0xFFFF (rhe ((gainV r + clampR st dg) * 32768))).toNat }
      else r
    openWindow vc dsum r
  else r

/-- `apply_report` of R151: the record and whether FLT_OBS_RESEED is raised. -/
def applyReport (s : State) (arm : Nat) (raw a : Nat) (ss : Int) (iA : Rat) (k : CycleNo) (r : ObsRec) : ObsRec × Bool :=
  match deltaSum ((deltas r).take a) with
  | none => ({ r with stale := cnt32 r.stale }, false)
  | some dsum =>
    let vc := (raw : Rat) / 10 - (ss : Rat) * iA * (r.esr : Rat) / 1000000
    let e := vc - (anchorV r - dsum)
    let ins := ss ≠ 0
    if !r.seeded then (markApplied raw a ins k (reseed vc dsum r), false)
    else if (obsP s arm 12 : Rat) / 10 < absR e then
      if r.rejLast then (markApplied raw a ins k (reseed vc dsum r), true)
      else ({ r with rejLast := true, winVoid := true, rejected := cnt32 r.rejected }, false)
    else
      let r := { r with rejLast := false, esr := esrNext s arm r raw a ss iA }
      let g : Rat := if r.converged then (obsP s arm 8 : Rat) / 256 else (obsP s arm 10 : Rat) / 256
      let r := windowNext s arm vc dsum (setAnchor r (anchorV r + g * e))
      let e2 := min (e * e * 10000) 65535
      let r := { r with resMs := (clampI 0 0xFFFF (rhe ((r.resMs : Rat) + (e2 - (r.resMs : Rat)) / 16))).toNat }
      (markApplied raw a ins k r, false)

/-- One report taken for this cutoff (R150, R153, R154). -/
def takeReport (s : State) (arm : Nat) (fb : Bool) (ci : Nat) (i : Nat → Rat) (rp : Report) (r : ObsRec) : ObsRec × Bool :=
  let k := sampleOf rp
  let a := (s.cyc.n - k).toNat
  let r := { r with bypass := rp.rep.bypassClosed, late := if rp.late then cnt32 r.late else r.late }
  if rp.rep.vDev = 0xFFFF then
    (if rp.late then (r, false) else ({ r with miss := min 255 (r.miss + 1), missing := cnt32 r.missing }, false))
  else if r.samples.contains k then ({ r with dup := cnt32 r.dup }, false)
  else if 3 < a || (deltaSum ((deltas r).take a)).isNone then ({ r with stale := cnt32 r.stale }, false)
  else
    let code := codeAt s ci a
    let ss := if r.bypass then 0 else signOf fb code (i a)
    let bad := rp.rep.echoState ≠ code
    let r := if bad then { r with echoBad := cnt32 r.echoBad, winVoid := true } else r
    let (r, f) := applyReport s arm rp.rep.vDev a ss (i a / 1000000) k r
    (if bad then { r with winVoid := true } else r, f)

/-! ### The update of one cell (R150) -/

/-- Reports taken for a cell, in order of sample instant. -/
def reportsOf (s : State) (ci : Nat) : List Report :=
  let rs := s.obs.taken.filter (fun r => r.ci = ci)
  rs.mergeSort (fun x y => (s.cyc.n - sampleOf y).toNat ≤ (s.cyc.n - sampleOf x).toNat)

/-- The scheduled report of this cycle is missing or corrupt (R153). -/
def missNow (s : State) (ci : Nat) : Option Bool :=
  if !scheduled s ci s.cyc.n then none
  else if s.obs.corrupt.contains ci then some true
  else if s.obs.taken.any (fun r => r.ci = ci && r.cycle = s.cyc.n) then none
  else some false

/-- Increments recomputed after a repair of the currents (R146): the interval that ends at the start of cycle M − e,
when a sample that bounds it changed. -/
def repairRec (s : State) (arm : Nat) (fb : Bool) (ci : Nat) (iOld iNew : Nat → Rat) (r : ObsRec) : ObsRec :=
  let one := fun (r : ObsRec) (e : Nat) (was : Bool) (d : Option Int) (put : ObsRec → Option Int → ObsRec) =>
    if iOld e = iNew e && iOld (e + 1) = iNew (e + 1) then r else
    let qn := chargeBack s arm fb r.bypass ci e iNew
    let dq := qn - chargeBack s arm fb was ci e iOld
    let dx := match d with | some d => (d : Rat) / 256 + gainV r * dq | none => gainV r * qn
    setQ (setAnchor (put r (deltaCode dx)) (anchorV r + gainV r * dq)) ((r.qWin : Rat) / 1024 + dq)
  let r := one r 1 r.by1 r.d1 (fun r d => { r with d1 := d, by1 := r.bypass })
  let r := one r 2 r.by2 r.d2 (fun r d => { r with d2 := d, by2 := r.bypass })
  one r 3 r.by3 r.d3 (fun r d => { r with d3 := d, by3 := r.bypass })

/-- Integration, reports and MISS for one cell: the record and the number of reseeds.  A corrupt burst outside the cell's
rotation phase raises the corrupt count and leaves MISS (R153, log 109). -/
def obsCell (s : State) (arm : Nat) (m : Member) : ObsRec × Nat :=
  let r := s.obs.recs.get m.ci {}
  let old := curSince s (s.obs.cur.get arm {})
  let new := newCurrent s arm
  let iOld := fun d => if d = 0 then 0 else histAt old.hist (old.lastMeas.getD 0) (d - 1)
  let held : Int := new.lastMeas.getD 0
  let iNew := fun d => if d = 4 then iOld 4 else histAt new.hist held d
  let r := { r with age := min 255 (r.age + 1), winVoid := r.winVoid || leavesHeld s arm }
  let r := repairRec s arm m.fb m.ci iOld iNew r
  let q := chargeBack s arm m.fb r.bypass m.ci 0 iNew
  let dx := gainV r * q
  let r := setQ (setAnchor { r with d3 := r.d2, d2 := r.d1, d1 := deltaCode dx, by3 := r.by2, by2 := r.by1, by1 := r.bypass } (anchorV r + dx)) ((r.qWin : Rat) / 1024 + q)
  let (r, n) := (reportsOf s m.ci).foldl (fun (acc : ObsRec × Nat) rp =>
    let (r, f) := takeReport s arm m.fb m.ci iNew rp acc.1
    (r, acc.2 + b2n f)) (r, 0)
  let r := match missNow s m.ci with
    | some true => { r with miss := min 255 (r.miss + 1), corrupt := cnt32 r.corrupt }
    | some false => { r with miss := min 255 (r.miss + 1), missing := cnt32 r.missing }
    | none => if s.obs.corrupt.contains m.ci then { r with corrupt := cnt32 r.corrupt } else r
  (r, n)

/-- CONVERGED (R157). -/
def convergeRec (s : State) (arm : Nat) (lost : Bool) (r : ObsRec) : ObsRec :=
  let c : Nat := (obsP s arm 36).toNat
  if lost then { r with converged := false }
  else if r.converged && 25 * c * c < 16 * r.resMs then { r with converged := false }
  else if r.seeded && r.resMs ≤ c * c then { r with converged := true }
  else r

/-- CONFIDENCE (R155). -/
def confidence (s : State) (arm ci : Nat) (r : ObsRec) : Nat :=
  if !r.seeded then 0 else
  let late := r.age - rotPeriod s ci - 3
  let c := (obsP s arm 38).toNat
  let pen := if c = 0 then 255 else isqrt (4096 * r.resMs / (c * c))
  let x := 255 - min 255 (4 * late) - min 255 pen
  if r.converged then x else min x 127

/-- One health flag: set and clear conditions (R159). -/
def flagNext (old set clear conv : Bool) : Bool := if old then !clear else set && conv

/-- Health flags (R159), with the flags that rose: 0 CAP_LOW, 1 CAP_HIGH, 2 ESR_HIGH. -/
def healthRec (s : State) (arm : Nat) (r : ObsRec) : ObsRec × List Nat :=
  let lo : Rat := (obsP s arm 30 : Rat) / 1000
  let hi : Rat := (obsP s arm 32 : Rat) / 1000
  let al := (obsP s arm 34).toNat
  let g := gainV r
  let a := flagNext r.capLow (1 < g * lo) (g * (lo + 1 / 200) ≤ 1) r.converged
  let b := flagNext r.capHigh (g * hi < 1) (1 ≤ g * (hi - 1 / 200)) r.converged
  let c := flagNext r.esrHigh (al ≠ 0 && al < r.esr) (al = 0 || 20 * r.esr ≤ 19 * al) r.converged
  ({ r with capLow := a, capHigh := b, esrHigh := c },
   (if a && !r.capLow then [0] else []) ++ (if b && !r.capHigh then [1] else []) ++ (if c && !r.esrHigh then [2] else []))

/-- The cell is LOST. -/
def isLost (s : State) (arm ci : Nat) : Bool := ((s.arms.get arm {}).cats.get ci {}).cat == .lost

/-- The rest of a cell's update, after the categories are settled (R150, R155–R159). -/
def obsFinish (s : State) (arm : Nat) (m : Member) (r : ObsRec) : ObsRec × List Nat :=
  let r := convergeRec s arm (isLost s arm m.ci) r
  let r := { r with conf := confidence s arm m.ci r }
  let (r, up) := healthRec s arm r
  let cur := newCurrent s arm
  let q := chargeAhead s arm m.fb r.bypass m.ci (histAt cur.hist (cur.lastMeas.getD 0) 0)
  ({ r with vLatent := (clampI 0 0xFFFFFFFF (rhe (max 0 (anchorV r + gainV r * q) * 65536))).toNat }, up)

/-! ### Publication (R160, R161) -/

/-- V_LATENT rounded to 10 mV (R134). -/
def latent10 (r : ObsRec) : Int := rhe ((r.vLatent : Rat) / 65536 * 100)

/-- The member is ACTIVE. -/
def isActive (s : State) (arm ci : Nat) : Bool := ((s.arms.get arm {}).cats.get ci {}).cat == .active

/-- Observer record of a cell. -/
def obsRec (s : State) (ci : Nat) : ObsRec := s.obs.recs.get ci {}

/-- The eight integers of an arm's observer stage (R160). -/
def obsStageInts (s : State) (arm : Nat) : List Int :=
  let act := (members s arm).filter (fun m => isActive s arm m.ci)
  let v := fun (m : Member) => latent10 (obsRec s m.ci)
  let vs := act.map v
  let cur := s.obs.cur.get arm {}
  [vs.sum, ((act.filter (·.fb)).map v).sum, vs.foldl max (vs.headD 0), vs.foldl min (vs.headD 0),
   rhe (histAt cur.hist (cur.lastMeas.getD 0) 0 / 100000),
   ((act.filter (fun m => (obsRec s m.ci).converged)).length : Int),
   (match act.map (fun m => ((obsRec s m.ci).conf : Int)) with | [] => 0 | x :: xs => xs.foldl min x),
   (((members s arm).filter (fun m => let r := obsRec s m.ci; r.capLow || r.capHigh || r.esrHigh)).length : Int)]

/-- Byte 0x1F of R149. -/
def obsFlagByte (r : ObsRec) : Nat :=
  b2n r.seeded + 2 * b2n r.converged + 4 * b2n r.capLow + 8 * b2n r.capHigh + 16 * b2n r.esrHigh + 32 * b2n r.lastIns +
  64 * b2n r.rejLast + 128 * b2n r.winVoid

/-- Observer points of one cell (R161, R219). -/
def obsPoints (arm ci : Nat) (s : State) : State :=
  let r := obsRec s ci
  let n := s.cyc.n
  let t := cutoffTicks s
  let i := fun k v (s : State) => ptInt (ptOf ci k) v n t s
  let c := fun k v (s : State) => ptCount (ptOf ci k) v n t s
  let s := i 0 (latent10 r) s
  let s := i 1 (rhe ((obsP s arm 0 : Rat) * 10 / gainV r)) s
  let s := i 4 r.resMs (i 3 r.conf (i 2 r.esr s))
  let s := i 5 (obsFlagByte r) s
  c 12 r.echoBad (c 11 r.rejected (c 10 r.dup (c 9 r.stale (c 8 r.late (c 7 r.corrupt (c 6 r.missing s))))))

/-- The 32 bytes of a record (R149). -/
def obsImage (r : ObsRec) : List Byte :=
  let d := fun (x : Option Int) => le 2 (match x with | some v => (v % 65536).toNat | none => 0x8000)
  le 4 r.vAnchor ++ le 4 r.vLatent ++ d r.d1 ++ d r.d2 ++ d r.d3 ++ le 3 (r.qWin % 16777216).toNat ++ le 1 r.winCount ++
  le 2 r.winV ++ le 2 r.lastDev ++ le 2 r.capGain ++ le 2 r.esr ++ le 2 r.resMs ++ le 1 r.conf ++ le 1 r.age ++ le 1 r.miss ++
  le 1 (obsFlagByte r)

/-- Faults of the arm current (R146): FLT_OBS_CURRENT 172 + arm, FLT_OBS_NO_CURRENT 8 + arm. -/
def currentFaults (arm : Nat) (held : Bool) (s : State) : State :=
  let s := if held then raise (172 + arm) (be 1 arm) s else s
  levelSource (8 + arm) (16 ≤ (s.obs.cur.get arm {}).noMeas) (be 1 arm) s

/-- The update of every member of an arm (R150). -/
def obsArm (s0 : State) (arm : Nat) (s : State) : State :=
  let held := leavesHeld s0 arm
  let s := { s with obs := { s.obs with cur := s.obs.cur.set arm (newCurrent s0 arm) } }
  let s := currentFaults arm held s
  (members s0 arm).foldl (fun s m =>
    let (r, n) := obsCell s0 arm m
    let (r, up) := obsFinish s0 arm m r
    let s := { s with obs := { s.obs with recs := s.obs.recs.set m.ci r } }
    let s := (List.range n).foldl (fun s _ => raise 267 (be 2 m.ci) s) s
    let s := up.foldl (fun s f => raise 268 (be 2 m.ci ++ be 1 f ++ be 2 r.capGain ++ be 2 r.esr) s) s
    obsPoints arm m.ci s) s

/-- The observer image buffer that is not current takes the records (R30). -/
def writeImage (s : State) : State :=
  let o := s.obs
  { s with obs := if o.curBuf = 0 then { o with image1 := o.recs, written := true, wrCycle := s.cyc.n }
                  else { o with image0 := o.recs, written := true, wrCycle := s.cyc.n } }

/-- Unseeding at entry to READY (R156): the named fields of every record; the history of currents, the reports and the
marks of the cycle stay. -/
def obsUnseed (s : State) : State :=
  let f := fun _ (r : ObsRec) => { r with seeded := false, converged := false, rejLast := false, winVoid := false, resMs := 0xFFFF, age := 255 }
  { s with obs := { s.obs with recs := s.obs.recs.mapVals f } }

/-- The observer update completes, 120 ns after the freeze (R150, R152): records, stages, points, image. -/
def execObserverUpdateComplete (s : State) : Host.Outcome State Fault Refusal :=
  if !s.dev.state.observes || !s.cyc.frozen || s.cyc.obsDone then ok s else
  let s1 := (armsUsed s).foldl (fun t a => obsArm s a t) s
  let st := (armsUsed s1).foldl (fun (m : SMap Stage) a =>
    let lim := match s1.cfg.plate with | some p => p.obsLims.get a (-128, 127) | none => (-128, 127)
    m.set a (inputStage lim (obsStageInts s1 a))) []
  let s2 := writeImage { s1 with graph := { s1.graph with obs := st }, obs := { s1.obs with taken := [], corrupt := [] },
                                 cyc := { s1.cyc with obsDone := true } }
  ok (if s2.cyc.launched || s2.cyc.graphDone || !s2.dev.state.graphOn then s2 else graphObsDone 1200 s2)

end Sys2Proof.Machine
end

