-- ==== Sys2Proof/Machine/ArmEngine.lean ====
section
/-! DEFINITION. Arm modulation and cell balancing (R124–R144): categories, one cycle of an arm engine, and what a
launched frame makes current. Voltages in 10 mV, currents in 0.1 A. -/

namespace Sys2Proof.Machine

/-! ### Categories (R129–R131) -/

/-- Why a cell fails (R129): 0 fault code, 1 echo, 2 bypass device closed. -/
def failCause (r : ReportWord) : Option Nat :=
  if 0x40 ≤ r.faultCode ∧ r.faultCode ≤ 0x7F then some 0 else if r.bypassClosed then some 2 else none

/-- Take one report into a member's category bookkeeping: echo run, valid run, and a cause of failure. -/
def catReport (s : State) (ci : Nat) (acc : Cat × Option Nat) (rp : Report) : Cat × Option Nat :=
  let c := acc.1
  let a := (s.cyc.n - sampleOf rp).toNat
  let bad := a ≤ 3 && rp.rep.echoState ≠ codeAt s ci a
  let c := { c with echoBad := if 3 < a then c.echoBad else if bad then c.echoBad + 1 else 0,
                    valid := if rp.rep.vDev = 0xFFFF then 0 else c.valid + 1 }
  let cause := match acc.2, failCause rp.rep with
    | some x, _ => some x
    | none, some x => some x
    | none, none => if 3 ≤ c.echoBad then some 1 else none
  (c, cause)

/-- A cell entered FAILED or LOST: the sources to raise, each with its DETAIL. -/
abbrev CatFaults := List (Nat × List Byte)

/-- Settle one member at the cutoff (R129, R130); a restore of this cycle succeeds unless a failure meets it.
DESIGN CHOICE (log 111): where a failure code and the third disagreeing echo meet in one cutoff, the code is the cause
and FLT_CELL_ECHO is not raised. -/
def catSettle (s : State) (arm : Nat) (m : Member) (restore : Bool) : Cat × Bool × CatFaults :=
  let c0 := (((s.arms.get arm {}).cats.get m.ci {}) : Cat)
  let c0 := if (missNow s m.ci).isSome then { c0 with valid := 0 } else c0
  let (c, cause) := (reportsOf s m.ci).foldl (catReport s m.ci) (c0, none)
  match cause with
  | some k =>
    if c.cat == .failed then ({ c with echoBad := min 3 c.echoBad }, false, [])
    else ({ c with cat := .failed, valid := 0 }, false,
          (264, be 2 m.ci ++ be 1 k) :: (if k = 1 then [(266, be 2 m.ci)] else []))
  | none =>
    let cat := if restore then Category.active
      else if c.cat == .lost && 16 ≤ c.valid then .active else c.cat
    let miss := if s.dev.state.observes then (obsCell s arm m).1.miss else 0
    if cat == .active && (parN s 0x10 arm 14 : Nat) ≤ miss then ({ c with cat := .lost, valid := 0 }, restore, [(265, be 2 m.ci)])
    else ({ c with cat := cat }, restore, [])

/-- The restores of this cycle for a member. -/
def restoreOf (a : Arm) (ci : Nat) : List Waiting := a.restores.filter (fun w => w.args.getD 0 0 = (ci : Int))

/-- Number of ACTIVE members. -/
def activeCount (a : Arm) (ms : List Member) : Nat := (ms.filter (fun m => (a.cats.get m.ci {}).cat == .active)).length

/-- Settle one arm: its categories, faults, and the results of its restores. -/
def armSettle (s : State) (arm : Nat) : Arm × CatFaults × List (Waiting × Status) :=
  let a0 := s.arms.get arm {}
  let ms := members s arm
  let (a, fs, rs) := ms.foldl (fun (acc : Arm × CatFaults × List (Waiting × Status)) m =>
    let ws := restoreOf a0 m.ci
    let (c, good, f) := catSettle s arm m (!ws.isEmpty)
    ({ acc.1 with cats := acc.1.cats.set m.ci c }, acc.2.1 ++ f,
     acc.2.2 ++ ws.map (fun w => (w, if good then Status.ok else Status.state)))) (a0, [], [])
  let n := activeCount a ms
  let short := decide ((n : Int) < par s 0x10 arm 2)
  let fs := if short && !a0.short then (160 + arm, be 1 arm ++ be 2 n) :: fs else fs
  ({ a with short := short, restores := [] }, fs, rs)

/-- Categories of every arm at the cutoff freeze (R130); faults of one tick in ascending source number (R383). -/
def settleAll (s : State) : State :=
  let (s1, fs, rs) := (armsUsed s).foldl (fun (acc : State × CatFaults × List (Waiting × Status)) a =>
    let (x, f, r) := armSettle s a
    ({ acc.1 with arms := acc.1.arms.set a x }, acc.2.1 ++ f, acc.2.2 ++ r)) (s, [], [])
  let s2 := (fs.mergeSort (fun x y => x.1 ≤ y.1)).foldl (fun s f => raise f.1 f.2 s) s1
  rs.foldl (fun s x => scheduledResult x.1 x.2 s.cyc.n s) s2

/-! ### One cycle of an arm engine (R127–R139) -/

/-- Latent voltage of a cell, rounded to 10 mV (R134). -/
def latentOf (s : State) (ci : Nat) : Int := latent10 (obsRec s ci)

/-- A cell's sort key without its CI (R134): tier and value. -/
structure SortKey where
  tier : Nat
  val  : Int
  ci   : Nat
  v    : Int
deriving DecidableEq, Repr

/-- The key of one pool cell. -/
def sortKey (minDwell : Nat) (tol : Int) (charging : Bool) (pol : Int) (e : CellCmd) (dwell : Nat) (ci : Nat) (v : Int) : SortKey :=
  let ins := e == (if 0 < pol then CellCmd.insPos else .insNeg)
  let tier := if minDwell ≤ dwell then 1 else if ins then 0 else 2
  let base := if charging then v else -v
  { tier := tier, val := if ins then base - tol else base, ci := ci, v := v }

/-- The order of R135. -/
def keyLe (a b : SortKey) : Bool :=
  a.tier < b.tier || (a.tier = b.tier && (a.val < b.val || (a.val = b.val && a.ci ≤ b.ci)))

/-- prefix(0) to prefix(P). -/
def prefixes (vs : List Int) : List Int := vs.foldl (fun ps v => ps ++ [ps.getLastD 0 + v]) [0]

/-- The largest k with prefix(k) at most the target; 0 for a negative target (R136). -/
def countTrim (ps : List Int) (target : Int) : Nat :=
  if target < 0 then 0 else
  ps.zipIdx.foldl (fun n (x : Int × Nat) => if x.1 ≤ target then x.2 else n) 0

/-- The k that brings prefix(k) nearest to the target; ties to the smaller k (R136).  DESIGN CHOICE (log 110): with LIMIT
set, no active trim and last cells of 0 V, the text of R136 makes n the pool size and its procedure the smaller k; the
procedure is followed. -/
def countNear (ps : List Int) (target : Int) : Nat :=
  (ps.zipIdx.foldl (fun (b : Nat × Int) (x : Int × Nat) =>
    let d : Int := (target - x.1).natAbs
    if d < b.2 then (x.2, d) else b) (0, ((target - ps.headD 0).natAbs : Int))).1

/-- What the trim pulse comes to (R137, R138). -/
structure TrimPulse where
  w       : Nat
  r       : Int
  clamped : Bool
  swallow : Bool
  stretch : Bool
deriving DecidableEq, Repr

/-- The trim pulse: T, m, TRIM_SHORT, v(t), v_rem, LIMIT. -/
def trimPulse (t m : Nat) (stretchMode : Bool) (vt vrem : Int) (limit : Bool) : TrimPulse :=
  let ex : Rat := (vrem : Rat) * (t : Rat) / (vt : Rat)
  let big := decide ((t : Rat) < ex)
  let ex := if big then (t : Rat) else ex
  let w := if ex < 0 then 0 else (rhe ex).toNat
  let short := decide (0 < w && w < m)
  let gap := decide (w < t && t - w < m) && !short && decide (0 < w)
  let w' := if short then (if stretchMode then m else 0) else if gap then (if stretchMode then t - m else t) else w
  { w := w', r := if limit then 0 else rhe ((ex - (w' : Rat)) * (vt : Rat) / (t : Rat)), clamped := big && !limit,
    swallow := (short || gap) && !stretchMode, stretch := (short || gap) && stretchMode }

/-- T of R137 in fire-offset units. -/
def tInt (s : State) : Nat := (tUnits s).floor.toNat
/-- m of R138. -/
def trimMinU (s : State) (arm : Nat) : Nat := (rhe ((parN s 0x10 arm 10 : Rat) * 10 / fireUnit s)).toNat

/-- Selection state of a member. -/
def selOf (a : Arm) (ci : Nat) : Sel := a.sel.get ci {}

/-- The active trim cell (R133): CI and voltage. -/
def trimCell (charging : Bool) (cands : List (Nat × Int)) : Option (Nat × Int) :=
  (cands.filter (fun x => x.2 ≠ 0)).foldl (fun b x => match b with
    | none => some x
    | some y =>
      if (if charging then x.2 < y.2 else y.2 < x.2) || (x.2 = y.2 && x.1 < y.1) then some x else some y) none

/-- Transitions of a cell from its end state and a new end state or pulse (R140). -/
def transCount (old new : CellCmd) (pulse : Bool) : Nat :=
  (if old == new then 0 else if old == .bypass || new == .bypass then 1 else 2) + (if pulse then 2 else 0)

/-- The feedback's members-only elements: V_AVAIL_POS, V_AVAIL_NEG, N_ACTIVE, N_OUT (R144). -/
def feedCounts (s : State) (arm : Nat) : List Int :=
  let ms := members s arm
  let act := ms.filter (fun m => isActive s arm m.ci)
  [(act.map (fun m => latentOf s m.ci)).sum, ((act.filter (·.fb)).map (fun m => latentOf s m.ci)).sum, (act.length : Int),
   ((ms.length - act.length : Nat) : Int)]

/-- An engine in READY and BLOCKED (R142). -/
def engineBlock (s : State) (arm : Nat) : ArmOut :=
  let a := s.arms.get arm {}
  { states := (members s arm).foldl (fun (x : SMap CellCmd) m => x.set m.ci .block) [],
    feedback := [0, 0] ++ feedCounts s arm ++ [a.d, 0] }

/-- One cycle of an arm engine in RUNNING and RAMPING (R132–R139): its output and working selection state. -/
def engineRun (s : State) (arm : Nat) (ref : Stage) : ArmOut × Arm :=
  let a := s.arms.get arm {}
  let ms := members s arm
  let x0 := ((plainV ref).el 0).val
  let iArm := rhe (((plainV ref).el 1).val * 10)
  let band := par s 0x10 arm 8
  let d : Int := if band < iArm then 1 else if iArm < -band then -1 else a.d
  let pu := par s 0x10 arm 0 = 1
  let refI : Int := if pu then rhe (x0 * 8388608) else rhe (x0 * 100)
  let pol : Int := if 0 ≤ refI then 1 else -1
  let rIn : Int := if pol = a.pol then a.r else 0
  let pool := ms.filter (fun m => isActive s arm m.ci && (0 < pol || m.fb))
  let charging := decide (0 < d * pol)
  let trim := trimCell charging ((pool.filter (·.trim)).map (fun m => (m.ci, latentOf s m.ci)))
  let avail := (pool.map (fun m => latentOf s m.ci)).sum
  let vref : Int := if pu then rheDiv (refI * avail) 8388608 else refI
  let rest := pool.filter (fun m => match trim with | some t => m.ci ≠ t.1 | none => true)
  let keys := (rest.map (fun m => let e := selOf a m.ci
    sortKey (parN s 0x10 arm 6) (par s 0x10 arm 4) charging pol e.endSt e.dwell m.ci (latentOf s m.ci))).mergeSort keyLe
  let ps := prefixes (keys.map (·.v))
  let pP := ps.getLastD 0
  let target : Int := vref.natAbs + rIn
  let n := if trim.isSome then countTrim ps target else countNear ps target
  let limit := match trim with | some t => decide (pP + t.2 < target) | none => decide (pP < target)
  let limit := limit || (decide (pol < 0) && !ms.any (·.fb))
  let tt := tInt s
  let pulse : TrimPulse := match trim with
    | some t => trimPulse tt (trimMinU s arm) (par s 0x10 arm 12 = 1) t.2 (target - ps.getD n 0) limit
    | none => { w := 0, r := 0, clamped := false, swallow := false, stretch := false }
  let ins := if 0 < pol then CellCmd.insPos else .insNeg
  let chosen := (keys.take n).map (·.ci)
  let isTrim := fun ci => match trim with | some t => ci = t.1 | none => false
  let pulsed := decide (0 < pulse.w && pulse.w < tt)
  let st := fun (m : Member) => if chosen.contains m.ci then ins else if isTrim m.ci && 0 < pulse.w then ins else .bypass
  let endOf := fun (m : Member) => if isTrim m.ci && pulse.w < tt then CellCmd.bypass else st m
  let on := (tt - pulse.w) / 2
  let sel := ms.foldl (fun (y : SMap Sel) m =>
    let o := selOf a m.ci
    let e := endOf m
    let p := isTrim m.ci && pulsed
    y.set m.ci { endSt := e, dwell := if e == o.endSt && !p then o.dwell + 1 else 1, trans := o.trans + transCount o.endSt e p }) []
  let vt := match trim with | some t => t.2 | none => 0
  let vIns := rhe ((pol : Rat) * ((ps.getD n 0 : Rat) + (vt : Rat) * (pulse.w : Rat) / (tt : Rat)))
  let full := trim.isSome && pulse.w = tt
  let stat : Nat := b2n limit + 2 * b2n trim.isNone + 4 * b2n pulse.clamped + 8 * b2n pulse.swallow + 16 * b2n pulse.stretch
  ({ states := ms.foldl (fun (y : SMap CellCmd) m => y.set m.ci (st m)) [],
     trim := match trim with | some t => if pulsed then some (t.1, on, on + pulse.w) else none | none => none,
     feedback := [vIns, pol * n + (if full then pol else 0)] ++ feedCounts s arm ++ [d, (stat : Int)],
     limit := limit, swallow := pulse.swallow, stretch := pulse.stretch },
   { a with dW := d, rW := if trim.isSome then pulse.r else 0, polW := pol, selW := sel })

/-- The node that carries an arm's reference (R79). -/
def armNode (s : State) (arm : Nat) : Option NodeDef := (nodes s).find? (fun n => n.armSel = arm + 1)

/-- The engine may start (R84). -/
def armReady (s : State) (arm : Nat) : Bool :=
  s.cyc.frozen && !s.cyc.launched && s.cyc.obsDone && !s.cyc.armsDone.contains arm && s.dev.state.graphOn &&
  (match armNode s arm with | some n => s.graph.done.contains n.node | none => false)

/-- An arm engine completes (R132–R139, R142). -/
def execArmEngineComplete (arm : Nat) (s : State) : Host.Outcome State Fault Refusal :=
  if !armReady s arm then unit (arm < nArms s) s else
  let ref := match armNode s arm with | some n => nodeOut s.graph.work n.node | none => {}
  let a := s.arms.get arm {}
  let a' := if runs s then (let (o, w) := engineRun s arm ref; { w with out := some o }) else { a with out := some (engineBlock s arm) }
  unit (arm < nArms s) { s with arms := s.arms.set arm a', cyc := { s.cyc with armsDone := s.cyc.armsDone ++ [arm] } }

/-! ### Commit and discard (R140–R144) -/

/-- Mean switching frequency in Hz over a window (R140). -/
def fMean (s : State) (w : List (Nat × Nat)) : Rat :=
  let t := (w.map (·.1)).sum
  let c := (w.map (·.2)).sum
  if c = 0 then 0 else (t : Rat) / (2 * (c : Rat) * (parN s 1 0 0 : Rat) / 100000000)

/-- FLT_ARM_SWITCHING (R140). -/
def judgeSwitching (arm : Nat) (s : State) : State :=
  let a := s.arms.get arm {}
  let lim : Rat := (par s 0x10 arm 16 : Rat)
  if lim = 0 ∨ a.window.length < 100000 then (if lim = 0 then clear (184 + arm) s else s)
  else
    let f := fMean s a.window
    if lim < f then raise (184 + arm) (be 1 arm) s else if f < lim * 9 / 10 then clear (184 + arm) s else s

/-- Arm engine points of a launched frame (R219, R224): TRANSITIONS and END_STATE. -/
def armPoints (arm : Nat) (block : Bool) (s : State) : State :=
  let a := s.arms.get arm {}
  (members s arm).foldl (fun s m =>
    let x := selOf a m.ci
    let s := ptCount (ptOf m.ci 32) x.trans s.cyc.n (tickPhase s) s
    ptInt (ptOf m.ci 33) (if block then 3 else (x.endSt.code : Int)) s.cyc.n (tickPhase s) s) s

/-- A launched COMMAND frame makes an arm's working selection state current (R141, R144). -/
def armCommit (arm : Nat) (s : State) : State :=
  let a := s.arms.get arm {}
  match a.out with
  | none => s
  | some o =>
    let ms := (members s arm).filter (fun m => isActive s arm m.ci)
    let tr := (ms.map (fun m => (a.selW.get m.ci {}).trans - (selOf a m.ci).trans)).sum
    let a' := { a with
      d := a.dW, r := a.rW, pol := a.polW, sel := a.selW, out := none, feedback := o.feedback, limit := o.limit,
      swallows := if o.swallow then cnt32 a.swallows else a.swallows,
      stretches := if o.stretch then cnt32 a.stretches else a.stretches,
      window := ((tr, ms.length) :: a.window).take 100000 }
    let s' := { s with arms := s.arms.set arm a' }
    let s' := if o.limit && !a.limit then raise (196 + arm) (be 1 arm) s' else s'
    judgeSwitching arm (armPoints arm false s')

/-- A BLOCK frame that the fabric had completed: feedback only; results of RUNNING are discarded (R142). -/
def armCommitBlock (arm : Nat) (s : State) : State :=
  let a := s.arms.get arm {}
  let fb := match a.out with | some o => if runs s then a.feedback else o.feedback | none => a.feedback
  armPoints arm true { s with arms := s.arms.set arm { a with out := none, feedback := fb, limit := if runs s then a.limit else false } }

/-- A missed cycle discards an arm's working selection state (R48, R141). -/
def armDiscard (a : Arm) : Arm := { a with out := none, dW := a.d, rW := a.r, polW := a.pol, selW := a.sel }

/-- Entry to RUNNING: the selection state starts (R142). -/
def armStart (s : State) (arm : Nat) (a : Arm) : Arm :=
  let sel := (members s arm).foldl (fun (x : SMap Sel) m =>
    x.set m.ci { endSt := .bypass, dwell := parN s 0x10 arm 6, trans := (selOf a m.ci).trans }) []
  { a with d := 1, r := 0, pol := 1, sel := sel, dW := 1, rW := 0, polW := 1, selW := sel }

end Sys2Proof.Machine
end

