-- ==== Sys2Proof/Machine/Basin.lean ====
section
/-! DEFINITION. Basin ports and their moorings (R162–R186, R197–R210, R499): line times, mooring states, ranging,
burst presets, lane states and the rate step. Instants and spans in ns, delays in 0.1 ns. -/

namespace Sys2Proof.Machine

/-! ### Line times (R162, R172, R202) -/

/-- Bit time in ns (R162). -/
def tbit : Gen → Rat | .bl1 => 4 / 5 | .bl2 => 16 / 165 | .bl3 => 32 / 825
/-- Bits of an upstream report slot (R172). -/
def slotBits : Gen → Nat | .bl1 => 320 | .bl2 => 660 | .bl3 => 632
/-- Preamble of a service burst, normal or training (R202). -/
def preBits (g : Gen) (train : Bool) : Nat :=
  match g, train with | .bl1, false => 96 | .bl1, true => 256 | _, false => 256 | _, true => 1024
/-- A whole service burst with its guard (R202); the training length is DISC_STEP. -/
def burstBits (g : Gen) (train : Bool) : Nat :=
  match g, train with
  | .bl1, false => 456 | .bl1, true => 616 | .bl2, false => 796 | .bl2, true => 1564 | .bl3, false => 768 | .bl3, true => 1536

/-! ### Ports and moorings -/

/-- Basin port `p`. -/
def port (s : State) (p : Nat) : Port := s.ports.get p {}
/-- Change basin port `p`. -/
def setPort (p : Nat) (f : Port → Port) (s : State) : State := { s with ports := s.ports.upd p {} f }
/-- Cell index of a mooring (R1). -/
def ciOf (p m : Nat) : Nat := p * 256 + m
/-- The mooring at a cell index. -/
def moor (s : State) (ci : Nat) : Moor := s.moors.get ci {}
/-- Change a mooring. -/
def setMoor (ci : Nat) (f : Moor → Moor) (s : State) : State := { s with moors := s.moors.upd ci {} f }

/-- The unit lights its basins: it is ACTIVE and neither withholds its frames, nor has handed over, nor stays dark
(R186, R188, R428, R430). -/
def transmits (s : State) : Bool :=
  s.tan.role == .active && s.tan.withhold.isNone && !s.tan.darkForGood && !s.tan.handed

/-- A lane state in which a port sends frames (R184, R188). -/
def frameLane : LaneState → Bool | .acquire | .negotiate | .train | .up => true | _ => false

/-- The port has light on its line: frames, or the idle of the step gap (R184, R188, R199). -/
def sending (s : State) (p : Nat) : Bool :=
  portNamed s p && (port s p).locked && (port s p).lane != .dark && !(port s p).squelch

/-- The port has frames to send in each cycle, lit or not. -/
def portLive (s : State) (p : Nat) : Bool := portNamed s p && (port s p).locked && frameLane (port s p).lane

/-- A lit port (R188): it sends its frames. -/
def lit (s : State) (p : Nat) : Bool := portLive s p && !(port s p).squelch

/-- Outputs are squelched or lit by lane and role (R180, R186, R188). -/
def relight (s : State) : State :=
  let t := transmits s
  { s with ports := s.ports.mapVals (fun _ x => { x with squelch := !(t && x.locked && x.lane != .dark) }) }

/-- Admitted at least (R206). -/
def admitted (st : MoorState) : Bool := match st with | .vacant | .refused => false | _ => true
/-- Ranged at least. -/
def served (st : MoorState) : Bool := match st with | .ranged | .serving => true | _ => false

/-- MAX_DOWN_DELAY of a port in 0.1 ns. -/
def maxDown (s : State) (p : Nat) : Int := par s 1 p 12 * 100

/-- The preset's entry of a mooring as 32 bits (R176). -/
def presetWord (x : Preset) : Word :=
  BitVec.ofNat 32 (b2n x.valid * 2 ^ 31 + b2n x.stale * 2 ^ 30 + x.gen * 2 ^ 28 + min 15 x.fails * 2 ^ 24 +
    (x.thresh % 256).toNat * 2 ^ 16 + x.eq * 2 ^ 12 + x.phase * 2 ^ 6 + x.ampl)

/-- A mooring's delays and preset go to its points when they change (R219, R224). -/
def pointNow (ci k : Nat) (v : Int) (s : State) : State := ptInt (ptOf ci k) v s.cyc.n (tickPhase s) s

/-- Change a preset, with its point. -/
def setPreset (ci : Nat) (x : Preset) (s : State) : State :=
  if (moor s ci).preset = x then s else
  ptWrite (ptOf ci 21) (presetWord x) s.cyc.n (tickPhase s) (setMoor ci (fun m => { m with preset := x }) s)

/-! ### Queue of service messages (R197, R198) -/

/-- LOCATION of a mooring (R205). -/
def locationOf (s : State) (ci : Nat) : Nat := parN s 3 ci 8

/-- Put a message at the tail of a port's queue, in place of an older one of its type for the same mooring. -/
def queueSvc (p : Nat) (m : SvcMsg) (s : State) : State :=
  setPort p (fun x => { x with svc := x.svc.filter (fun y => !(y.type = m.type && y.mooring = m.mooring)) ++ [m] }) s

/-- ADMIT by location, sent in 8 frames. -/
def queueAdmit (p m : Nat) (s : State) : State :=
  queueSvc p { type := 0x02, flags := 2, mooring := m, payload := be 6 (locationOf s (ciOf p m)) ++ be 1 m ++ be 1 p, frames := 8 } s

/-- RELEASE, sent in 8 frames. -/
def queueRelease (p m : Nat) (s : State) : State := queueSvc p { type := 0x07, mooring := m, frames := 8 } s

/-- SLOT_ASSIGN; its content is named at the first sending (R198). -/
def queueAssign (p m : Nat) (s : State) : State :=
  let ci := ciOf p m
  queueSvc p { type := 0x04, mooring := m, frames := 5 }
    (setMoor ci (fun x => { x with assigned := true, upSent := x.dUp }) s)

/-- RANGE_REQ; a mooring that is only ADMITTED is addressed by its location. -/
def queueRange (p m : Nat) (train : Bool) (s : State) : State :=
  let old := (port s p).svc.any (fun y => y.type = 0x03 && y.mooring = m && y.payload = [1])
  let flags := if served (moor s (ciOf p m)).st then 0 else 2
  queueSvc p { type := 0x03, flags := flags, mooring := m, payload := if train || old then [1] else [0], reqKind := 1 } s

/-- DISCOVER, broadcast. -/
def queueDiscover (p : Nat) (s : State) : State := queueSvc p { type := 0x01, flags := 1, reqKind := 4 } s

/-! ### Ends of a MOORING_RANGE (R345, R350) -/

/-- RANGE_DONE for the command outstanding on a port. -/
def rangeDone (p : Nat) (c : RangeCmd) (st : Status) (d u : Int) (s : State) : State :=
  eventTag (some (c.mbx, c.epoch)) c.tag 0x86 6 (be 1 p ++ be 1 c.mooring ++ be 1 st.code ++ be 1 0 ++ beI 4 d ++ beI 4 u) s

/-- A mooring leaves RANGED and SERVING: the command on it ends with ST_STATE and the delays in use. -/
def rangeCmdLost (p m : Nat) (s : State) : State :=
  match (port s p).rangeCmd with
  | some c =>
    if c.mooring = m && !c.completed then
      let x := moor s (ciOf p m)
      rangeDone p c .state x.dDown x.dUp (setPort p (fun y => { y with rangeCmd := none }) s)
    else s
  | none => s

/-- A mooring changes state (R206). -/
def moorGo (p m : Nat) (st : MoorState) (s : State) : State :=
  let x := moor s (ciOf p m)
  if x.st = st then s else
  let s := if served x.st && !served st then rangeCmdLost p m s else s
  setMoor (ciOf p m) (fun y => { y with st := st, assigned := y.assigned && served st, unanswered := 0 }) s

/-- A mooring is released (R206): VACANT, with RELEASE where the port is lit and the mooring was not VACANT. -/
def vacate (p m : Nat) (s : State) : State :=
  let x := moor s (ciOf p m)
  let drop := fun (y : Port) => { y with svc := y.svc.filter (fun z => z.mooring ≠ m || z.flags.testBit 0) }
  let s := setPort p drop (moorGo p m .vacant s)
  let s := setMoor (ciOf p m) (fun y => { y with serial := 0, dNext := none, dCand := none, known := false }) s
  if x.st != .vacant && lit s p then queueRelease p m s else s

/-- Loss of ranging (R209): ADMITTED, FLT_MOORING_LOST, and READY falls back to LOADED for a required mooring
(R19); a follower leaves its device state to its twin (R23). -/
def lostRanging (p m : Nat) (s : State) : State :=
  let ci := ciOf p m
  let s := raise 270 (be 2 ci) (moorGo p m .admitted s)
  if s.dev.state = .ready && required s ci && !follower s then moveState .loaded s else s

/-! ### Slots (R36, R203, R204) -/

/-- The order of the slots of a rotation phase: the gauges, then the phase's cells. -/
def phaseOrder (s : State) (p : Nat) (ph : Int) : List Nat :=
  let o := portOrder s p
  o.filter (fun m => isGauge s (ciOf p m)) ++
    o.filter (fun m => !isGauge s (ciOf p m) && par s 1 (ciOf p m) 10 = ph)

/-- REL_BITS of a mooring at a generation: k − n slots, in its own rotation phase (R36, R204).  DESIGN CHOICE (log 112): a
gauge has one REL_BITS for slots of phases that may hold different numbers n; the model takes the n of the phase that
its own ROT_PHASE names. -/
def relBits (s : State) (p m : Nat) (g : Gen) : Int :=
  let o := phaseOrder s p (par s 1 (ciOf p m) 10)
  let k := (o.findIdx? (fun x => x = m)).getD 0
  ((k : Int) - (o.length : Int)) * (slotBits g : Int)

/-- The sample-age bound of R34 with a mooring's own slot and d_up in 0.1 ns. -/
def ageOk (s : State) (p m : Nat) (up : Int) : Bool :=
  let g := basinGen s p
  let launch : Rat := (cutoffTicks s : Rat) * 5 / 2 + (relBits s p m g : Rat) * tbit g - (up : Rat) / 10
  200 ≤ launch + 3 * tccNs s

/-! ### Readiness (R19, R403) -/

/-- On entry to READY the self-test of the HWSL decides whether HOLD becomes ARMED (R403). -/
def hwslArm (s : State) : State :=
  if s.srb.st ≠ .hold || s.srb.smpBad || (rec? s 38).active then s
  else
    let t := { s with free := s.free + 1 }
    if Config.hwslSelfTest s.free then srbGo .armed 0 0 0 0 (clear 35 t) else srbFault 35 0 0 0 0 t

/-- Entry to READY (R19, R156, R403). -/
def enterReady (s : State) : State := if s.dev.state = .ready then s else hwslArm (obsUnseed (moveState .ready s))

/-- Every mooring that the plate requires is ranged at the working generation of a port in UP. -/
def plateReady (s : State) : Bool :=
  (namedPorts s).all (fun p =>
    let req := (portOrder s p).filter (fun m => required s (ciOf p m))
    (req.isEmpty || (port s p).lane == .up) &&
    req.all (fun m => let x := moor s (ciOf p m); served x.st && x.rgen = (basinGen s p).code))

/-- LOADED becomes READY (R19). -/
def judgeReady (s : State) : State :=
  if s.dev.state = .loaded && !follower s && !s.cyc.baseWait && plateReady s then enterReady s else s

/-! ### Lane states (R184) -/

/-- A port changes lane state, with its event. -/
def laneGo (p : Nat) (l : LaneState) (s : State) : State :=
  if (port s p).lane = l then s else portChange p l.code (setPort p (fun x => { x with lane := l }) s)

/-- RANGE_REQ with TRAIN for every admitted mooring of a port. -/
def rangeAll (p : Nat) (s : State) : State :=
  (portOrder s p).foldl (fun s m => if admitted (moor s (ciOf p m)).st then queueRange p m true s else s) s

/-- Entry to ACQUIRE with a relock at BL1. -/
def toAcquire (p : Nat) (s : State) : State :=
  rangeAll p (laneGo p .acquire
    (setPort p (fun x => { x with gen := .bl1, locked := false, squelch := true, acked := [] }) s))

/-- A port restarts at ACQUIRE, and its moorings with it (R186, R206). -/
def rediscover (p : Nat) (s : State) : State :=
  toAcquire p (setPort p (fun x => { x with reqs := [] }) ((portOrder s p).foldl (fun s m => vacate p m s) s))

/-- ACQUIRE from the start: attempt count 0 and every mooring rediscovered. -/
def restartPort (p : Nat) (s : State) : State :=
  rediscover p (setPort p (fun x => { x with attempts := 0, holdUntil := none }) s)

/-- A step has failed: the attempt count rises, and the last attempt raises FLT_BASIN_STEP. -/
def stepFailed (p : Nat) (s : State) : State :=
  let n := (port s p).attempts + 1
  let s := setPort p (fun x => { x with attempts := n }) s
  if n = parN s 2 p 8 then raise (128 + p) (be 1 p) s else s

/-- Every required mooring is ranged at a generation. -/
def allRanged (s : State) (p : Nat) (g : Gen) : Bool :=
  ((portOrder s p).filter (fun m => required s (ciOf p m))).all
    (fun m => let x := moor s (ciOf p m); served x.st && x.rgen = g.code)

/-- Moorings ranged at BASIN_GEN receive their SLOT_ASSIGN (R206). -/
def assignAll (p : Nat) (s : State) : State :=
  if (port s p).gen ≠ basinGen s p then s else
  (portOrder s p).foldl (fun s m =>
    let x := moor s (ciOf p m)
    if served x.st && !x.assigned then queueAssign p m s else s) s

/-- The cycle whose frame is the next to launch. -/
def nextFrame (s : State) : CycleNo := if s.cyc.launched then s.cyc.n + 1 else s.cyc.n

/-- Step cycle S of an announcement whose first frame is that of cycle `k` (R184, worked example). -/
def stepAt (s : State) (p : Nat) (k : CycleNo) : CycleNo := k + BitVec.ofNat 48 (parN s 2 p 2)

/-- A port held in ACQUIRE after a failed step may announce again (R32, R184). -/
def holdOver (s : State) (x : Port) : Bool :=
  match x.holdUntil with | some c => c = s.cyc.n || after 48 s.cyc.n.toNat c.toNat | none => true

/-- ACQUIRE or TRAIN is complete (R184). A follower's lanes follow its twin's (R186). -/
def judgePort (p : Nat) (s : State) : State :=
  let x := port s p
  if follower s || !x.locked then s else
  match x.lane with
  | .acquire =>
    if !allRanged s p .bl1 then s
    else if basinGen s p = .bl1 then judgeReady (assignAll p (laneGo p .up s))
    else if x.attempts < parN s 2 p 8 && holdOver s x then
      laneGo p .negotiate (setPort p (fun y => { y with stepCycle := stepAt s p (nextFrame s), acked := [] }) s)
    else s
  | .train =>
    let trained := ((portOrder s p).filter (fun m => required s (ciOf p m))).all (fun m => (moor s (ciOf p m)).preset.valid)
    if allRanged s p (basinGen s p) && trained then judgeReady (assignAll p (laneGo p .up s)) else s
  | _ => s

/-- Every port in turn. -/
def judgePorts (s : State) : State := judgeReady ((namedPorts s).foldl (fun s p => judgePort p s) s)

/-! ### Burst presets (R176–R178) -/

/-- One step of a preset field towards a measured value: an eighth of the difference, at least one unit. -/
def presetStep (d : Int) : Int :=
  let q := rheDiv d 8
  if d = 0 then 0 else if q = 0 then (if 0 < d then 1 else -1) else q

/-- A scheduled burst with an accepted delimiter (R177). -/
def presetMove (x : Preset) (b : BurstMeas) : Preset :=
  let dp := ((b.phase : Int) - x.phase + 32) % 64 - 32
  { x with thresh := x.thresh + presetStep (b.thresh - x.thresh),
           eq := ((x.eq : Int) + presetStep (b.eq - x.eq)).toNat,
           phase := (((x.phase : Int) + presetStep dp) % 64).toNat,
           ampl := ((x.ampl : Int) + presetStep (b.ampl - x.ampl)).toNat, fails := 0, stale := false }

/-- An accepted training burst (R177). -/
def presetLearn (g : Gen) (b : BurstMeas) : Preset :=
  { valid := true, stale := false, gen := g.code, fails := 0, thresh := b.thresh, eq := b.eq, phase := b.phase, ampl := b.ampl }

/-- A scheduled burst without an accepted delimiter (R176, R178). -/
def presetFail (lim : Nat) (x : Preset) : Preset :=
  let n := min 15 (x.fails + 1)
  { x with fails := n, stale := x.stale || decide (lim ≤ n) }

/-- The receiver may settle from the preset without a training preamble (R202). -/
def presetGood (x : Preset) : Bool := x.valid && !x.stale

/-! ### Ranging (R208, R209) -/

/-- d_down and d_up of R208 for an answered request: `delim` counts 1/64 bits from the launch tick of the request's
frame to the end of US_DELIM, `j` reply positions of a DISCOVER. -/
def measure (s : State) (p ci : Nat) (q : Req) (pre j : Nat) (delim : Nat) : Int × Int :=
  let x := port s p
  let t := tbit x.gen
  let m := moor s ci
  let first : Rat := (delim : Rat) * t / 64 - ((pre + 32 : Nat) : Rat) * t
  let rt : Rat := first - 3000 - (q.d : Rat) * t - (j : Rat) * (burstBits x.gen true : Rat) * t
  let txp : Rat := (x.t_txp : Rat) / 10
  let rxp : Rat := (x.t_rxp : Rat) / 10
  let crx : Rat := (m.cellRx : Rat) / 10
  let ctx : Rat := (m.cellTx : Rat) / 10
  let fib := rt - 48 * t - txp - rxp - crx - ctx
  let asym : Rat := (par s 3 p 0 : Rat) / 1000000
  (rhe ((txp + 48 * t + crx + fib * (1 + asym) / 2) * 10), rhe ((rxp + ctx + fib * (1 - asym) / 2) * 10))

/-- A new d_up: stored, and sent in a SLOT_ASSIGN when it differs by more than one bit from the one sent (R209). -/
def noteUp (p m : Nat) (du : Int) (s : State) : State :=
  let ci := ciOf p m
  let x := moor s ci
  let s := if x.dUp = du then s else pointNow ci 20 du (setMoor ci (fun y => { y with dUp := du }) s)
  if x.assigned && decide (tbit (port s p).gen * 10 < absR ((du - x.upSent : Int) : Rat)) then queueAssign p m s else s

/-- A measurement of a served mooring (R209): the value to come into use at the next cutoff, if any. -/
def downNext (x : Moor) (dd : Int) : Option Int × Option Int :=
  if (dd - x.dDown).natAbs ≤ 20 then (some dd, none)
  else match x.dCand with
    | some c => if (dd - c).natAbs ≤ 5 then (some dd, none) else (none, some dd)
    | none => (none, some dd)

/-- An accepted reply's delays are applied (R206, R209). -/
def applyRanging (p m : Nat) (dd du : Int) (s : State) : State :=
  let ci := ciOf p m
  let x := moor s ci
  let g := (port s p).gen
  match x.st with
  | .admitted =>
    if maxDown s p < dd || !ageOk s p m du then raise 273 (be 2 ci) (moorGo p m .refused s)
    else
      let s := noteUp p m du s
      let s := moorGo p m .ranged (setMoor ci (fun y => { y with dNext := some dd, dCand := none, everRanged := true, known := true, rgen := g.code, assigned := false }) s)
      assignAll p s
  | .ranged | .serving =>
    let (nx, cand) := downNext x dd
    match nx with
    | some d =>
      if maxDown s p < d then lostRanging p m (setMoor ci (fun y => { y with dCand := none, dNext := none }) s)
      else noteUp p m du (setMoor ci (fun y => { y with dNext := some d, dCand := none, everRanged := true, known := true, rgen := g.code }) s)
    | none => noteUp p m du (setMoor ci (fun y => { y with dCand := cand, everRanged := true, known := true, rgen := g.code }) s)
  | _ => s

/-- An outstanding request by TAG, the newest of several. -/
def reqOf (s : State) (p tag : Nat) : Option Req := (port s p).reqs.reverse.find? (fun r => r.tag = tag && !r.dead)

/-- A request is settled. -/
def dropReq (p tag : Nat) (s : State) : State := setPort p (fun x => { x with reqs := x.reqs.filter (fun r => r.tag ≠ tag || r.dead) }) s

/-- A point of the grid on which a delimiter's end is measured (R208): a bit of the port's transmit grid and 64ths of it. -/
def gridAt (bit phase : Nat) : Nat := 64 * bit + phase

/-- The delimiter's end lies inside the span in which the request's reply is due: the service window for an
addressed request, the broadcast's span otherwise (R198, R207, R499). DESIGN CHOICE (log 114): the bound of 8 bits of
R174 is put on a service reply only at a readmission, for which R210 names it. -/
def inWindow (s : State) (p : Nat) (q : Req) (pre delim : Nat) : Bool :=
  let t := tbit (port s p).gen
  let first : Rat := (delim : Rat) * t / 64 - ((pre + 32 : Nat) : Rat) * t
  let lo := if 3 ≤ q.kind then q.opens + q.pos else q.opens
  let hi := if 3 ≤ q.kind then q.opens + q.pos + q.len else q.opens + 1500
  decide (lo ≤ first) && decide (first ≤ hi)

/-- The delimiter of a reply ends within 8 bits of its reply position (R174). -/
def atPosition (s : State) (p : Nat) (q : Req) (delim : Nat) : Bool :=
  let t := tbit (port s p).gen
  decide (absR ((delim : Rat) * t / 64 - (q.opens + q.pos + ((q.pre + 32 : Nat) : Rat) * t)) ≤ 8 * t)

/-- A reply from a mooring is accepted: the request is settled and the mooring ranged; a MOORING_RANGE that sent it
completes at this tick (R208, R345, R348). -/
def replyAccepted (p m : Nat) (q : Req) (pre delim : Nat) (s : State) : State :=
  let ci := ciOf p m
  let (dd, du) := measure s p ci q pre 0 delim
  let s := setMoor ci (fun x => { x with unanswered := 0 }) (if q.kind = 3 then s else dropReq p q.tag s)
  let s := applyRanging p m dd du s
  let s := match (port s p).rangeCmd with
    | some c =>
      if c.mooring = m && !c.completed && c.reqTag = some q.tag then
        rangeDone p c .ok dd du
          (setPort p (fun x => { x with rangeCmd := some { c with completed := true, cycle := s.cyc.n, tick := tickPhase s } }) s)
      else s
    | none => s
  judgeReady (judgePort p s)

end Sys2Proof.Machine
end

