-- ==== Sys2Proof/Machine/Codec.lean ====
section
/-! DEFINITION. Checks and codes over bytes and bits: CRC-32C and CRC-16 (R191), SHA-256 and HMAC
(R337, R360), the line coding of the basin link (R166, R167). -/

namespace Sys2Proof.Machine

/-- One bit of a CRC of 32 bits, most significant bit first. -/
def crc32Bit (r : BitVec 32) (b : Bool) : BitVec 32 :=
  let top := r.getLsbD 31
  let r' := r <<< 1
  if top != b then r' ^^^ 0x1EDC6F41#32 else r'

/-- CRC-32C of R191: preset all ones, most significant first, no reflection, inverted result. -/
def crc32c (bs : List Byte) : BitVec 32 := ~~~ ((bitsOf bs).foldl crc32Bit 0xFFFFFFFF#32)

/-- One bit of a CRC of 16 bits. -/
def crc16Bit (r : BitVec 16) (b : Bool) : BitVec 16 :=
  let top := r.getLsbD 15
  let r' := r <<< 1
  if top != b then r' ^^^ 0x1021#16 else r'

/-- CRC-16 of R191: preset all ones, most significant first, no reflection, no inversion. -/
def crc16 (bs : List Byte) : BitVec 16 := (bitsOf bs).foldl crc16Bit 0xFFFF#16

/-- Round constants of SHA-256. -/
def shaK : List (BitVec 32) :=
  [0x428a2f98#32, 0x71374491#32, 0xb5c0fbcf#32, 0xe9b5dba5#32, 0x3956c25b#32, 0x59f111f1#32, 0x923f82a4#32, 0xab1c5ed5#32,
   0xd807aa98#32, 0x12835b01#32, 0x243185be#32, 0x550c7dc3#32, 0x72be5d74#32, 0x80deb1fe#32, 0x9bdc06a7#32, 0xc19bf174#32] ++
  [0xe49b69c1#32, 0xefbe4786#32, 0x0fc19dc6#32, 0x240ca1cc#32, 0x2de92c6f#32, 0x4a7484aa#32, 0x5cb0a9dc#32, 0x76f988da#32,
   0x983e5152#32, 0xa831c66d#32, 0xb00327c8#32, 0xbf597fc7#32, 0xc6e00bf3#32, 0xd5a79147#32, 0x06ca6351#32, 0x14292967#32] ++
  [0x27b70a85#32, 0x2e1b2138#32, 0x4d2c6dfc#32, 0x53380d13#32, 0x650a7354#32, 0x766a0abb#32, 0x81c2c92e#32, 0x92722c85#32,
   0xa2bfe8a1#32, 0xa81a664b#32, 0xc24b8b70#32, 0xc76c51a3#32, 0xd192e819#32, 0xd6990624#32, 0xf40e3585#32, 0x106aa070#32] ++
  [0x19a4c116#32, 0x1e376c08#32, 0x2748774c#32, 0x34b0bcb5#32, 0x391c0cb3#32, 0x4ed8aa4a#32, 0x5b9cca4f#32, 0x682e6ff3#32,
   0x748f82ee#32, 0x78a5636f#32, 0x84c87814#32, 0x8cc70208#32, 0x90befffa#32, 0xa4506ceb#32, 0xbef9a3f7#32, 0xc67178f2#32]

/-- Initial hash words of SHA-256. -/
def shaH0 : List (BitVec 32) :=
  [0x6a09e667#32, 0xbb67ae85#32, 0x3c6ef372#32, 0xa54ff53a#32, 0x510e527f#32, 0x9b05688c#32, 0x1f83d9ab#32, 0x5be0cd19#32]

/-- Rotate right. -/
def rotr (x : BitVec 32) (n : Nat) : BitVec 32 := (x >>> n) ||| (x <<< (32 - n))

/-- Extend a block of 16 words to the schedule, newest word first. -/
def shaExtend : Nat → List (BitVec 32) → List (BitVec 32)
  | 0, w => w
  | n + 1, w =>
    let a := w.getD 14 0
    let b := w.getD 1 0
    let s0 := rotr a 7 ^^^ rotr a 18 ^^^ (a >>> 3)
    let s1 := rotr b 17 ^^^ rotr b 19 ^^^ (b >>> 10)
    shaExtend n ((w.getD 15 0 + s0 + w.getD 6 0 + s1) :: w)

/-- One round over the eight working words. -/
def shaRound (h : List (BitVec 32)) (kw : BitVec 32 × BitVec 32) : List (BitVec 32) :=
  match h with
  | [a, b, c, d, e, f, g, i] =>
    let t1 := i + (rotr e 6 ^^^ rotr e 11 ^^^ rotr e 25) + ((e &&& f) ^^^ (~~~e &&& g)) + kw.1 + kw.2
    let t2 := (rotr a 2 ^^^ rotr a 13 ^^^ rotr a 22) + ((a &&& b) ^^^ (a &&& c) ^^^ (b &&& c))
    [t1 + t2, a, b, c, d + t1, e, f, g]
  | _ => h

/-- The 16 words of a 64-byte block. -/
def wordsOf : List Byte → List (BitVec 32)
  | a :: b :: c :: d :: rest => (a ++ b ++ c ++ d) :: wordsOf rest
  | _ => []

/-- One block of SHA-256. -/
def shaBlock (h : List (BitVec 32)) (blk : List Byte) : List (BitVec 32) :=
  let w := (shaExtend 48 (wordsOf blk).reverse).reverse
  List.zipWith (· + ·) h ((List.zip shaK w).foldl shaRound h)

/-- Blocks of 64 bytes in order. -/
def shaBlocks : Nat → List (BitVec 32) → List Byte → List (BitVec 32)
  | 0, h, _ => h
  | n + 1, h, bs => if bs.isEmpty then h else shaBlocks n (shaBlock h (bs.take 64)) (bs.drop 64)

/-- SHA-256 of a byte string. -/
def sha256 (bs : List Byte) : List Byte :=
  let n := bs.length
  let msg := bs ++ [0x80#8] ++ List.replicate ((119 - n % 64) % 64) 0 ++ be 8 (n * 8)
  (shaBlocks (n / 64 + 2) shaH0 msg).flatMap (fun w => be 4 w.toNat)

/-- HMAC-SHA-256 under a key of at most 64 bytes (R337). -/
def hmac (key msg : List Byte) : List Byte :=
  let k := key ++ List.replicate (64 - key.length) 0
  sha256 (k.map (· ^^^ 0x5C#8) ++ sha256 (k.map (· ^^^ 0x36#8) ++ msg))

/-- The transmitter's register, run counter and the bits sent, newest first (R166, R167). -/
structure Scr where
  reg : BitVec 58
  run : Nat
  last : Bool
  out : List Bool := []
  /-- Bits sent. -/
  n : Nat := 0
deriving DecidableEq, Repr

/-- Send one line bit and keep the run (R167): after 23 equal bits a stuff bit of the other value. -/
def Scr.emit (x : Scr) (b : Bool) : Scr :=
  let run := if b == x.last then x.run + 1 else 1
  if run = 23 then { x with run := 1, last := !b, out := (!b) :: b :: x.out, n := x.n + 2 }
  else { x with run := run, last := b, out := b :: x.out, n := x.n + 1 }

/-- One bit of the stream, raw or scrambled with x^58 + x^39 + 1 (R166). -/
def Scr.bit (raw : Bool) (x : Scr) (b : Bool) : Scr :=
  let line := if raw then b else (b != x.reg.getLsbD 38) != x.reg.getLsbD 57
  { x with reg := (x.reg <<< 1) ||| (if line then 1#58 else 0#58) }.emit line

/-- US_DELIM (R170). -/
def usDelim : BitVec 32 := 0x9D2BC471

/-- Bits in which a received delimiter differs from US_DELIM (R174). -/
def delimErrors (d : BitVec 32) : Nat := ((List.range 32).filter (fun i => d.getLsbD i != usDelim.getLsbD i)).length

/-- The receiver's register, run counter and payload bits, newest first, with their number, and whether a stuff bit was
wrong (R166, R168). -/
structure Rcv where
  reg  : BitVec 58
  run  : Nat
  last : Bool
  out  : List Bool := []
  n    : Nat := 0
  bad  : Bool := false
deriving DecidableEq, Repr

/-- One received line bit: the bit after a run of 23 is removed, any other is raw or descrambled (R166, R168). -/
def Rcv.bit (raw : Bool) (x : Rcv) (b : Bool) : Rcv :=
  if x.run = 23 then { x with run := 1, last := b, bad := x.bad || b == x.last }
  else
    let y := { x with reg := (x.reg <<< 1) ||| (if b then 1#58 else 0#58), run := if b == x.last then x.run + 1 else 1, last := b }
    if raw then y else { y with out := ((b != x.reg.getLsbD 38) != x.reg.getLsbD 57) :: x.out, n := x.n + 1 }

/-- The receiver at the first payload bit of a burst: the last 26 preamble bits and the 32 delimiter bits (R166). -/
def Rcv.start (d : BitVec 32) : Rcv :=
  (bitsN 26 0x2AAAAAA ++ bitsN 32 d.toNat).foldl (Rcv.bit true) { reg := 0, run := 0, last := false }

/-- The first `k` payload bits of a burst as a number, and whether a stuff bit among them was wrong; none where the
line gives fewer. -/
def burstPayload (k : Nat) (b : Burst) : Option (Nat × Bool) :=
  let x := b.line.foldl (fun x c => if x.n = k then x else x.bit false c) (Rcv.start b.delim)
  if x.n = k then some (x.out.reverse.foldl (fun a c => 2 * a + b2n c) 0, x.bad) else none

/-- The message of `k` bits that a burst carries before its CRC-16 (R191), if no stuff bit is wrong and the CRC is right. -/
def burstMsg (k : Nat) (b : Burst) : Option Nat :=
  match burstPayload (k + 16) b with
  | some (v, bad) => if !bad && crc16 (be (k / 8) (v / 2 ^ 16)) = BitVec.ofNat 16 v then some (v / 2 ^ 16) else none
  | none => none

/-- A burst by the parts of its envelope (R172, R202): US_DELIM as received, the line bits of the payload, and those of the
stuff margin. -/
def burstOn (delim : BitVec 32) (payload margin : List Bool) : Burst := { delim := delim, line := payload ++ margin }

/-- DS_DELIM (R170). -/
def dsDelim : Nat := 0x5F0AE639

/-- Lead-in of launch phase P (R170). -/
def leadIn (p : Nat) : Nat := 0xA500 + (p % 8) * 32 + (7 - p % 8) * 4 + 2

end Sys2Proof.Machine
end

