-- ==== Sys2Proof/Machine/Frames.lean ====
section
/-! DEFINITION. Downstream frames (R42, R43, R166–R170, R188–R199, R226, R499): the fire offset, command words,
trim block, service area with the placing of replies, header, line bits, and the sending of a port's frame. -/

namespace Sys2Proof.Machine

/-! ### Command words and trim entries (R43, R194, R196) -/

/-- Fire offset before and after its clamp (R43), for a delay in 0.1 ns. -/
def fireRaw (s : State) (d : Int) : Int :=
  let ratio : Rat := ((0x280000000 : Nat) : Rat) / (s.cyc.ctInc : Rat)
  let delta := (tccNs s + fireNs s - ((cutoffTicks s : Rat) * 5 / 2 + 850) - (d : Rat) / 10) * ratio
  (delta / fireUnit s + 1 / 2).floor

/-- F: 0 to 65,535. -/
def fireOffset (s : State) (d : Int) : Nat := (clampI 0 65535 (fireRaw s d)).toNat

/-- Moorings with a command word at a generation (R189, R195). -/
def wordCount (g : Gen) : Nat := match g with | .bl1 => 32 | _ => 256

/-- Delay a mooring's fire offset uses (R195): 0 until it is ranged. -/
def wordDelay (x : Moor) : Int := if admitted x.st && x.known then x.dDown else 0

/-- A command word (R194) for a state and a trim flag. -/
def cmdWord (s : State) (p m : Nat) (st : CellCmd) (trim : Bool) : Word :=
  let ci := ciOf p m
  let x := moor s ci
  let adm := moorNamed s p m && admitted x.st
  let st := if adm then st else .block
  let byp := 0 < (port s p).bypass.get m 0
  BitVec.ofNat 32 (st.code * 2 ^ 30 + s.cyc.n.toNat % 4 * 2 ^ 28 + fireOffset s (wordDelay x) * 2 ^ 12 + b2n (trim && adm) * 2 ^ 11 +
    b2n (moorNamed s p m && isGauge s ci) * 2 ^ 10 + b2n (!adm) * 2 ^ 9 + b2n byp * 2 ^ 8)

/-- States that the arms command in this cycle, by CI. -/
def armStates (s : State) : SMap CellCmd :=
  (armsUsed s).foldl (fun (m : SMap CellCmd) a =>
    match (s.arms.get a {}).out with
    | some o => o.states.foldl (fun (m : SMap CellCmd) x => m.set x.1 x.2) m
    | none => m) []

/-- Trim entries of this cycle: CI, ON and OFF, in ascending CI. -/
def armTrims (s : State) : SMap (Nat × Nat) :=
  (armsUsed s).foldl (fun (m : SMap (Nat × Nat)) a =>
    match (s.arms.get a {}).out with
    | some o => (match o.trim with | some (ci, on, off) => m.set ci (on, off) | none => m)
    | none => m) []

/-- A trim entry's 64 bits (R196). -/
def trimEntry (m on off : Nat) : BitVec 64 := BitVec.ofNat 64 (2 ^ 63 + m * 2 ^ 48 + on * 2 ^ 16 + off)

/-- Clamps of R43 counted for a port's ranged moorings. -/
def countClamps (p : Nat) (s : State) : State :=
  (portOrder s p).foldl (fun s m =>
    let ci := ciOf p m
    if admitted (moor s ci).st && decide (fireRaw s (wordDelay (moor s ci)) < 0) then
      setMoor ci (fun x => { x with clamps := x.clamps + 1 }) s else s) s

/-! ### Placing a reply (R203, R499) -/

/-- From the launch tick of the current frame to the opening of the service window of cycle `k`. -/
def windowAt (s : State) (k : CycleNo) : Rat :=
  (((k - s.cyc.n).toInt : Int) : Rat) * tccNs s + ((cutoffTicks s : Rat) - (tickPhase s : Rat)) * 5 / 2

/-- Replies that are due in the window of a cycle (addressed requests). -/
def repliesIn (s : State) (p : Nat) (k : CycleNo) : List Req :=
  (port s p).reqs.filter (fun r => r.kind ≤ 2 && r.win = k)

/-- A span, counted from the current launch tick, meets the span of an outstanding request. -/
def meets (s : State) (lo hi : Rat) (r : Req) : Bool :=
  let a := windowAt s r.win + r.pos
  decide (lo < a + r.len) && decide (a < hi)

/-- The first window, among the next ones, whose free position takes an addressed reply of a length. -/
def placeReply (s : State) (p : Nat) (reach len : Rat) : Nat → CycleNo → Option (CycleNo × Rat)
  | 0, _ => none
  | f + 1, k =>
    let w := windowAt s k
    let pos := 100 + ((repliesIn s p k).map (·.len)).sum
    let clash := ((port s p).reqs.filter (fun r => 3 ≤ r.kind)).any (meets s (w + pos) (w + pos + len))
    if reach < w && pos + len < 1500 && !clash then some (k, pos) else placeReply s p reach len f (k + 1)

/-- The first window whose span is free for the replies of a broadcast. -/
def placeCast (s : State) (p : Nat) (len : Rat) : Nat → CycleNo → Option CycleNo
  | 0, _ => none
  | f + 1, k =>
    let w := windowAt s k
    if 3000 < w && !((port s p).reqs.any (meets s (w + 100) (w + 100 + len))) then some k else placeCast s p len f (k + 1)

/-- Line bits nearest to a span, as the field D holds them. -/
def dBits (g : Gen) (x : Rat) : Nat := (rhe (x / tbit g)).toNat

/-- A request as it is sent with TAG `tag`: addressed to a mooring, with its message. -/
def addressed (s : State) (p m kind tag : Nat) (train : Bool) (page : Nat) : Option Req :=
  let x := moor s (ciOf p m)
  let g := (port s p).gen
  let long := kind = 1 && train || !presetGood x.preset
  let len : Rat := (burstBits g long : Rat) * tbit g
  let reach : Rat := 3000 + (x.dDown : Rat) / 10 + (x.dUp : Rat) / 10
  (placeReply s p reach len 64 (s.cyc.n + 1)).map (fun (k, pos) =>
    let d := dBits g (windowAt s k + pos - reach)
    { kind := kind, mooring := m, tag := tag, d := d, train := train, pre := preBits g long, page := page, cycle := s.cyc.n, win := k,
      opens := windowAt s k, pos := pos, len := len })

/-- Span of the replies to a broadcast (R207, R499): DISCOVER's listening window, or eight acknowledgements. -/
def castSpan (s : State) (p kind : Nat) : Rat :=
  let g := (port s p).gen
  2 * (maxDown s p : Rat) / 10 +
    (if kind = 4 then (parN s 3 p 2 : Rat) * (burstBits g true : Rat) * tbit g else 8 * (burstBits g false : Rat) * tbit g)

/-- A broadcast request as it is sent. -/
def broadcast (s : State) (p kind tag : Nat) (asked : List Nat) : Option Req :=
  (placeCast s p (castSpan s p kind) 64 (s.cyc.n + 1)).map (fun k =>
    let d := dBits (port s p).gen (windowAt s k + 100 - 3000)
    { kind := kind, tag := tag, d := d, train := kind = 4, pre := preBits (port s p).gen (kind = 4), asked := asked, cycle := s.cyc.n, win := k, opens := windowAt s k, pos := 100,
      len := castSpan s p kind })

/-! ### The service area of a frame (R197, R198, R207, R226) -/

/-- The 32 bytes of a message. -/
def svcBytes (m : SvcMsg) : List Byte :=
  be 1 m.type ++ be 1 m.flags ++ be 1 m.mooring ++ be 1 m.tag ++ (m.payload ++ List.replicate 28 0).take 28

/-- A repeated message as it stands in its first frame: SLOT_ASSIGN names EFFECTIVE eight cycles ahead, and is sent up to
the cycle EFFECTIVE − 4. -/
def startRep (s : State) (p : Nat) (m : SvcMsg) : SvcMsg :=
  if m.type = 0x04 && m.payload.isEmpty then
    let ci := ciOf p m.mooring
    let body := be 2 (port s p).epoch.toNat ++ be 4 ((s.cyc.n + 8).toNat % 2 ^ 32) ++ beI 3 (relBits s p m.mooring (port s p).gen) ++
      be 3 (moor s ci).dUp.toNat ++ be 2 (parN s 1 0 2) ++ be 1 (parN s 1 ci 10)
    { m with payload := body, til := some (s.cyc.n + 4) }
  else m

/-- The message of a request. -/
def reqMsg (s : State) (p : Nat) (q : Req) : SvcMsg :=
  match q.kind with
  | 1 =>
    let ci := ciOf p q.mooring
    let loc := !served (moor s ci).st
    let body := be 3 q.d ++ be 1 (b2n q.train) ++ (if loc then be 6 (locationOf s ci) else [])
    { type := 0x03, flags := if loc then 2 else 0, mooring := q.mooring, tag := q.tag, payload := body }
  | 2 => { type := 0x08, mooring := q.mooring, tag := q.tag, payload := be 3 q.d ++ be 2 q.page }
  | 3 =>
    let base := (q.asked.headD 0) / 8 * 8
    let body := be 1 (basinGen s p).code ++ be 4 ((port s p).stepCycle.toNat % 2 ^ 32) ++ be 3 q.d ++ be 1 base ++
      be 1 ((q.asked.map (fun m => 2 ^ (m - base))).sum)
    { type := 0x05, flags := 1, tag := q.tag, payload := body }
  | _ => { type := 0x01, flags := 1, tag := q.tag, payload := be 3 q.d ++ be 1 (parN s 3 p 2) }

/-- A new request goes into the area and onto the port's list, under the next TAG. -/
def sendReq (p : Nat) (q : Option Req) (acc : State × List SvcMsg) : State × List SvcMsg :=
  match q with
  | none => acc
  | some q =>
    let s := setPort p (fun x => { x with reqs := x.reqs ++ [q], nextTag := x.nextTag + 1,
                                          rangeCmd := x.rangeCmd.map (fun c =>
                                            if q.kind = 1 && c.mooring = q.mooring && !c.completed then { c with reqTag := some q.tag } else c) }) acc.1
    (s, acc.2 ++ [reqMsg acc.1 p q])

/-- TAG of the next request. -/
def nextTag (s : State) (p : Nat) : Nat := (port s p).nextTag.toNat

/-- STEP_ANNOUNCE of a frame in NEGOTIATE: asks the next eight moorings that have not acknowledged; one whose
replies cannot be placed asks none. -/
def announce (p : Nat) (s : State) : State × List SvcMsg :=
  let x := port s p
  let un := (List.range 256).filter (fun m => admitted (moor s (ciOf p m)).st && moorNamed s p m && !x.acked.contains m)
  let base := (un.headD 0) / 8 * 8
  let grp := un.filter (fun m => m / 8 * 8 = base)
  match (if grp.isEmpty then none else broadcast s p 3 (nextTag s p) grp) with
  | some q => sendReq p (some q) (s, [])
  | none => (s, [reqMsg s p { kind := 3, tag := nextTag s p }])

/-- The listening window of a DISCOVER is open at this frame (R207, R226). -/
def listening (s : State) (p : Nat) : Bool :=
  (port s p).reqs.any (fun r => r.kind = 4 && (let a := windowAt s r.win + r.pos; decide (a ≤ 0) && decide (0 < a + r.len)))

/-- A DISCOVER may be sent on a port (R207): in ACQUIRE, or in UP in a quiet state with a VACANT mooring; never in RUNNING
or RAMPING. -/
def mayDiscover (s : State) (p : Nat) : Bool :=
  let x := port s p
  let quiet := match x.lastDisc with | some c => decide (parN s 3 p 4 ≤ (s.cyc.n - c).toNat) | none => true
  portNamed s p && !follower s && x.locked &&
  (x.lane == .acquire ||
   (x.lane == .up && (s.dev.state == .loaded || s.dev.state == .ready || s.dev.state == .blocked) && quiet &&
    (portOrder s p).any (fun m => (moor s (ciOf p m)).st == .vacant))) && !runs s

/-- A queued request waits: a DISCOVER while none may be sent (R207), a RANGE_REQ until its mooring's ADMIT has been sent
(R206). -/
def reqWaits (s : State) (p : Nat) (m : SvcMsg) : Bool :=
  if m.reqKind = 4 then !mayDiscover s p
  else (port s p).svc.any (fun y => y.type = 0x02 && y.mooring = m.mooring && y.frames = 8)

/-- The queued requests are sent in their order while places are left; one that finds no position waits. -/
def sendQueued (p : Nat) (left : Nat) : List SvcMsg → State × List SvcMsg → State × List SvcMsg
  | [], acc => acc
  | m :: ms, acc =>
    let s := acc.1
    if left ≤ acc.2.length then acc
    else if reqWaits s p m then sendQueued p left ms acc
    else
      let q := if m.reqKind = 4 then broadcast s p 4 (nextTag s p) []
        else addressed s p m.mooring 1 (nextTag s p) (m.payload = [1]) 0
      match q with
      | none => sendQueued p left ms acc
      | some r =>
        let s := setPort p (fun x => { x with svc := x.svc.filter (fun y => !(y.type = m.type && y.mooring = m.mooring)),
                                              lastDisc := if r.kind = 4 then some s.cyc.n else x.lastDisc }) s
        sendQueued p left ms (sendReq p (some r) (s, acc.2))

/-- Polled pages of a mooring (R226). -/
def pollPages (s : State) (p m : Nat) : Nat := if isGauge s (ciOf p m) then 1 else parN s 3 p 16

/-- The next mooring and page of the poll round, in ascending order and round again. -/
def pollNext (s : State) (p : Nat) : Option (Nat × Nat) :=
  let x := port s p
  let ms := (List.range 256).filter (fun m => moorNamed s p m && (moor s (ciOf p m)).st == .serving)
  let all := ms.flatMap (fun m => (List.range (pollPages s p m)).map (fun g => (m, g)))
  match all.find? (fun y => x.pollMoor < y.1 || (y.1 = x.pollMoor && x.pollPage ≤ y.2)) with
  | some y => some y
  | none => all.head?

/-- Up to `n` POLLs in the places left. -/
def sendPolls (p : Nat) : Nat → State × List SvcMsg → State × List SvcMsg
  | 0, acc => acc
  | n + 1, acc =>
    let s := acc.1
    if 4 ≤ acc.2.length || listening s p then acc else
    match pollNext s p with
    | none => acc
    | some (m, g) =>
      match addressed s p m 2 (nextTag s p) false g with
      | none => acc
      | some q =>
        let s := setPort p (fun x => { x with pollMoor := m, pollPage := g + 1 }) s
        sendPolls p n (sendReq p (some q) (s, acc.2))

/-- The service area of the frame of this cycle, at most four messages: up to three repeated ones, STEP_ANNOUNCE, then
the requests of the queue, then POLLs. -/
def serviceArea (p : Nat) (s : State) : State × List SvcMsg :=
  let x := port s p
  let (reps, rest) := x.svc.partition (fun m => m.reqKind = 0)
  let sent := (reps.take 3).map (startRep s p)
  let keep := (sent.map (fun m => { m with frames := m.frames - 1 })).filter (fun m =>
    match m.til with | some c => after 48 c.toNat s.cyc.n.toNat | none => decide (0 < m.frames))
  let past := fun (r : Req) => (3 ≤ r.kind || r.dead) && decide (windowAt s r.win + r.pos + r.len < 0)
  let s := setPort p (fun y => { y with svc := keep ++ reps.drop 3 ++ rest, reqs := y.reqs.filter (fun r => !past r) }) s
  let (s, msgs) := if x.lane = .negotiate then
      (let (s, a) := announce p s; (s, sent ++ a)) else (s, sent)
  let acc := sendQueued p 4 (if x.lane = .negotiate then [] else rest) (s, msgs)
  if x.lane = .up then sendPolls p (parN acc.1 3 p 14) acc else acc

/-! ### Header and line bits (R170, R189–R193) -/

/-- The hardware inhibit code (R192, R199). -/
def inhibitCode : Nat := 0xB10C4EF3

/-- Code of a frame type (R188). -/
def ftypeCode : FType → Nat | .command => 1 | .block => 2 | .serviceOnly => 3 | .inhibit => 4

/-- Header words 0 to 7 (R192). -/
def header (s : State) (p : Nat) (ft : FType) (lead trims svcs : Nat) : List Word :=
  let x := port s p
  let tag := match s.cfg.plate with | some pl => pl.hdr.plateTag.toNat | none => 0
  let w1 := ftypeCode ft * 2 ^ 28 + x.gen.code * 2 ^ 26 + p * 2 ^ 21 + s.dev.unitId * 2 ^ 19 + lead
  let w3 := parN s 1 0 0 * 2 ^ 18 + parN s 1 0 6 * 2 ^ 16 + parN s 1 0 4
  let w4 := holdCycles s * 2 ^ 27 + parN s 1 p 8 * 2 ^ 22 + x.epoch.toNat
  let w5 := trims * 2 ^ 28 + svcs * 2 ^ 25 + tag
  let ws := [w1, s.cyc.n.toNat % 2 ^ 32, w3, w4, w5, 0]
  [if x.inhibit then BitVec.ofNat 32 inhibitCode else 0#32] ++ ws.map (BitVec.ofNat 32) ++ [crc32c (ws.flatMap (be 4))]

/-- The bytes of a block with its CRC. -/
def block4 (bs : List Byte) : List Byte := bs ++ be 4 (crc32c bs).toNat

/-- Words of command blocks of 64 moorings, or one of 32 at BL1. -/
def cmdBlocks (g : Gen) (ws : List Word) : List Byte :=
  let k := match g with | .bl1 => 32 | _ => 64
  (List.range (ws.length / k)).flatMap (fun b => block4 (((ws.drop (b * k)).take k).flatMap (fun w => be 4 w.toNat)))

/-- FRAME_CAP (R189). -/
def frameCap (g : Gen) : Nat := match g with | .bl1 => 3100 | _ => 10400

/-- Launch phase P of R170, from the time in ns between the launch tick and the lead-in. -/
def launchPhase (g : Gen) (e : Rat) : Nat := (8 * e / tbit g).floor.toNat

/-- Idle bits before those that stand, newest first: free, but no run grows beyond 2 (R169). -/
def idleGen (f : Nat → Bool) : Nat → Bool → Nat → List Bool
  | 0, _, _ => []
  | n + 1, b, run =>
    let x := if run = 2 then !b else f n
    x :: idleGen f n x (if x == b then run + 1 else 1)

/-- The last `k` idle bits before a lead-in, newest first: they end with 0b10 (R169); which they are else is open
(log 7). -/
def idleTail (p n k : Nat) : List Bool := (false :: true :: idleGen (fun i => (Config.idleBits p n).getLsbD i) (k - 2) true 1).take k

/-- The scrambler register at a lead-in: what the last frame left, with the idle bits since shifted in (R166, R169). -/
def idleReg (p n k : Nat) (reg : BitVec 58) : BitVec 58 :=
  (idleTail p n (min k 58)).reverse.foldl (fun r b => (r <<< 1) ||| (if b then 1#58 else 0#58)) reg

/-- Line bits of a frame from its lead-in: lead-in and DS_DELIM raw, the bytes scrambled, ended at FRAME_CAP (R190); with
the register they leave. -/
def lineBits (g : Gen) (phase : Nat) (start : BitVec 58) (bs : List Byte) : List Bool × BitVec 58 :=
  let x0 : Scr := { reg := start, run := 1, last := false }
  let x1 := (bitsN 16 (leadIn phase) ++ bitsN 32 dsDelim).foldl (Scr.bit true) x0
  let x2 := (bitsOf bs).foldl (fun x b => if frameCap g ≤ x.n then x else Scr.bit false x b) x1
  (x2.out.reverse.take (frameCap g), x2.reg)

/-- Bits of the grid from lock to an instant (R163), and from there to the next boundary. -/
def gridBits (g : Gen) (t : Nat) : Rat := (t : Rat) * 5 / 2 / tbit g

/-- Time from a launch tick to the first bit boundary at or after it, for a bit grid aligned to a tick (R163): the
grid's phase at tick `t` after the lock. -/
def gridWait (g : Gen) (t : Nat) : Rat :=
  (((gridBits g t).ceil : Rat) - gridBits g t) * tbit g

/-- Number of idle bits before a lead-in and the bit of the grid at which it starts; an INHIBIT frame ends what the line
carries at the next bit boundary and follows 8 idle bits (R169, R199). -/
def leadBit (x : Port) (inhibit : Bool) (t : Nat) : Nat × Nat :=
  let b := ((gridBits x.gen t).ceil : Int).toNat
  let k := if inhibit then b + 8 - min b x.lineBit else max 8 (b - x.lineBit)
  (k, (if inhibit then min b x.lineBit else x.lineBit) + k)

/-- Send one frame on a port: its header, blocks and line bits, with the service messages given. -/
def launchFrame (p : Nat) (ft : FType) (lead : Nat) (cmds : List Word) (trims : List (BitVec 64)) (svc : List SvcMsg) (s : State) : State :=
  let g := (port s p).gen
  let hd := header s p ft lead trims.length svc.length
  let hdB := hd.flatMap (fun w => be 4 w.toNat)
  let trimB := block4 ((trims.flatMap (fun (t : BitVec 64) => be 8 t.toNat) ++ List.replicate 64 0).take 64)
  let svcB := block4 ((svc.flatMap svcBytes ++ List.replicate 128 0).take 128)
  let bytes := match ft with
    | .inhibit => (hdB.take 4)
    | .serviceOnly => hdB ++ svcB
    | _ => hdB ++ trimB ++ cmdBlocks g cmds ++ svcB
  let x := port s p
  let t := s.now - x.lockTick
  let (idle, start) := leadBit x (ft == .inhibit) t
  let old := if decide (start < x.lineBit + idle) then Config.idleBits p (s.free + 1) else x.scr
  let (line, reg) := lineBits g (launchPhase g (gridWait g t)) (idleReg p s.free idle old) bytes
  setPort p (fun x => { x with
    lastFrame := some { ftype := ft, gen := g, cycle := s.cyc.n, header := if ft == .inhibit then hd.take 1 else hd,
                        trims := trims, cmds := cmds, svc := svc, line := line },
    scr := reg, lineBit := start + line.length, bypass := if cmds.isEmpty then x.bypass else (x.bypass.map (fun y => (y.1, y.2 - 1))).filter (fun y => 0 < y.2) })
    { s with free := s.free + 2 }

/-- A COMMAND or BLOCK frame of a lit port. -/
def sendWords (p : Nat) (blk : Bool) (lead : Nat) (s : State) : State :=
  let g := (port s p).gen
  let st := armStates s
  let tr := armTrims s
  let trs := if blk then [] else (tr.filter (fun x => x.1 / 256 = p && moorNamed s p (x.1 % 256) && admitted (moor s x.1).st)).take 8
  let words := (List.range (wordCount g)).map (fun m =>
    cmdWord s p m (if blk then .block else st.get (ciOf p m) .block) (trs.any (fun x => x.1 = ciOf p m)))
  let s := countClamps p s
  let (s, svc) := serviceArea p s
  launchFrame p (if blk then .block else .command) lead words (trs.map (fun x => trimEntry (x.1 % 256) x.2.1 x.2.2)) svc s

/-- A SERVICE_ONLY frame of a lit port (R48). -/
def sendService (p : Nat) (s : State) : State :=
  let (s, svc) := serviceArea p s
  launchFrame p .serviceOnly 0 [] [] svc s

/-- Frames of every lit port. -/
def sendAll (f : Nat → State → State) (s : State) : State :=
  (List.range (nPorts s)).foldl (fun s p => if lit s p then f p s else s) s

/-- The observer's copy of a launched frame, with the ports that launched it (R147); a unit that does not transmit keeps
it until its twin's record tells whether the twin launched (R426). -/
def pushFrame (blk : Bool) (s : State) : State :=
  let st := armStates s
  let tr := armTrims s
  let cmds : SMap (CellCmd × Option (Nat × Nat)) := if blk then [] else st.map (fun x => (x.1, (x.2, tr.find x.1)))
  let ps := (List.range (nPorts s)).filter (fun p => if transmits s then lit s p else portNamed s p && frameLane (port s p).lane)
  let f : FrameRec := { cycle := s.cyc.n, ports := ps, block := blk, cmds := cmds }
  if !transmits s then { s with obs := { s.obs with pendFrame := some f } }
  else { s with obs := { s.obs with frames := (f :: s.obs.frames).take 24 } }

/-! ### The inhibit frames (R199, R406) -/

/-- An INHIBIT frame of a port, in the place of the frame or idle it is sending (R199). -/
def sendInhibit (p : Nat) (s : State) : State :=
  if sending s p then launchFrame p .inhibit 0 [] [] [] (setPort p (fun x => { x with inhibits := x.inhibits + 1 }) s) else s

/-- An inhibit line of a port rises; the HWSL alone drives it (R12, R199). -/
def execInhibitLineRise (p : Nat) (s : State) : Host.Outcome State Fault Refusal :=
  unit (p < nPorts s)
    (if s.srb.inhibit && !(port s p).inhibit then sendInhibit p (setPort p (fun x => { x with inhibit := true, inhibits := 0 }) s) else s)

/-- The INHIBIT frame is repeated every 1.00 µs while the line stays asserted (R199). -/
def execInhibitFrameRepeat (p : Nat) (s : State) : Host.Outcome State Fault Refusal :=
  unit (p < nPorts s) (if (port s p).inhibit then sendInhibit p s else s)

end Sys2Proof.Machine
end

