-- ==== Sys2Proof/Machine/BasinRx.lean ====
section
/-! DEFINITION. What basin ports receive, and the events of their lanes (R174–R186, R198–R210, R217, R225). -/

namespace Sys2Proof.Machine

/-! ### Report words (R200, R217) -/

/-- A field of a report word. -/
def rw (w : BitVec 128) (hi lo : Nat) : Nat := w.toNat / 2 ^ lo % 2 ^ (hi - lo + 1)

/-- Two's complement of `n` bits. -/
def signed (n v : Nat) : Int := if v < 2 ^ (n - 1) then v else (v : Int) - (2 ^ n : Nat)

/-- A report word's fields (R200). -/
def reportOf (w : BitVec 128) : ReportWord :=
  { vDev := rw w 127 112, sampleOffset := rw w 111 108, temp := signed 8 (rw w 107 100), firePast := w.getLsbD 99,
    bypassClosed := w.getLsbD 98, holding := w.getLsbD 97, selfBlocked := w.getLsbD 96, inhibited := w.getLsbD 95,
    frameError := w.getLsbD 94, gauge := w.getLsbD 93, epochLo := rw w 91 88, faultCode := rw w 83 76,
    echoState := CellCmd.ofCode (rw w 75 74), echoSeq := rw w 73 72, unitEcho := rw w 71 70, vAux := rw w 63 48,
    q0 := signed 32 (rw w 63 32), q1 := signed 32 (rw w 31 0) }

/-- A report that is malformed for its mooring (R217). -/
def malformedRep (s : State) (p ci : Nat) (r : ReportWord) : Bool :=
  3 < r.sampleOffset || 0x80 ≤ r.faultCode || (cellType s ci == .halfBridge && r.echoState == .insNeg) || r.unitEcho = 3 ||
  (r.gauge != isGauge s ci) || r.epochLo ≠ (port s p).epoch.toNat % 16

/-- The cycle whose report window is open (R36). -/
def windowCycle (s : State) : CycleNo := if s.cyc.frozen then s.cyc.n + 1 else s.cyc.n

/-- A report slot of the open window that a DISCOVER's listening window overlaps (R207). -/
def slotSuspended (s : State) (p m : Nat) : Bool :=
  let g := (port s p).gen
  (port s p).reqs.any (fun r =>
    r.kind = 4 &&
    (let gap : Rat := (((r.win - windowCycle s).toInt : Int) : Rat)
     let lo := gap * tccNs s + r.pos
     let a := (relBits s p m g : Rat) * tbit g
     decide (lo < a + (slotBits g : Rat) * tbit g) && decide (a < lo + r.len)))

/-- A burst of this cycle's window, or of the next one's, is corrupt (R153). -/
def markCorrupt (ci : Nat) (s : State) : State :=
  if s.cyc.frozen then { s with obs := { s.obs with corruptNew := s.obs.corruptNew ++ [ci] } }
  else { s with obs := { s.obs with corrupt := s.obs.corrupt ++ [ci] } }

/-- Counts of the basin port from a valid report's bits (R219). -/
def countBits (ci : Nat) (r : ReportWord) (s : State) : State :=
  setMoor ci (fun x => { x with
    frameErr := if r.frameError then cnt32 x.frameErr else x.frameErr, holding := if r.holding then cnt32 x.holding else x.holding,
    selfBlocked := if r.selfBlocked then cnt32 x.selfBlocked else x.selfBlocked,
    inhibited := if r.inhibited then cnt32 x.inhibited else x.inhibited, last := some r }) s

/-- A valid report enters the capture buffer (R16, R206, R215). -/
def acceptReport (p m : Nat) (r : ReportWord) (s : State) : State :=
  let ci := ciOf p m
  let s := if (moor s ci).st == .ranged then moorGo p m .serving s else s
  let s := countBits ci r { s with obs := { s.obs with buf := s.obs.buf ++ [{ ci := ci, rep := r, cycle := windowCycle s }] } }
  if r.firePast && (moor s ci).st == .serving && (port s p).lane == .up && !r.gauge then
    raise 269 (be 2 ci) (setMoor ci (fun x => { x with firePast := cnt32 x.firePast }) s)
  else s

/-- The receiver accepts a delimiter at an offset in line bits from its scheduled position (R174). -/
def delimOk (off : Int) (b : Burst) : Bool := decide (off.natAbs ≤ 8) && decide (delimErrors b.delim ≤ 2)

/-- A stuff bit of the burst was wrong (R168). -/
def codeError (k : Nat) (b : Burst) : Bool := match burstPayload (k + 16) b with | some (_, bad) => bad | none => false

/-- The report word that a burst carries, if its line code and CRC-16 are right (R168, R172, R191). -/
def reportIn (b : Burst) : Option (BitVec 128) := (burstMsg 128 b).map (BitVec.ofNat 128)

/-- A burst whose delimiter is accepted: preset, loss of signal, checks of the word (R168, R174, R177, R179, R217). -/
def burstAccepted (p m : Nat) (off : Int) (burst : Burst) (signal : Bool) (b : BurstMeas) (s : State) : State :=
  let ci := ciOf p m
  let s := setPreset ci (presetMove (moor s ci).preset b) s
  let s := if signal && (port s p).los then clear (96 + p) (setPort p (fun x => { x with los := false }) s) else s
  let s := if 2 < off.natAbs then queueRange p m false (setMoor ci (fun x => { x with reranges := cnt32 x.reranges }) s) else s
  let s := if codeError 128 burst then setMoor ci (fun x => { x with codeErrors := cnt32 x.codeErrors }) s else s
  match reportIn burst with
  | none => markCorrupt ci s
  | some word =>
    let r := reportOf word
    if malformedRep s p ci r then markCorrupt ci (setMoor ci (fun x => { x with malformed := cnt32 x.malformed }) s)
    else acceptReport p m r s

/-- A scheduled report burst is received (R174–R179, R217), or its slot stays without one; `off` is how far its
delimiter ends from the scheduled position, in line bits. -/
def execReportBurstReceived (p m : Nat) (off : Int) (delim : Option (BitVec 32)) (payload margin : List Bool) (signal : Bool)
    (meas : BurstMeas) (s : State) : Host.Outcome State Fault Refusal :=
  let ci := ciOf p m
  unit (p < nPorts s && m < 256)
    (if !moorNamed s p m || (port s p).lane ≠ .up || !(port s p).locked || slotSuspended s p m then s
     else
      let good := presetGood (moor s ci).preset
      let s := match delim with
        | some d =>
          let b := burstOn d payload margin
          if delimOk off b then burstAccepted p m off b signal meas s
          else setPreset ci (presetFail (parN s 2 p 10) (moor s ci).preset) s
        | none => setPreset ci (presetFail (parN s 2 p 10) (moor s ci).preset) s
      let x := (moor s ci).preset
      if served (moor s ci).st && (!x.valid || (x.stale && good)) then queueRange p m true s else s)

/-! ### Replies (R197, R203, R206–R209) -/

/-- The 32 bytes of the service message that a burst carries, if delimiter, line code and CRC-16 are right (R191, R202). -/
def svcIn (b : Burst) : Option (List Byte) :=
  if delimErrors b.delim ≤ 2 then (burstMsg 256 b).map (be 32) else none

/-- Bytes `lo` to `hi` of a message as a number (R197). -/
def svcField (bs : List Byte) (lo hi : Nat) : Nat := ofBe ((bs.drop lo).take (hi + 1 - lo))

/-- CELL_TYPE of a code (R197). -/
def cellTypeOf : Nat → Option CellType | 0 => some .halfBridge | 1 => some .fullBridge | 2 => some .gauge | _ => none

/-- The fields of a DISC_REPLY (R197). -/
def discOf (bs : List Byte) : DiscReply :=
  { location := BitVec.ofNat 48 (svcField bs 4 9), serial := BitVec.ofNat 64 (svcField bs 10 17), genMax := svcField bs 18 18 / 64,
    cellType := cellTypeOf (svcField bs 18 18 / 16 % 4), discIndex := svcField bs 19 19, cellRx := svcField bs 20 21,
    cellTx := svcField bs 22 23, model := BitVec.ofNat 16 (svcField bs 24 25), fw := BitVec.ofNat 16 (svcField bs 26 27) }

/-- The outstanding request that a received message of a TYPE answers, with its bytes: the TAG names it (R217). -/
def svcReq (s : State) (p type : Nat) (b : Burst) : Option (Req × List Byte) :=
  match svcIn b with
  | some bs => if svcField bs 0 0 = type then (reqOf s p (svcField bs 3 3)).map (fun q => (q, bs)) else none
  | none => none

/-- The reply to an addressed request of a kind comes from its mooring in its window, and at a readmission at its reply
position (R174, R198, R210, R217). -/
def replyFits (s : State) (p kind : Nat) (q : Req) (bs : List Byte) (delim : Nat) : Bool :=
  let x := moor s (ciOf p q.mooring)
  q.kind = kind && q.mooring = svcField bs 2 2 && (port s p).locked && inWindow s p q q.pre delim &&
  (!(x.st == .admitted && x.everRanged && (port s p).lane == .up) || atPosition s p q delim)

/-- Ranging and admission of a DISC_REPLY for a mooring the plate names (R206). -/
def discKnown (p m : Nat) (r : DiscReply) (q : Req) (delim : Nat) (s : State) : State :=
  let ci := ciOf p m
  let x := moor s ci
  if x.st ≠ .vacant then
    if x.serial ≠ r.serial then raise 275 (be 2 ci) s
    else if served x.st then lostRanging p m s else s
  else
    let genBad := r.genMax < (basinGen s p).code
    let typeBad := r.cellType ≠ some (cellType s ci)
    if genBad || typeBad then
      let s := moorGo p m .refused (setMoor ci (fun y => { y with serial := r.serial }) s)
      let s := if genBad then raise 271 (be 2 ci) s else s
      if typeBad then raise 272 (be 2 ci) s else s
    else
      let s := setMoor ci (fun y => { y with serial := r.serial, cellRx := r.cellRx, cellTx := r.cellTx }) s
      let (dd, du) := measure s p ci q q.pre r.discIndex delim
      let s := if (moor s ci).dDown = dd then s else pointNow ci 19 dd (setMoor ci (fun y => { y with dDown := dd }) s)
      let s := noteUp p m du s
      queueRange p m true (queueAdmit p m (moorGo p m .admitted s))

/-- A DISC_REPLY is received (R206, R207): it answers the DISCOVER of its TAG, in the listening window. -/
def execDiscReplyReceived (p : Nat) (b : Burst) (delimEnd : Nat) (s : State) : Host.Outcome State Fault Refusal :=
  unit (p < nPorts s)
    (match svcReq s p 0x81 b with
     | none => s
     | some (q, bs) =>
       if q.kind ≠ 4 || !(port s p).locked || !inWindow s p q q.pre delimEnd then s else
       let r := discOf bs
       match (portOrder s p).find? (fun m => locationOf s (ciOf p m) = r.location.toNat) with
       | none => raise 274 (be 6 r.location.toNat) s
       | some m => discKnown p m r q delimEnd s)

/-- A RANGE_REPLY is received (R198, R208, R209); one that does not name its request's frame and TRAIN is another's
(log 115). -/
def execRangeReplyReceived (p : Nat) (delim : BitVec 32) (payload margin : List Bool) (bit phase : Nat) (s : State) :
    Host.Outcome State Fault Refusal :=
  let delimEnd := gridAt bit phase
  unit (p < nPorts s)
    (match svcReq s p 0x82 (burstOn delim payload margin) with
     | some (q, bs) =>
       if replyFits s p 1 q bs delimEnd && svcField bs 4 7 = q.cycle.toNat % 2 ^ 32 && (svcField bs 8 8).testBit 0 = q.train
       then replyAccepted p q.mooring q q.pre delimEnd s else s
     | none => s)

/-- A STEP_ACK is received (R184, R197). -/
def execStepAckReceived (p : Nat) (delim : BitVec 32) (payload margin : List Bool) (bit phase : Nat) (s : State) :
    Host.Outcome State Fault Refusal :=
  let delimEnd := gridAt bit phase
  let x := port s p
  unit (p < nPorts s)
    (match svcReq s p 0x83 (burstOn delim payload margin) with
     | some (q, bs) =>
       let m := svcField bs 2 2
       let pre := preBits x.gen (!presetGood (moor s (ciOf p m)).preset)
       if q.kind = 3 && q.asked.contains m && x.lane == .negotiate && svcField bs 4 4 = (basinGen s p).code &&
          svcField bs 5 8 = x.stepCycle.toNat % 2 ^ 32 && !x.acked.contains m && inWindow s p q pre delimEnd then
         let i := (m - (q.asked.headD 0) / 8 * 8)
         let late := i * burstBits x.gen false * 64
         replyAccepted p m q pre (delimEnd - late) (setPort p (fun y => { y with acked := y.acked ++ [m] }) s)
       else s
     | none => s)

/-- The six values of a page go to the service points (R225), with the instant of reception. -/
def writePage (ci page : Nat) (vals : List Int) (s : State) : State :=
  if vals.length = 6 && vals.all (fun v => v = -2147483648) then s
  else (vals.take 6).zipIdx.foldl (fun s v => ptInt (ptOf ci (48 + 6 * page + v.2)) v.1 s.cyc.n (tickPhase s) s) s

/-- The six values of an SVC_DATA message (R225). -/
def pageVals (bs : List Byte) : List Int := (List.range 6).map (fun i => signed 32 (svcField bs (6 + 4 * i) (9 + 4 * i)))

/-- An SVC_DATA reply is received (R225); a follower takes the replies to its twin's POLLs (R228). -/
def execSvcDataReceived (p : Nat) (delim : BitVec 32) (payload margin : List Bool) (t bit phase : Nat) (s : State) :
    Host.Outcome State Fault Refusal :=
  let b := burstOn delim payload margin
  let delimEnd := gridAt bit phase
  let s := advanceTo t s
  unit (p < nPorts s)
    (if follower s then
       (match svcIn b with
        | some bs =>
          if svcField bs 0 0 = 0x84 && moorNamed s p (svcField bs 2 2) && svcField bs 4 5 < 10
          then writePage (ciOf p (svcField bs 2 2)) (svcField bs 4 5) (pageVals bs) s else s
        | none => s)
     else match svcReq s p 0x84 b with
      | some (q, bs) =>
        if replyFits s p 2 q bs delimEnd && q.page = svcField bs 4 5
        then writePage (ciOf p q.mooring) q.page (pageVals bs) (replyAccepted p q.mooring q q.pre delimEnd s) else s
      | none => s)

/-- A training burst is accepted (R177); TRAIN may be complete with it. -/
def execTrainingBurstAccepted (p m : Nat) (meas : BurstMeas) (s : State) : Host.Outcome State Fault Refusal :=
  unit (p < nPorts s && m < 256)
    (if !moorNamed s p m || !(port s p).locked then s
     else judgeReady (judgePort p (setPreset (ciOf p m) (presetLearn (port s p).gen meas) s)))

/-- A request to a mooring stays unanswered: the third in a row loses the mooring's ranging (R206, R209); a RANGE_REQ
is sent again, but to a mooring that waits for readmission (R210). -/
def unanswered (p m : Nat) (q : Req) (s : State) : State :=
  let ci := ciOf p m
  let x := moor s ci
  let n := x.unanswered + 1
  let s := setMoor ci (fun y => { y with unanswered := n }) s
  if 3 ≤ n && served x.st then lostRanging p m s
  else if 3 ≤ n && x.st == .admitted && !x.everRanged then moorGo p m .vacant s
  else
    let s := if 3 ≤ n then setMoor ci (fun y => { y with unanswered := 0 }) s else s
    let again := q.kind = 1 && admitted x.st && (served x.st || !x.everRanged || (port s p).lane ≠ .up)
    if again then queueRange p m q.train s else s

/-- A request stays unanswered in the window that D places its reply in (R198). -/
def execRequestUnanswered (p tag : Nat) (s : State) : Host.Outcome State Fault Refusal :=
  unit (p < nPorts s)
    (match reqOf s p tag with
     | none => s
     | some q => if q.kind ≤ 2 then unanswered p q.mooring q (dropReq p tag s) else dropReq p tag s)

/-! ### Service requests that fall due (R207, R209, R210) -/

/-- A periodic re-ranging falls due (R209). -/
def execRangeRefreshDue (p m : Nat) (s : State) : Host.Outcome State Fault Refusal :=
  unit (p < nPorts s && m < 256)
    (if moorNamed s p m && (moor s (ciOf p m)).st == .serving && !follower s then queueRange p m false s else s)

/-- A readmission falls due (R210). -/
def execReadmissionDue (p m : Nat) (s : State) : Host.Outcome State Fault Refusal :=
  let x := moor s (ciOf p m)
  unit (p < nPorts s && m < 256)
    (if moorNamed s p m && x.st == .admitted && x.everRanged && !follower s then queueRange p m true (queueAdmit p m s) else s)

/-- A DISCOVER falls due (R207). -/
def execDiscoverDue (p : Nat) (s : State) : Host.Outcome State Fault Refusal :=
  unit (p < nPorts s) (if mayDiscover s p then queueDiscover p s else s)

/-! ### The rate step (R184, R206) -/

/-- Admitted moorings of a port that have not acknowledged the step. -/
def unacked (s : State) (p : Nat) : List Nat :=
  (portOrder s p).filter (fun m => admitted (moor s (ciOf p m)).st && !(port s p).acked.contains m)

/-- Cycle S − 8 starts. -/
def execStepAckDeadline (p : Nat) (s : State) : Host.Outcome State Fault Refusal :=
  let un := unacked s p
  unit (p < nPorts s)
    (if (port s p).lane ≠ .negotiate || follower s then s
     else if un.any (fun m => required s (ciOf p m)) then
      let cancel : SvcMsg := { type := 0x06, flags := 1, payload := be 1 0 ++ be 4 ((port s p).stepCycle.toNat % 2 ^ 32), frames := 9,
                               til := some (port s p).stepCycle }
      let s := setPort p (fun x => { x with svc := cancel :: x.svc, holdUntil := some (s.cyc.n + 1000), acked := [] }) s
      laneGo p .acquire (stepFailed p s)
     else un.foldl (fun s m => vacate p m s) s)

/-- Cycle S starts, with every admitted mooring's acknowledgement. -/
def execStepCycleStart (p : Nat) (s : State) : Host.Outcome State Fault Refusal :=
  unit (p < nPorts s)
    (if (port s p).lane ≠ .negotiate || follower s || !(unacked s p).isEmpty then s
     else
      let s := (portOrder s p).foldl (fun s m => if served (moor s (ciOf p m)).st then moorGo p m .admitted s else s) s
      laneGo p .step (setPort p (fun x => { x with gen := basinGen s p, locked := false, squelch := true, reqs := [], svc := [] }) s))

/-- Cycle S + STEP_GAP, or a later one, starts with the synthesiser locked. -/
def execStepGapElapsed (p : Nat) (s : State) : Host.Outcome State Fault Refusal :=
  unit (p < nPorts s)
    (if (port s p).lane ≠ .step || !(port s p).locked || follower s then s
     else
      let s := (portOrder s p).foldl (fun s m => setMoor (ciOf p m) (fun x => { x with assigned := false }) (setPreset (ciOf p m) {} s)) s
      let s := setPort p (fun x => { x with epoch := x.epoch + 1 }) s
      judgePort p (rangeAll p (laneGo p .train s)))

/-- The synthesiser is unlocked 2 ms after cycle S. -/
def execStepLockTimeout (p : Nat) (s : State) : Host.Outcome State Fault Refusal :=
  unit (p < nPorts s)
    (if (port s p).lane ≠ .step || (port s p).locked || follower s then s
     else toAcquire p (stepFailed p (raise (64 + p) (be 1 p) s)))

/-- TRAIN_TIMEOUT has passed since the entry to TRAIN. -/
def execTrainTimeout (p : Nat) (s : State) : Host.Outcome State Fault Refusal :=
  unit (p < nPorts s) (if (port s p).lane ≠ .train || follower s then s else toAcquire p (stepFailed p s))

/-! ### Loss of signal and of lock (R179–R181) -/

/-- Two consecutive report windows without signal detect (R179). -/
def execBasinLos (p : Nat) (s : State) : Host.Outcome State Fault Refusal :=
  let adm := (portOrder s p).any (fun m => admitted (moor s (ciOf p m)).st)
  unit (p < nPorts s)
    (if (port s p).lane = .dark || !adm || (port s p).los then s
     else raise (96 + p) (be 1 p) (setPort p (fun x => { x with los := true }) s))

/-- A port loses lock: squelched, RELOCK, FLT_BASIN_LOL (R180, R184). -/
def portLol (p : Nat) (s : State) : State :=
  if (port s p).lane = .dark then s else raise (64 + p) (be 1 p) (portRelock p s)

/-- Loss of lock of a basin port (R180). -/
def execBasinLol (p : Nat) (s : State) : Host.Outcome State Fault Refusal := unit (p < nPorts s) (portLol p s)

/-- PLL-A is locked. -/
def pllALocked (s : State) : Bool := s.clk.locked.getD 2 false

/-- A relock that fails from the band cache makes a full search, keeps its result, and counts the miss (R275). -/
def bandMiss (k : Nat) (s : State) : State :=
  { s with clk := { s.clk with cacheMisses := s.clk.cacheMisses + 1,
                               bands := s.clk.bands.set k (Config.bandSearch k (s.clk.cacheMisses.toNat + 1)) } }

/-- A lane synthesiser locks (R163, R180, R181, R184): from RELOCK back to UP, or on to ACQUIRE at BL1. -/
def execBasinRelockComplete (p : Nat) (cacheMiss : Bool) (s : State) : Host.Outcome State Fault Refusal :=
  let x := port s p
  unit (p < nPorts s)
    (if x.lane = .dark || x.locked || !pllALocked s then s
     else
      let s := if cacheMiss then bandMiss (16 * p + x.gen.code) s else s
      let s := { s with dev := { s.dev with blockReset := s.dev.blockReset.filter (· ≠ .basinPort p) } }
      let s := clear (64 + p) s
      if x.lane = .relock ∧ x.relockFrom ≠ .up ∧ x.gen ≠ .bl1 then toAcquire p s
      else
        let s := relight (setPort p (fun y => { y with locked := true, lockTick := s.now, scr := 0, lineBit := 0 }) s)
        if x.lane = .relock then
          (if x.relockFrom = .up then laneGo p .up s else judgePort p (rangeAll p (laneGo p .acquire s)))
        else judgePort p s)

end Sys2Proof.Machine
end

