-- ==== Sys2Proof/Machine/Srb.lean ====
section
/-! DEFINITION. Safe Ramp-and-Block (R389–R414): the HWSL block, requests by pins and telegrams, the envelope on gauge
copies, the timeout, supervision and readbacks. Currents in counts of each quantity's SCALE. -/

namespace Sys2Proof.Machine

/-! ### The HWSL block (R403, R404) -/

/-- The HWSL blocks: TRIPPED, BLOCK_OUT to block and every inhibit line up at once; a block request for the next
boundary. -/
def hwslTrip (cause k : Nat) (value e : Int) (s : State) : State :=
  if s.srb.st = .tripped then s else
  let s := { s with srb := { s.srb with complete := false, timeoutRun := false, t0 := none, inhibit := true },
                    cyc := { s.cyc with hwslBlock := true } }
  srbGo .tripped cause k value e s

/-- TRIPPED is left (R403): the inhibit lines fall. -/
def hwslRelease (s : State) : State :=
  let s := { s with srb := { s.srb with inhibit := false }, ports := s.ports.mapVals (fun _ x => { x with inhibit := false }) }
  srbGo .hold 0 0 0 0 s

/-- The HWSL's conditions for leaving TRIPPED: the SMP healthy and the timebase good. -/
def hwslMayClear (s : State) : Bool := !s.srb.smpBad && !(rec? s 6).active

/-! ### Parameters (R391–R393) -/

/-- An SRB parameter; a ramp keeps the values of its t0 (R392). -/
def srbPar (s : State) (inst item : Nat) : Int :=
  if s.srb.t0.isSome then parOf s.srb.frozen (armTab s) (pid 0x51 inst item) else par s 0x51 inst item

/-- Monitored quantities that the plate names. -/
def srbNamed (s : State) : List Nat := (List.range 8).filter (fun k => 0 ≤ srbPar s (0x10 + k) 0)

/-- A parameter of quantity `k`. -/
def srbQp (s : State) (k item : Nat) : Int := srbPar s (0x10 + k) item

/-- A current in A as counts of a quantity. -/
def srbCounts (s : State) (k : Nat) (amps : Int) : Int := rheDiv (amps * 1000) (srbQp s k 4)

/-- A rate in 0.1 kA/s as counts per cycle (R393). -/
def srbPerCycle (s : State) (k : Nat) (rate : Int) : Int := rhe ((rate : Rat) * (par s 1 0 0 : Rat) / 1000 / (srbQp s k 4 : Rat))

/-- I_MAX ÷ SCALE. -/
def srbMax (s : State) (k : Nat) : Int := srbCounts s k (srbQp s k 10)

/-- State of a monitored quantity. -/
def srbQ (s : State) (k : Nat) : SrbQ := s.srb.qs.get k {}
/-- Change it. -/
def setQs (k : Nat) (q : SrbQ) (s : State) : State := { s with srb := { s.srb with qs := s.srb.qs.set k q } }

/-- E(m) of a quantity (R394). -/
def envelope (s : State) (k : Nat) (m : Int) : Int :=
  max ((srbQ s k).i0.getD (srbMax s k) - srbPerCycle s k (srbPar s s.srb.profile 2) * m) 0 + srbCounts s k (srbQp s k 6)

/-- m of a sample cycle; none before t0 (R394). -/
def srbM (s : State) (c : CycleNo) : Option Nat :=
  match s.srb.st, s.srb.t0 with
  | .ramp, some n0 => if c = n0 || after 48 c.toNat n0.toNat then some (c - n0).toNat else none
  | _, _ => none

/-! ### Gauge copies (R394, R395) -/

/-- I0 is taken from I_MAX, and the SAFETY event marks it (R394). -/
def i0FromMax (k : Nat) (s : State) : State :=
  safetyEvent 11 s.srb.profile k (srbMax s k) (envelope s k 0) (setQs k { srbQ s k with i0 := some (srbMax s k) } s)

/-- A valid sample of quantity `k` of sample cycle `c`, after PK: I0, violation, completion count. -/
def envelopeJudge (k : Nat) (x : Int) (c : CycleNo) (s : State) : State :=
  match srbM s c with
  | none => s
  | some m =>
    let s := match (srbQ s k).i0 with
      | some _ => s
      | none => if m = 0 then setQs k { srbQ s k with i0 := some (srbQ s k).pk } s else i0FromMax k s
    let e := envelope s k m
    if e < (x.natAbs : Int) then srbFault 32 6 k x e (hwslTrip 6 k x e s)
    else setQs k { srbQ s k with zero := if (x.natAbs : Int) ≤ srbCounts s k (srbQp s k 8) then (srbQ s k).zero + 1 else 0 } s

/-- PK is updated in READY and later states (R394). -/
def pkStep (k : Nat) (x : Int) (s : State) : State :=
  let q := srbQ s k
  let q := { q with miss := 0 }
  let on := match s.dev.state with | .ready | .running | .ramping | .blocked | .faulted => true | _ => false
  setQs k (if on then { q with pk := max (x.natAbs : Int) (q.pk - srbPerCycle s k (srbQp s k 12)) } else q) s

/-- Every quantity has its consecutive counting samples: the SMP signals completion, which stops the timeout (R395, R396). -/
def rampComplete (s : State) : State :=
  let n := (srbPar s s.srb.profile 6).toNat
  if s.srb.st = .ramp && s.srb.timeoutRun && (srbNamed s).all (fun k => (srbQ s k).i0.isSome && n ≤ (srbQ s k).zero) then
    { s with srb := { s.srb with complete := true, timeoutRun := false } }
  else s

/-- Quantities whose reports have failed for MISS_MAX scheduled cycles. -/
def srbLost (s : State) : List Nat := (srbNamed s).filter (fun k => srbQp s k 14 ≤ ((srbQ s k).miss : Int))

/-- FLT_SRB_MONITOR_LOST clears when no quantity is lost. -/
def monitorClear (s : State) : State := if (srbLost s).isEmpty then clear 39 s else s

/-- A gauge report is copied to the safety die (R12, R395). -/
def gaugeCopy (r : Report) (s : State) : State :=
  let ks := (srbNamed s).filter (fun k => srbQp s k 0 = (r.ci : Int))
  let s := ks.foldl (fun s k =>
    let x := if srbQp s k 2 = 0 then r.rep.q0 else r.rep.q1
    envelopeJudge k x (sampleOf r) (pkStep k x s)) s
  if ks.isEmpty then s else rampComplete (monitorClear s)

/-- At the cutoff, scheduled gauge reports that are missing or corrupt count (R395); a t0 sample that has not come
within 3 cycles gives I0 from I_MAX (R394). -/
def gaugeMissing (s : State) : State :=
  (srbNamed s).foldl (fun s k =>
    let ci := (srbQp s k 0).toNat
    let s := match s.srb.t0 with
      | some n0 =>
        if s.srb.st = .ramp && (srbQ s k).i0.isNone && 3 ≤ (s.cyc.n - n0).toNat && (srbM s s.cyc.n).isSome then i0FromMax k s else s
      | none => s
    match missNow s ci with
    | none => s
    | some _ =>
      let q := { srbQ s k with miss := (srbQ s k).miss + 1 }
      let s := setQs k q s
      if (q.miss : Int) < srbQp s k 14 then s
      else match srbM s s.cyc.n with
        | some m => srbFault 39 12 k 0 (envelope s k m) (hwslTrip 12 k 0 (envelope s k m) s)
        | none => if runs s then srbFault 39 12 k 0 0 s else s) s

/-- Graph input 0xFFF0 (R411). -/
def srbStage (s : State) : List Int :=
  [b2n (s.dev.state == .ramping), s.srb.profile, match srbM s s.cyc.n with | some m => m | none => 0, b2n (srbHeld s)]

/-- A report word crosses into the observer's store; one whose cycle is frozen is late (R16, R153). Gauge reports are
copied to the safety die. -/
def execReportWordIngress (ci : Nat) (s : State) : Host.Outcome State Fault Refusal :=
  unit (ci < nCells s)
    (match s.obs.buf.find? (fun r => r.ci = ci) with
     | none => s
     | some r =>
       let late := (r.cycle = s.cyc.n && s.cyc.frozen) || after 48 s.cyc.n.toNat r.cycle.toNat
       let o := { s.obs with buf := s.obs.buf.erase r }
       let s := { s with obs := if late then { o with late := o.late ++ [{ r with late := true }] } else { o with store := o.store ++ [r] } }
       if r.rep.gauge then gaugeCopy r s else s)

/-! ### Requests (R397–R402) -/

/-- MODE of a request's profile is IMMEDIATE. -/
def srbImmediate (s : State) (r : SrbReq) : Bool := par s 0x51 (srbProfile s r) 0 = 1

/-- The stop of a request is held already: of pins, of telegrams, or of the same session. -/
def srbSame (s : State) (r : SrbReq) : Bool := s.srb.reqs.any (fun x => x.cause = r.cause && x.own = r.own)

/-- The SMP registers a request. A stop that is held already is not registered again; an IMMEDIATE one in RUNNING or
RAMPING blocks at once (R402, R403). -/
def srbRegister (r : SrbReq) (s : State) : State :=
  let s := if srbSame s r then s
    else safetyEvent r.cause (srbProfile s r) 0 0 0 { s with srb := { s.srb with reqs := s.srb.reqs ++ [{ r with tick := s.now }] } }
  if srbImmediate s r && runs s then hwslTrip 9 0 0 0 s else s

/-- A stop is released (R397, R400). -/
def srbRelease (cause : Nat) (s : State) : State :=
  if srbHas s cause then
    safetyEvent 10 s.srb.profile 0 0 0 { s with srb := { s.srb with reqs := s.srb.reqs.filter (fun r => r.cause ≠ cause) } }
  else s

/-- Two rising edges no more than PIN_WINDOW apart (R397). -/
def pinsTogether (s : State) : Bool :=
  match s.srb.riseA, s.srb.riseB with
  | some a, some b => (max a b - min a b) ≤ parN s 0x51 0x20 4 * 40000
  | _, _ => false

/-- A filtered change of SAFE_REQ_A or SAFE_REQ_B (R397). -/
def execSafeReqChange (a b : Bool) (t : Nat) (s : State) : Host.Outcome State Fault Refusal :=
  let s := advanceTo t s
  let x := s.srb
  let fall := (x.pinA && !a) || (x.pinB && !b)
  let s := { s with srb := { x with
    pinA := a, pinB := b,
    riseA := if a && !x.pinA then some s.now else if a then x.riseA else none,
    riseB := if b && !x.pinB then some s.now else if b then x.riseB else none,
    barred := x.barred && (a || b) } }
  let s := if fall then srbRegister { cause := 1 } s else s
  let s := if a = b then clear 40 s else s
  ok (if a && b && !s.srb.barred && pinsTogether s then srbRelease 1 s else s)

/-- PIN_WINDOW has passed with the channels apart while a stop is held (R397). -/
def execPinWindowExpiry (s : State) : Host.Outcome State Fault Refusal :=
  ok (if s.srb.pinA ≠ s.srb.pinB && srbHas s 1 then srbFault 40 0 0 0 0 { s with srb := { s.srb with barred := true } } else s)

/-- The plate in force names a safety pair (R247, R400). -/
def hasSafetyPair (s : State) : Bool := match s.cfg.plate with | some p => p.safetyPair.isSome | none => false

/-- The fields of a copy match R398, and its SCRC is correct. -/
def telegramOk (s : State) (b : List Byte) : Bool :=
  let v := fun o n => ofBe ((b.drop o).take n)
  let req := fun item => (par s 0x51 0x20 item).toNat
  b.length = 32 && v 0 1 = 1 && ((v 1 1 = 0x3C && v 2 1 ≤ 3) || (v 1 1 = 0xC3 && v 2 1 = 0)) && v 3 1 = 0 && v 4 4 = req 6 && v 8 4 = req 8 &&
  v 16 12 = 0 && v 28 4 = (crc32c (be 4 (req 10) ++ b.take 28)).toNat

/-- SEQ lies after the last valid SEQ of the LAN (R399). -/
def telegramSeq (s : State) (lan : Nat) (sq : Word) : Bool :=
  match s.srb.lastTel.find lan with | some l => after 32 sq.toNat l.toNat | none => true

/-- FLT_SRB_TELE_DEGRADED follows the LANs (R400). -/
def judgeDegraded (s : State) : State :=
  if s.srb.degraded.any (fun x => x.2) then srbFault 41 0 0 0 0 s else clear 41 s

/-- A valid copy restarts its LAN's timeout (R399). -/
def lanAlive (lan : Nat) (sq : Word) (s : State) : State :=
  let x := s.srb
  let was := x.timedOut.get lan false
  judgeDegraded (clear 42 { s with srb := { x with
    lastTel := x.lastTel.set lan sq, timedOut := x.timedOut.set lan false,
    degraded := if was then x.degraded.set lan false else x.degraded } })

/-- A valid copy (R400): its partner may be waiting; a first STOP copy registers a stop. -/
def telegramValid (lan : Nat) (b : List Byte) (sq : Word) (s : State) : State :=
  let stop := ofBe ((b.drop 1).take 1) = 0x3C
  let prof := ofBe ((b.drop 2).take 1)
  let s := lanAlive lan sq s
  match s.srb.waits.find? (fun w => w.seq = sq && w.lan ≠ lan) with
  | some w =>
    let s := { s with srb := { s.srb with waits := s.srb.waits.filter (fun y => y.seq ≠ sq) } }
    if s.now - w.tick ≤ parN s 0x51 0x20 12 * 40000 then
      let s := judgeDegraded { s with srb := { s.srb with degraded := s.srb.timedOut } }
      if stop then s else srbRelease 2 s
    else s
  | none =>
    let s := { s with srb := { s.srb with waits := s.srb.waits ++ [{ lan := lan, seq := sq, bytes := b.take 28, tick := s.now }] } }
    if stop then srbRegister { cause := 2, profile := some prof } s else s

/-- A safety telegram copy of a LAN, 0 A or 1 B, reaches the safety die (R398–R400). -/
def telegramCopy (lan : Nat) (b : List Byte) (s : State) : State :=
  let sq : Word := BitVec.ofNat 32 (ofBe ((b.drop 12).take 4))
  let bad := srbFault 43 0 0 0 0
  if !telegramOk s b || !telegramSeq s lan sq then bad s
  else match s.srb.waits.find? (fun w => w.seq = sq && w.lan ≠ lan) with
    | some w =>
      if w.bytes = b.take 28 then telegramValid lan b sq s
      else bad (bad { s with srb := { s.srb with waits := s.srb.waits.filter (fun y => y.seq ≠ sq) } })
    | none => telegramValid lan b sq s

/-- A copy arrives; a plate without a safety pair has no telegram path (R400). -/
def execSafetyTelegramCopy (lan : Nat) (payload : List Byte) (t : Nat) (s : State) : Host.Outcome State Fault Refusal :=
  let s := advanceTo t s
  unit (lan < 2) (if hasSafetyPair s then telegramCopy lan payload s else s)

/-- The partner of a waiting copy has not arrived on a LAN within DISC_WINDOW (R400). -/
def execDiscWindowExpiry (lan : Nat) (s : State) : Host.Outcome State Fault Refusal :=
  unit (lan < 2)
    (match s.srb.waits.find? (fun w => w.lan ≠ lan) with
     | some w => judgeDegraded { s with srb := { s.srb with waits := s.srb.waits.erase w, degraded := s.srb.degraded.set lan true } }
     | none => s)

/-- A LAN has had no valid copy for TELE_TIMEOUT (R400). -/
def execTeleTimeout (lan : Nat) (s : State) : Host.Outcome State Fault Refusal :=
  unit (lan < 2)
    (if !hasSafetyPair s then s
     else
      let s := judgeDegraded { s with srb := { s.srb with timedOut := s.srb.timedOut.set lan true, degraded := s.srb.degraded.set lan true } }
      if s.srb.timedOut.get 0 false && s.srb.timedOut.get 1 false && par s 0x51 0x20 16 = 1 then
        srbFault 42 0 0 0 0 (srbRegister { cause := 2 } s)
      else s)

/-! ### Timeout, supervision, readbacks (R396, R405–R407) -/

/-- The HWSL's timeout counter expires (R396): a completion signalled before it has stopped it. -/
def execSrbTimeoutExpiry (s : State) : Host.Outcome State Fault Refusal :=
  ok (if s.srb.st = .ramp && s.srb.timeoutRun then srbFault 33 7 0 0 0 (hwslTrip 7 0 0 0 s) else s)

/-- An SMP failure (R407). -/
def smpFail (s : State) : State :=
  let s := srbFault 34 8 0 0 0 { s with srb := { s.srb with smpBad := true } }
  if s.srb.st = .hold then s else hwslTrip 8 0 0 0 s

/-- The SMP's verdict of a cycle; one in sequence with its lockstep check good shows it healthy (R407). -/
def execSmpVerdict (cycle : CycleNo) (lockstepOk : Bool) (s : State) : Host.Outcome State Fault Refusal :=
  let good := lockstepOk && (match s.srb.lastVerdict with | some c => cycle = c + 1 | none => true)
  let s := { s with srb := { s.srb with lastVerdict := some cycle } }
  ok (if good then clear 34 { s with srb := { s.srb with smpBad := false } } else smpFail s)

/-- The watchdog of the verdicts expires (R407). -/
def execSmpWatchdogExpiry (s : State) : Host.Outcome State Fault Refusal := ok (smpFail s)

/-- A BLOCK_OUT pin has read back other than its drive for 1 µs: both pins are forced low (R405). -/
def execBlockOutReadbackFail (s : State) : Host.Outcome State Fault Refusal :=
  ok (srbFault 36 0 0 0 0 { s with dev := { s.dev with readbackBad := true } })

/-- Word 0 of a lit port's first INHIBIT frame returns, or does not within 1.85 µs (R406). -/
def execInhibitReadback (p : Nat) (word : Option Word) (s : State) : Host.Outcome State Fault Refusal :=
  unit (p < nPorts s)
    (if s.srb.inhibit && lit s p && word ≠ some (BitVec.ofNat 32 inhibitCode) then srbFault 37 0 0 0 0 s else s)

/-! ### Configuration (R400, R410) -/

/-- At a lock-through the digest of the safety die's configuration is compared (R410). -/
def safetyDigest (good : Bool) (s : State) : State := if good then clear 38 s else srbFault 38 0 0 0 0 s

/-- What the lock-through of a whole plate does to the telegram path (R400), with the safety pair before it. -/
def telegramPath (old new : Option Nat) (s : State) : State :=
  match new with
  | none => judgeDegraded (clear 42 (srbRelease 2 { s with srb := { s.srb with waits := [], degraded := [], timedOut := [] } }))
  | some _ =>
    if old = new then s
    else srbRegister { cause := 2 }
      (judgeDegraded (clear 42 { s with srb := { s.srb with waits := [], lastTel := [], degraded := [], timedOut := [] } }))

end Sys2Proof.Machine
end

