-- ==== Sys2Proof/Machine/TimeClock.lean ====
section
/-! DEFINITION. Time domains, converter time, PTP, PPS and clock synthesis (R254–R278). Offsets and steps in units of
2^-32 ns unless said otherwise. -/

namespace Sys2Proof.Machine

/-! ### Domains and converter time (R255, R261, R265, R266) -/

/-- Change a domain. -/
def setDom (i : Nat) (f : TimeDom → TimeDom) (s : State) : State := { s with time := s.time.setDom i (f (s.time.dom i)) }

/-- The TIME_CHANGE event (R350). -/
def timeChange (auto : Bool) (s : State) : State :=
  event 0x87 5 (be 1 (b2n s.time.td0.valid) ++ be 1 (b2n s.time.td1.valid) ++ be 1 s.time.active ++ be 1 (b2n auto) ++ be 6 s.cyc.n.toNat) s

/-- A domain becomes INVALID (R261). -/
def tdInvalid (i : Nat) (s : State) : State :=
  let s := setDom i (fun d => { d with good := 0, ppsGood := 0 }) s
  if !(s.time.dom i).valid then s else
  let s := setDom i (fun d => { d with valid := false }) s
  let s := if s.time.active = i then { s with time := { s.time with lostSinceStart := true } } else s
  timeChange false (raise (250 + i) (be 1 i) s)

/-- A domain becomes VALID. -/
def tdValid (i : Nat) (s : State) : State :=
  if (s.time.dom i).valid then s
  else timeChange false (clear (250 + i) (setDom i (fun d => { d with valid := true, bad := 0 }) s))

/-- CT leaves FOLLOW where its target has moved away (R265). -/
def ctLeave (s : State) : State :=
  judgeCtOffset (if ctFollows s || ctOff s.time = 0 then s else { s with time := { s.time with slew := true } })

/-- The active domain is switched (R266). -/
def switchDomain (i : Nat) (auto : Bool) (s : State) : State :=
  if s.time.active = i then s else timeChange auto (ctLeave { s with time := { s.time with active := i } })

/-- Offset of a domain from CT. -/
def domOff (s : State) (i : Nat) : Int := ((s.time.dom i).ctr.toNat : Int) - (s.time.ct.toNat : Int)

/-- A switch to a domain fails the checks of R266 with this status. -/
def switchBad (s : State) (i : Nat) : Option Status :=
  if s.time.active = i then none
  else if !(s.time.dom i).valid then some .tdInvalid
  else if s.dev.state.loadedOn && par s 0x32 0 6 * 1000 * 2 ^ 32 < ((domOff s i).natAbs : Int) then some .offsetLimit
  else none

/-- The automatic switch at a cycle start (R266). -/
def autoSwitch (s : State) : State :=
  let other := 1 - s.time.active
  let due := s.time.lostSinceStart && !s.time.act.valid
  let s := { s with time := { s.time with lostSinceStart := false } }
  if due && par s 0x32 0 4 = 1 && (switchBad s other).isNone then switchDomain other true s else s

/-- The servo steps a domain (R255); CT never steps with it (R264, R265). -/
def execTdStep (td : Nat) (delta : Int) (s : State) : Host.Outcome State Fault Refusal :=
  let s' := setDom td (fun d => { d with ctr := d.ctr.add delta }) s
  unit (td < 2) (if td = s.time.active && !follower s then
      (if ctFollows s then { s' with time := { s'.time with ct := s'.time.act.ctr } } else ctLeave s')
    else s')

/-- Bounds of INC_n (R255): 2.49875 ns and 2.50125 ns. -/
def incClamp (v : Nat) : Nat := max 10732049531 (min 10742786949 v)

/-- The servo writes INC_n (R255). -/
def execIncWrite (td val : Nat) (s : State) : Host.Outcome State Fault Refusal :=
  let c := incClamp val
  unit (td < 2) (setDom td (fun d => { d with inc := c, clamps := if c = val then d.clamps else d.clamps + 1 }) s)

/-- |off| has come down to SLEW_STEP: CT takes the target's value and returns to FOLLOW (R265). -/
def execCtSlewComplete (t : Nat) (s : State) : Host.Outcome State Fault Refusal :=
  let s := advanceTo t s
  let off := ctOff s.time
  ok (if s.time.slew && (off.natAbs : Int) ≤ slewStep (par s 0x32 0 2) then
      judgeCtOffset { s with time := { s.time with ct := s.time.ct.add off, slew := false, twinOff := s.time.twinOff.map (fun _ => 0) } }
    else s)

/-! ### PPS (R270, R271) -/

/-- The servo source of a domain is PPS_IN. -/
def onPps (s : State) (i : Nat) : Bool := par s 0x65 i 0 = 1

/-- Distance of a timestamp, less PPS_IN_DELAY in 0.1 ns, from the counter's whole second. -/
def ppsDist (s : State) (i stamp : Nat) : Nat :=
  let d : Int := (stamp : Int) - par s 0x65 i 2 * 2 ^ 32 / 10
  let r := (d % (secUnits : Int)).toNat
  min r (secUnits - r)

/-- A domain served from PPS_IN takes an accepted edge. -/
def ppsDomain (i stamp : Nat) (s : State) : State :=
  if !onPps s i then s else
  let good := ppsDist s i stamp ≤ 100 * 2 ^ 32
  let s := setDom i (fun d => { d with
    ppsGood := if good then min 16 (d.ppsGood + 1) else 0,
    ctr := match d.setSec with | some x => { d.ctr with sec := BitVec.ofNat 48 x } | none => d.ctr, setSec := none }) s
  let s := if 16 ≤ (s.time.dom i).ppsGood then tdValid i s else s
  if s.time.active = i then (if ctFollows s then { s with time := { s.time with ct := s.time.act.ctr } } else ctLeave s) else s

/-- The exported form of a timestamp (R256): SECONDS, NANOSECONDS and the top 16 bits of FRACTION. -/
def stampOf (c : TimeCtr) : Stamp := { sec := c.sec, ns := c.ns, frac := BitVec.ofNat 16 (c.frac.toNat / 65536) }

/-- A counter moved by a signed amount in 2^-32 ns, as a timestamp. -/
def stampAt (c : TimeCtr) (delta : Int) : Stamp := stampOf (c.add delta)

/-- A rising edge on PPS_IN (R271), `frac` sixty-fourths of a tick after tick `t`. -/
def execPpsInEdge (t : Nat) (frac : Nat) (s : State) : Host.Outcome State Fault Refusal :=
  let s := advanceTo t s
  let early := match s.time.ppsTick with | some u => decide (s.now - u < 200000000) | none => false
  if early then ok { s with time := { s.time with ppsIgnored := s.time.ppsIgnored + 1 } } else
  let part := fun inc => inc * frac / 64
  let i0 := part s.time.td0.inc
  let i1 := part s.time.td1.inc
  let ic := part (ctIncrement s.time (slewStep (par s 0x32 0 2))).toNat
  let st := [stampAt s.time.td0.ctr i0, stampAt s.time.td1.ctr i1, stampAt s.time.ct ic]
  let at0 := s.time.td0.ctr.toNat + i0
  let at1 := s.time.td1.ctr.toNat + i1
  let s := vector 15 { s with time := { s.time with ppsTick := some s.now, ppsStamp := st } }
  ok (ppsDomain 1 at1 (ppsDomain 0 at0 s))

/-- 3 s without an accepted edge of PPS_IN (R271). -/
def execPpsInTimeout (td : Nat) (s : State) : Host.Outcome State Fault Refusal :=
  unit (td < 2) (if onPps s td then tdInvalid td s else s)

/-- PPS_OUT is squelched (R270): PPS_SQUELCH with its domain INVALID. -/
def ppsSquelched (s : State) : Bool :=
  par s 0x33 0 6 = 1 && !(match parN s 0x33 0 0 with | 0 => s.time.act.valid | k => (s.time.dom (k - 1)).valid)

/-- The counter of PPS_SOURCE, in 2^-32 ns, and its increment. -/
def ppsSource (s : State) : Nat × Nat :=
  match parN s 0x33 0 0 with
  | 0 => (s.time.ct.toNat, (ctIncrement s.time (slewStep (par s 0x32 0 2))).toNat)
  | k => ((s.time.dom (k - 1)).ctr.toNat, (s.time.dom (k - 1)).inc)

/-- PPS_OUT_DELAY in 2^-32 ns (R270). -/
def ppsDelay (s : State) : Int := rheDiv (par s 0x33 0 4 * 2 ^ 32) 10

/-- The whole second of PPS_SOURCE that has passed its output instant (R270). -/
def ppsNow (s : State) : Int := ((ppsSource s).1 - ppsDelay s) / (secUnits : Int)

/-- An edge of PPS_OUT falls due (R270): the rising one at a whole second of PPS_SOURCE plus PPS_OUT_DELAY, laid out in 1/64
tick, the falling one PPS_WIDTH after it. The pin is low in RESET. An edge that is not due changes nothing. -/
def execPpsOutEdge (level : Bool) (s : State) : Host.Outcome State Fault Refusal :=
  let k := ppsNow s
  let inc : Int := (ppsSource s).2
  ok (if level then
      (if k ≤ s.time.ppsSec then { s with time := { s.time with ppsSec := k } }
       else { s with time := { s.time with ppsSec := k, ppsEdge := rheDiv ((k * secUnits + ppsDelay s) * 64) inc,
                                           ppsOut := !ppsSquelched s && s.dev.state != .reset } })
    else if s.time.ppsOut && decide (s.time.ppsEdge * inc + par s 0x33 0 2 * 1000 * 2 ^ 32 * 64 ≤ ((ppsSource s).1 : Int) * 64) then
      { s with time := { s.time with ppsOut := false } }
    else s)

/-! ### PTP (R257–R263) -/

/-- A port carries a domain (R258). -/
def tdOnPort (s : State) (i p : Nat) : Bool := (parN s 0x31 i 4).testBit p

/-- The domain that a message's domainNumber names on a port. -/
def ptpDomain (s : State) (p n : Nat) : Option Nat :=
  (List.range 2).find? (fun i => parN s 0x31 i 2 = n && tdOnPort s i p)

/-- TX_LAT and RX_LAT of a port (R258), in 2^-32 ns. -/
def ptpLat (s : State) (p : Nat) (out : Bool) : Int := rheDiv (par s 0x31 p (if out then 20 else 21) * 2 ^ 32) 10

/-- An event message is stamped in all three counters (R256, R260), TX_LAT or RX_LAT added (R258). -/
def evStamp (p : Nat) (out : Bool) (kind : PtpKind) (s : State) : State :=
  let l := ptpLat s p out
  let e : EvStamp := { port := p, out := out, kind := kind, td0 := stampAt s.time.td0.ctr l, td1 := stampAt s.time.td1.ctr l,
                       ct := stampAt s.time.ct l }
  { s with time := { s.time with stamps := s.time.stamps.set (2 * p + b2n out) e } }

/-- Sync interval in ticks (R258: LOG_SYNC). -/
def syncTicks (s : State) : Nat :=
  let l := par s 0x31 0 10
  if 0 ≤ l then 400000000 * 2 ^ l.toNat else 400000000 / 2 ^ (-l).toNat

/-- The domain's offset from master at a Sync (R261): runs of small and large offsets. -/
def tdOffset (i : Nat) (off : Rat) (s : State) : State :=
  let small : Bool := -65536000 < off && off < 65536000
  let large : Bool := off < -65536000 || 65536000 < off
  let s := setDom i (fun d => { d with offset := rhe off, slave := true, lastSync := some s.now,
                                       good := if small then min 16 (d.good + 1) else 0, bad := if large then min 4 (d.bad + 1) else 0 }) s
  let d := s.time.dom i
  if 16 ≤ d.good then tdValid i s else if 4 ≤ d.bad then tdInvalid i s else s

/-- No Sync has arrived for 4 Sync intervals (R261). -/
def judgeSync (s : State) : State :=
  [0, 1].foldl (fun s i =>
    let d := s.time.dom i
    match d.lastSync with
    | some t => if !onPps s i && !(d.ports.any (fun x => x.2.st == .master) && !d.slave) && 4 * syncTicks s < s.now - t then tdInvalid i s else s
    | none => s) s

/-! #### The best master clock algorithm (R257, R259) -/

/-- Order of data sets by the default algorithm of IEEE 1588-2019 (PRESUMED, log 120): priority 1, class, accuracy, variance,
priority 2, identity, then steps and sender. -/
def annKey (a : AnnData) : List Nat := [a.pri1, a.cls, a.accuracy, a.variance, a.pri2, a.gm, a.steps, a.sender]

/-- A data set is better than another. -/
def annBetter (a b : AnnData) : Bool := decide (annKey a < annKey b)

/-- The device's own data set for a domain (R258); what the plate does not give of it is free. -/
def ownData (s : State) (i : Nat) : AnnData :=
  { pri1 := parN s 0x31 i 8, cls := Config.ptpOwn 0, accuracy := Config.ptpOwn 1, variance := Config.ptpOwn 2,
    pri2 := parN s 0x31 i 9, gm := Config.ptpOwn 3, steps := 0, sender := Config.ptpOwn 3 * 65536 }

/-- The device may become master of the domain's time (R258): SLAVE_ONLY is clear, and it is no transparent clock. -/
def mayMaster (s : State) (i : Nat) : Bool := par s 0x31 i 6 = 0 && parN s 0x31 0 0 ≠ 2

/-- PTP ports of a domain with link. -/
def tdPorts (s : State) (i : Nat) : List Nat := (List.range 8).filter (fun p => tdOnPort s i p && (s.stn.ports.get p {}).up)

/-- The best data set heard on any port of the domain (R259: the ports of a pair among them), with its port. -/
def bestHeard (s : State) (i : Nat) : Option (Nat × AnnData) :=
  (tdPorts s i).foldl (fun b p =>
    match ((s.time.dom i).ports.get p {}).ann, b with
    | some a, none => some (p, a)
    | some a, some (q, c) => if annBetter a c then some (p, a) else some (q, c)
    | none, _ => b) none

/-- The device's own data set is the best of the domain. -/
def ownBest (s : State) (i : Nat) : Bool :=
  mayMaster s i && (match bestHeard s i with | some (_, a) => annBetter (ownData s i) a | none => true)

/-- State of one port (R257–R259): no port of a pair is a grandmaster's, and only a boundary clock passes time on. -/
def portState (s : State) (i p : Nat) : PtpSt :=
  if ownBest s i then (if inPair s p then .passive else .master)
  else match bestHeard s i with
    | none => .listening
    | some (q, a) =>
      if p = q then .slave
      else match ((s.time.dom i).ports.get p {}).ann with
        | some c => if parN s 0x31 0 0 = 1 && mayMaster s i && !inPair s p && c.gm ≠ a.gm then .master else .passive
        | none => if parN s 0x31 0 0 = 1 && mayMaster s i && !inPair s p then .master else .listening

/-- The states of a domain's ports are decided anew, and with them the status of a boundary clock that has no slave port
(R259, R261). -/
def bmca (i : Nat) (s : State) : State :=
  let best := bestHeard s i
  let own := ownBest s i
  let st := (tdPorts s i).map (fun p => (p, { ((s.time.dom i).ports.get p {}) with st := portState s i p }))
  let slave := best.isSome && !own
  let moved := st.any (fun x => x.2.st == .slave && ((s.time.dom i).ports.get x.1 {}).st != .slave)
  let s := setDom i (fun d => { d with ports := st, slave := slave, master := if own then none else best.map (fun x => x.2.gm),
                                       good := if moved then 0 else d.good }) s
  if onPps s i || slave || parN s 0x31 0 0 ≠ 1 || !mayMaster s i then s
  else if st.any (fun x => x.2.st == .master) then tdValid i s else tdInvalid i s

/-- A message comes from the master that a domain follows on its slave port (R261). -/
def fromMaster (s : State) (i p source : Nat) : Bool :=
  let x := (s.time.dom i).ports.get p {}
  !onPps s i && x.st == .slave && (match x.ann with | some a => a.sender = source | none => false)

/-- Offset from master in 2^-16 ns: ingress stamp, origin, corrections and the link delay. -/
def offsetOf (s : State) (p : Nat) (rx : Int) (origin : Nat) (corr : Int) : Rat :=
  ((rx - (origin : Int) : Int) : Rat) / 65536 - (corr : Rat) - s.time.linkDelay.get p 0

/-- Ingress stamp of a message that arrives now, in a domain (R258, R260). -/
def ingress (s : State) (i p : Nat) : Int := ((s.time.dom i).ctr.toNat : Int) + ptpLat s p false

/-- Local time with a port's latency, in 2^-16 ns. -/
def localAt (s : State) (p : Nat) (out : Bool) : Int := (s.now : Int) * 163840 + rheDiv (ptpLat s p out) 65536

/-! #### Transparent clock (R262, R263) -/

/-- Ports to which a message is forwarded (R262): never between the two ports of a pair. -/
def tcPorts (s : State) (p : Nat) : List Nat :=
  (List.range 8).filter (fun q => q ≠ p && (parN s 0x30 q 6).testBit 2 && (s.stn.ports.get q {}).up && !(inPair s p && q / 2 = p / 2))

/-- A message is forwarded, each copy with its own gain of correctionField. -/
def tcForward (p : Nat) (m : PtpMsg) (gain : Nat → Int) (s : State) : State :=
  if parN s 0x31 0 0 ≠ 2 then s else
  { s with time := { s.time with forwarded := s.time.forwarded ++ (tcPorts s p).map (fun q => (q, { m with correction := m.correction + gain q })) } }

/-- The sum of R263 for the copy that leaves on port `q`: residence, which only the bound of 1.5 µs of a one-step Sync
limits (log 14), and the link delay of port `p`, scaled by the message's domain. -/
def tcGain (s : State) (p : Nat) (m : PtpMsg) (q : Nat) : Int :=
  let w := (Config.freeWord (s.free + q)).toNat
  let raw : Rat := ((if m.twoStep then w else w % 601 : Nat) : Rat) * 163840 + s.time.linkDelay.get p 0
  match (List.range 2).find? (fun i => parN s 0x31 i 2 = m.domain) with
  | some i => rhe (raw * ((s.time.dom i).inc : Rat) / 0x280000000)
  | none => rhe raw

/-- A message of neither domain, or a Follow_Up without its Sync, is counted (R263). -/
def tcUnmatched (b : Bool) (s : State) : State :=
  if b && parN s 0x31 0 0 = 2 then { s with time := { s.time with unmatched := s.time.unmatched + 1 } } else s

/-! #### Messages -/

/-- Multicast address of a message (R257): peer delay messages have their own. -/
def ptpDst : PtpKind → BitVec 48
  | .pdelayReq | .pdelayResp | .pdelayRespFollowUp => 0x0180C200000E
  | _ => 0x011B19000000

/-- A PTP message leaves on a port, from its MAC_ADDR to `ptpDst`, with no trailer (R244). -/
def ptpSend (p : Nat) (m : PtpOut) (s : State) : State := { s with time := { s.time with sent := s.time.sent ++ [(p, m)] } }

/-- PTP_STEP of a port is TWO (R258). -/
def ptpTwo (s : State) (p : Nat) : Bool := par s 0x31 p 18 = 1

/-- Pdelay_Req is answered (R257); the time to the answer is free (log 120). -/
def pdelayAnswer (p : Nat) (m : PtpMsg) (s : State) : State :=
  let d : Int := (Config.freeWord s.free).toNat
  let i := (ptpDomain s p m.domain).getD 0
  let t2 := stampAt (s.time.dom i).ctr (ptpLat s p false)
  let t3 := stampAt (s.time.dom i).ctr (ptpLat s p true + d * 65536)
  let r : PtpOut := { kind := .pdelayResp, domain := m.domain, seqId := m.seqId, reqPort := m.sourcePort }
  let s := { evStamp p true .pdelayResp s with free := s.free + 1 }
  if ptpTwo s p then
    ptpSend p { r with kind := .pdelayRespFollowUp, correction := m.correction, stamp := some t3 } (ptpSend p { r with twoStep := true, stamp := some t2 } s)
  else ptpSend p { r with correction := m.correction + d } s

/-- Half of an exchange's round trip is the mean link delay (R263). -/
def linkDelayOf (x : PdWait) (t4 : Int) (turn : Rat) (corr : Int) : Rat := (((t4 - x.t1 - x.corr - corr : Int) : Rat) - turn) / 2

/-- A Pdelay_Resp (R257, R263). -/
def pdelayResp (p : Nat) (m : PtpMsg) (s : State) : State :=
  match s.time.pdelays.find? (fun x => x.port = p && x.seqId = m.seqId && x.t4.isNone) with
  | none => s
  | some x =>
    let t4 := localAt s p false
    let rest := s.time.pdelays.erase x
    if m.twoStep then { s with time := { s.time with pdelays := { x with t4 := some t4, t2 := m.origin, corr := m.correction } :: rest } }
    else { s with time := { s.time with pdelays := rest, linkDelay := s.time.linkDelay.set p (linkDelayOf x t4 0 m.correction) } }

/-- A Pdelay_Resp_Follow_Up (R257, R263). -/
def pdelayFollow (p : Nat) (m : PtpMsg) (s : State) : State :=
  match s.time.pdelays.find? (fun x => x.port = p && x.seqId = m.seqId && x.t4.isSome) with
  | none => s
  | some x =>
    let turn : Rat := (((m.origin : Int) - (x.t2 : Int) : Int) : Rat) / 65536
    let d := linkDelayOf x (x.t4.getD 0) turn m.correction
    { s with time := { s.time with pdelays := s.time.pdelays.erase x, linkDelay := s.time.linkDelay.set p d } }

/-- An Announce (R257, R259, R261). -/
def ptpAnnounce (p : Nat) (m : PtpMsg) (s : State) : State :=
  match ptpDomain s p m.domain with
  | none => s
  | some i =>
    let a := { m.ann with sender := m.sourcePort }
    let old := ((s.time.dom i).ports.get p {}).ann
    let take := match old with | some c => decide (c.sender = a.sender) || annBetter a c | none => true
    bmca i (if take then setDom i (fun d => { d with ports := d.ports.upd p {} (fun x => { x with ann := some a }) }) s else s)

/-- A Sync (R261–R263). -/
def ptpSync (p : Nat) (m : PtpMsg) (s : State) : State :=
  let known := (List.range 2).any (fun i => parN s 0x31 i 2 = m.domain)
  let gains := (tcPorts s p).map (fun q => (q, tcGain s p m q))
  let w : SyncWait := { port := p, source := m.sourcePort, seqId := m.seqId, domain := m.domain, tick := s.now,
                        rx0 := ingress s 0 p, rx1 := ingress s 1 p, corr := m.correction, gains := gains }
  let s := tcUnmatched (!known) (tcForward p m (fun q => if m.twoStep then 0 else tcGain s p m q) s)
  let s := { s with free := s.free + 8 }
  if m.twoStep then { s with time := { s.time with syncs := w :: s.time.syncs.filter (fun x => s.now - x.tick ≤ 400000000) } }
  else match ptpDomain s p m.domain with
    | some i => if fromMaster s i p m.sourcePort then tdOffset i (offsetOf s p (ingress s i p) m.origin m.correction) s else s
    | none => s

/-- A Follow_Up (R262, R263). -/
def ptpFollow (p : Nat) (m : PtpMsg) (s : State) : State :=
  match s.time.syncs.find? (fun x => x.port = p && x.source = m.sourcePort && x.seqId = m.seqId && x.domain = m.domain && s.now - x.tick ≤ 400000000) with
  | none => tcUnmatched true (tcForward p m (fun _ => 0) s)
  | some x =>
    let s := tcForward p m (fun q => x.gains.get q 0) { s with time := { s.time with syncs := s.time.syncs.erase x } }
    match ptpDomain s p m.domain with
    | some i =>
      if fromMaster s i p m.sourcePort then tdOffset i (offsetOf s p (if i = 0 then x.rx0 else x.rx1) m.origin (x.corr + m.correction)) s else s
    | none => s

/-- A PTP message on a port whose FUNCTIONS include PTP (R257, R259–R263). -/
def ptpReceive (p : Nat) (m : PtpMsg) (s : State) : State :=
  match m.kind with
  | .delayReq | .management => { s with time := { s.time with discarded := s.time.discarded + 1 } }
  | .pdelayReq => pdelayAnswer p m (evStamp p false .pdelayReq s)
  | .pdelayResp => pdelayResp p m (evStamp p false .pdelayResp s)
  | .pdelayRespFollowUp => pdelayFollow p m s
  | .signaling => tcForward p m (fun _ => 0) s
  | .announce => ptpAnnounce p m (tcForward p m (fun _ => 0) s)
  | .sync => ptpSync p m (evStamp p false .sync s)
  | .followUp => ptpFollow p m s

/-- The data set that a port in the master state announces: the device's own, or that of its master one step on. -/
def annOut (s : State) (i : Nat) : AnnData :=
  match ownBest s i, bestHeard s i with
  | false, some (_, a) => { a with steps := a.steps + 1, sender := Config.ptpOwn 3 * 65536 }
  | _, _ => ownData s i

/-- The messages of one interval of a PTP port (R257, R258), stamped at egress. -/
def ptpInterval (td p : Nat) (kind : PtpKind) (s : State) : State :=
  let q := s.time.seqNo % 65536
  let m : PtpOut := { kind := kind, domain := parN s 0x31 td 2, seqId := q }
  let t := stampAt (s.time.dom td).ctr (ptpLat s p true)
  let s := { s with time := { s.time with seqNo := s.time.seqNo + 1 } }
  match kind with
  | .pdelayReq =>
    let s := { s with time := { s.time with pdelays := { port := p, seqId := q, t1 := localAt s p true } :: s.time.pdelays.filter (fun x => x.port ≠ p) } }
    ptpSend p m (evStamp p true .pdelayReq s)
  | .announce => ptpSend p { m with ann := some (annOut s td) } s
  | _ =>
    let s := evStamp p true .sync s
    if ptpTwo s p then ptpSend p { m with kind := .followUp, stamp := some t } (ptpSend p { m with twoStep := true } s)
    else ptpSend p { m with stamp := some t } s

/-- A periodic PTP message falls due on a port (R257, R258): Sync, with its Follow_Up, and Announce in the master state. -/
def execPtpIntervalSend (td p : Nat) (kind : PtpKind) (s : State) : Host.Outcome State Fault Refusal :=
  let s := judgeSync s
  let on := s.dev.state.idleOn && tdOnPort s td p && (s.stn.ports.get p {}).up
  let may := match kind with
    | .pdelayReq => true
    | .sync | .announce => portState s td p == .master
    | _ => false
  unit (td < 2 && p < 8) (if on && may then ptpInterval td p kind s else s)

/-- Announce receipt timeout of a domain (R261): its slave port forgets its master. -/
def execAnnounceReceiptTimeout (td : Nat) (s : State) : Host.Outcome State Fault Refusal :=
  let forget := fun (d : TimeDom) => { d with ports := d.ports.mapVals (fun _ x => if x.st == .slave then {} else x), slave := false, master := none }
  unit (td < 2) (if onPps s td then bmca td (setDom td forget s) else bmca td (tdInvalid td (setDom td forget s)))

/-! ### Loss of lock (R273–R278) -/

/-- Lock flag of a loop. -/
def pllIndex : Pll → Nat | .c => 0 | .e => 1 | .a => 2 | .b => 3 | .d => 4
/-- Fault source of a loop. -/
def pllSource : Pll → Nat | .c => 281 | .e => 282 | .a => 7 | .b => 283 | .d => 284

/-- Set a lock flag. -/
def setLock (p : Pll) (v : Bool) (s : State) : State := { s with clk := { s.clk with locked := s.clk.locked.set (pllIndex p) v } }

/-- Both timebase loops are lost (R276): the HWSL blocks at once, the cycle stops, and level 4 follows. -/
def timebaseLost (s : State) : State :=
  let s := hwslTrip 0 0 0 0 s
  raise 6 [] (pulStop { s with cyc := { s.cyc with running := false } })

/-- Every station port and both tandem lanes drop (R276). -/
def stationDrop (s : State) : State :=
  let s := (List.range 8).foldl (fun s p => if (s.stn.ports.get p {}).up then raise (252 + p) (be 1 p) (linkDown p s) else s) s
  let s := if s.tan.tp0Up then portChange 40 0 (scanDrop 8 s) else s
  let s := if s.tan.tp1Up then portChange 41 0 (scanDrop 9 s) else s
  { s with tan := { s.tan with tp0Up := false, tp1Up := false } }

/-- The loss of one loop; the loss of both timebase loops is FLT_TIMEBASE_LOST alone. -/
def pllLost (p : Pll) (s : State) : State :=
  let drives := (p = .c && !s.clk.onE) || (p = .e && s.clk.onE)
  let twin := if p = .c then s.clk.locked.getD 1 false else s.clk.locked.getD 0 false
  let s := setLock p false s
  if drives && !twin then timebaseLost s else
  let s := raise (pllSource p) (be 1 (pllIndex p)) s
  match p with
  | .c | .e => if drives then { s with clk := { s.clk with onE := !s.clk.onE } } else s
  | .a => (List.range (nPorts s)).foldl (fun s q => portLol q s) s
  | .b => stationDrop s
  | .d => (List.range 8).foldl (fun s n => senderReset n s) { s with host := { s.host with cfgReady := false } }

/-- A loss of lock is detected (R273, R276); a loop that is unlocked already is lost once only. -/
def execPllLossOfLock (pll : Pll) (s : State) : Host.Outcome State Fault Refusal :=
  ok (if s.clk.locked.getD (pllIndex pll) false then pllLost pll s else s)

/-- A loop relocks when its reference returns (R275, R277, R278). -/
def execPllRelock (pll : Pll) (cacheMiss : Bool) (s : State) : Host.Outcome State Fault Refusal :=
  if s.clk.locked.getD (pllIndex pll) false || !s.dev.ticksRun then ok s else
  let s := if cacheMiss then bandMiss (16 * (42 + pllIndex pll)) s else s
  let s := clear (pllSource pll) (setLock pll true s)
  ok (match pll with
    | .c => if (rec? s 6).active then clear 6 { s with clk := { s.clk with onE := false } } else s
    | .e => if (rec? s 6).active then clear 6 { s with clk := { s.clk with onE := true } } else s
    | .d => { s with host := { s.host with cfgReady := s.host.perstHigh && s.dev.bootRec.isSome } }
    | _ => s)

/-- The safety die compares C0 with its oscillator (R12, R276): beyond ±5 % the timebase is lost. -/
def execSafetyOscTimebaseCheck (ppm : Int) (s : State) : Host.Outcome State Fault Refusal :=
  ok (if s.dev.ticksRun && 50000 < ppm.natAbs && !(rec? s 6).active then timebaseLost s else s)

end Sys2Proof.Machine
end

