-- ==== Sys2Proof/Machine/Roles.lean ====
section
/-! DEFINITION. Roles of a tandem pair and the mirror records (R416–R433, R435): what a change of role does, what a
record holds and what a follower takes from it, and the judgements at a cutoff. -/

namespace Sys2Proof.Machine

/-! ### Policy -/

/-- PAIR mode (R416). -/
def pairMode (s : State) : Bool := par s 0x52 0 0 == 1
/-- This unit is PREFERRED, unit A where PREFERRED is NONE (R428, R433). -/
def preferred (s : State) : Bool :=
  match parN s 0x52 0 2 with | 0 => s.dev.unitId = 1 | k => s.dev.unitId = k
/-- The twin's number in UNIT_ECHO. -/
def twinId (s : State) : Nat := 3 - s.dev.unitId
/-- The twin's role in its last record. -/
def twinRole (s : State) : Option Role := s.tan.last.map (·.role)
/-- The unit has a follower (R340, R418). -/
def hasFollower (s : State) : Bool :=
  s.tan.role == .active && pairMode s &&
  (match twinRole s with | some .standby | some .resync | some .eligible => true | _ => false)

/-! ### Changes of role (R427, R428, R431) -/

/-- The hold-off starts (R428). -/
def startHoldOff (s : State) : State :=
  { s with tan := { s.tan with holdOff := true, holdOffDone := false, holdTick := s.now } }

/-- A change of role: ROLE_EPOCH, vector 12, ROLE_CHANGE, and the light of the basins (R313, R340, R428). In factory
test mode nothing leads out of ISOLATED (R387). -/
def setRole (r : Role) (s : State) : State :=
  let old := s.tan.role
  if old = r || (old == .isolated && factoryMode s) then s else
  let s := { s with
    dev := { s.dev with roleEpoch := s.dev.roleEpoch + 1 }
    tan := { s.tan with role := r, roleCycle := s.cyc.n, clean := if r == .resync then 0 else s.tan.clean,
                        notClean := if r == .resync then 0 else s.tan.notClean, veto := false }
    pul := if r == .active then s.pul else { s.pul with ch := s.pul.ch.mapVals (fun _ c => { c with holdOff := true }), syncOut := none } }
  let s := event 0x81 0 (be 1 old.code ++ be 1 r.code ++ be 2 0 ++ be 4 s.dev.roleEpoch.toNat) (vector 12 s)
  relight (clear 309 s)

/-- MIRROR_EPOCH rises above both units' values (R427). -/
def raiseEpoch (s : State) : State :=
  let t := match s.tan.last with | some r => r.mirrorEpoch | none => 0
  let m := if t.toNat < s.tan.mirrorEpoch.toNat then s.tan.mirrorEpoch else t
  { s with tan := { s.tan with mirrorEpoch := m + 1 } }

/-- Ports as a unit becomes ACTIVE (R186): one in UP is lit as it stands, any other restarts at ACQUIRE. -/
def takePorts (s : State) : State :=
  (namedPorts s).foldl (fun s p =>
    match (port s p).lane with | .up | .dark => s | _ => rediscover p s) s

/-- A published block is sent by both units (R242: PUBLISH_IN is ALWAYS). -/
def pubAlways (s : State) (k : Nat) : Bool :=
  match s.cfg.plate with | some p => (match p.goosePubs.find k with | some d => d.always | none => false) | none => false

/-- ACTIVE_ONLY blocks go out as changes at the next launch, with the highest stNum heard (R242). -/
def takePubs (s : State) : State :=
  { s with stn := { s.stn with pubs := s.stn.pubs.mapVals (fun k x => if pubAlways s k then x else
      { x with sent := none, stNum := if x.stNum.toNat < x.heard.toNat then x.heard else x.stNum }) } }

/-- Control phase RECOVERY on a takeover (R25, R431): at the cycle start itself, or at the next one after a cutoff. -/
def takePhase (s : State) : State :=
  if s.dev.state ≠ .running then s
  else if s.cyc.frozen then { s with dev := { s.dev with recoveryReq := true } }
  else let t := setPhase .recovery s
       { t with dev := { t.dev with phaseFirst := true, recoveryNow := true } }

/-- A unit becomes ACTIVE (R427, R428, R431): alone, by handover, or by a takeover; from RESYNC a takeover is blocked. -/
def becomeActive (silence takeover : Bool) (s : State) : State :=
  let from_ := s.tan.role
  if from_ == .active || (from_ == .isolated && factoryMode s) then s else
  let s := { s with obs := { s.obs with pendFrame := none },
                    time := match s.tan.last with
                      | some r => if from_ == .isolated then { s.time with twinOff := none }
                                  else { s.time with twinOff := none, active := b2n r.activeTd }
                      | none => { s.time with twinOff := none } }
  let s := setRole .active (raiseEpoch s)
  let s := takePubs (takePorts (ctLeave s))
  let s := { s with tan := { s.tan with
    takeovers := if takeover then s.tan.takeovers + 1 else s.tan.takeovers, silenceTakeover := silence,
    reqTick := none, handover := 0, handed := false, withhold := none, holdOff := false, holdOffDone := false } }
  let s := clear 308 s
  let s := if silence then raise 305 [] s else s
  if from_ == .isolated then s
  else if from_ == .resync && takeover then (if runs s then moveState .blocked s else s)
  else takePhase s

/-- A unit falls back to RESYNC (R428). -/
def toResync (s : State) : State := startHoldOff (setRole .resync s)

/-- STANDBY, and ELIGIBLE at once where the hold-off has run out (R428). -/
def toStandby (s : State) : State :=
  let s := setRole .standby s
  if s.tan.holdOffDone then setRole .eligible s else s

/-! ### Mirrored elements (R424) -/

/-- A mirrored element by node, slot and element: slots from 256 on are the node's counters and flags, 512 is its
transfer record (log 23). -/
def mirElem (s : State) (x : Nat × Nat × Nat) : ElemWord :=
  let n := s.graph.cur.get x.1 {}
  if x.2.1 < 256 then (let st := n.st.getD x.2.1 ({} : Stage); { m := st.m.getD x.2.2 0, e := st.e })
  else if x.2.1 < 512 then { m := n.ints.getD (x.2.1 - 256) 0, e := 46 }
  else match n.xfer with | some st => { m := st.m.getD x.2.2 0, e := st.e } | none => {}

/-- A value written at a place of a list that may be too short. -/
def putAt (l : List Int) (i : Nat) (v : Int) : List Int := (l ++ List.replicate (i + 1 - l.length) 0).set i v

/-- Write a mirrored element. -/
def putElem (x : Nat × Nat × Nat) (w : ElemWord) (n : NodeSt) : NodeSt :=
  if x.2.1 < 256 then
    let sts := n.st ++ List.replicate (x.2.1 + 1 - n.st.length) ({} : Stage)
    { n with st := sts.set x.2.1 { e := w.e, m := putAt (sts.getD x.2.1 ({} : Stage)).m x.2.2 w.m } }
  else if x.2.1 < 512 then { n with ints := putAt n.ints (x.2.1 - 256) w.m }
  else if w = ({} : ElemWord) then { n with xfer := none }
  else { n with xfer := some { e := w.e, m := putAt (n.xfer.getD ({} : Stage)).m x.2.2 w.m } }

/-- The plate's mirror list. -/
def mirrorList (s : State) : List (Nat × Nat × Nat) :=
  match s.cfg.plate with | some p => p.mirror.take 319 | none => []

/-- A mirrored element's 8 bytes (R422). -/
def elem48 (w : ElemWord) : List Byte := beI 6 w.m ++ beI 1 w.e ++ be 1 0

/-! ### RESULT_DIGEST (R426) -/

/-- State field and trim entry of every arm member, in CI order, as one byte and eight (log 24). -/
def digestArms (s : State) : List Byte :=
  let tr := armTrims s
  (armStates s).flatMap (fun x => be 1 x.2.code ++
    be 8 (match tr.find x.1 with | some (on, off) => (trimEntry (x.1 % 256) on off).toNat | none => 0))

/-- RESULT_DIGEST, with the arms' part taken before the frame went out. -/
def resultDigest (arms : List Byte) (s : State) : Word :=
  let outs := ((nodes s).filter (fun n => n.armSel ≠ 0)).flatMap (fun n =>
    (List.range n.outLen).flatMap (fun i => be 4 (elemBits (elemWord (nodeOut s.graph.cur n.node) i)).toNat))
  crc32c (outs ++ arms ++ (mirrorList s).flatMap (fun x => elem48 (mirElem s x)))

/-! ### Records (R422, R423) -/

/-- PLATE_TAG in force. -/
def plateTag (s : State) : BitVec 16 := match s.cfg.plate with | some p => p.hdr.plateTag | none => 0

/-- Setpoint slots of a record of a cycle. -/
def recSetpoints (s : State) : List (Nat × CycleNo × Stage) :=
  match s.cfg.plate with
  | none => []
  | some p =>
    let b := 4 * (s.cyc.n.toNat % 64)
    [b, b + 1, b + 2, b + 3].filterMap (fun k => (p.slots.find k).map (fun st => (k, s.graph.spCycle.get k 0, (pstage s st).val)))

/-- Selection states of a record of a cycle. -/
def recSel (s : State) : List (Nat × CellCmd × Nat) :=
  let sl := s.cyc.n.toNat % 32
  (armsUsed s).flatMap (fun a => ((s.arms.get a {}).sel.filter (fun x => x.1 / 256 = sl)).map (fun x => (x.1, x.2.endSt, min 1023 x.2.dwell)))

/-- The record of the current cycle, or a beacon (R422, R423): a follower sends no more than the header. -/
def mkRecord (launched missed beacon : Bool) (s : State) : MirrorRec :=
  let act := s.tan.role == .active && !beacon
  { beacon := beacon, full := act, cycle := if beacon then 0 else s.cyc.n, unitId := s.dev.unitId,
    launched := launched, missed := missed, takeoverReq := s.dev.takeoverReq, hostBlock := s.tan.fwdBlock, clean := 0 < s.tan.clean,
    devState := s.dev.state, phase := s.dev.phase, mirrorEpoch := s.tan.mirrorEpoch, roleEpoch := s.dev.roleEpoch,
    digest := s.tan.digest, plateTag := plateTag s, role := s.tan.role, activeTd := s.time.active = 1, tdValid0 := s.time.td0.valid,
    tdValid1 := s.time.td1.valid, ctOffset := rheDiv s.tan.startOff 65536, transferSeq := s.tan.transferSeq, handover := s.tan.handover,
    variant := s.dev.variant, fwVersion := s.dev.fwVersion,
    arms := if act then (List.range 12).map (fun a => ((s.arms.get a {}).d, (s.arms.get a {}).r)) else [],
    setpoints := if act then recSetpoints s else [], sel := if act then recSel s else [],
    lanes := if act then (List.range 32).map (fun p => ((port s p).lane, (port s p).gen)) else [],
    states := if act then (mirrorList s).map (mirElem s) else [],
    steps := if act then (List.range 32).map (fun p => (port s p).stepCycle) else [] }

/-- Bytes 0x000 to 0x03F of a record (R422), each field most significant byte first (R7). -/
def recordHead (r : MirrorRec) : List Byte :=
  be 6 r.cycle.toNat ++
  be 1 (r.unitId % 4 + 4 * b2n r.launched + 8 * b2n r.missed + 16 * b2n r.takeoverReq + 32 * b2n r.hostBlock + 64 * b2n r.clean) ++
  be 1 (r.devState.code + 16 * r.phase.code) ++ be 4 r.mirrorEpoch.toNat ++ be 4 r.roleEpoch.toNat ++ be 4 r.digest.toNat ++
  be 2 r.plateTag.toNat ++ be 1 (r.role.code + 8 * b2n r.activeTd + 16 * b2n r.tdValid0 + 32 * b2n r.tdValid1) ++ be 1 0 ++
  beI 6 r.ctOffset ++ be 2 r.transferSeq.toNat ++ be 6 r.handover.toNat ++ be 1 (variantCode r.variant) ++ be 1 0 ++
  be 4 r.fwVersion.toNat ++ be 20 0

/-- SP_i of a record, slots 4 × (CYCLE modulo 64) + i (R422): the stage as element words of R59. -/
def recordSlot (r : MirrorRec) (i : Nat) : List Byte :=
  match r.setpoints.find? (fun x => x.1 % 4 = i) with
  | some (k, c, st) => be 1 k ++ be 1 st.m.length ++ be 6 c.toNat ++ be 8 0 ++
      (List.range 16).flatMap (fun j => be 4 (if j < st.m.length then (elemBits (elemWord st j)).toNat else 0))
  | none => be 80 0

/-- SEL_i of a record, CI 256 × (CYCLE modulo 32) + i (R422). -/
def recordSel (r : MirrorRec) (i : Nat) : List Byte :=
  match r.sel.find? (fun x => x.1 % 256 = i) with
  | some (_, c, d) => be 4 (c.code * 2 ^ 30 + d * 2 ^ 20)
  | none => be 4 0

/-- The 4,096 bytes of a full record up to its RCRC (R422). -/
def recordBody (r : MirrorRec) : List Byte :=
  recordHead r ++
  (List.range 12).flatMap (fun a => let x := r.arms.getD a (0, 0); beI 1 x.1 ++ be 1 0 ++ beI 4 x.2 ++ be 2 0) ++
  (List.range 4).flatMap (recordSlot r) ++ (List.range 256).flatMap (recordSel r) ++
  (List.range 32).flatMap (fun p => let x := r.lanes.getD p (.dark, .bl1); be 1 (x.1.code + 16 * x.2.code)) ++
  (List.range 319).flatMap (fun i => elem48 (r.states.getD i {})) ++ be 4 0

/-- A record or beacon as its bytes leave on TP0 (R7, R422, R423), the CRC-32C of R191 at its end. -/
def recordBytes (r : MirrorRec) : List Byte :=
  let b := if r.full then recordBody r else recordHead r
  b ++ be 4 (crc32c b).toNat

/-- The record of the cycle leaves on TP0 (R422); a forwarded HOST_BLOCK goes with it (R332). -/
def sendRecord (launched missed : Bool) (s : State) : State :=
  { s with tan := { s.tan with sent := some (mkRecord launched missed false s), fwdBlock := false } }

/-! ### What a follower takes from a record (R23, R186, R425, R426) -/

/-- DEVICE_STATE of the active unit is adopted: READY, RUNNING, RAMPING and BLOCKED (R23). -/
def adoptState (new : DevState) (s : State) : State :=
  let may := match new with | .ready | .running | .ramping | .blocked => true | _ => false
  let from_ := match s.dev.state with | .loaded | .ready | .running | .ramping | .blocked => true | _ => false
  if !may || !from_ || s.dev.state = new then s
  else match new with
    | .ready => if s.srb.st = .tripped then enterReady (hwslRelease s) else enterReady s
    | .running =>
      let t := moveState .running s
      { t with arms := (armsUsed t).foldl (fun m a => m.set a (armStart t a (t.arms.get a {}))) t.arms }
    | _ => moveState new s

/-- A lane of a follower follows its twin's (R186); a port that has lost lock relocks by itself (R180).  The step cycle is
the one that came over TP1 (R419); where none came, it follows from the record that first shows NEGOTIATE, whose next
frame is the first to carry the announcement (log 116). -/
def followLane (p : Nat) (l : LaneState) (g : Gen) (c : CycleNo) (sc : Option CycleNo) (s : State) : State :=
  let x := port s p
  if !portNamed s p || x.lane == .relock || l == .relock || (x.lane == l && x.gen == g) then s else
  let s := if x.gen = g then s else setPort p (fun y => { y with gen := g, locked := false }) s
  let s := if l == .train && x.lane != .train then
      (portOrder s p).foldl (fun s m => setPreset (ciOf p m) {} s) (setPort p (fun y => { y with epoch := y.epoch + 1 }) s)
    else if l == .negotiate && x.lane != .negotiate then setPort p (fun y => { y with stepCycle := sc.getD (stepAt s p (c + 1)) }) s
    else s
  relight (laneGo p l s)

/-- The values of a full record become current (R54, R141, R425). -/
def applyValues (r : MirrorRec) (s : State) : State :=
  let cur := ((mirrorList s).zip r.states).foldl (fun m x => m.upd x.1.1 {} (putElem x.1 x.2)) s.graph.cur
  let arms := r.arms.zipIdx.foldl (fun (m : SMap Arm) x =>
    if (m.find x.2).isSome then m.upd x.2 {} (fun a => { a with d := x.1.1, r := x.1.2 }) else m) s.arms
  let arms := r.sel.foldl (fun (m : SMap Arm) x => match memberOf s x.1 with
    | some (a, _) => m.upd a {} (fun y => { y with sel := y.sel.upd x.1 {} (fun z => { z with endSt := x.2.1, dwell := x.2.2 }) })
    | none => m) arms
  let s := { s with graph := { s.graph with cur := cur }, arms := arms }
  let s := r.setpoints.foldl (fun s x =>
    match s.cfg.plate with
    | some p => (match p.slots.find x.1 with
      | some st => { s with cfg := { s.cfg with stages := s.cfg.stages.upd st { val := {} } (fun y => { y with val := x.2.2 }),
                                                stagesI := s.cfg.stagesI.upd st { val := {} } (fun y => { y with val := x.2.2 }) },
                            graph := { s.graph with spCycle := s.graph.spCycle.set x.1 x.2.1 } }
      | none => s)
    | none => s) s
  r.lanes.zipIdx.foldl (fun s x => followLane x.2 x.1.1 x.1.2 r.cycle r.steps[x.2]? s) s

/-- What the observer keeps of the cycle before (R426): the follower's own frame where its twin launched, else the
cells held at their end states, with every adaptation window void. -/
def settleFrame (launched : Bool) (s : State) : State :=
  let s0 := { s with obs := { s.obs with pendFrame := none } }
  if !launched then s0 else
  match s.obs.pendFrame with
  | some f => { s0 with obs := { s0.obs with frames := (f :: s0.obs.frames).take 24 } }
  | none =>
    let held : SMap (CellCmd × Option (Nat × Nat)) := (armsUsed s).foldl (fun m a =>
      (s.arms.get a {}).sel.foldl (fun (m : SMap (CellCmd × Option (Nat × Nat))) x => m.set x.1 (x.2.endSt, none)) m) []
    let f : FrameRec := { cycle := s.cyc.n - 1, ports := namedPorts s, block := match s.obs.frames with | f :: _ => f.block | [] => true, cmds := held }
    { s0 with obs := { s0.obs with frames := (f :: s0.obs.frames).take 24, recs := s0.obs.recs.mapVals (fun _ r => { r with winVoid := true }) } }

/-- A refresh is judged (R425, R428). -/
def refresh (good : Bool) (s : State) : State :=
  let s := { s with tan := { s.tan with clean := if good then s.tan.clean + 1 else 0, notClean := if good then 0 else s.tan.notClean + 1 } }
  match s.tan.role with
  | .resync =>
    let conv := match s.dev.state with
      | .idle | .loaded => true
      | _ => (armsUsed s).all (fun a => (members s a).all (fun m => !isActive s a m.ci || (obsRec s m.ci).converged))
    if 1000 ≤ s.tan.clean && conv then toStandby s else s
  | .standby | .eligible =>
    if (parN s 0x52 0 12) ≤ s.tan.notClean then toResync (raise 304 [] s) else s
  | _ => s

/-- The record of the cycle before, at the cutoff (R425, R426). -/
def followerCutoff (s : State) : State :=
  let c := s.cyc.n - 1
  match s.tan.recv.find? (fun r => r.cycle = c) with
  | none => refresh false (settleFrame false s)
  | some r =>
    let skip := r.missed || s.cyc.missed
    let same := r.digest = s.tan.digest
    let held := r.launched && s.obs.pendFrame.isNone
    let seqBad := r.transferSeq ≠ s.tan.transferSeq
    let s := if !skip && !same then raise 303 (be 6 c.toNat) { s with tan := { s.tan with mismatches := cnt32 s.tan.mismatches } } else s
    let s := settleFrame r.launched s
    let s := if r.role == .active then adoptState r.devState (if r.full then applyValues r s else s) else s
    let s := if r.role == .active && s.dev.phase ≠ r.phase && runs s then setPhase r.phase s else s
    if seqBad && s.tan.role != .resync then toResync (raise 304 [] s)
    else refresh (r.plateTag = plateTag s && !seqBad && (skip || same) && !held) s

/-! ### Towpaths, silence, split (R421, R429, R432, R433) -/

/-- One towpath's silent count and source. -/
def pathJudge (heard : Bool) (n src : Nat) (s : State) : Nat × State :=
  if heard then (0, clear src s) else (n + 1, if n + 1 = 2 then raise src [] s else s)

/-- Both towpaths are judged. -/
def towpaths (a b : Bool) (s : State) : State :=
  let (x, s) := pathJudge a s.tan.silentA 301 s
  let (y, s) := pathJudge b s.tan.silentB 302 s
  { s with tan := { s.tan with silentA := x, silentB := y } }

/-- Reports of this cutoff that name the twin with HOLDING clear, and those with HOLDING set (R429). -/
def freshReports (s : State) : Nat := (s.obs.taken.filter (fun r => r.rep.unitEcho = twinId s && !r.rep.holding)).length
/-- Cell reports with HOLDING set. -/
def holdingReports (s : State) : Nat := (s.obs.taken.filter (fun r => !r.rep.gauge && r.rep.holding)).length

/-- A follower's judgement of silence (R429); in IDLE the echo conditions count as met (R423). -/
def silenceJudge (idle : Bool) (s : State) : State :=
  let lim := parN s 0x52 0 6
  let silent := lim ≤ s.tan.silentA && lim ≤ s.tan.silentB
  if !follower s then s
  else if !silent then clear 309 { s with tan := { s.tan with veto := false } }
  else if idle || (freshReports s = 0 && parN s 0x52 0 10 ≤ holdingReports s) then becomeActive true true s
  else if s.tan.veto then s
  else raise 309 [] { s with tan := { s.tan with veto := true } }

/-- An ACTIVE unit in split yields or stands (R433). -/
def splitJudge (s : State) : State :=
  let hit := fun (r : Report) =>
    let f := sampleOf r - 2
    r.rep.unitEcho = twinId s && !r.rep.holding && s.tan.launches.contains f && r.rep.echoSeq = f.toNat % 4
  if (s.obs.taken.filter hit).length < parN s 0x52 0 10 then s else
  let near := match s.tan.last with | some r => decide ((s.cyc.n - r.cycle).toNat ≤ parN s 0x52 0 6) | none => false
  let yields := match near, s.tan.last with
    | true, some r =>
      if r.mirrorEpoch = s.tan.mirrorEpoch then !preferred s else decide (s.tan.mirrorEpoch.toNat < r.mirrorEpoch.toNat)
    | _, _ => !s.tan.silenceTakeover
  if yields then raise 306 [] (toResync s) else s

/-- The ACTIVE unit starts a revertive handover 64 cycles ahead (R432). -/
def revert (s : State) : State :=
  if !preferred s && parN s 0x52 0 2 ≠ 0 && par s 0x52 0 4 = 1 && twinRole s = some .eligible && s.tan.handover = 0 && s.tan.revertAfter ≤ s.now
  then { s with tan := { s.tan with handover := s.cyc.n + 64 } } else s

/-- What the pair does at a cutoff (R421, R425, R428–R433). -/
def tandemCutoff (s : State) : State :=
  if !pairMode s then s else
  let a := s.tan.recv.any (fun r => r.cycle = s.cyc.n - 1)
  let s := towpaths a s.tan.heardB s
  let s := if follower s then followerCutoff s else s
  let s := { s with tan := { s.tan with recv := s.tan.recv.filter (fun r => after 48 r.cycle.toNat (s.cyc.n - 1).toNat), heardB := false } }
  let s := silenceJudge false s
  if s.tan.role == .active then revert (splitJudge s) else s

end Sys2Proof.Machine
end

