-- ==== Sys2Proof/Machine/HostIf.lean ====
section
/-! DEFINITION. The host interface (R309–R332): the PCI Express endpoint, mailboxes, registers, the time snapshot, the
emergency controls and the SPI management port. -/

namespace Sys2Proof.Machine

/-! ### Messages and sides (R315–R319, R333–R335) -/

/-- A message as bytes: header and body (R333, R334). -/
def msgBytes (m : Msg) : List Byte :=
  be 1 1 ++ be 1 m.kind ++ be 1 m.opcode ++ be 1 m.status.code ++ be 2 m.tag.toNat ++ be 1 m.part ++ be 1 (b2n m.more) ++
  be 4 m.sess.toNat ++ be 4 m.role.toNat ++ m.body

/-- Bytes of the message in the F2H side; none when it is empty. -/
def f2hBytes (m : Mbx) : List Byte := match m.side, m.f2hFull with | some x, true => msgBytes x | _, _ => []

/-- The endpoint takes requests: out of reset and configured (R487). -/
def pcieUp (s : State) : Bool := s.host.cfgReady && s.dev.state != .reset

/-- The SPI port answers: the device is out of RESET. -/
def spiUp (s : State) : Bool := s.dev.state != .reset

/-- A transport reaches the registers: SPI, or PCI Express. -/
def reach (spi : Bool) (s : State) : Bool := if spi then spiUp s else pcieUp s

/-- Mailboxes of a core (R314). -/
def coreOf (n : Nat) : Nat := n / 4

/-- The power domain of a core is switched (R317). -/
def coreAwake (core : Nat) (on : Bool) (s : State) : State :=
  [0, 1, 2, 3].foldl (fun s i => mset (4 * core + i) (fun m => { m with coreAwake := on }) s) s

/-- A write to a mailbox is rejected (R314, R316, R328): reasons 1 FULL, 2 LENGTH, 3 NOT_OWNER, 4 ACCESS. -/
def mbxReject (n reason : Nat) (s : State) : State :=
  mset n (fun m => { m with rejected := true, reason := reason, rejects := cnt32 m.rejects }) s

/-- Unsupported Request is logged in AER (R311, R312). -/
def aerUnsupported (bar off : Nat) (s : State) : State :=
  { s with host := { s.host with aerUr := s.host.aerUr + 1, aerLast := some (false, bar, off) } }

/-- A write to a full side over PCI Express: Completer Abort, logged with its request (R316). -/
def mbxFull (n off : Nat) (s : State) : State :=
  mbxReject n 1 { s with host := { s.host with aerCa := s.host.aerCa + 1, aerLast := some (true, 0, off) } }

/-- A message of `len` bytes is posted: H2F_FULL, and the serving core wakes (R315, R317). -/
def h2fPost (n len : Nat) (s : State) : State :=
  coreAwake (coreOf n) true (mset n (fun m => { m with h2fFull := true, h2fLen := len }) s)

/-- Bytes written into a payload area. -/
def splice (l : List Byte) (off : Nat) (bs : List Byte) : List Byte :=
  (l ++ List.replicate (off - l.length) 0).take off ++ bs ++ l.drop (off + bs.length)

/-- A doorbell by the owner of a mailbox (R315, R316). -/
def doorbell (n len : Nat) (s : State) : State :=
  if len = 0 ∨ 256 < len then mbxReject n 2 s
  else if (mget s n).h2fFull then mbxFull n (0x1004 + 0x40 * n) s
  else h2fPost n len s

/-- Firmware generates the next part of a multi-part response (R335). -/
def nextPart (n : Nat) (s : State) : State :=
  match (mget s n).parts with
  | [] => s
  | [m] => queueMsg n m (mset n (fun x => { x with parts := [], reserved := x.reserved - 1 }) s)
  | m :: ms => queueMsg n m (mset n (fun x => { x with parts := ms }) s)

/-- The receiver releases the F2H side (R318). -/
def f2hAck (n : Nat) (s : State) : State :=
  let m := mget s n
  if !m.f2hFull then s else
  let part := match m.side with | some x => x.more | none => false
  let s := mset n (fun m => { m with f2hFull := false, side := none }) s
  if part then nextPart n s else s

/-- A host on PCI Express writes an H2F payload area (R311, R314, R316). -/
def execH2fPayloadWrite (mbx off : Nat) (bytes : List Byte) (s : State) : Host.Outcome State Fault Refusal :=
  unit (mbx < 16)
    (if !pcieUp s then s
     else if bytes.length = 0 ∨ 256 < off + bytes.length then aerUnsupported 0 (0x10000 + 0x200 * mbx + off) s
     else if 8 ≤ mbx then mbxReject mbx 3 s
     else if (mget s mbx).h2fFull then mbxFull mbx (0x10000 + 0x200 * mbx + off) s
     else mset mbx (fun m => { m with h2f := splice m.h2f off bytes }) s)

/-- A host on PCI Express writes H2F_DOORBELL (R315, R328). -/
def execH2fDoorbell (mbx len : Nat) (s : State) : Host.Outcome State Fault Refusal :=
  unit (mbx < 16) (if !pcieUp s then s else if 8 ≤ mbx then mbxReject mbx 3 s else doorbell mbx len s)

/-- Firmware takes a posted message (R315, R319): one that finds 8 places reserved is discarded. -/
def execH2fTake (mbx : Nat) (s : State) : Host.Outcome State Fault Refusal :=
  let m := mget s mbx
  unit (mbx < 16)
    (if !s.dev.mpcReady || !m.h2fFull then s
     else
      let s := mset mbx (fun m => { m with h2fCount := m.h2fCount + 1 }) (coreAwake (coreOf mbx) true (h2fEmpty mbx false s))
      if 8 ≤ m.reserved then
        intBit mbx 3 (mset mbx (fun m => { m with
          overruns := cnt32 m.overruns,
          ghost := m.ghost.map (fun g => if m.reserved < g.left then { g with left := g.left - 1 } else g) }) s)
      else mset mbx (fun m => { m with reserved := m.reserved + 1 }) s)

/-- A core without mailbox work for 10 ms gates its domain (R317). -/
def execCoreIdleGate (core : Nat) (s : State) : Host.Outcome State Fault Refusal :=
  let busy := [0, 1, 2, 3].any (fun i => (mget s (4 * core + i)).h2fFull)
  unit (core < 4) (if busy then s else coreAwake core false s)

/-- A host on PCI Express writes F2H_ACK (R314, R318). -/
def execF2hRelease (mbx : Nat) (s : State) : Host.Outcome State Fault Refusal :=
  unit (mbx < 16) (if !pcieUp s then s else if 8 ≤ mbx then mbxReject mbx 3 s else f2hAck mbx s)

/-- The next queued message enters the F2H side (R318); on Ethernet it leaves as F2H_DATA (R249, R250). -/
def execF2hMessageEnter (mbx : Nat) (s : State) : Host.Outcome State Fault Refusal :=
  let m := mget s mbx
  unit (mbx < 16)
    (match s.dev.mpcReady && !m.f2hFull, m.f2h with
     | true, x :: xs =>
       let s := intBit mbx 1 (mset mbx (fun m => { m with side := some x, f2hFull := true, f2h := xs }) s)
       (match onUdp mbx, s.stn.binds.find mbx with
        | true, some b =>
          udpSend b .f2hData .ok mbx (b.f2hSeq + 1) (msgBytes x)
            { s with stn := { s.stn with binds := s.stn.binds.set mbx { b with f2hSeq := b.f2hSeq + 1, outstanding := true, repeats := 0 } } }
        | _, _ => s)
     | _, _ => s)

/-! ### Resets of the interface (R321, R322, R485) -/

/-- A host on PCI Express writes MBX_RESET: 0xA5 is a sender reset (R322, R328). -/
def execMbxReset (mbx val : Nat) (s : State) : Host.Outcome State Fault Refusal :=
  unit (mbx < 16) (if !pcieUp s then s else if 8 ≤ mbx then mbxReject mbx 3 s else if val % 256 = 0xA5 then senderReset mbx s else s)

/-- The endpoint is reset, by PCIE_PERST_N, a Function Level Reset, a hot reset or link down (R322, R485). -/
def execPcieLinkReset (perst flr : Bool) (s : State) : Host.Outcome State Fault Refusal :=
  let s := (List.range 8).foldl (fun s n => senderReset n s) s
  let s := { s with host := { s.host with due := [], vecMask := 0xFFFFFFFF, vecPend := 0, msix := [],
                                          perstHigh := s.host.perstHigh && !perst, cfgReady := s.host.cfgReady && !perst } }
  ok (if flr then (List.range 8).foldl (fun s n => mset n (fun m => { m with intEnable := 0 }) s)
        { s with host := { s.host with bulk0 := 0, bulk1 := 32 } }
      else s)

/-- The MPC restarts (R321, R332): a receiver reset; everything else goes on. -/
def mpcRestart (s : State) : State :=
  if s.dev.mpcReady || s.dev.mpcRestarting then
    let s := receiverReset s
    { s with dev := { s.dev with mpcReady := false, mpcRestarting := true } }
  else s

/-- A restart of the MPC reaches its mailboxes (R321). -/
def execMpcReceiverReset (s : State) : Host.Outcome State Fault Refusal := ok (mpcRestart s)

/-- Bybex is ready again (R332). -/
def execMpcRestartComplete (s : State) : Host.Outcome State Fault Refusal :=
  ok (if s.dev.mpcRestarting then { s with dev := { s.dev with mpcReady := true, mpcRestarting := false } } else s)

/-- PCIE_PERST_N rises (R487). -/
def execPciePerstNRelease (s : State) : Host.Outcome State Fault Refusal := ok { s with host := { s.host with perstHigh := true } }

/-- 100 ms after the later release (R487): an endpoint with an identity answers configuration requests. -/
def execPcieConfigReady (s : State) : Host.Outcome State Fault Refusal :=
  ok (if s.host.perstHigh && s.dev.state != .reset && s.dev.bootRec.isSome && s.clk.locked.getD 4 false then
        { s with host := { s.host with cfgReady := true } } else s)

/-- An MSI-X message goes out for an occurrence, or for a pending bit that is unmasked (R313). -/
def execMsixVectorSend (v : Nat) (s : State) : Host.Outcome State Fault Refusal :=
  let h := s.host
  let sent := h.sent.upd v 0 (· + 1)
  unit (v < 32)
    (if !h.cfgReady || h.vecMask.getLsbD v then s
     else if h.due.contains v then { s with host := { h with due := h.due.erase v, sent := sent } }
     else if h.vecPend.getLsbD v then { s with host := { h with vecPend := h.vecPend &&& ~~~(BitVec.ofNat 32 (2 ^ v)), sent := sent } }
     else s)

/-! ### Snapshot, hold, key words (R256, R30, R327, R330, R387) -/

/-- The fields a trigger latches (R330). -/
def snapFields (s : State) : SMap Word :=
  let c := fun (k : Nat) (x : TimeCtr) =>
    [(0x10 + 0x10 * k, BitVec.ofNat 32 x.sec.toNat), (0x14 + 0x10 * k, BitVec.ofNat 32 (x.sec.toNat / 2 ^ 32)),
     (0x18 + 0x10 * k, BitVec.ofNat 32 x.ns.toNat), (0x1C + 0x10 * k, BitVec.ofNat 32 (x.frac.toNat / 2 ^ 16))]
  c 0 s.time.ct ++ c 1 s.time.td0.ctr ++ c 2 s.time.td1.ctr ++
  [(0x40, BitVec.ofNat 32 s.cyc.n.toNat), (0x44, BitVec.ofNat 32 (s.cyc.n.toNat / 2 ^ 32)), (0x48, BitVec.ofNat 32 (tickPhase s))]

/-- SNAP_TRIGGER is written: the fields of the next tick are latched (R256, R330), with vector 14 (R313). -/
def snapTrigger (s : State) : State :=
  let s := tick s
  let flags := b2n s.time.td0.valid + 2 * b2n s.time.td1.valid + 4 * s.time.active + 8 * b2n s.time.slew
  vector 14 { s with time := { s.time with snapDone := true, snapSeq := s.time.snapSeq + 1, snapFlags := BitVec.ofNat 32 flags, snapRegs := snapFields s } }

/-- A snapshot is triggered at tick `t`. -/
def execSnapTrigger (t : Nat) (s : State) : Host.Outcome State Fault Refusal :=
  let s := advanceTo t s
  ok (if spiUp s then snapTrigger s else s)

/-- HOLD is written (R30, R327). -/
def setHold (on : Bool) (s : State) : State := { s with obs := { s.obs with hold := on } }

/-- A host sets or releases the observer image hold. -/
def execObserverImageHold (on : Bool) (s : State) : Host.Outcome State Fault Refusal := ok (if spiUp s then setHold on s else s)

/-- The hold has lasted 1 s and releases itself (R30, R313). -/
def execHoldTimeoutRelease (s : State) : Host.Outcome State Fault Refusal :=
  ok (if s.obs.hold then vector 13 { s with obs := { s.obs with hold := false, timeoutRel := true } } else s)

/-- Key words of R387. -/
def keyWords : List Word := [0x7E570A11#32, 0x7E57B0B2#32, 0x7E57C0C3#32]

/-- A key word is written over PCI Express (R387): the right word within 1 ms of the one before advances the sequence,
any other restarts it; the third enters factory test mode, ISOLATED. -/
def keyWord (val : Word) (s : State) : State :=
  let k := s.dev.keyStep
  if !s.dev.testStrap || 3 ≤ k then s
  else if keyWords[k]? = some val && (k = 0 || s.now - s.dev.keyTick ≤ 400000) then
    let s := { s with dev := { s.dev with keyStep := k + 1, keyTick := s.now } }
    if k + 1 = 3 then setRole .isolated s else s
  else { s with dev := { s.dev with keyStep := 0 } }

/-! ### Emergency controls (R331, R332) -/

/-- EMERG_KEY is written. -/
def emergKey (spi : Bool) (val : Word) (s : State) : State :=
  if val ≠ 0x5E8A#32 then s
  else { s with host := if spi then { s.host with armedSpi := true } else { s.host with armedPcie := true } }

/-- A write of EMERG_CTRL that is ignored. -/
def emergIgnored (s : State) : State := { s with host := { s.host with ignored := min 255 (s.host.ignored + 1) } }

/-- The arming of a transport ends. -/
def disarm (spi : Bool) (s : State) : State :=
  { s with host := if spi then { s.host with armedSpi := false } else { s.host with armedPcie := false } }

/-- HOST_BLOCK acts (R332): a block request, or on a follower its forwarding. -/
def hostBlockAct (s : State) : State :=
  if follower s then { s with tan := { s.tan with fwdBlock := true } }
  else { s with cyc := { s.cyc with blockReq := s.cyc.blockReq || runs s } }

/-- EMERG_CTRL is written (R331): bits 0 HOST_BLOCK, 1 MPC_RESTART, 2 WARM_RESET. -/
def emergCtrl (spi : Bool) (val : Nat) (s : State) : State :=
  if !(if spi then s.host.armedSpi else s.host.armedPcie) then emergIgnored s
  else match val % 8 with
    | 1 => hostBlockAct (disarm spi s)
    | 2 => mpcRestart (disarm spi s)
    | 4 => warmState (disarm spi s)
    | _ => emergIgnored s

/-- EMERG_KEY is written on a transport. -/
def execEmergKey (spi : Bool) (val : Word) (s : State) : Host.Outcome State Fault Refusal :=
  ok (if reach spi s then emergKey spi val s else s)
/-- 1 ms has passed since the arming. -/
def execEmergArmExpire (spi : Bool) (s : State) : Host.Outcome State Fault Refusal := ok (disarm spi s)
/-- EMERG_CTRL is written with HOST_BLOCK alone. -/
def execHostBlock (spi : Bool) (s : State) : Host.Outcome State Fault Refusal :=
  ok (if reach spi s then emergCtrl spi 1 s else s)
/-- EMERG_CTRL is written with MPC_RESTART alone. -/
def execMpcRestart (spi : Bool) (s : State) : Host.Outcome State Fault Refusal :=
  ok (if reach spi s then emergCtrl spi 2 s else s)
/-- EMERG_CTRL is written with WARM_RESET alone. -/
def execWarmReset (spi : Bool) (s : State) : Host.Outcome State Fault Refusal :=
  ok (if reach spi s then emergCtrl spi 4 s else s)
/-- EMERG_CTRL is written with no bit or several. -/
def execEmergCtrlIgnored (spi : Bool) (s : State) : Host.Outcome State Fault Refusal :=
  ok (if reach spi s then emergCtrl spi 0 s else s)

/-! ### Register maps (R8, R9, R310, R327–R331, R388) -/

/-- The identity and status block (R327). -/
def identityReg (s : State) (off : Nat) : Nat :=
  match off with
  | 0x000 => 0x55081FC7
  | 0x004 => (match s.dev.stepping with | .a0 => 0 | .b0 => 0x100000) + variantCode s.dev.variant
  | 0x008 => s.dev.fwVersion.toNat
  | 0x00C => s.dev.unitId * 2 ^ 20 + s.tan.role.code * 2 ^ 16 + s.dev.phase.code * 2 ^ 8 + s.dev.state.code
  | 0x010 => s.dev.roleEpoch.toNat
  | 0x014 => (plateTag s).toNat
  | 0x020 => s.host.bulk0
  | 0x024 => s.host.bulk1
  | 0x030 => s.obs.curBuf * 4 + b2n s.obs.timeoutRel * 2 + b2n s.obs.hold
  | 0x034 => s.obs.imgCycle.toNat
  | 0x038 => s.obs.imgCycle.toNat / 2 ^ 32
  | 0x040 => s.dev.scratch.toNat
  | _ => 0

/-- The control words of a mailbox (R328). -/
def mbxReg (m : Mbx) (off : Nat) : Nat :=
  match off with
  | 0x00 => roleCode m.role * 2 ^ 24 + min 8 m.f2h.length * 2 ^ 16 + m.reason * 2 ^ 8 + b2n m.emptyStatus * 32 +
            b2n m.coreAwake * 16 + b2n m.sessOpen * 8 + b2n m.rejected * 4 + b2n m.f2hFull * 2 + b2n m.h2fFull
  | 0x08 => (f2hBytes m).length
  | 0x10 => m.intStatus.toNat
  | 0x14 => m.intEnable.toNat
  | 0x18 => m.sessTag.toNat
  | 0x1C => m.h2fCount.toNat
  | 0x20 => m.respDropped
  | 0x24 => m.overruns
  | 0x28 => m.eventsLost
  | 0x2C => m.rejects
  | _ => 0

/-- One bit per source of 32. -/
def sourceBits (s : State) (k : Nat) (p : Cause → Bool) : Nat :=
  ((List.range 32).map (fun j => if p (rec? s (32 * k + j)) then 2 ^ j else 0)).sum

/-- The fault summary block and the test registers (R329, R388). -/
def faultReg (s : State) (off : Nat) : Nat :=
  if 0x40 ≤ off ∧ off < 0x80 then sourceBits s ((off - 0x40) / 4) (·.active)
  else if 0x80 ≤ off ∧ off < 0xC0 then sourceBits s ((off - 0x80) / 4) (·.latched)
  else match off with
    | 0x000 => b2n s.dev.takeoverReq * 2 + b2n s.dev.faultN
    | 0x004 => ((List.range 4).map (fun c => min 255 (pendingOf s c) * 2 ^ (8 * c))).sum
    | 0x008 => (match firstSource s with | some n => 2 ^ 31 + n | none => 0)
    | 0x00C => s.fcru.seq.toNat
    | 0x104 => b2n s.dev.testStrap * 4 + s.dev.keyStep
    | _ => 0

/-- The time snapshot block (R330). -/
def snapReg (s : State) (off : Nat) : Nat :=
  match off with
  | 0x004 => b2n s.time.snapDone * 2 ^ 16 + s.time.snapSeq.toNat
  | 0x008 => s.time.snapFlags.toNat
  | _ => (s.time.snapRegs.get off 0).toNat

/-- The emergency controls (R331). -/
def emergReg (s : State) (off : Nat) : Nat :=
  if off = 0x008 then s.host.ignored * 256 + b2n s.dev.mpcRestarting * 4 + b2n s.host.armedSpi * 2 + b2n s.host.armedPcie else 0

/-- A word of a payload area, little-endian. -/
def payloadWord (bs : List Byte) (off : Nat) : Nat := ofLe ((bs.drop off).take 4)

/-- A register as it reads (R9, R310): payloads of MBX8 to MBX15 read 0 (R314). -/
def regRead (s : State) (off : Nat) : Word :=
  BitVec.ofNat 32
    (if off < 0x1000 then identityReg s off
     else if off < 0x1400 then mbxReg (mget s ((off - 0x1000) / 0x40)) (off % 0x40)
     else if 0x10000 ≤ off ∧ off < 0x11000 then
       (let m := mget s ((off - 0x10000) / 0x200)
        if off % 0x200 < 0x100 then payloadWord m.h2f (off % 0x100) else payloadWord (f2hBytes m) (off % 0x100))
     else if 0x20000 ≤ off ∧ off < 0x30000 then faultReg s (off - 0x20000)
     else if 0x30000 ≤ off ∧ off < 0x40000 then snapReg s (off - 0x30000)
     else if 0x40000 ≤ off ∧ off < 0x50000 then emergReg s (off - 0x40000)
     else 0)

/-- Write of the identity block. -/
def identityWrite (off : Nat) (v : Word) (s : State) : State :=
  match off with
  | 0x020 => { s with host := { s.host with bulk0 := v.toNat % 128 } }
  | 0x024 => { s with host := { s.host with bulk1 := v.toNat % 128 } }
  | 0x030 => setHold (v.getLsbD 0) { s with obs := { s.obs with timeoutRel := s.obs.timeoutRel && !v.getLsbD 1 } }
  | 0x040 => { s with dev := { s.dev with scratch := v } }
  | _ => s

/-- Write of a control word by the mailbox's owner (R328). -/
def mbxWrite (n off : Nat) (v : Word) (s : State) : State :=
  match off with
  | 0x00 => if v.getLsbD 2 then mset n (fun m => { m with rejected := false }) s else s
  | 0x04 => doorbell n (v.toNat % 512) s
  | 0x0C => if v.getLsbD 0 then f2hAck n s else s
  | 0x10 => mset n (fun m => { m with intStatus := m.intStatus &&& ~~~(v.setWidth 4) }) s
  | 0x14 => mset n (fun m => { m with intEnable := v.setWidth 4 }) s
  | 0x30 => if v.toNat % 256 = 0xA5 then senderReset n s else s
  | _ => s

/-- Write of the emergency controls. -/
def emergWrite (spi : Bool) (off : Nat) (v : Word) (s : State) : State :=
  match off with
  | 0x000 => emergKey spi v s
  | 0x004 => emergCtrl spi v.toNat s
  | _ => s

/-- A write of one word to a register that a transport reaches (R8, R310). -/
def regWrite (spi : Bool) (off : Nat) (v : Word) (s : State) : State :=
  if off < 0x1000 then identityWrite off v s
  else if off < 0x1400 then
    (let n := (off - 0x1000) / 0x40
     if n < 8 ∨ (spi ∧ n = 14) then mbxWrite n (off % 0x40) v s else mbxReject n 3 s)
  else if 0x10000 ≤ off ∧ off < 0x12000 then
    (let n := (off - 0x10000) / 0x200
     if 8 ≤ n then mbxReject n 3 s
     else if 0x100 ≤ off % 0x200 then mbxReject n 4 s
     else if (mget s n).h2fFull then mbxFull n off s
     else mset n (fun m => { m with h2f := splice m.h2f (off % 0x100) (le 4 v.toNat) }) s)
  else if off = 0x20100 ∧ !spi then keyWord v s
  else if off = 0x30000 then (if v.getLsbD 0 then snapTrigger s else s)
  else if 0x40000 ≤ off ∧ off < 0x50000 then emergWrite spi (off - 0x40000) v s
  else s

/-- A write of a word of the MSI-X table (R310, R313): address, data, or the mask of a vector. -/
def msixWrite (off : Nat) (v : Word) (s : State) : State :=
  if 0x200 ≤ off then s
  else if off % 16 = 12 then
    let b := BitVec.ofNat 32 (2 ^ (off / 16))
    { s with host := { s.host with vecMask := if v.getLsbD 0 then s.host.vecMask ||| b else s.host.vecMask &&& ~~~b } }
  else { s with host := { s.host with msix := s.host.msix.set (off / 4) v } }

/-- A host on PCI Express writes a word to an offset of a BAR (R8–R10, R310–R312): BAR 0 is the REG window, where a write that is not one aligned
word is dropped and logged; BAR 2 the BULK window, which takes no write; BAR 4 the MSI-X table. -/
def execRegisterWrite (target : Nat × Nat) (val : Word) (s : State) : Host.Outcome State Fault Refusal :=
  let bar := target.1
  let off := target.2
  ok (if !pcieUp s then s
      else match bar with
        | 0 => if off % 4 ≠ 0 then aerUnsupported 0 off s else regWrite false off val s
        | 4 => if off % 4 ≠ 0 then s else msixWrite off val s
        | _ => aerUnsupported bar off s)

/-! ### SPI management port (R324–R326) -/

/-- SPI_STATUS (R326). -/
def spiByte (s : State) : Byte :=
  BitVec.ofNat 8 (b2n (mget s 14).f2hFull + 2 * b2n (mget s 14).h2fFull + 4 * s.host.spiSticky.toNat + 64 * b2n s.dev.mpcReady)

/-- What the port sends in a transaction: SPI_STATUS, then the bytes given. -/
def spiSend (bs : List Byte) (s : State) : State := { s with host := { s.host with miso := spiByte s :: bs } }

/-- Registers that SPI reaches (R325). -/
def spiReach (off : Nat) : Bool :=
  off % 4 = 0 && (off < 0x1000 || (0x1380 ≤ off && off < 0x13C0) || (0x20000 ≤ off && off < 0x50000))

/-- STATUS: bits 2 to 5 clear at the rise of CS_N. -/
def execSpiStatus (s : State) : Host.Outcome State Fault Refusal :=
  ok (if !spiUp s then s else (let s := spiSend [] s; { s with host := { s.host with spiSticky := 0 } }))

/-- REG_READ; the value of the dummy byte is free (log 14). -/
def execSpiRegRead (off count : Nat) (s : State) : Host.Outcome State Fault Refusal :=
  let dummy : Byte := (Config.freeWord s.free).setWidth 8
  let ws := (List.range count).flatMap (fun i => be 4 (regRead s (off + 4 * i)).toNat)
  let good := 1 ≤ count && count ≤ 64 && (List.range count).all (fun i => spiReach (off + 4 * i))
  ok (if !spiUp s then s
      else if good then { (spiSend (dummy :: ws ++ be 2 (crc16 ws).toNat) s) with free := s.free + 1 }
      else { (spiSend [dummy, 0xE4#8] s) with free := s.free + 1 })

/-- REG_WRITE; a doorbell of MBX14 that is rejected shows it in the result byte (R315, R316). -/
def execSpiRegWrite (off : Nat) (val : Word) (crc : BitVec 16) (s : State) : Host.Outcome State Fault Refusal :=
  let len := val.toNat % 512
  ok (if !spiUp s then s
      else if crc16 (be 3 off ++ be 4 val.toNat) ≠ crc then spiSend [0xE2#8] s
      else if !spiReach off then spiSend [0xE4#8] s
      else if off = 0x1384 ∧ (len = 0 ∨ 256 < len) then mbxReject 14 2 (spiSend [0xE3#8] s)
      else if off = 0x1384 ∧ (mget s 14).h2fFull then spiSend [0xE1#8] s
      else regWrite true off val (spiSend [0x5A#8] s))

/-- H2F_WRITE: CRC, then length, then H2F_FULL; one that ends before its last byte has no effect. -/
def execSpiH2fWrite (len : Nat) (payload : List Byte) (crc : BitVec 16) (s : State) : Host.Outcome State Fault Refusal :=
  ok (if !spiUp s then s
      else if payload.length ≠ len then spiSend [] s
      else if crc16 (be 2 len ++ payload) ≠ crc then spiSend [0xE2#8] s
      else if len = 0 ∨ 256 < len then spiSend [0xE3#8] s
      else if (mget s 14).h2fFull then spiSend [0xE1#8] s
      else h2fPost 14 len (mset 14 (fun m => { m with h2f := payload }) (spiSend [0x5A#8] s)))

/-- F2H_READ. -/
def execSpiF2hRead (s : State) : Host.Outcome State Fault Refusal :=
  let bs := f2hBytes (mget s 14)
  let x := be 2 bs.length ++ bs
  ok (if !spiUp s then s else spiSend (x ++ be 2 (crc16 x).toNat) s)

/-- F2H_ACK. -/
def execSpiF2hAck (s : State) : Host.Outcome State Fault Refusal :=
  ok (if !spiUp s then s else if (mget s 14).f2hFull then f2hAck 14 (spiSend [0x5A#8] s) else spiSend [0xE5#8] s)

/-- SESSION_END: a sender reset of MBX14. -/
def execSpiSessionEnd (s : State) : Host.Outcome State Fault Refusal :=
  ok (if !spiUp s then s else senderReset 14 (spiSend [0x5A#8] s))

/-- 10 s without a transaction while a session is open (R322). -/
def execSpiSessionIdleTimeout (s : State) : Host.Outcome State Fault Refusal :=
  ok (if sessionOf s 14 then senderReset 14 s else s)

end Sys2Proof.Machine
end

