-- ==== Sys2Proof/Machine/Station.lean ====
section
/-! DEFINITION. The station ports (R229–R251): classification, sampled values, GOOSE, PRP pairs, the mailbox transport and
link states. Instants in units of 2^-32 ns of converter time. -/

namespace Sys2Proof.Machine

/-! ### Ports and pairs (R229, R232, R243–R246) -/

/-- Station port `p`. -/
def stp (s : State) (p : Nat) : StPort := s.stn.ports.get p {}
/-- Change station port `p`. -/
def setStp (p : Nat) (f : StPort → StPort) (s : State) : State := { s with stn := { s.stn with ports := s.stn.ports.upd p {} f } }

/-- FUNCTIONS of a port: 0 SV, 1 GOOSE, 2 PTP, 3 MAILBOX, 4 SAFETY. -/
def portServes (s : State) (p f : Nat) : Bool := (parN s 0x30 p 6).testBit f

/-- A discarded frame is counted (R233). -/
def stDiscard (p : Nat) (s : State) : State := setStp p (fun x => { x with discards := x.discards + 1 }) s

/-- A frame leaves on every port of a mask, once for a pair (R244). -/
def maskSend (mask : Nat) (dst : BitVec 48) (tag : Nat → Option (BitVec 16)) (et : Nat) (body : TxBody) (s : State) : State :=
  ((List.range 8).filter (fun p => mask.testBit p && !(inPair s p && p % 2 = 1 && mask.testBit (p - 1)))).foldl
    (fun s p => { s with stn := stSend p dst tag et body s }) s

/-- Duplicate discard (R245): a copy that was seen within 400 ms, else a new entry. -/
def dupSeen (s : State) (q src sq : Nat) : Bool :=
  (s.stn.dup.get q []).any (fun x => x.1 = src && x.2.1 = sq && s.now - x.2.2 ≤ 160000000)

/-- A first copy enters the table, which evicts its oldest entry when it is full. -/
def dupEnter (q src sq : Nat) (s : State) : State :=
  let live := (s.stn.dup.get q []).filter (fun x => s.now - x.2.2 ≤ 160000000)
  let full := 1024 ≤ live.length
  { s with stn := { s.stn with dup := s.stn.dup.set q ((src, sq, s.now) :: live.take 1023),
                               evicted := if full then s.stn.evicted.upd q 0 (· + 1) else s.stn.evicted } }

/-- EtherType of safety telegrams (R247). -/
def safetyType (s : State) : Nat := parN s 0x66 0 0

/-- A trailer is valid (R244, R245): its LanId, its suffix, and LSDUsize as the frame's. -/
def rctOk (f : StFrame) (r : Rct) : Bool := (r.lanId = 0xA || r.lanId = 0xB) && r.suffix = 0x88FB && r.size = f.lsdu

/-- The trailer of a frame on a pair is judged (R245): whether the frame is delivered. PTP carries none (R244), and safety
frames take no part in duplicate discard (R247). -/
def prpTrailer (p : Nat) (f : StFrame) (s : State) : Bool × State :=
  match inPair s p && f.etherType ≠ 0x88F7, f.rct with
  | true, some r =>
    if !rctOk f r then (true, s)
    else
      let s := if r.lanId = 0xA + p % 2 then s else { s with stn := { s.stn with wrongLan := s.stn.wrongLan.upd (p / 2) 0 (· + 1) } }
      if f.etherType = safetyType s then (true, s)
      else if dupSeen s (p / 2) f.srcMac.toNat r.seqNr.toNat then (false, s)
      else (true, dupEnter (p / 2) f.srcMac.toNat r.seqNr.toNat s)
  | _, _ => (true, s)

/-! ### Sampled values (R234–R238) -/

/-- Sampled-value stream `k`. -/
def svGet (s : State) (k : Nat) : Sv := s.stn.svs.get k {}
/-- Store a stream. -/
def svSet (k : Nat) (x : Sv) (s : State) : State := { s with stn := { s.stn with svs := s.stn.svs.set k x } }

/-- Streams of the plate. -/
def svDefs (s : State) : SMap SvDef := match s.cfg.plate with | some p => p.svs | none => []

/-- Sample instant of an ASDU that arrives now (R235, R268); the manual gives smpSynch above 2 no instant (log 14). -/
def svInstant (s : State) (d : SvDef) (a : Asdu) : Rat :=
  let ct : Rat := (ctNow s : Rat)
  if a.smpSynch = 0 then ct - (d.latency * 10 * 2 ^ 32 : Nat)
  else if a.smpSynch ≤ 2 then
    let t : Rat := ((s.time.dom d.domain).ctr.toNat : Rat)
    let off : Rat := (a.smpCnt : Rat) * (secUnits : Rat) / (d.rate : Rat)
    let top : Int := rhe ((t - off) / (secUnits : Rat)) * (secUnits : Int)
    (top : Rat) + off + ct - t
  else ct + ((Config.freeWord s.free).toInt : Rat) * ((2 ^ 32 : Nat) : Rat)

/-- An ASDU of stream `k` (R235). -/
def svAsdu (k : Nat) (d : SvDef) (a : Asdu) (s : State) : State :=
  let x := svGet s k
  if a.confRev ≠ d.confRev then
    (if x.confRaised then s else raise 277 (be 1 k) (svSet k { x with confRaised := true } s))
  else
    let gap := match x.lastCnt with | some c => decide (a.smpCnt ≠ (c + 1) % d.rate) | none => false
    let x := { x with buf := (svInstant s d a, a.qtys, gap) :: x.buf, lastCnt := some a.smpCnt, synch := a.smpSynch,
                      unsynced := a.smpSynch = 0, gaps := if gap then x.gaps + 1 else x.gaps, arrival := stampOf s.time.ct }
    svSet k x { s with free := if 2 < a.smpSynch then s.free + 1 else s.free }

/-- An ASDU belongs to a stream (R233, R234). -/
def svMatch (p : Nat) (dst : BitVec 48) (appid : Nat) (a : Asdu) (d : SvDef) : Bool :=
  d.ports.testBit p && d.dst = dst && d.appid = appid && d.svId = a.svId

/-- A sampled-value frame (R233): its ASDUs go to the streams they match; a frame that matches none is discarded. -/
def svFrame (p : Nat) (dst : BitVec 48) (appid : Nat) (asdus : List Asdu) (s : State) : State :=
  if asdus.all (fun a => (svDefs s).all (fun x => !svMatch p dst appid a x.2)) then stDiscard p s
  else asdus.foldl (fun s a => ((svDefs s).filter (fun x => svMatch p dst appid a x.2)).foldl (fun s x => svAsdu x.1 x.2 a s) s) s

/-- Valid quality of a quantity (R236). -/
def svGood (d : SvDef) (q : SvQty) : Bool := (q.validity = 0 || q.validity = 3) && (!q.test || d.acceptTest)

/-- One quantity of a stream at an alignment instant: its value, FLAGS, and whether the instant is bracketed. -/
structure SvVal where
  value   : Int
  flags   : Nat := 0
  lost    : Bool := false
  bracket : Bool := false
deriving DecidableEq, Repr

/-- The newest sample at or before an instant with valid quality, with the sample after it. -/
def svFind (d : SvDef) (q : Nat) (ta : Rat) : Option (Rat × List SvQty × Bool) → List (Rat × List SvQty × Bool) →
    Option ((Rat × SvQty) × Option (Rat × List SvQty × Bool))
  | _, [] => none
  | next, x :: xs =>
    if x.1 ≤ ta && svGood d (x.2.1.getD q { value := 0, validity := 1 }) then some ((x.1, x.2.1.getD q { value := 0 }), next)
    else svFind d q ta (some x) xs

/-- QUALITY of a questionable sample. -/
def svQual (q : SvQty) : Nat := if q.validity = 3 then 4 else 0

/-- Quantity `q` at `ta` (R236). -/
def svQuantity (d : SvDef) (x : Sv) (q : Nat) (ta : Rat) : SvVal :=
  let held := x.held.getD q 0
  match svFind d q ta none x.buf, x.buf with
  | some ((tk, a), next), (tn, _) :: _ =>
    let after_ : Option (Rat × SvQty) := match next with
      | some (t1, qs, gap) =>
        let b := qs.getD q { value := 0, validity := 1 }
        if !gap && svGood d b then some (t1, b) else none
      | none => none
    if (d.timeout : Rat) * (secUnits : Rat) / (d.rate : Rat) < ta - tn then { value := held, flags := 16, lost := true }
    else if d.hold then { value := a.value, flags := svQual a, bracket := after_.isSome }
    else match after_ with
      | some (t1, b) =>
        { value := rhe ((a.value : Rat) + ((b.value : Rat) - (a.value : Rat)) * (ta - tk) / (t1 - tk)),
          flags := svQual a ||| svQual b, bracket := true }
      | none => { value := a.value, flags := svQual a ||| (if next.isSome then 2 else 1) }
  | _, _ => { value := held, flags := 16, lost := true }

/-- A graph input frozen at the cutoff, from exact values, with its limits (R60). -/
def setInput (k : Nat) (xs : List Rat) (s : State) : State :=
  let lim : Int × Int := match s.cfg.plate with | some p => p.inLims.get k (-128, 127) | none => (-128, 127)
  { s with graph := { s.graph with inputs := s.graph.inputs.set k (outPlain 24 lim.1 lim.2 xs) } }

/-- One stream at the cutoff freeze (R236–R238); the age of a stream that has received nothing is free (log 14). -/
def svCutoff (k : Nat) (d : SvDef) (s : State) : State :=
  let x := svGet s k
  let start : Rat := (cycleStartCt s s.cyc.n : Rat)
  let ta : Rat := start - (d.delay * 10 * 2 ^ 32 : Nat)
  let qs := d.groups.flatten
  let vs := qs.map (fun q => (q, svQuantity d x q ta))
  let lost := if x.lost then !(vs.all (fun v => v.2.bracket)) else vs.any (fun v => v.2.lost)
  let vs := vs.map (fun v => if lost then (v.1, { v.2 with value := x.held.getD v.1 0, flags := 16 }) else v)
  let held := vs.foldl (fun h v => putAt h v.1 v.2.value) x.held
  let flags := (vs.map (fun v => v.2.flags)).foldl (· ||| ·) 0 ||| (if x.unsynced then 8 else 0)
  let age : Int := match x.buf with
    | y :: _ => min 65535 (rhe ((start - y.1) / (1000 * 2 ^ 32 : Nat)))
    | [] => (Config.freeWord s.free).toNat % 65536
  let s := { s with free := if x.buf.isEmpty then s.free + 1 else s.free }
  let s := svSet k { x with lost := lost, held := held } s
  let s := d.groups.zipIdx.foldl (fun s g => setInput (0x0200 + 4 * k + g.2) (g.1.map (fun q => ((held.getD q 0 : Int) : Rat))) s) s
  setInput (0x0203 + 4 * k) [(b2n (!lost) : Nat), (age : Rat), (flags : Nat), (x.synch : Nat)] s

/-- Every stream at the cutoff; FLT_SV_LOST follows the lost streams. -/
def svAll (s : State) : State :=
  let before := s.stn.svs
  let s := (svDefs s).foldl (fun s d => svCutoff d.1 d.2 s) s
  let lost := s.stn.svs.filter (fun x => x.2.lost)
  let fresh := lost.filter (fun x => !(before.get x.1 {}).lost)
  match fresh with
  | x :: _ => raise 276 (be 1 x.1) s
  | [] => if lost.isEmpty then clear 276 s else s

/-! ### GOOSE (R239–R242) -/

/-- Subscriptions of the plate. -/
def gooseDefs (s : State) : SMap GooseSubDef := match s.cfg.plate with | some p => p.gooseSubs | none => []

/-- Subscription `k`. -/
def subGet (s : State) (k : Nat) : GooseSub := s.stn.subs.get k {}
/-- Store a subscription. -/
def subSet (k : Nat) (x : GooseSub) (s : State) : State := { s with stn := { s.stn with subs := s.stn.subs.set k x } }

/-- FLT_GOOSE_LOST clears when no subscription is lost. -/
def gooseClear (s : State) : State := if s.stn.subs.any (fun x => x.2.lost) then s else clear 278 s

/-- A message that matches subscription `k` (R240). -/
def gooseMatch (k : Nat) (d : GooseSubDef) (g : GooseMsg) (s : State) : State :=
  let x := subGet s k
  if g.confRev ≠ d.confRev then
    (if x.confRaised then s else raise 279 (be 1 k) (subSet k { x with confRaised := true } s))
  else if g.simulation && !d.acceptTest then subSet k { x with discards := x.discards + 1 } s
  else if x.seen && g.stNum = x.stNum && !after 32 g.sqNum.toNat x.sqNum.toNat then s
  else
    let restart := x.seen && g.stNum ≠ x.stNum && !after 32 g.stNum.toNat x.stNum.toNat
    gooseClear (subSet k { x with
      seen := true, stNum := g.stNum, sqNum := g.sqNum, ttl := g.ttl, lost := false, pend := x.pend ++ [g],
      restarts := if restart then x.restarts + 1 else x.restarts } s)

/-- Published blocks of the plate. -/
def pubDefs (s : State) : SMap GoosePubDef := match s.cfg.plate with | some p => p.goosePubs | none => []

/-- A follower keeps the highest stNum of its twin's block (R242). -/
def pubHeard (k : Nat) (g : GooseMsg) (s : State) : State :=
  { s with stn := { s.stn with pubs := s.stn.pubs.upd k {} (fun x => { x with heard := if x.heard.toNat < g.stNum.toNat then g.stNum else x.heard }) } }

/-- A message matches a subscription (R233, R239). -/
def gooseSub (p : Nat) (dst : BitVec 48) (g : GooseMsg) (d : GooseSubDef) : Bool :=
  d.ports.testBit p && d.dst = dst && d.appid = g.appid && d.gocbRef = g.gocbRef && d.datSet = g.datSet

/-- A message is one of the twin's ACTIVE_ONLY blocks on a follower (R242). -/
def gooseTwin (s : State) (p : Nat) (dst : BitVec 48) (g : GooseMsg) (d : GoosePubDef) : Bool :=
  follower s && !d.always && d.ports.testBit p && d.dst = dst && d.appid = g.appid && d.gocbRef = g.gocbRef && d.datSet = g.datSet

/-- A GOOSE message on a port (R233, R239, R240), or one of the twin's blocks (R242). -/
def gooseReceive (p : Nat) (dst : BitVec 48) (g : GooseMsg) (s : State) : State :=
  let subs := (gooseDefs s).filter (fun x => gooseSub p dst g x.2)
  let twins := (pubDefs s).filter (fun x => gooseTwin s p dst g x.2)
  if subs.isEmpty && twins.isEmpty then stDiscard p s
  else subs.foldl (fun s x => gooseMatch x.1 x.2 g s) (twins.foldl (fun s x => pubHeard x.1 g s) s)

/-- timeAllowedToLive runs out (R240). -/
def execGooseTimeout (sub : Nat) (s : State) : Host.Outcome State Fault Refusal :=
  let x := subGet s sub
  unit (sub < 128) (if x.seen && !x.lost then raise 278 (be 1 sub) (subSet sub { x with lost := true } s) else s)

/-- A member as a number (R239). -/
def gooseNum (v : GooseVal) : Rat :=
  match v with
  | .bool b => (b2n b : Nat)
  | .int32 x => (x : Rat)
  | .float32 m e => (m : Rat) * pow2 e
  | .dbpos x => (x % 4 : Nat)
  | .quality x => (x % 8192 : Nat)

/-- One message applies (R240). -/
def gooseApply (x : GooseSub) (g : GooseMsg) : GooseSub :=
  { x with valid := !g.ndsCom, vals := if g.ndsCom then x.vals else g.members,
           flags := b2n g.ndsCom + 2 * b2n g.test + 4 * b2n g.simulation }

/-- One subscription at the cutoff freeze (R239, R240). -/
def gooseCutoff (k : Nat) (d : GooseSubDef) (s : State) : State :=
  let x := (subGet s k).pend.foldl gooseApply (subGet s k)
  let x := { x with pend := [], valid := x.valid && !x.lost }
  let s := d.groups.zipIdx.foldl (fun s g =>
    setInput (0x0300 + 4 * k + g.2) (g.1.map (fun m => match x.vals[m]? with | some v => gooseNum v | none => 0)) s) (subSet k x s)
  setInput (0x0303 + 4 * k) [(b2n x.valid : Nat), (x.stNum.toNat % 8388608 : Nat), (x.flags : Nat)] s

/-- Every subscription at the cutoff. -/
def gooseAll (s : State) : State := (gooseDefs s).foldl (fun s d => gooseCutoff d.1 d.2 s) s

/-- A member of a published dataset (R241). -/
def pubVal (s : State) (x : PubSrc × PubFmt) : GooseVal :=
  let w : ElemWord := match x.1 with
    | .node n el => elemWord (nodeExport s n none) el
    | .state n k el => elemWord (nodeExport s n (some k)) el
    | .devState => { m := s.dev.state.code, e := 23 }
    | .phase => { m := s.dev.phase.code, e := 23 }
    | .role => { m := s.tan.role.code, e := 23 }
  match x.2 with
  | .int32 => .int32 (clampI (-2147483648) 2147483647 (rhe (ewVal w)))
  | .float32 => .float32 w.m (w.e - 23)
  | .bool => .bool (w.m ≠ 0)

/-- The unit sends a block (R242). -/
def maySend (s : State) (d : GoosePubDef) : Bool := d.always || !follower s

/-- Store a published block. -/
def setPub (k : Nat) (x : GoosePub) (s : State) : State := { s with stn := { s.stn with pubs := s.stn.pubs.set k x } }

/-- A block's message leaves on its ports, with PUB_VLAN's tag (R229, R241). -/
def pubSend (k : Nat) (d : GoosePubDef) (x : GoosePub) (s : State) : State :=
  maskSend d.ports d.dst (fun p => some (BitVec.ofNat 16 (parN s 0x30 p 12))) 0x88B8 (.goose k x.stNum x.sqNum x.ttl (x.sent.getD []))
    (setPub k { x with messages := x.messages + 1 } s)

/-- One block at a launch tick (R241, R242): a change is sent, and its retransmissions start. -/
def pubLaunch (k : Nat) (d : GoosePubDef) (s : State) : State :=
  let x := s.stn.pubs.get k {}
  let vs := d.members.map (pubVal s)
  if !maySend s d || x.sent = some vs then s
  else pubSend k d { x with sent := some vs, stNum := x.stNum + 1, sqNum := 0, interval := d.t1, ttl := 2 * d.t1 } s

/-- Every block at a launch tick. -/
def publish (s : State) : State := (pubDefs s).foldl (fun s d => pubLaunch d.1 d.2 s) s

/-- A retransmission falls due (R241). -/
def execGooseRetransmit (pub : Nat) (s : State) : Host.Outcome State Fault Refusal :=
  let x := s.stn.pubs.get pub {}
  unit (pub < 32)
    (match (pubDefs s).find pub with
     | some d =>
       if !maySend s d || x.sent.isNone then s
       else
        let iv := min (2 * x.interval) (d.t0 * 1000)
        pubSend pub d { x with sqNum := x.sqNum + 1, interval := iv, ttl := 2 * iv } s
     | none => s)

/-! ### Mailbox transport (R248–R251) -/

/-- SESSION_TAG of the next binding: never 0 (R249, log 8). -/
def newTag (s : State) : Word := let t := Config.sessionTag s.stn.bindCount; if t = 0 then 1 else t

/-- The binding a datagram names (R250). -/
def bindOf (s : State) (d : Datagram) : Option (Nat × Bind) :=
  s.stn.binds.find? (fun x => x.2.host = d.host && x.2.udp = d.udpPort && x.2.tag = d.sessionTag)

/-- The lowest free mailbox of MBX8 to MBX13. -/
def freeMbx (s : State) : Option Nat := [8, 9, 10, 11, 12, 13].find? (fun n => (s.stn.binds.find n).isNone)

/-- A rejection goes to a datagram's sender. -/
def udpReject (p : Nat) (d : Datagram) (st : Status) (s : State) : State :=
  udpSend { host := d.host, udp := d.udpPort, tag := d.sessionTag, port := p, mac := d.mac } .reject st d.mbx d.seq [] s

/-- OPEN (R250). -/
def udpOpen (p : Nat) (d : Datagram) (s : State) : State :=
  match freeMbx s with
  | none => udpReject p d .noMailbox s
  | some n =>
    let b : Bind := { host := d.host, udp := d.udpPort, tag := newTag s, port := p, mac := d.mac }
    let s := mset n (fun m => { m with sessTag := b.tag })
      { s with stn := { s.stn with binds := s.stn.binds.set n b, bindCount := s.stn.bindCount + 1 } }
    let s := udpSend b .openAck .ok n 0 [] s
    if s.stn.lostHosts.contains d.host then
      udpSend b .sessionReset .ok n 0 [] { s with stn := { s.stn with lostHosts := s.stn.lostHosts.filter (· ≠ d.host) } }
    else s

/-- H2F_DATA on a binding (R250). -/
def udpData (p n : Nat) (b : Bind) (d : Datagram) (s : State) : State :=
  if d.length = 0 ∨ 256 < d.length ∨ d.length ≠ d.payload.length then udpReject p d .length s
  else if d.seq = b.h2fSeq + 1 then
    (if (mget s n).h2fFull then udpReject p d .mbxFull s
     else h2fPost n d.length (mset n (fun m => { m with h2f := d.payload })
       { s with stn := { s.stn with binds := s.stn.binds.set n { b with h2fSeq := d.seq, taken := false } } }))
  else if d.seq = b.h2fSeq then
    (if b.taken then udpSend b .empty (if (mget s n).emptyStatus then .flushed else .ok) n b.h2fSeq [] s else s)
  else udpReject p d .sequence s

/-- A binding is removed (R250). -/
def unbind (n : Nat) (s : State) : State :=
  mset n (fun m => { m with sessTag := 0 }) { s with stn := { s.stn with binds := s.stn.binds.del n } }

/-- A session of the transport is lost: a sender reset (R250, R251, R322). -/
def udpLost (n : Nat) (b : Bind) (s : State) : State :=
  let s := unbind n (senderReset n s)
  { s with stn := { s.stn with lostHosts := if s.stn.lostHosts.contains b.host then s.stn.lostHosts else s.stn.lostHosts ++ [b.host] } }

/-- A datagram for port 50741 (R248–R250). -/
def udpReceive (p : Nat) (d : Datagram) (s : State) : State :=
  if d.fragment || !s.dev.state.idleOn then s else
  let s := { s with stn := { s.stn with binds := s.stn.binds.mapVals (fun _ b => if b.host = d.host then { b with port := p, mac := d.mac } else b) } }
  match d.kind, bindOf s d with
  | .open, _ => udpOpen p d s
  | _, none => udpReject p d .noSession s
  | .h2fData, some (n, b) => udpData p n b d s
  | .f2hAck, some (n, b) =>
    if b.outstanding && d.seq = b.f2hSeq then
      f2hAck n { s with stn := { s.stn with binds := s.stn.binds.set n { b with outstanding := false, repeats := 0 } } }
    else s
  | .keepalive, some (n, b) => udpSend b .keepalive .ok n d.seq [] s
  | .close, some (n, _) => unbind n (senderEnd n false s)
  | _, some _ => s

/-- 20 ms have passed without an acknowledgement (R251): five repeats, then the session is lost. -/
def execF2hDataResend (mbx : Nat) (s : State) : Host.Outcome State Fault Refusal :=
  unit (mbx < 16)
    (match s.stn.binds.find mbx with
     | some b =>
       if !b.outstanding then s
       else if 5 ≤ b.repeats then udpLost mbx b s
       else udpSend b .f2hData .ok mbx b.f2hSeq (f2hBytes (mget s mbx))
        { s with stn := { s.stn with binds := s.stn.binds.set mbx { b with repeats := b.repeats + 1 } } }
     | none => s)

/-- 10 s without a datagram from the host (R251). -/
def execUdpSessionTimeout (mbx : Nat) (s : State) : Host.Outcome State Fault Refusal :=
  unit (mbx < 16) (match s.stn.binds.find mbx with | some b => udpLost mbx b s | none => s)

/-! ### Reception (R231, R233) -/

/-- Frames for the MPC are limited to 2,000 a second per port and kind (R233): whether this one passes. -/
def rateTake (p k : Nat) (s : State) : Bool × State :=
  let sec := s.now / 400000000
  let x := stp s p
  let n := if x.rateSec = sec then x.rateCount.get k 0 else 0
  let cs := if x.rateSec = sec then x.rateCount else []
  if n < 2000 then (true, setStp p (fun x => { x with rateSec := sec, rateCount := cs.set k (n + 1) }) s)
  else (false, setStp p (fun x => { x with rateSec := sec, rateCount := cs, discards := x.discards + 1 }) s)

/-- The port has an address for the mailbox transport (R229). -/
def hasAddress (s : State) (p : Nat) : Bool := par s 0x30 p 10 ≠ 0

/-- A function's frame on a port that does not serve it is discarded and counted (R233). -/
def portDoes (p f : Nat) (act : State → State) (s : State) : State := if portServes s p f then act s else stDiscard p s

/-- A frame of the mailbox function reaches the MPC (R233). -/
def toMpc (p k : Nat) (act : State → State) (s : State) : State :=
  if !portServes s p 3 || !hasAddress s p then stDiscard p s
  else (let (pass, s) := rateTake p k s; if pass then act s else s)

/-- Number of a field sent most significant byte first. -/
def beNat (bs : List Byte) (i n : Nat) : Nat := ((bs.drop i).take n).foldl (fun a b => a * 256 + b.toNat) 0

/-- A datagram's header and PAYLOAD (R249); a payload shorter than the header is none. -/
def datagramOf (mac : BitVec 48) (u : UdpFrame) : Option Datagram :=
  if u.bytes.length < 16 then none
  else some { kind := udpKindOf (beNat u.bytes 0 1), host := u.host, udpPort := u.udpPort, mac := mac, mbx := beNat u.bytes 2 1,
              seq := BitVec.ofNat 32 (beNat u.bytes 4 4), sessionTag := BitVec.ofNat 32 (beNat u.bytes 8 4), length := beNat u.bytes 12 2,
              payload := u.bytes.drop 16, fragment := u.fragment }

/-- An ARP request or an ICMP echo request is answered on the port it came by (R248). -/
def answerOn (p : Nat) (dst : BitVec 48) (et : Nat) (body : TxBody) (s : State) : State :=
  setStp p (fun x => { x with icmpArp := x.icmpArp + 1 }) { s with stn := stSend p dst (fun _ => none) et body s }

/-- IPV4_ADDR of a port. -/
def ownIp (s : State) (p : Nat) : Nat := parN s 0x30 p 10

/-- The frame is a safety telegram for the safety pair, on a port of it (R233, R247). -/
def safetyFrame (s : State) (p : Nat) (f : StFrame) : Bool :=
  (match s.cfg.plate with | some pl => pl.safetyPair = some (p / 2) && inPair s p | none => false) && portServes s p 4 &&
    f.dst.toNat = parN s 0x66 0 2

/-- Classification by EtherType and content (R233, R247). The EtherType of safety telegrams is looked at first. -/
def classify (p : Nat) (f : StFrame) (s : State) : State :=
  if f.etherType = safetyType s then
    match f.payload with
    | .safety b =>
      if safetyFrame s p f then telegramCopy (p % 2) b { s with stn := { s.stn with safetyCount := s.stn.safetyCount + 1 } }
      else stDiscard p s
    | _ => stDiscard p s
  else match f.etherType, f.payload with
    | 0x88BA, .sv appid asdus => portDoes p 0 (svFrame p f.dst appid asdus) s
    | 0x88B8, .goose g => portDoes p 1 (gooseReceive p f.dst g) s
    | 0x88F7, .ptp m => portDoes p 2 (fun s => if f.dst = ptpDst m.kind then ptpReceive p m s else stDiscard p s) s
    | 0x0800, .udp u =>
      if u.dstIp = ownIp s p && u.dstPort = 50741 then
        toMpc p 0 (fun s => match datagramOf f.srcMac u with | some d => udpReceive p d s | none => stDiscard p s) s
      else stDiscard p s
    | 0x0800, .icmpEcho src dst data =>
      if dst = ownIp s p then toMpc p 2 (answerOn p f.srcMac 0x0800 (.icmpReply src data)) s else stDiscard p s
    | 0x0806, .arp src target =>
      if target = ownIp s p then toMpc p 1 (answerOn p f.srcMac 0x0806 (.arpReply src)) s else stDiscard p s
    | 0x88FB, .prpSupervision => if inPair s p then s else stDiscard p s
    | _, _ => stDiscard p s

/-- Address of PRP supervision frames (R246). -/
def supAddr : BitVec 48 := 0x01154E000100

/-- A frame's destination is the port's MAC_ADDR, a broadcast, or a multicast that a subscription, the safety pair or PTP
names (R233); a port of a pair takes supervision frames too (R246). -/
def dstNamed (s : State) (p : Nat) (d : BitVec 48) : Bool :=
  d.toNat = parN s 0x30 p 8 || d = 0xFFFFFFFFFFFF ||
    (d.getLsbD 40 &&
      ((svDefs s).any (fun x => x.2.dst = d) || (gooseDefs s).any (fun x => x.2.dst = d) || (pubDefs s).any (fun x => x.2.dst = d) ||
        d.toNat = parN s 0x66 0 2 || d = 0x011B19000000 || d = 0x0180C200000E || (inPair s p && d = supAddr)))

/-- A frame is received on a station port (R231, R233, R245, R246). -/
def execStationFrameReceived (p : Nat) (f : StFrame) (t : Nat) (s : State) : Host.Outcome State Fault Refusal :=
  let s := advanceTo t s
  unit (p < 8)
    (if !(stp s p).up || !s.dev.state.idleOn then s
     else if 1522 < f.len then setStp p (fun x => { x with long := x.long + 1 }) s
     else if 1 < f.tags then setStp p (fun x => { x with tagged := x.tagged + 1 }) s
     else if !f.fcsGood then setStp p (fun x => { x with badFcs := x.badFcs + 1 }) s
     else if f.len < 64 then s
     else match f.payload with
      | .pause => setStp p (fun x => { x with pauses := x.pauses + 1 }) s
      | _ =>
        let s := setStp p (fun x => { x with rxFrames := x.rxFrames + 1 }) s
        let s := if inPair s p then clear (260 + p) s else s
        if !dstNamed s p f.dst then s else (let (pass, s) := prpTrailer p f s; if pass then classify p f s else s))

/-- A pair sends its supervision frame (R246). -/
def execPrpSupervisionSend (pair : Nat) (s : State) : Host.Outcome State Fault Refusal :=
  unit (pair < 2)
    (if pairOn s pair then
      { s with stn := { stSend (2 * pair) supAddr (fun _ => none) 0x88FB .prpSupervision s with prpSup := s.stn.prpSup.upd pair 0 (· + 1) } }
     else s)

/-- A LAN of a pair has been silent for 4.00 s while the other received (R246). -/
def execPrpLanSilent (pair lan : Nat) (s : State) : Host.Outcome State Fault Refusal :=
  unit (pair < 2 && lan < 2) (if pairOn s pair then raise (260 + 2 * pair + lan) (be 1 pair ++ be 1 lan) s else s)

/-- A port loses its link (R232). -/
def portDown (p : Nat) (s : State) : State := if (stp s p).up then raise (252 + p) (be 1 p) (linkDown p s) else s

/-- A station port's link goes down. -/
def execStationLinkDown (p : Nat) (s : State) : Host.Outcome State Fault Refusal := unit (p < 8) (portDown p s)

/-- A station port's link comes up (R22, R229, R232): from IDLE on, where the port is not OFF and PLL-B is locked. -/
def execStationLinkUp (p : Nat) (s : State) : Host.Outcome State Fault Refusal :=
  unit (p < 8)
    (if (stp s p).up || par s 0x30 p 0 = 0 || !s.dev.state.idleOn || !s.clk.locked.getD 3 false then s
     else portChange (32 + p) 1 (clear (252 + p) (setStp p (fun x => { x with up := true }) s)))

/-- At the lock-through of a whole plate a port whose MODE changes drops its link (R229). -/
def remode (old : Nat → Int) (s : State) : State :=
  (List.range 8).foldl (fun s p =>
    if par s 0x30 p 0 = old p then s else if par s 0x30 p 0 = 0 then clear (252 + p) (linkDown p s) else portDown p s) s

end Sys2Proof.Machine
end

