-- ==== Sys2Proof/Machine/Pulse.lean ====
section
/-! DEFINITION. The pulse engine (R291–R308): shadow values, period starts, dead time and minimum pulse, trips, the mask
and synchronisation. Positions in edge units (eu) of the pulse clock, 64 to a tick. -/

namespace Sys2Proof.Machine

/-- Pulse channel `c`. -/
def pch (s : State) (c : Nat) : Pch := s.pul.ch.get c {}
/-- Store a pulse channel. -/
def setPch (c : Nat) (x : Pch) (s : State) : State := { s with pul := { s.pul with ch := s.pul.ch.set c x } }
/-- A parameter of a channel (R293). -/
def pchPar (s : State) (c item : Nat) : Nat := parN s 0x20 c item
/-- The position of the current tick. -/
def euNow (s : State) : Nat := s.now * 64

/-! ### Counter and raw signal (R296, R297) -/

/-- Counter value at a position. -/
def Pch.ctr (x : Pch) (t : Nat) : Nat := x.k0 + (t - x.p0)
/-- on_eff. -/
def Pch.onEff (x : Pch) : Nat := min x.cmpOn x.period
/-- off_eff. -/
def Pch.offEff (x : Pch) : Nat := min x.cmpOff x.period
/-- The raw signal r. -/
def Pch.raw (x : Pch) (t : Nat) : Bool := x.running && x.onEff ≤ x.ctr t && x.ctr t < x.offEff

/-- The raw signal at a position that may lie before the last restart (R299). -/
def Pch.rawAt (x : Pch) (t : Nat) : Bool :=
  if x.p0 ≤ t then x.raw t
  else match x.before with | some (p, k, on, off) => x.running && on ≤ k + (t - p) && k + (t - p) < off | none => false

/-- The reference moves to a position (R296, R302). -/
def Pch.restart (t k : Nat) (x : Pch) : Pch := { x with before := some (x.p0, x.k0, x.onEff, x.offEff), p0 := t, k0 := k }

/-! ### Outputs (R291, R298, R301, R306) -/

/-- What the output rule reads of a channel's parameters. -/
structure PulPar where
  enA     : Bool
  enB     : Bool
  dead    : Nat
  minP    : Nat
  stretch : Bool
  aOff    : Bool
deriving DecidableEq, Repr

/-- The parameters of channel `c`. -/
def pulPar (s : State) (c : Nat) : PulPar :=
  { enA := pchPar s c 0 = 1, enB := pchPar s c 1 = 1, dead := pchPar s c 6, minP := pchPar s c 8, stretch := pchPar s c 10 = 1,
    aOff := pchPar s c 14 = 1 }

/-- The level of an output's pins: on, and not held off by the role (R291, R306). -/
def poLevel (s : State) (x : Pch) (b : Bool) : Bool := (if b then x.onB else x.onA) && !x.holdOff && s.tan.role == .active

/-- A trip with A_OFF lasts: r counts as fallen until the period ends (R300). -/
def Pch.fallen (P : PulPar) (x : Pch) : Bool := x.cutA && P.aOff

/-- t_end of output A or B at a position (R298); none is infinite. -/
def Pch.tEnd (P : PulPar) (x : Pch) (b : Bool) (t : Nat) : Option Nat :=
  let k := x.ctr t
  if b then
    if x.offEff ≤ x.onEff then none
    else if k < x.onEff && !x.fallen P then some (t + (x.onEff - k)) else some (t + (x.period - k) + x.onEff)
  else if x.offEff < x.period then some (t + (x.offEff - k))
  else if x.onEff = 0 then none else some (t + (x.period - k))

/-- What the outputs want at a position. -/
def Pch.wants (P : PulPar) (t : Nat) (x : Pch) : Pch :=
  let a := x.raw t && !x.fallen P
  let b := x.running && !a
  { x with wantA := a, wantB := b,
           tWantA := if a && !x.wantA then t else x.tWantA, tWantB := if b && !x.wantB then t else x.tWantB,
           blkA := x.blkA && a, blkB := x.blkB && b }

/-- One output turns off. -/
def Pch.off (b : Bool) (t : Nat) (x : Pch) : Pch :=
  if b then (if x.onB then { x with onB := false, tOffB := t } else x) else (if x.onA then { x with onA := false, tOffA := t } else x)

/-- The rule of R298 for an output that is off: whether it turns on, is swallowed, or is stretched. -/
def Pch.turnOn (P : PulPar) (masked b : Bool) (t : Nat) (x : Pch) : Pch × List Nat :=
  let want := if b then x.wantB else x.wantA
  let en := if b then P.enB else P.enA
  let blk := if b then x.blkB else x.blkA
  let cut := if b then x.cutB else x.cutA
  let other := if b then x.onA else x.onB
  let tw := if b then x.tWantB else x.tWantA
  let tOff := if b then x.tOffA else x.tOffB
  let go := if b then { x with onB := true, tOnB := t } else { x with onA := true, tOnA := t }
  if want && en && !blk && !cut && !masked && !other && tw + P.dead ≤ t && tOff + P.dead ≤ t then
    let long := match x.tEnd P b t with | some e => decide (P.minP ≤ e - t) | none => true
    if long then (go, [])
    else if P.stretch then ({ go with stretches := cnt32 x.stretches, stretched := true, evSince := x.evSince ||| 2 }, [6])
    else
      let y := if b then { x with blkB := true } else { x with blkA := true }
      ({ y with swallows := cnt32 x.swallows, swallowed := true, evSince := x.evSince ||| 1 }, [5])
  else (x, [])

/-- R298 for one output. -/
def Pch.output (P : PulPar) (masked b : Bool) (t : Nat) (x : Pch) : Pch × List Nat :=
  let on := if b then x.onB else x.onA
  let want := if b then x.wantB else x.wantA
  let tOn := if b then x.tOnB else x.tOnA
  if on then ((if !want && tOn + P.minP ≤ t then x.off b t else x), []) else x.turnOn P masked b t

/-- R298 for both outputs, the one that is on first. -/
def Pch.eval (P : PulPar) (mA mB : Bool) (t : Nat) (x : Pch) : Pch × List Nat :=
  let x := x.wants P t
  let bFirst := x.onB
  let (x, e1) := x.output P (if bFirst then mB else mA) bFirst t
  let (x, e2) := x.output P (if bFirst then mA else mB) (!bFirst) t
  (x, e1 ++ e2)

/-- A changed channel is stored, with its capture events in the order of their codes (R445). -/
def pulStore (c t ti : Nat) (old new : Pch) (evs : List Nat) (s : State) : State :=
  let lvl := fun (b : Bool) (on off : Nat) =>
    if poLevel s new b && !poLevel s old b then [on] else if poLevel s old b && !poLevel s new b then [off] else []
  let all := (lvl false 0 1 ++ lvl true 2 3 ++ evs).mergeSort (· ≤ ·)
  all.foldl (fun s e => capEdge c e (if e = 4 then ti else 0) t s) (setPch c new s)

/-- Step 6 of R304 for a running channel after its other steps. -/
def pulEval (c t ti : Nat) (old new : Pch) (evs : List Nat) (s : State) : State :=
  if !new.running then pulStore c t ti old new evs s
  else
    let (x, es) := new.eval (pulPar s c) (s.pul.mask.testBit (2 * c)) (s.pul.mask.testBit (2 * c + 1)) t
    pulStore c t ti old x (evs ++ es) s

/-! ### Shadow values (R295, R296, R301) -/

/-- FLT_PULSE_CLAMP at the first setting of a clamp flag (R307). -/
def clampFault (c : Nat) (old new : Pch) (s : State) : State :=
  if (new.perClamped && !old.perClamped) || (new.cmpClamped && !old.cmpClamped) then raise (232 + c) (be 1 c) s else s

/-- PULSE_NODE's output reaches the shadow registers at a launch tick (R295). -/
def shadowWrite (c : Nat) (s : State) : State :=
  let n := par s 0x20 c 2
  if n < 0 then s else
  let st := plainV (nodeOut s.graph.cur n.toNat)
  let v := fun i => rhe (st.el i).val
  let lo := par s 0x20 c 4
  let hi := par s 0x20 c 5
  let top : Int := 268435455
  let x := pch s c
  let pc := decide (v 0 < lo ∨ hi < v 0)
  let cc := decide (v 1 < 0 ∨ top < v 1 ∨ v 2 < 0 ∨ top < v 2)
  let t := euNow s
  let late := decide (t < x.vis)
  let y := { x with
    prevSh := if late then x.prevSh else (x.periodSh, x.onSh, x.offSh)
    prevLoad := if late then x.prevLoad else (x.prevLoad.1 || x.loadPer, x.prevLoad.2 || x.loadCmp)
    vis := t + 256
    periodSh := (clampI lo hi (v 0)).toNat, onSh := (clampI 0 top (v 1)).toNat, offSh := (clampI 0 top (v 2)).toNat
    loadPer := (v 3) % 2 = 1, loadCmp := (v 3) / 2 % 2 = 1
    perClamped := x.perClamped || pc, cmpClamped := x.cmpClamped || cc
    evSince := x.evSince ||| (if cc then 4 else 0) ||| (if pc then 8 else 0) }
  clampFault c x y (setPch c y s)

/-- MASK_NODE's output reaches the mask shadow (R301). -/
def maskWrite (s : State) : State :=
  let n := par s 0x64 0 8
  if n < 0 then s else
  let st := plainV (nodeOut s.graph.cur n.toNat)
  let t := euNow s
  { s with pul := { s.pul with
    maskPrev := s.pul.maskSh, maskPrevLoad := s.pul.maskPrevLoad || s.pul.maskLoad, maskVis := t + 256,
    maskSh := (rhe (st.el 0).val % 16777216).toNat, maskLoad := rhe (st.el 1).val % 2 = 1 } }

/-- Every shadow of the engine at a launch tick. -/
def pulLaunch (s : State) : State := maskWrite ((List.range 12).foldl (fun s c => shadowWrite c s) s)

/-- The transfer at a period start (R296). -/
def Pch.transfer (t : Nat) (x : Pch) : Pch :=
  let seen := decide (x.vis ≤ t)
  let sh := if seen then (x.periodSh, x.onSh, x.offSh) else x.prevSh
  let lp := x.full || x.prevLoad.1 || (seen && x.loadPer)
  let lc := x.full || x.prevLoad.2 || (seen && x.loadCmp)
  let y := { x with
    period := if lp then sh.1 else x.period, cmpOn := if lc then sh.2.1 else x.cmpOn, cmpOff := if lc then sh.2.2 else x.cmpOff
    prevLoad := (false, false), loadPer := x.loadPer && !seen, loadCmp := x.loadCmp && !seen, full := false }
  let clamped := decide (y.period < y.cmpOn ∨ y.period < y.cmpOff)
  { y with cmpClamped := y.cmpClamped || clamped, evSince := y.evSince ||| (if clamped then 4 else 0) }

/-! ### Mask transfer (R301) -/

/-- The mask event of the plate: 0 period start, 1 on_eff, 2 off_eff of a channel, 3 an accepted SYNC_IN restart. Outputs of
every channel are turned off or released at it; channel `c` itself follows in its own step 6 (R304). -/
def maskEvent (kind c t : Nat) (s : State) : State :=
  let seen := decide (s.pul.maskVis ≤ t)
  let due := s.pul.maskPrevLoad || (seen && s.pul.maskLoad)
  if par s 0x64 0 8 < 0 || parN s 0x64 0 10 ≠ kind || (kind ≠ 3 && parN s 0x64 0 12 ≠ c) || !due then s
  else
    let m := if seen then s.pul.maskSh else s.pul.maskPrev
    let s := { s with pul := { s.pul with mask := m, maskPrevLoad := false, maskLoad := s.pul.maskLoad && !seen } }
    s.pul.ch.keys.foldl (fun s d =>
      let x := pch s d
      let y := if m.testBit (2 * d) then x.off false t else x
      let y := if m.testBit (2 * d + 1) then y.off true t else y
      let cut := (x.onA && !y.onA) || (x.onB && !y.onB)
      let y := if cut then { y with evSince := y.evSince ||| 32 } else y
      if d = c then (if cut then pulStore d t 0 x y [] s else s) else pulEval d t 0 x y [] s) s

/-! ### Trips (R299, R300) -/

/-- A trip of one channel (R300), which fires PULSE_TRIP triggers (R451). -/
def tripOne (ti t c : Nat) (s : State) : State :=
  let x := pch s c
  if !x.running || !(pchPar s c 12).testBit ti then s else
  let n := if x.trippedNow then x.tripConsec else min 255 (x.tripConsec + 1)
  let aOff := pchPar s c 14 = 1
  let y := x.off false t
  let y := if aOff then y else y.off true t
  let y := { y with trippedNow := true, tripConsec := n, cutA := true, cutB := y.cutB || !aOff, trips := cnt32 x.trips, lastTi := ti, tripSince := true }
  let hit := decide (pchPar s c 16 ≤ n) && y.tripArmed
  let y := { y with tripArmed := y.tripArmed && !hit }
  let s := trgKind 5 (fun g => (parN s 0x62 g 14).testBit c) (pulEval c t ti x y [4] s)
  if hit then raise (208 + c) (be 1 c ++ be 1 ti) s else s

/-- Inputs that are still qualified trip a channel at its period start (R300). -/
def tripAgain (c t : Nat) (s : State) : State :=
  (s.pul.ti.filter (fun x => x.2.qualified)).foldl (fun s x => tripOne x.1 t c s) s

/-! ### Period starts and restarts (R296, R302–R304) -/

/-- A period ends (R300): one without a trip ends the run of tripped ones. -/
def periodEnd (c : Nat) (x : Pch) (s : State) : Pch × State :=
  if x.trippedNow then (x, s) else ({ x with tripConsec := 0, tripArmed := true }, clear (208 + c) s)

/-- A period start at a position (R304): trips are forgotten, the values transfer, the mask may, and the outputs follow.
SYNC_OUT rises with its channel (R303). -/
def startPeriod (c t k : Nat) (s : State) : State :=
  let x0 := pch s c
  let (x, s) := if x0.running then periodEnd c x0 s else (x0, s)
  let x := { x with running := true, waitSync := false, trippedNow := false, cutA := false, cutB := false,
                    holdOff := s.tan.role != .active }
  let y := (x.restart t k).transfer t
  let s := clampFault c x y s
  let s := pulStore c t 0 x0 y [] s
  let s := if par s 0x64 0 0 = (c : Int) && s.tan.role == .active then { s with pul := { s.pul with syncOut := some (t + parN s 0x64 0 2) } } else s
  let s := tripAgain c t (maskEvent 0 c t s)
  let z := pch s c
  pulEval c t 0 z z [] s

/-- SYNC_OUT is high at a position (R303). -/
def syncOutHigh (s : State) (t : Nat) : Bool :=
  match s.pul.syncOut with | some r => r ≤ t && t < r + parN s 0x64 0 4 * 64 | none => false

/-- The counter wraps: the period start falls where the counter passes PERIOD − 1 (R296). -/
def execPeriodStart (ch eu : Nat) (s : State) : Host.Outcome State Fault Refusal :=
  let x := pch s ch
  let due := x.p0 + (x.period - x.k0)
  unit (ch < 12)
    (if x.running && 0 < x.period && due ≤ eu then startPeriod ch due 0 (advanceTo (eu / 64) s) else advanceTo (eu / 64) s)

/-- A compare or timing position of a running channel (R297, R298, R301). -/
def execPulseEdgePosition (ch eu : Nat) (s : State) : Host.Outcome State Fault Refusal :=
  let s := advanceTo (eu / 64) s
  let x := pch s ch
  unit (ch < 12)
    (if !x.running || eu < x.p0 then s
     else
      let s := if x.ctr eu = x.onEff then maskEvent 1 ch eu s else s
      let s := if x.ctr eu = x.offEff then maskEvent 2 ch eu s else s
      let y := pch s ch
      pulEval ch eu 0 y y [] s)

/-- Distance of a counter from PHASE, both ways round the period (R302). -/
def phaseDist (period k phase : Nat) : Nat :=
  let d := (k % max 1 period + period - phase % max 1 period) % max 1 period
  min d (period - d)

/-- A source event at a position (R302): accepted, it restarts the counter at PHASE; a restart to 0 is a period start. -/
def syncAt (c t : Nat) (s : State) : State :=
  let x := pch s c
  let ph := pchPar s c 24
  if (!x.running && !x.waitSync) || pchPar s c 20 = 0 then s
  else if x.waitSync || x.firstSync || x.syncLost || phaseDist x.period (x.ctr t) ph ≤ pchPar s c 26 then
    let s := clear (220 + c) s
    let x1 := { x with firstSync := false, syncLost := false }
    let s := if pchPar s c 20 = 2 then maskEvent 3 c t (setPch c x1 s) else setPch c x1 s
    if ph = 0 then startPeriod c t 0 s
    else
      let z := pch s c
      let w := { z.restart t ph with running := true, waitSync := false }
      let w := if z.waitSync then { w.transfer t with full := true, holdOff := true } else w
      pulEval c t 0 z w [] s
  else setPch c { x with rejects := cnt32 x.rejects } s

/-- An event of a channel's sync source (R302). -/
def execSyncEvent (ch eu : Nat) (s : State) : Host.Outcome State Fault Refusal :=
  unit (ch < 12) (syncAt ch eu (advanceTo (eu / 64) s))

/-- A rising edge on SYNC_IN (R302): the channels synchronised to it restart SYNC_IN_COMP later. -/
def execSyncInEdge (eu : Nat) (s : State) : Host.Outcome State Fault Refusal :=
  let t := eu + parN s 0x64 0 6
  let s := advanceTo (t / 64) s
  ok ((List.range 12).foldl (fun s c => if pchPar s c 20 = 2 then syncAt c t s else s) s)

/-- No accepted restart for SYNC_LOSS periods (R302). -/
def execSyncLoss (ch : Nat) (s : State) : Host.Outcome State Fault Refusal :=
  let x := pch s ch
  unit (ch < 12)
    (if x.running && pchPar s ch 20 ≠ 0 && !x.syncLost then
      raise (220 + ch) (be 1 ch) (setPch ch { x with syncLost := true, evSince := x.evSince ||| 16 } s)
     else s)

/-! ### Trip inputs (R299) -/

/-- An input that has been asserted for `n` samples up to position `t` qualifies by its class (R299): F by TI_FILTER samples,
W by two samples at which the raw signal of TI_WIN_CH is 0. -/
def tripQualifies (s : State) (ti n t : Nat) : Bool :=
  let w := pch s (parN s 0x21 ti 6)
  let k := t / 64 * 64
  if parN s 0x21 ti 2 = 1 then 2 ≤ n && !w.rawAt k && !w.rawAt (k - 64) else parN s 0x21 ti 4 ≤ n

/-- A trip input has been at a level for `n` consecutive samples up to a position (R299, R300): asserted long enough it
qualifies, trips every channel that has it in its TRIP_MASK, and stays qualified until it is sampled at the other level. -/
def execTripQualified (ti : Nat) (seen : TripSeen) (s : State) : Host.Outcome State Fault Refusal :=
  let s := advanceTo (seen.eu / 64) s
  let was := match s.pul.ti.find ti with | some x => x.qualified | none => false
  let asserted := seen.level == (parN s 0x21 ti 0 == 0)
  let q := asserted && (was || tripQualifies s ti seen.n seen.eu)
  let s' := { s with pul := { s.pul with ti := s.pul.ti.set ti { level := seen.level, count := seen.n, qualified := q } } }
  unit (ti < 16) (if q && !was then (List.range 12).foldl (fun s c => tripOne ti seen.eu c s) s' else s')

/-! ### Device states, feedback, status (R305–R308) -/

/-- A channel stops (R305). -/
def stopChan (c t : Nat) (s : State) : State :=
  let x := pch s c
  if !x.running && !x.waitSync then s else
  let s := pulStore c t 0 x (chanOff ((x.off false t).off true t)) [] s
  if par s 0x64 0 0 = (c : Int) then { s with pul := { s.pul with syncOut := none } } else s

/-- A channel starts (R305): a period start at counter 0, or the wait for its first restart. -/
def startChan (c t : Nat) (s : State) : State :=
  let x := pch s c
  if x.running || x.waitSync then s
  else if pchPar s c 20 = 0 then startPeriod c t 0 (setPch c { x with full := true } s)
  else setPch c { x with waitSync := true, firstSync := true, full := true } s

/-- What a cycle start in the device's state does to the channels (R302, R305): `fresh` is an entry to a running state. -/
def pulCycle (fresh : Bool) (s : State) : State :=
  let t := euNow s
  let s := if fresh then { s with pul := { s.pul with mask := 0 } } else s
  let s := (List.range 12).foldl (fun s c =>
    if runs s then startChan c t s
    else if s.dev.state == .blocked && pchPar s c 18 = 1 then s
    else stopChan c t s) s
  (List.range 12).foldl (fun s c => if pchPar s c 20 = 3 then syncAt c t s else s) s

/-- Graph inputs of the channels at the cutoff freeze (R308). -/
def pulCutoff (s : State) : State :=
  (List.range 12).foldl (fun s c =>
    let x := pch s c
    let s := setInput (0xFFD0 + c) [(b2n x.tripSince : Nat), (x.tripConsec : Nat), (x.evSince : Nat), (x.period : Nat)] s
    if x.tripSince || x.evSince ≠ 0 then setPch c { x with tripSince := false, evSince := 0 } s else s) s

/-- The status word of a channel (R307). -/
def pulStatus (s : State) (c : Nat) : Word :=
  let x := pch s c
  BitVec.ofNat 32 (min 255 x.tripConsec * 2 ^ 24 + x.lastTi * 2 ^ 16 + b2n (s.pul.mask.testBit (2 * c + 1)) * 512 +
    b2n (s.pul.mask.testBit (2 * c)) * 256 + b2n x.syncLost * 128 + b2n x.perClamped * 64 + b2n x.cmpClamped * 32 +
    b2n x.stretched * 16 + b2n x.swallowed * 8 + b2n x.trippedNow * 4 + b2n (poLevel s x true) * 2 + b2n x.running)

/-- PULSE_FLAGS_CLEAR on one channel (R307). -/
def pulClear (x : Pch) : Pch :=
  { x with perClamped := false, cmpClamped := false, stretched := false, swallowed := false, trips := 0, swallows := 0, stretches := 0, rejects := 0 }

end Sys2Proof.Machine
end

