-- ==== Sys2Proof/Machine/Apply.lean ====
section
/-! DEFINITION. Commands that waited for their cycle (R20, R341): which is due, and what each does at it. -/

namespace Sys2Proof.Machine

/-! ### Conditions of R19, R24 and R158 -/

/-- Transitions of the control phase that R24 lists, apart from those of entries to RUNNING and of takeovers. -/
def phaseStep (a b : Phase) : Bool :=
  match a, b with
  | .test, .startup | .startup, .service | .recovery, .service | .startup, .test | .service, .recovery => true
  | _, _ => false

/-- Every ACTIVE member of every arm is CONVERGED (R158). -/
def allConverged (s : State) : Bool :=
  (armsUsed s).all (fun a => (members s a).all (fun m => !isActive s a m.ci || (obsRec s m.ci).converged))

/-- The conditions of DEBLOCK, at acceptance and at its cycle (R343, R387). -/
def deblockCheck (s : State) : Status :=
  if s.dev.state ≠ .ready || srbHeld s || classAPending s || factoryMode s then .state
  else if allConverged s then .ok else .notConverged

/-- Every cell echoes BLOCK (R19): each named cell serves and its last report shows BLOCK; a cell that the plate does not
require may be absent (log 101). -/
def allBlocked (s : State) : Bool :=
  (namedPorts s).all (fun p => (portOrder s p).all (fun m =>
    let ci := ciOf p m
    let x := moor s ci
    isGauge s ci || (!required s ci && x.st ≠ .serving) ||
      (x.st == .serving && (match x.last with | some r => r.echoState == .block | none => false))))

/-- The conditions of BLOCK_CLEAR at its cycle (R19, R403). -/
def blockClearOk (s : State) : Bool :=
  s.dev.state == .blocked && !srbHeld s && !classAPending s && allBlocked s && (s.srb.st != .tripped || hwslMayClear s)

/-- A member and its arm by cell index, with its category. -/
def memberCat (s : State) (ci : Nat) : Option Category := (memberOf s ci).map (fun x => ((s.arms.get x.1 {}).cats.get ci {}).cat)

/-- CELL_EXCLUDE is possible (R129, R345). -/
def mayExclude (s : State) (ci : Nat) : Bool :=
  match memberCat s ci with | some .active | some .lost => true | _ => false

/-- CELL_RESTORE is possible (R129, R345): an EXCLUDED member, or a FAILED one whose last report shows neither a failure
code nor a closed bypass device. -/
def mayRestore (s : State) (ci : Nat) : Bool :=
  match memberCat s ci with
  | some .excluded => true
  | some .failed => (match (moor s ci).last with | some r => (failCause r).isNone | none => true)
  | _ => false

/-! ### What each command does at its cycle -/

/-- DEBLOCK (R19, R142, R305). A follower takes its device state from its twin (R23). -/
def applyDeblock (s : State) : State × Status :=
  if follower s then (s, .ok)
  else match deblockCheck s with
    | .ok =>
      let t := moveState .running s
      let t := { t with arms := (armsUsed t).foldl (fun m a => m.set a (armStart t a (t.arms.get a {}))) t.arms,
                        dev := { t.dev with phaseFirst := true } }
      (pulCycle true t, .ok)
    | e => (s, e)

/-- BLOCK_CLEAR (R19, R403). -/
def applyBlockClear (s : State) : State × Status :=
  if follower s then (s, .ok)
  else if !blockClearOk s then (s, .state)
  else (enterReady (if s.srb.st = .tripped then hwslRelease s else s), .ok)

/-- PHASE_SET (R24, R25): an entry to RECOVERY of its own in this cycle wins. -/
def applyPhase (p : Nat) (s : State) : State × Status :=
  match Phase.ofCode p with
  | some q =>
    if s.dev.state ≠ .running || s.dev.recoveryNow || !phaseStep s.dev.phase q then (s, .state)
    else (let t := setPhase q s; ({ t with dev := { t.dev with phaseFirst := true } }, .ok))
  | none => (s, .range)

/-- TIME_DOMAIN_SELECT (R266). -/
def applyDomain (i : Nat) (s : State) : State × Status :=
  match switchBad s i with
  | some e => (s, e)
  | none => (switchDomain i false s, .ok)

/-- WHARF_4 exchanges the parameter banks (R17). -/
def bankSwap (c : Cfg) : Cfg := { c with par := c.parI, parI := c.par, stages := c.stagesI, stagesI := c.stages }

/-- One stage changes at a flip (R17, R114, R364): it is written into the inactive bank, which else holds the values in
force, the banks are exchanged, and the new inactive bank takes the stage too. What a pending commit has written there
stays, for its own cycle. -/
def flipStage (k : Nat) (x : PStage) (c : Cfg) : Cfg :=
  let d := bankSwap { c with parI := c.par, stagesI := c.stages.set k x }
  { d with parI := c.parI, stagesI := c.stagesI.set k x }

/-- SETPOINT_SET (R114): one stage under the limits of the slot's parameter stage. -/
def applySetpoint (slot : Nat) (ws : List ElemWord) (s : State) : State × Status :=
  match s.cfg.plate with
  | some pl =>
    (match pl.slots.find slot with
     | some k =>
       let x := pstage s k
       let v := outPlain 24 x.efloor x.eceil (ws.map ewVal)
       ({ s with cfg := flipStage k { x with val := v } s.cfg,
                 graph := { s.graph with spCycle := s.graph.spCycle.set slot s.cyc.n } }, .ok)
     | none => (s, .state))
  | none => (s, .state)

/-- CELL_EXCLUDE (R129). -/
def applyExclude (ci : Nat) (s : State) : State × Status :=
  match mayExclude s ci, memberOf s ci with
  | true, some (a, _) =>
    ({ s with arms := s.arms.upd a {} (fun x => { x with cats := x.cats.upd ci {} (fun c => { c with cat := .excluded, valid := 0 }) }) }, .ok)
  | _, _ => (s, .state)

/-- NODE_FLAGS_CLEAR (R67). -/
def applyFlags (first count : Nat) (s : State) : State :=
  { s with graph := { s.graph with stat := s.graph.stat.mapVals (fun k x =>
      if first ≤ k && k < first + count then { x with satCount := 0, domSticky := false, clampSticky := false, satSticky := false } else x) } }

/-- SCHED_STATS_CLEAR (R97). -/
def applyStats (s : State) : State :=
  let z := fun (m : SMap Place) => m.mapVals (fun _ p => { p with moves := 0 })
  { s with graph := { s.graph with hist := [], place := z s.graph.place, table := z s.graph.table } }

/-- POINT_MINMAX_CLEAR (R223). -/
def applyMinMax (first count : Nat) (s : State) : State :=
  { s with points := s.points.mapVals (fun k x => if first ≤ k && k < first + count then ptMinMaxClear x else x) }

/-- PULSE_FLAGS_CLEAR (R307). -/
def applyPulse (mask : Nat) (s : State) : State :=
  { s with pul := { s.pul with ch := s.pul.ch.mapVals (fun c x => if mask.testBit c then pulClear x else x) } }

/-- An operand of a waiting command. -/
def Waiting.arg (w : Waiting) (i : Nat) : Nat := (w.args.getD i 0).toNat

/-- A waiting command at its cycle, with its result; a restore's result comes at the cutoff (R130). -/
def applyCmd (w : Waiting) (s : State) : State × Option Status :=
  let r := fun (x : State × Status) => (x.1, some x.2)
  match w.opcode with
  | 0x10 => r (applyDeblock s)
  | 0x12 => r (applyBlockClear s)
  | 0x13 => r (applyPhase (w.arg 0) s)
  | 0x16 => r (applyDomain (w.arg 0) s)
  | 0x30 => r (applySetpoint (w.arg 0) w.elems s)
  | 0x32 => r (applyExclude (w.arg 0) s)
  | 0x33 =>
    (match mayRestore s (w.arg 0), memberOf s (w.arg 0) with
     | true, some (a, _) => ({ s with arms := s.arms.upd a {} (fun x => { x with restores := x.restores ++ [w] }) }, none)
     | _, _ => (s, some .state))
  | 0x40 => (applyFlags (w.arg 0) (w.arg 1) s, some .ok)
  | 0x41 => (applyStats s, some .ok)
  | 0x42 => (applyMinMax (w.arg 0) (w.arg 1) s, some .ok)
  | 0x44 => (applyPulse (w.arg 0) s, some .ok)
  | _ => (s, some .state)

/-- Commands of tandem class A (R340, R342–R347). -/
def isClassA (op : Nat) : Bool :=
  [0x10, 0x12, 0x13, 0x16, 0x18, 0x24, 0x25, 0x30, 0x32, 0x33, 0x34, 0x35, 0x36, 0x40, 0x61].contains op

/-- TRANSFER_SEQ counts the class A commands applied (R422). -/
def countApplied (op : Nat) (s : State) : State :=
  if isClassA op then { s with tan := { s.tan with transferSeq := s.tan.transferSeq + 1 } } else s

/-! ### Which command is due (R20, R341, R365) -/

/-- Changes of a cycle boundary take effect: cycles run, and the cutoff freeze of this cycle has not come, so nothing that
it computes has read a parameter yet (R17, R20, log 108). -/
def atBoundary (s : State) : Bool := s.cyc.running && !s.cyc.frozen

/-- The cycle of a waiting command has come. -/
def dueNow (s : State) (w : Waiting) : Bool := w.cycle = s.cyc.n || after 48 s.cyc.n.toNat w.cycle.toNat

/-- A lock-through of staged changes falls due at this cycle: its entries come before every SETPOINT_SET (R341). -/
def lockDue (s : State) : Bool :=
  match s.pound.commit with
  | some (c, _, _, whole) => !whole && (c = s.cyc.n || after 48 s.cyc.n.toNat c.toNat)
  | none => false

/-- The command that applies next: the earliest cycle, and in a cycle the first accepted. -/
def nextDue (s : State) : Option Waiting :=
  (s.cyc.waiting.filter (fun w => dueNow s w && !(w.opcode = 0x30 && lockDue s))).foldl
    (fun b w => match b with
      | none => some w
      | some x => if after 48 x.cycle.toNat w.cycle.toNat then some w else some x) none

/-- A command reaches its cycle: it is checked again, applied or discarded, and SCHEDULED_RESULT is sent (R341, R350). -/
def execScheduledCommandApply (s : State) : Host.Outcome State Fault Refusal :=
  ok (match atBoundary s, nextDue s with
    | true, some w =>
      let (t, st) := applyCmd w { s with cyc := { s.cyc with waiting := s.cyc.waiting.erase w } }
      (match st with
       | some e => scheduledResult w e t.cyc.n (if e = .ok then countApplied w.opcode t else t)
       | none => countApplied w.opcode t)
    | _, _ => s)

end Sys2Proof.Machine
end

