-- ==== Sys2Proof/Machine/Boot.lean ====
section
/-! DEFINITION. Resets, start-up and secure boot (R19, R476, R483–R493, R497). -/

namespace Sys2Proof.Machine

/-- PORST_N falls (R19, R485). -/
def execPorstNAssert (s : State) : Host.Outcome State Fault Refusal := ok (powerOnState s)

/-- PORST_N rises: the straps latch at the edge and RESET is released into BOOT (R476, R488). -/
def execPorstNRelease (unitSel testMode : Bool) (s : State) : Host.Outcome State Fault Refusal :=
  if s.dev.porstN then ok s else
  let s := { s with dev := { s.dev with porstN := true, unitId := if unitSel then 2 else 1, testStrap := testMode, keyStep := 0 } }
  ok (if heldInReset s then s else bootState s)

/-- WARM_RST_N is low past its filter (R486): a warm reset, held while the pin stays low. -/
def execWarmRstNAssert (s : State) : Host.Outcome State Fault Refusal :=
  let w := if heldInReset s then s else warmState s
  ok { w with dev := { w.dev with warmN := false } }

/-- The end of a warm reset, by WARM_RST_N or of the pulse that WARM_RESET or a level-5 reaction makes (R19, R331,
R485): the start-up sequence without the band searches and calibrations. -/
def execWarmRstNRelease (s : State) : Host.Outcome State Fault Refusal :=
  let s := { s with dev := { s.dev with warmN := true } }
  ok (if heldInReset s || s.dev.state != .reset then s else bootState s)

/-- A rail leaves its tolerance for 2 µs (R483): as PORST_N, with PORST_N high; the monitors reset the TAP too
(R494). The straps keep what the edge of PORST_N latched (R476). -/
def execRailMonitorTrip (s : State) : Host.Outcome State Fault Refusal :=
  if !s.dev.porstN then ok { s with jtag := {} } else
  let p := powerOnState s
  ok { p with jtag := {},
              dev := { p.dev with porstN := true, railHold := true, unitId := s.dev.unitId, testStrap := s.dev.testStrap } }

/-- Every rail is back inside its tolerance: the hold ends (R483). -/
def execRailMonitorRelease (s : State) : Host.Outcome State Fault Refusal :=
  if !s.dev.railHold then ok s else
  let s := { s with dev := { s.dev with railHold := false } }
  ok (if heldInReset s then s else bootState s)

/-- PLL-C and PLL-E lock and the counters start (R254, R488). PLL-A, PLL-B and PLL-D, which have no event of
their own here, are taken as locked with them (log 20). -/
def execPllCEInitialLock (s : State) : Host.Outcome State Fault Refusal :=
  if s.dev.state ≠ .boot ∨ s.dev.ticksRun then ok s else
  ok { s with dev := { s.dev with ticksRun := true }, clk := { s.clk with locked := [true, true, true, true, true], onE := false } }

/-- Reset word of a clock output (R274): enabled, DIV of R272, no delay. -/
def clkResetWord (k : Nat) : Word := BitVec.ofNat 32 (2 ^ 31 + (clkDiv k).toNat)

/-- A word with another DELAY. -/
def clkSetDelay (w : Word) (d : Nat) : Word := (w &&& 0xFF00FFFF#32) ||| BitVec.ofNat 32 (d % 256 * 2 ^ 16)

/-- The reset calibrations finish (R208, R274, R488): T_TXP, T_RXP and the DELAY of C0 and E0; one out of range
takes its default and raises FLT_CALIBRATION. A warm reset makes none (R485). -/
def execResetCalibrationDone (txp rxp : SMap Nat) (failed : List Nat) (s : State) : Host.Outcome State Fault Refusal :=
  if s.dev.state ≠ .boot ∨ !s.dev.coldStart then ok s else
  let ports := (List.range (nPorts s)).foldl
    (fun ps p => ps.upd p {} (fun x => { x with t_txp := txp.get p 0, t_rxp := rxp.get p 0 })) s.ports
  let d := fun k => clkSetDelay (clkResetWord k) (Config.calDelay k).toNat
  let clk := { s.clk with active := (s.clk.active.set 0 (d 0)).set 3 (d 3), shadow := (s.clk.shadow.set 0 (d 0)).set 3 (d 3) }
  let s := { s with ports := ports, clk := clk, dev := { s.dev with calibrated := true, calFailed := failed } }
  ok (failed.foldl (fun s k => raise 370 (be 1 k) s) s)

/-- Keys of the band cache (R275): basin lanes at three rates, station and tandem lanes at three rates, and the PLLs. -/
def bandKeys (ports : Nat) : List Nat :=
  ((List.range ports).flatMap (fun p => [16 * p + 1, 16 * p + 2, 16 * p + 3])) ++
    ((List.range 10).flatMap (fun q => [16 * (32 + q) + 1, 16 * (32 + q) + 2, 16 * (32 + q) + 3])) ++ (List.range 5).map (fun i => 16 * (42 + i))

/-- The cache after the searches that follow PORST_N. -/
def bandsOf (ports n : Nat) : SMap Word := (bandKeys ports).map (fun k => (k, Config.bandSearch k n))

/-- Every lane synthesiser has searched its bands (R275). -/
def execBandSearchDone (s : State) : Host.Outcome State Fault Refusal :=
  if s.dev.state ≠ .boot ∨ !s.dev.coldStart then ok s else
  ok { s with dev := { s.dev with bandsDone := true }, clk := { s.clk with bandCache := true, bands := bandsOf (nPorts s) s.clk.cacheMisses.toNat } }

/-- A boot configuration record authenticates (R492): station ports, PTP and the endpoint take its values. A blank
OWNER_KEY_DIGEST authenticates none. -/
def execBootRecordAuthenticated (rec : BootRec) (s : State) : Host.Outcome State Fault Refusal :=
  if s.dev.state ≠ .boot ∨ s.otp.ownerKey.isNone then ok s else
  ok { s with dev := { s.dev with bootRec := some rec }, cfg := { s.cfg with par := rec.params, parI := rec.params } }

/-- An image authenticates (R491). -/
def imageOk (s : State) (i : FwImage) : Bool := i.signed && s.otp.rollback ≤ i.rollback

/-- The image the boot ROM starts and whether it is the second one tried (R491): the slot that names the higher
release first, slot A on equal releases. -/
def bootChoice (s : State) (a b : Option FwImage) : Option (FwImage × Bool) :=
  let first := match a, b with
    | some x, some y => if x.release.toNat < y.release.toNat then (b, a) else (a, b)
    | none, _ => (b, none)
    | _, none => (a, none)
  let good := fun (o : Option FwImage) => o.filter (imageOk s)
  match good first.1, good first.2 with
  | some x, _ => some (x, false)
  | none, some y => some (y, true)
  | none, none => none

/-- No firmware image, or no record, authenticates (R19, R492, R497): FLT_BOOT_AUTH at level 4. -/
def bootFail (noRecord : Bool) (s : State) : State :=
  if s.dev.state = .boot then raise 0 (be 1 (b2n noRecord)) s else s

/-- The rail order agrees with R481: rails 0 VDD_IO33, 1 VDD_IO18, 2 VDDH_SDS, 3 VDD_PLL, 4 VDD_SRAM, 5 VDD_SDS,
6 VDD_CORE; VDDH_SDS and VDD_PLL rise together. -/
def railOrderOk (o : List Nat) : Bool := o = [0, 1, 2, 3, 4, 5, 6] || o = [0, 1, 3, 2, 4, 5, 6]

/-- ROLLBACK rises to the lower level of two authentic slots at the first entry to IDLE (R493). -/
def rollbackRaise (a b : Option FwImage) (s : State) : State :=
  let s' := { s with dev := { s.dev with idleSeen := true } }
  match a, b with
  | some x, some y =>
    if !s.dev.idleSeen && imageOk s x && imageOk s y then
      { s' with otp := { s.otp with rollback := max s.otp.rollback (min x.rollback y.rollback) } }
    else s'
  | _, _ => s'

/-- Bybex is ready (R19, R484, R491, R493): IDLE, with the faults that waited for it. -/
def execBybexReady (slotA slotB : Option FwImage) (railOrder : List Nat) (s : State) : Host.Outcome State Fault Refusal :=
  if s.dev.state ≠ .boot then ok s else
  if s.dev.bootRec.isNone then ok (bootFail true s) else
  match bootChoice s slotA slotB with
  | none => ok (bootFail false s)
  | some (img, second) =>
    let s := { s with dev := { s.dev with fwVersion := img.release, mpcReady := true } }
    let s := rollbackRaise slotA slotB (moveState .idle s)
    let s := if second then raise 369 [] s else s
    ok (if s.dev.coldStart && !railOrderOk railOrder then raise 368 (railOrder.flatMap (be 1)) s else s)

/-- No image, or no record, authenticates within the boot order (R19, R497). -/
def execBootAuthFail (noRecord : Bool) (s : State) : Host.Outcome State Fault Refusal := ok (bootFail noRecord s)

end Sys2Proof.Machine
end

