-- ==== Sys2Proof/Machine/GraphImage.lean ====
section
/-! DEFINITION. The graph image: how a node descriptor, an input reference and a placement entry are laid out in the
store (R76–R78, R96, R98), and the simulation by which the compiler bounds a graph (R83, R86, R93). -/

namespace Sys2Proof.Machine

/-! ### Layout (R76–R78, R96, R98) -/

/-- The sixteen words of a node descriptor (R77, R98); words 5 to 15 are reserved. -/
def descWords (n : NodeDef) : List Nat :=
  [b2n n.pin * 2 ^ 28 + n.prio % 8 * 2 ^ 24 + n.opcode % 256 * 2 ^ 16 + n.node % 4096,
   n.inBase % 65536 * 2 ^ 16 + n.refs.length % 32 * 2 ^ 8 + n.homeLane % 64,
   n.armSel % 16 * 2 ^ 16 + n.steps % 32 * 2 ^ 8 + n.outLen % 32,
   n.opt.toNat, n.parCount % 65536 * 2 ^ 16 + n.parBase % 32768] ++ List.replicate 11 0

/-- Its 64 bytes: little-endian, as every structure of the graph image (R76). -/
def descBytes (n : NodeDef) : List Byte := (descWords n).flatMap (le 4)

/-- The word of an input reference: KIND in bits [31:29], INDEX in bits [15:0] (R78). -/
def refWord (r : NodeRef) : Nat := r.kind % 8 * 2 ^ 29 + r.index % 65536

/-- The input reference that a word spells (R78). -/
def refOfWord (w : Nat) : NodeRef := { kind := w / 2 ^ 29 % 8, index := w % 65536 }

/-- The node that the words of a descriptor spell (R77, R98); `ref` reads the input reference list. The descriptor holds no
exponent limits (R58), which are given. -/
def nodeOfWords (w : Nat → Nat) (ref : Nat → NodeRef) (lim : Int × Int) : NodeDef :=
  let base := w 1 / 2 ^ 16 % 65536
  { node := w 0 % 4096, opcode := w 0 / 2 ^ 16 % 256, prio := w 0 / 2 ^ 24 % 8, pin := (w 0).testBit 28,
    inBase := base, refs := (List.range (w 1 / 2 ^ 8 % 32)).map (fun i => ref (base + i)), homeLane := w 1 % 64,
    armSel := w 2 / 2 ^ 16 % 16, steps := w 2 / 2 ^ 8 % 32, outLen := w 2 % 32, opt := BitVec.ofNat 32 (w 3),
    parCount := w 4 / 2 ^ 16 % 65536, parBase := w 4 % 32768, efloor := lim.1, eceil := lim.2 }

/-- An entry of the placement table, 64 bits (R96). -/
def placeEntry (pin : Bool) (p : Place) : Nat :=
  p.moves % 256 * 2 ^ 48 + p.freeze % 1024 * 2 ^ 32 + min 65535 p.exec * 2 ^ 16 + b2n (p.freeze ≠ 0) * 2 ^ 15 + b2n pin * 2 ^ 14 +
    p.home % 64 * 2 ^ 8 + p.lane % 64

/-- A record of the scheduler observable ring, 512 bytes (R95). A slot that no cycle has written shows the reset values of
the table. -/
def ringBytes (r : ObsRing) : List Byte :=
  let cy := le 8 r.cycle.toNat
  let pad := fun (k n : Nat) (xs : List Nat) => (List.range n).flatMap (fun i => le k (min (256 ^ k - 1) (xs.getD i 0)))
  cy ++ le 4 r.completion ++ le 4 r.norm ++ pad 2 8 r.qmax ++ le 4 r.epoch ++
    le 1 (b2n r.missed + 2 * b2n r.home + 4 * b2n r.suspended + 8 * b2n r.pending) ++ le 1 r.moves ++ le 2 0 ++
    le 8 ((r.retired.map (fun l => 2 ^ l)).sum) ++ le 16 0 ++ pad 2 64 r.load ++ pad 2 64 r.ops ++ pad 4 32 r.hist ++ le 56 0 ++ cy

/-! ### The compiler's simulation (R83, R86, R93). Times in 0.1 ns. -/

/-- A node in the simulation: what it still waits for. -/
structure SimNode where
  n    : NodeDef
  lane : Nat
  pend : Nat
  obs  : Bool
deriving DecidableEq, Repr

/-- The simulation: nodes that wait, entries in the ready queues with their time, nodes that enter, lanes with the node
they run, its end and the staged one, and the completions. -/
structure Sim where
  wait  : List SimNode
  enter : List (Nat × SimNode) := []
  queue : List SimNode := []
  run   : SMap (Nat × SimNode × Option SimNode) := []
  obs   : Option Nat := some 1200
  done  : List (Nat × Nat) := []
deriving DecidableEq, Repr

/-- Time from readiness to the queue, and from the queue to the first step on an idle lane, at most (R83). -/
def simReady : Nat := 15
/-- The second of these. -/
def simIdle : Nat := 25
/-- One step. -/
def simStep : Nat := 60

/-- Waiting nodes that are free enter the queues after the ready interval, in ascending number. -/
def simRelease (t : Nat) (s : Sim) : Sim :=
  let free := fun (x : SimNode) => x.pend = 0 && !(x.obs && s.obs.isSome)
  { s with wait := s.wait.filter (fun x => !free x), enter := s.enter ++ (s.wait.filter free).map (fun x => (t + simReady, x)) }

/-- Nodes of a queue in order of PRIO, those of a level in order of entry. -/
def simOrder (q : List SimNode) : List SimNode := (List.range 8).flatMap (fun p => q.filter (fun x => x.n.prio = p))

/-- Every lane with a free slot takes nodes (R82). -/
def simDispatch (t : Nat) (s : Sim) : Sim :=
  (simOrder s.queue).foldl (fun s x =>
    match s.run.find x.lane with
    | none => { s with queue := s.queue.erase x, run := s.run.set x.lane (t + simIdle + x.n.steps * simStep, x, none) }
    | some (e, y, none) => { s with queue := s.queue.erase x, run := s.run.set x.lane (e, y, some x) }
    | some _ => s) s

/-- A lane completes its node: the staged one starts at once, and the successors are counted down. -/
def simFinish (t lane : Nat) (s : Sim) : Sim :=
  match s.run.find lane with
  | some (e, x, st) =>
    if e ≠ t then s else
    let hits := fun (y : SimNode) => (y.n.refs.filter (fun r => r.kind = 0 && r.index = x.n.node)).length
    { s with run := match st with | some y => s.run.set lane (t + y.n.steps * simStep, y, none) | none => s.run.del lane,
             wait := s.wait.map (fun y => { y with pend := y.pend - hits y }),
             done := s.done ++ [(x.n.node, t)] }
  | none => s

/-- The next instant at which something happens. -/
def simNext (s : Sim) : Option Nat :=
  match s.enter.map (·.1) ++ s.run.map (fun x => x.2.1) ++ s.obs.toList with
  | [] => none
  | t :: ts => some (ts.foldl min t)

/-- Lanes whose node ends at an instant, in ascending node number. -/
def simEnding (t : Nat) (s : Sim) : List Nat :=
  let es := s.run.filter (fun x => x.2.1 = t)
  (List.range 4096).filterMap (fun n => (es.find? (fun x => x.2.2.1.n.node = n)).map (·.1))

/-- One instant: completions in ascending node number, the observer update, entries into the queues, dispatch. -/
def simAt (t : Nat) (s : Sim) : Sim :=
  let s := (simEnding t s).foldl (fun s l => simRelease t (simFinish t l s)) s
  let s := if s.obs = some t then simRelease t { s with obs := none } else s
  let now := (s.enter.filter (fun x => x.1 = t)).map (·.2)
  simDispatch t { s with enter := s.enter.filter (fun x => x.1 ≠ t), queue := s.queue ++ now }

/-- The instants of a simulation, one after another. -/
def simRun : Nat → Sim → Sim
  | 0, s => s
  | k + 1, s => match simNext s with | some t => simRun k (simAt t s) | none => s

/-- Completion of every node of a graph on a placement. -/
def simulate (ns : List NodeDef) (lane : Nat → Nat) : List (Nat × Nat) :=
  let ws := ns.map (fun n => { n := n, lane := lane n.node, pend := (n.refs.filter (fun r => r.kind = 0)).length,
                               obs := n.refs.any (fun r => r.kind = 3) : SimNode })
  (simRun (2 * ns.length + 2) (simRelease 0 { wait := ws })).done

/-- Simulated busy time of a lane. -/
def simLoad (ns : List NodeDef) (m : SMap Nat) (l : Nat) : Nat :=
  ((ns.filter (fun n => m.get n.node 0 = l)).map (fun n => n.steps * simStep)).sum

/-- The placement after a lane is retired (R93): its nodes in ascending number, each to the live lane with the smallest sum
of the load before the retirement and the times moved to it. -/
def simRetire (ns : List NodeDef) (dead : List Nat) (l : Nat) (m : SMap Nat) : SMap Nat :=
  let live := (List.range 64).filter (fun k => k ≠ l && !dead.contains k)
  let base : SMap Nat := live.map (fun k => (k, simLoad ns m k))
  ((ns.filter (fun n => m.get n.node 0 = l)).foldl (fun (acc : SMap Nat × SMap Nat) n =>
    match acc.2 with
    | [] => acc
    | a :: rest =>
      let k := (rest.foldl (fun b x => if x.2 < b.2 then x else b) a).1
      (acc.1.set n.node k, acc.2.upd k 0 (· + n.steps * simStep))) (m, base)).1

/-- Placements that the compiler simulates (R86): home, and home after each choice of two retired lanes. A choice of two
lanes that hold no node leaves the home placement, and is not listed again. -/
def simPlaces (ns : List NodeDef) : List (SMap Nat) :=
  let home : SMap Nat := ns.map (fun n => (n.node, n.homeLane))
  let held := fun l => ns.any (fun n => n.homeLane = l)
  home :: (List.range 64).flatMap (fun a => (List.range 64).filterMap (fun b =>
    if a < b && (held a || held b) then some (simRetire ns [a] b (simRetire ns [] a home)) else none))

/-- Nodes that complete later than 450 ns in some simulation (R39, R86). -/
def simLate (ns : List NodeDef) : List Nat :=
  (simPlaces ns).flatMap (fun m => ((simulate ns (fun n => m.get n 0)).filter (fun x => 4500 < x.2)).map (·.1))

end Sys2Proof.Machine
end

