-- ==== Sys2Proof/Machine/Check.lean ====
section
/-! DEFINITION. The consistency check (R356–R358): the configuration that a commit would put in force, the rules under
which a plate fails, and the first failure. A value is named by its PARAM_ID, or where it has none by a number of its
own from 2^32 on (log 9). -/

namespace Sys2Proof.Machine

/-! ### The configuration to be checked (R355, R357, R358) -/

/-- A configuration under check; the entries are those staged, none for a whole plate. -/
structure Cand where
  plate  : Plate
  par    : SMap Int
  stages : SMap PStage
  staged : Option (List Nat)

/-- A staged parameter stage element. -/
def isStageId (id : Nat) : Bool := id / 2 ^ 24 = 0x13

/-- Stages with staged elements (R357): the staged elements and the others at their exact values, stored together
through R62 with the stage's limits. -/
def stageApply (entries : List (Nat × Int)) (st : SMap PStage) : SMap PStage :=
  let es := entries.filter (fun x => isStageId x.1)
  let ks := (es.map (fun x => x.1 / 256 % 65536)).eraseDups
  ks.foldl (fun (m : SMap PStage) k =>
    let x := m.get k { val := { e := -128, m := [0] } }
    let vs := (List.range x.val.m.length).map (fun i =>
      match es.find? (fun y => y.1 / 256 % 65536 = k && y.1 % 256 = i) with
      | some y => ewVal (elemOfBits (BitVec.ofInt 32 y.2))
      | none => ewVal (elemWord x.val i))
    m.set k { x with val := outPlain 24 x.efloor x.eceil vs }) st

/-- Values with staged entries. -/
def parApply (entries : List (Nat × Int)) (par : SMap Int) : SMap Int :=
  (entries.filter (fun x => !isStageId x.1)).foldl (fun (m : SMap Int) x => m.set x.1 x.2) par

/-- The configuration that a commit of the staging area would put in force. -/
def candOf (s : State) : Option Cand :=
  match s.pound.plate with
  | some p => some { plate := p, par := p.params, stages := p.stages, staged := none }
  | none =>
    match s.cfg.plate, s.pound.entries with
    | _, [] => none
    | some p, es => some { plate := p, par := parApply es s.cfg.par, stages := stageApply es s.cfg.stages, staged := some (es.map (·.1)) }
    | none, _ => none

/-- A parameter of the configuration under check. -/
def Cand.get (c : Cand) (g inst item : Nat) : Int := parOf c.par c.plate.arms (pid g inst item)

/-- A stage of it. -/
def Cand.stage (c : Cand) (k : Nat) : PStage := c.stages.get k { val := { e := -128, m := [0] } }

/-- Nodes of its graph. -/
def Cand.nodes (c : Cand) : List NodeDef := c.plate.nodes.take c.plate.hdr.nodeCount.toNat

/-! ### Parameters that exist, their ranges and classes (R356, R357) -/

/-- PARAM_IDs with INSTANCE and ITEM that name a parameter of the plate in force. -/
def paramRow (s : State) (id : Nat) : Option ParRow :=
  let g := id / 2 ^ 24
  let inst := id / 2 ^ 8 % 2 ^ 16
  let item := id % 2 ^ 8
  match s.cfg.plate with
  | none => none
  | some pl =>
    if g = 0x13 then
      (let x := pl.stages.find inst
       match x with
       | some st => if item < min 16 st.val.m.length then some ⟨item, 0, 0xFFFFFFFF, 0, if st.prot then 2 else 0, false⟩ else none
       | none => none)
    else if g = 0x14 then
      (let p := id % 2 ^ 24 / 16
       if nCells s * 128 ≤ p then none
       else match id % 16 with
         | 0 | 1 => some ⟨id % 16, if ptFormat s p = 0 then -2147483648 else 0, if ptFormat s p = 0 then 2147483647 else 0xFFFFFFFF, 0, 0, false⟩
         | 2 | 3 | 4 => some ⟨id % 16, 0, 1, 0, 0, false⟩
         | _ => none)
    else
      let basin := portNamed s inst
      let mooring := moorNamed s (inst / 256) (inst % 256)
      let there := match g with
        | 0x01 => if item = 8 ∨ item = 12 then basin else if item = 10 then mooring && !isGauge s inst else inst = 0
        | 0x02 => basin
        | 0x03 => if 8 ≤ item ∧ item ≤ 12 then mooring else basin
        | 0x10 | 0x11 => (armsUsed s).contains inst
        | 0x20 | 0x40 => inst < 12
        | 0x21 => inst < 16
        | 0x30 => inst < 8
        | 0x31 => if 18 ≤ item then inst < 8 else if 2 ≤ item ∧ item ≤ 9 then inst < 2 else inst = 0
        | 0x34 => if item ≤ 2 then inst < 6 else inst < 2
        | 0x50 => (faultInfo inst).isSome
        | 0x51 => true
        | 0x12 | 0x15 | 0x32 | 0x33 | 0x52 | 0x60 => inst = 0
        | _ => false
      if there then parRow id else none

/-- VALUE as the parameter's number: unsigned where the range has no negative value, −1 for none (R357). -/
def canonVal (r : ParRow) (v : Int) : Int := if v < -1 && decide (0 ≤ r.lo) then v % 2 ^ 64 else v

/-- A value lies in the range of its row; a gauge current source has a scale and clear reserved bits (R357). -/
def valueOk (id : Nat) (r : ParRow) (v : Int) : Bool :=
  let gauge := id / 2 ^ 24 = 0x11 && (id % 256 = 4 || id % 256 = 6)
  (r.opt && v == -1) ||
  (decide (r.lo ≤ v) && decide (v ≤ r.hi) && (!gauge || (v.toNat / 2 ^ 18 % 2 ^ 14 = 0 && 0 < v.toNat / 2 ^ 32)))

/-- A row that changes only with a whole plate. -/
def ParRow.whole (r : ParRow) : Bool := r.cls = 1 || r.cls = 3
/-- A row of protection class. -/
def ParRow.protection (r : ParRow) : Bool := 2 ≤ r.cls

/-! ### Places of values in a plate (R352, R358; log 9) -/

/-- A value that is no single parameter, in a section. -/
def skey (sec k : Nat) : Nat := 2 ^ 32 + sec * 2 ^ 24 + k

/-- Section TYPE of a value. -/
def sectionOf (key : Nat) : Nat :=
  if 2 ^ 32 ≤ key then (key - 2 ^ 32) / 2 ^ 24
  else match key / 2 ^ 24 with
    | 0x01 | 0x02 | 0x03 => 1
    | 0x10 | 0x11 => 2
    | 0x12 | 0x15 => 3
    | 0x13 => 4
    | 0x14 => 5
    | 0x30 | 0x31 | 0x32 | 0x33 | 0x63 | 0x65 | 0x66 => 6
    | 0x20 => if key % 256 = 12 ∨ key % 256 = 14 then 8 else 7
    | 0x21 => 8
    | 0x50 => 9
    | 0x51 => 10
    | 0x52 => 11
    | _ => 7

/-- Section TYPE and byte offset, as FAIL_PARAM carries them. -/
def placeOfKey (key : Nat) : Nat := sectionOf key * 65536 + (Config.plateOffset key).toNat

/-- The least of a list of numbers. -/
def leastOf : List Nat → Option Nat
  | [] => none
  | x :: xs => some (xs.foldl min x)

/-- What a broken rule reports: the lowest staged entry that it involves, or for a plate the lowest place. -/
def reportKey (c : Cand) (keys : List Nat) : Nat :=
  match c.staged with
  | some ids => (leastOf (keys.filter (fun k => ids.contains k))).getD ((leastOf keys).getD 0)
  | none => (leastOf (keys.map placeOfKey)).getD 0

/-- A rule: the values that it involves and whether it is broken. -/
abbrev CheckRule := List Nat × Bool

/-! ### Cross-parameter rules, by chapter -/

/-- Ports that the configuration names. -/
def Cand.basins (c : Cand) : List Nat := c.plate.order.keys

/-- Moorings of a port. -/
def Cand.order (c : Cand) (p : Nat) : List Nat := c.plate.order.get p []

/-- A gauge mooring. -/
def Cand.gauge (c : Cand) (ci : Nat) : Bool := c.get 3 ci 10 == 2

/-- Tframe in ns (R34, R189). -/
def tframe : Gen → Nat | .bl1 => 2480 | .bl2 => 1010 | .bl3 => 410

/-- Cycle timing of a port (R34, R165, R195), and its gauges: at most 8 (R5, log 107). -/
def basinRules (c : Cand) (p : Nat) : List CheckRule :=
  let g := Gen.ofCode (c.get 2 p 0).toNat
  let t := c.get 1 0 0
  let cut := c.get 1 0 2
  let down := c.get 1 p 12
  let o := c.order p
  let slot : Rat := (slotBits g : Rat) * tbit g
  let gs := (o.filter (fun m => c.gauge (ciOf p m))).length
  let cells := o.filter (fun m => !c.gauge (ciOf p m))
  let inPhase := fun ph : Nat => gs + (cells.filter (fun m => c.get 1 (ciOf p m) 10 == ph)).length
  let phases := (List.range (c.get 1 p 8).toNat).map inPhase
  let room : Int := (((t : Rat) * 10 - 1500) / slot).floor
  let old := fun n : Nat => (cut : Rat) * 10 - (n : Rat) * slot - ((down : Rat) * 10 + 100) + 3 * ((t : Rat) * 10) < 200
  [([pid 1 0 0, pid 1 0 2, pid 1 0 4, pid 1 p 12, pid 2 p 0],
     decide ((t + c.get 1 0 4) * 10 < cut * 10 + 850 + tframe g + down * 10 + 100)),
   ([pid 1 0 0, pid 1 p 8, pid 2 p 0] ++ o.flatMap (fun m => [pid 3 (ciOf p m) 10, pid 1 (ciOf p m) 10]),
     phases.any (fun n => decide (room < n))),
   ([pid 1 0 0, pid 1 0 2, pid 1 p 8, pid 1 p 12, pid 2 p 0], phases.any (fun n => decide (old n))),
   (skey 1 p :: o.map (fun m => pid 3 (ciOf p m) 10), decide (8 < gs)),
   ([pid 2 p 0, skey 1 p], g == .bl1 && (decide (32 < o.length) || o.any (fun m => 31 < m))),
   ([pid 1 0 0, pid 2 p 4], decide (c.get 2 p 4 * t * 10 < 120000))] ++
  cells.map (fun m => ([pid 1 p 8, pid 1 (ciOf p m) 10], decide (c.get 1 p 8 ≤ c.get 1 (ciOf p m) 10)))

/-- The cycle (R33, R34). -/
def cycleRules (c : Cand) : List CheckRule :=
  let t := c.get 1 0 0
  let cut := c.get 1 0 2
  let fire := c.get 1 0 4
  [([pid 1 0 0, pid 1 0 2], decide (t - 90 < cut)),
   ([pid 1 0 0, pid 1 0 2, pid 1 0 4, pid 1 0 6], decide (65535 * 2 ^ (c.get 1 0 6).toNat < (t - cut - 85 + fire) * 40)),
   ([pid 1 0 2, pid 1 0 4], decide (cut + 85 ≤ fire))] ++
  c.basins.flatMap (basinRules c)

/-- A current source names a gauge mooring that the plate has (R145, R357). -/
def gaugeSource (c : Cand) (v : Int) : Bool :=
  let ci := v.toNat % 65536
  (c.order (ci / 256)).contains (ci % 256) && c.gauge ci

/-- What decides that. -/
def gaugeKeys (c : Cand) (v : Int) : List Nat :=
  let ci := v.toNat % 65536
  if (c.order (ci / 256)).contains (ci % 256) then [pid 3 ci 10, skey 1 (ci / 256)] else [skey 1 (ci / 256)]

/-- Arms (R124, R126, R145). -/
def armRules (c : Cand) (a : Nat) : List CheckRule :=
  let ms := c.plate.arms.get a []
  let tabs := c.plate.arms.keys.map (fun b => skey 2 b)
  let elsewhere := c.plate.arms.any (fun x => x.1 ≠ a && x.2.any (fun m => ms.any (fun k => k.ci = m.ci)))
  let u4 := 2 ^ (c.get 1 0 6).toNat
  let ports := (ms.map (fun m => m.ci / 256)).eraseDups
  [(tabs, elsewhere || decide ((ms.map (·.ci)).eraseDups.length < ms.length)),
   ([skey 2 a] ++ ms.map (fun m => pid 3 m.ci 10), ms.any (fun m => c.gauge m.ci)),
   ([skey 2 a], decide (4 < ports.length)),
   ([pid 1 0 0, pid 1 0 6, skey 2 a], ms.any (·.trim) && decide (65535 * u4 < c.get 1 0 0 * 40)),
   ([pid 1 0 0, pid 0x10 a 10], decide (c.get 1 0 0 < 4 * c.get 0x10 a 10)),
   ([pid 0x10 a 2, skey 2 a], decide ((ms.length : Int) < c.get 0x10 a 2)),
   ([pid 0x11 a 12, pid 0x11 a 14], decide (c.get 0x11 a 12 < c.get 0x11 a 14)),
   ([pid 0x11 a 4] ++ gaugeKeys c (c.get 0x11 a 4), !gaugeSource c (c.get 0x11 a 4)),
   ([pid 0x11 a 6] ++ gaugeKeys c (c.get 0x11 a 6), decide (0 ≤ c.get 0x11 a 6) && !gaugeSource c (c.get 0x11 a 6)),
   ([skey 2 a] ++ (c.nodes.filter (fun n => n.armSel = a + 1)).map (fun n => skey 3 n.node),
     c.nodes.any (fun n => n.armSel = a + 1 && n.outLen ≠ 2))]

/-- Trim cells of a port (R126). -/
def trimRules (c : Cand) : List CheckRule :=
  c.basins.map (fun p =>
    (c.plate.arms.keys.map (fun a => skey 2 a),
      decide (8 < (c.plate.arms.flatMap (fun x => x.2.filter (fun m => m.trim && m.ci / 256 = p))).length)))

/-- Exponent limits (R58). -/
def limitRules (c : Cand) : List CheckRule :=
  let one := fun (sec : Nat) (x : Nat × Int × Int) => ([skey sec x.1], decide (x.2.2 < x.2.1))
  c.nodes.zipIdx.map (fun x => one 3 (x.2, x.1.efloor, x.1.eceil)) ++ c.plate.stages.map (fun x => one 4 (x.1, x.2.efloor, x.2.eceil)) ++
  c.plate.inLims.map (one 6) ++ c.plate.obsLims.map (one 2)

/-- Element `i` of coefficient `k` of a node, by value. -/
def Cand.coef (c : Cand) (n : NodeDef) (k i : Nat) : Rat :=
  let v := (c.stage (n.parBase + k)).val
  ewVal (elemWord v (if v.m.length = 1 then 0 else i))

/-- The PARAM_IDs of a coefficient's elements. -/
def coefKeys (n : NodeDef) (k : Nat) : List Nat := (List.range 16).map (fun i => pid 0x13 (n.parBase + k) i)

/-- Some element of the node has a property. -/
def anyEl (n : NodeDef) (p : Nat → Bool) : Bool := (List.range n.outLen).any p

/-- Coefficient `a` exceeds coefficient `b` in some element. -/
def coefAbove (c : Cand) (n : NodeDef) (a b : Nat) : CheckRule :=
  (coefKeys n a ++ coefKeys n b, anyEl n (fun i => decide (c.coef n b i < c.coef n a i)))

/-- Abscissae of a LOOKUP table (R105). -/
def abscissa (c : Cand) (n : NodeDef) (j : Nat) : Rat := ewVal (elemWord (c.stage (n.parBase + j / 16)).val (j % 16))

/-- 1 ÷ T rounded to a normalised 24-bit mantissa (R119). -/
def invT (t : Nat) : ElemWord :=
  let q : Rat := 1 / (t : Rat)
  let e : Int := (List.range 16).foldl (fun (b : Int) k => if q < pow2 (-(k : Int)) then -(k : Int) else b) 1
  { m := rhe (q * pow2 (23 - e)), e := e }

/-- Candidates of a selector. -/
def candidates (n : NodeDef) : List NodeRef := if n.opt.getLsbD 0 then n.refs else n.refs.dropLast

/-- MODE_SELECT (R119). -/
def modeRules (c : Cand) (n : NodeDef) : List CheckRule :=
  let cs := candidates n
  let law := cs.filterMap (fun r => (c.nodes[r.index]?).bind (fun d => if d.opcode = 0x20 then some d else none))
  let t := c.coef n 0 0
  let w := elemWord (c.stage (n.parBase + 1)).val 0
  [([skey 3 n.node] ++ cs.map (fun r => skey 3 r.index),
     cs.length < 2 || 8 < cs.length ||
     cs.any (fun r => r.kind ≠ 0 || (match c.nodes[r.index]? with | some d => d.outLen ≠ n.outLen | none => true))),
   (coefKeys n 0, t ≠ (t.floor : Rat) || decide (t < 1) || decide (10000 < t)),
   (coefKeys n 0 ++ coefKeys n 1, ewVal w ≠ ewVal (invT t.floor.toNat)),
   (skey 3 n.node :: law.map (fun d => skey 3 d.node), law.any (fun d => c.nodes.any (fun m =>
      m.opcode = 0x21 && m.node ≠ n.node && (candidates m).any (fun r => r.index = d.node))))] ++
  law.flatMap (fun d =>
    (coefKeys d 7, anyEl d (fun i => c.coef d 7 i = 0)) ::
    (List.range (d.opt.toNat % 16)).map (fun j =>
      (coefKeys d (12 + 6 * j) ++ coefKeys d (13 + 6 * j), anyEl d (fun i => 1 + c.coef d (12 + 6 * j) i + c.coef d (13 + 6 * j) i = 0))))

/-- Coefficients of a node (R70, R104, R105, R109, R116, R119) and its references (R160). -/
def nodeRules (c : Cand) (n : NodeDef) : List CheckRule :=
  (skey 3 n.node :: c.plate.arms.keys.map (fun a => skey 2 a),
    n.refs.any (fun r => r.kind = 3 && (11 < r.index || !(c.plate.arms.keys.contains r.index)))) ::
  match n.opcode with
  | 0x18 => if n.opt.getLsbD 0 then [] else [coefAbove c n 0 1]
  | 0x19 => [coefAbove c n 1 0, coefAbove c n 2 3]
  | 0x1A =>
    let p := n.opt.toNat % 512
    [((List.range ((p + 15) / 16)).flatMap (coefKeys n), p < 2 || 256 < p || (List.range (p - 1)).any (fun j => decide (abscissa c n (j + 1) ≤ abscissa c n j)))]
  | 0x1D => [coefAbove c n 1 2]
  | 0x20 => [coefAbove c n 5 6]
  | 0x25 =>
    [(coefKeys n 2 ++ coefKeys n 3, anyEl n (fun i => decide (c.coef n 3 i ≤ c.coef n 2 i) || decide (c.coef n 2 i < 1 / 2) || decide (3 / 2 < c.coef n 3 i))),
     ([skey 3 n.node], n.opt.toNat % 4 = 3 || (!n.opt.getLsbD 2 && n.opt.toNat % 4 ≠ 0)),
     (coefKeys n 10, decide (c.coef n 10 0 < 1) || decide (65535 < c.coef n 10 0))]
  | 0x21 => modeRules c n
  | _ => []

/-- PHASE_REQ_NODE (R26). -/
def phaseRule (c : Cand) : List CheckRule :=
  let k := c.get 0x15 0 2
  [([pid 0x15 0 2, skey 3 k.toNat], decide (0 ≤ k) && (match c.nodes[k.toNat]? with | some n => n.outLen ≠ 1 | none => true))]

/-- Point limits (R222): those of points that the values name. -/
def pointRules (s : State) (c : Cand) : List CheckRule :=
  let ps := ((c.par.filter (fun x => x.1 / 2 ^ 24 = 0x14)).map (fun x => x.1 % 2 ^ 24 / 16)).eraseDups
  let v := fun p i => parOf c.par c.plate.arms (0x14000000 + p * 16 + i)
  ps.map (fun p =>
    let x := fun i => ptVal (ptFormat { s with cfg := { s.cfg with plate := some c.plate } } p) (BitVec.ofInt 32 (v p i))
    ([0x14000000 + p * 16, 0x14000001 + p * 16, 0x14000002 + p * 16, 0x14000003 + p * 16],
      v p 2 == 1 && v p 3 == 1 && decide (x 0 < x 1)))

/-- A port mask names one port, or one PRP pair of the plate (R234, R239). -/
def portOrPair (pl : Plate) (m : Nat) : Bool :=
  (List.range 8).any (fun p => m = 2 ^ p) || [0, 1].any (fun q => pl.prpPairs.testBit q && m = 3 * 2 ^ (2 * q))

/-- An IPv4 address that is neither 0.0.0.0 nor unicast (R229). -/
def notUnicast (a : Int) : Bool := decide (0xE0000000 ≤ a)

/-- Station ports, PTP and subscriptions (R234, R237, R243, R258). -/
def stationRules (c : Cand) : List CheckRule :=
  let pl := c.plate
  let lacks := fun i => (List.range 8).any (fun p => (c.get 0x31 i 4).toNat.testBit p && !((c.get 0x30 p 6).toNat.testBit 2))
  let undefinedRef := fun (r : NodeRef) =>
    r.kind = 2 &&
    (if 0x200 ≤ r.index ∧ r.index < 0x300 then
       (match pl.svs.find ((r.index - 0x200) / 4) with | some d => r.index % 4 ≠ 3 && decide (d.groups.length ≤ r.index % 4) | none => true)
     else if 0x300 ≤ r.index ∧ r.index < 0x500 then
       (match pl.gooseSubs.find ((r.index - 0x300) / 4) with | some d => r.index % 4 ≠ 3 && decide (d.groups.length ≤ r.index % 4) | none => true)
     else false)
  [(pl.svs.keys.map (skey 6), decide (1600000 < (pl.svs.map (fun x => x.2.rate)).sum)),
   ([pid 0x31 0 2, pid 0x31 1 2], c.get 0x31 0 2 == c.get 0x31 1 2),
   (pid 0x31 0 4 :: (List.range 8).map (fun p => pid 0x30 p 6), lacks 0),
   (pid 0x31 1 4 :: (List.range 8).map (fun p => pid 0x30 p 6), lacks 1)] ++
  ([0, 1].filter (fun k => pl.prpPairs.testBit k)).flatMap (fun k =>
    [([skey 6 (1024 + k), pid 0x30 (2 * k) 0, pid 0x30 (2 * k + 1) 0], c.get 0x30 (2 * k) 0 != c.get 0x30 (2 * k + 1) 0),
     ([skey 6 (1024 + k), pid 0x30 (2 * k) 6, pid 0x30 (2 * k + 1) 6], c.get 0x30 (2 * k) 6 != c.get 0x30 (2 * k + 1) 6)]) ++
  c.nodes.map (fun n => ([skey 3 n.node], n.refs.any undefinedRef))

/-- Grid Edge Timer (R281) and governor (R462). -/
def getGovRules (c : Cand) : List CheckRule :=
  [0, 1].flatMap (fun p =>
    [([pid 0x34 p 8, pid 0x34 p 9], decide (c.get 0x34 p 9 ≤ c.get 0x34 p 8)),
     ([pid 0x34 p 10, pid 0x34 p 12], decide (c.get 0x34 p 10 * 10 ≤ c.get 0x34 p 12))]) ++
  [([pid 0x60 0 0, pid 0x60 0 2], decide (c.get 0x60 0 2 - c.get 0x60 0 0 < 24)),
   ([pid 1 0 0, pid 0x60 0 4], decide (c.get 0x60 0 4 * 1000 < 2 * c.get 1 0 0) || decide (c.get 0x60 0 4 < 4)),
   ([pid 0x60 0 12, pid 0x60 0 14], decide (c.get 0x60 0 14 < c.get 0x60 0 12))]

/-- Follow SYNC_CH from a channel; a channel that is not synchronised to another ends the path. -/
def syncPath (c : Cand) : Nat → Nat → List Nat
  | 0, _ => []
  | n + 1, ch => if c.get 0x20 ch 20 == 1 then (c.get 0x20 ch 22).toNat :: syncPath c n (c.get 0x20 ch 22).toNat else []

/-- Pulse channels (R293, R294). -/
def pulseRules (c : Cand) (ch : Nat) : List CheckRule :=
  let g := fun i => c.get 0x20 ch i
  let path := syncPath c 12 ch
  [([pid 0x20 ch 4, pid 0x20 ch 5], decide (g 5 < g 4)),
   ([pid 0x20 ch 4, pid 0x20 ch 6, pid 0x20 ch 8], decide (g 4 < 2 * (g 6 + g 8))),
   ([pid 0x20 ch 2, skey 3 (g 2).toNat], decide (0 ≤ g 2) && (match c.nodes[(g 2).toNat]? with | some n => n.outLen ≠ 4 | none => true)),
   ([pid 0x20 ch 22], g 22 == ch && g 20 == 1),
   ((List.range 12).flatMap (fun k => [pid 0x20 k 20, pid 0x20 k 22]), path.contains ch),
   ([pid 0x20 ch 4, pid 0x20 ch 24], decide (g 4 ≤ g 24)),
   ([pid 0x20 ch 0, pid 0x20 ch 1, pid 0x20 ch 2], (g 0 == 1 || g 1 == 1) && decide (g 2 < 0))]

/-- Trip inputs of class W (R294, R299). -/
def tripRules (c : Cand) : List CheckRule :=
  (List.range 16).map (fun ti =>
    let w := (c.get 0x21 ti 6).toNat
    ([pid 0x20 w 12, pid 0x21 ti 2, pid 0x21 ti 6], c.get 0x21 ti 2 == 1 && (c.get 0x20 w 12).toNat.testBit ti))

/-- Fault reactions (R374): of a fixed source, and LEVEL 3 without a domain. -/
def faultRules (c : Cand) : List CheckRule :=
  (List.range 512).filterMap (fun n => (faultInfo n).map (fun f =>
    ([pid 0x50 n 0, pid 0x50 n 2],
      (f.fixed && (c.get 0x50 n 0 != f.dflt || c.get 0x50 n 2 != (b2n f.block : Int))) || (c.get 0x50 n 0 == 3 && (faultDomain n).isNone))))

/-- Safe Ramp-and-Block (R392, R393). -/
def safetyRules (c : Cand) : List CheckRule :=
  let ks := (List.range 8).filter (fun k => decide (0 ≤ c.get 0x51 (0x10 + k) 0))
  let t := c.get 1 0 0
  let scale := fun k => c.get 0x51 (0x10 + k) 4
  let zero := fun (k : Nat) (rate : Int) => rhe ((rate : Rat) * (t : Rat) / 1000 / (scale k : Rat)) = 0
  [([skey 6 2048, pid 0x51 0x20 6, pid 0x51 0x20 8, pid 0x51 0x20 10],
     c.plate.safetyPair.isSome && (decide (c.get 0x51 0x20 6 < 0) || decide (c.get 0x51 0x20 8 < 0) || decide (c.get 0x51 0x20 10 < 0))),
   ((List.range 8).map (fun k => pid 0x51 (0x10 + k) 0), ks.isEmpty)] ++
  ks.flatMap (fun k =>
    let q := 0x10 + k
    let ci := (c.get 0x51 q 0).toNat
    [([pid 0x51 q 0, pid 3 ci 10], !c.gauge ci),
     ([pid 0x51 q 8, pid 0x51 q 10], decide (c.get 0x51 q 10 ≤ c.get 0x51 q 8)),
     ([pid 1 0 0, pid 0x51 q 4, pid 0x51 q 12], decide (zero k (c.get 0x51 q 12)))] ++
    (List.range 4).flatMap (fun p =>
      let lim : Rat := (c.get 0x51 q 10 : Rat) / ((c.get 0x51 p 2 : Rat) * 100) + ((c.get 0x51 p 6 + 2) * t : Int) / 100000000
      [([pid 1 0 0, pid 0x51 q 4, pid 0x51 p 2], decide (zero k (c.get 0x51 p 2))),
       ([pid 1 0 0, pid 0x51 p 0, pid 0x51 p 2, pid 0x51 p 4, pid 0x51 p 6, pid 0x51 q 10],
         c.get 0x51 p 0 == 0 && decide ((c.get 0x51 p 4 : Rat) / 1000 < lim))]))

/-- Fewest cell reports that the schedule places in a cycle: of each port the emptiest rotation phase (R416). -/
def leastReports (c : Cand) : Nat :=
  (c.basins.map (fun p =>
    let cells := (c.order p).filter (fun m => !c.gauge (ciOf p m))
    ((leastOf ((List.range (c.get 1 p 8).toNat).map (fun ph => (cells.filter (fun m => c.get 1 (ciOf p m) 10 == ph)).length)))).getD 0)).sum

/-- Tandem policy (R416), mirror list (R424) and capture shares (R440). -/
def tandemRules (c : Cand) : List CheckRule :=
  [([pid 1 0 14, pid 0x52 0 6], decide (c.get 1 0 14 ≤ c.get 0x52 0 6)),
   ([pid 0x52 0 10] ++ c.basins.map (fun p => pid 1 p 8), decide ((leastReports c : Int) < c.get 0x52 0 10)),
   ([skey 11 0], decide (319 < c.plate.mirror.length)),
   ((List.range 16).map (fun k => pid 0x61 k 0), decide (192 < ((List.range 16).map (fun k => c.get 0x61 k 0)).sum))]

/-- Every cross-parameter rule. -/
def crossRules (s : State) (c : Cand) : List CheckRule :=
  cycleRules c ++ c.plate.arms.keys.flatMap (armRules c) ++ trimRules c ++ limitRules c ++ c.nodes.flatMap (nodeRules c) ++ phaseRule c ++
  pointRules s c ++ stationRules c ++ getGovRules c ++ (List.range 12).flatMap (pulseRules c) ++ tripRules c ++ faultRules c ++ safetyRules c ++
  tandemRules c

/-! ### Graph rules (R77, R79, R86, R99, R101) -/

/-- Length of what a reference delivers. -/
def refLen (c : Cand) (r : NodeRef) : Nat :=
  match r.kind with
  | 0 | 1 => (match c.nodes[r.index]? with | some n => n.outLen | none => 0)
  | 2 =>
    if 0x100 ≤ r.index ∧ r.index < 0x104 then 4
    else if 0x200 ≤ r.index ∧ r.index < 0x300 then
      (if r.index % 4 = 3 then 4 else match c.plate.svs.find ((r.index - 0x200) / 4) with | some d => (d.groups.getD (r.index % 4) []).length | none => 0)
    else if 0x300 ≤ r.index ∧ r.index < 0x500 then
      (if r.index % 4 = 3 then 3 else match c.plate.gooseSubs.find ((r.index - 0x300) / 4) with | some d => (d.groups.getD (r.index % 4) []).length | none => 0)
    else if 0xFFD0 ≤ r.index ∧ r.index < 0xFFDC then 4
    else if 0xFFE0 ≤ r.index ∧ r.index < 0xFFEC then 8
    else if r.index = 0xFFF0 ∨ r.index = 0xFFF1 then 4
    else 0
  | 3 => 8
  | 4 => (c.stage r.index).val.m.length
  | _ => 0

/-- What the catalogue requires of a node (R101): inputs and output, PAR_COUNT. The f input of SEQ_DECOMP has the one
element that R101 gives it, so a reference straight to the four elements of a GRID_PLL output, of which R110 speaks, is
refused and a node that passes element 1 on is needed (DESIGN CHOICE, log 106). -/
def catalogue (n : NodeDef) (ins : List Nat) : Bool :=
  let l := n.outLen
  let el := fun k => ins.length = k && ins.all (fun x => x = l || x = 1)
  let o := n.opt.toNat
  match n.opcode with
  | 0x01 => el 1 && n.parCount = 2
  | 0x02 | 0x03 | 0x04 | 0x08 | 0x09 | 0x0A => el 2 && n.parCount = 0
  | 0x05 => el 1 && n.parCount = 1
  | 0x06 | 0x07 => el 1 && n.parCount = 0
  | 0x0B => el 3 && n.parCount = 0
  | 0x10 => 1 ≤ ins.length && 1 ≤ ins.sum && ins.sum ≤ 90 && n.parCount = ins.sum
  | 0x11 | 0x12 => ins = [3] && l = 3 && n.parCount = 0
  | 0x14 | 0x15 => ins.length = 2 && l % 2 = 0 && ins.getD 0 0 = l && (ins.getD 1 0 = 1 || ins.getD 1 0 = l / 2) && n.parCount = 0
  | 0x18 => if o % 2 = 1 then el 3 && n.parCount = 0 else el 1 && n.parCount = 2
  | 0x19 => el 1 && n.parCount = 5
  | 0x1A => el 1 && n.parCount = 2 * ((o % 512 + 15) / 16)
  | 0x1B | 0x1C => el 1 && n.parCount = 1
  | 0x1D => el 1 && n.parCount = 3
  | 0x20 => o % 16 ≤ 8 && el (1 + o / 16 % 2 + o / 32 % 2) && n.parCount = 9 + 6 * (o % 16)
  | 0x21 => 2 ≤ ins.length && (if o % 2 = 1 then ins else ins.dropLast).all (fun x => x = l) && 1 ≤ ins.getLastD 0 && n.parCount = 2
  | 0x24 => ins = [2, 1] && l = 4 && n.parCount = 2
  | 0x25 => (if o / 4 % 2 = 1 then ins.length = 2 && ins.getD 1 0 = 4 else ins.length = 1) && 2 ≤ ins.getD 0 0 && l = 4 && n.parCount = 11
  | _ => false

/-- Predecessors through KIND-0 references. -/
def preds (c : Cand) (k : Nat) : List Nat :=
  match c.nodes[k]? with | some n => (n.refs.filter (fun r => r.kind = 0)).map (·.index) | none => []

/-- Everything that nodes depend on within `n` references. -/
def closure (c : Cand) : Nat → List Nat → List Nat
  | 0, ks => ks
  | n + 1, ks =>
    let more := ((ks.flatMap (preds c)).eraseDups).filter (fun k => !ks.contains k)
    if more.isEmpty then ks else closure c n (ks ++ more)

/-- A node that depends on itself. -/
def onCycle (c : Cand) (k : Nat) : Bool := (closure c c.nodes.length (preds c k).eraseDups).contains k

/-- A graph rule is broken at a node. -/
def nodeBad (c : Cand) (k : Nat) (n : NodeDef) : Bool :=
  let ins := n.refs.map (refLen c)
  n.node ≠ k || 49152 < n.inBase + n.refs.length || opSteps n.opcode n.opt ins.sum ≠ some n.steps ||
  n.refs.any (fun r => 4 < r.kind || (r.kind ≤ 1 && c.nodes.length ≤ r.index)) || onCycle c k ||
  (n.armSel ≠ 0 && (!(c.plate.arms.keys.contains (n.armSel - 1)) || (c.nodes.take k).any (fun m => m.armSel = n.armSel))) ||
  32768 < n.parBase + n.parCount || !catalogue n ins ||
  (List.range n.parCount).any (fun j =>
    let len := (c.stage (n.parBase + j)).val.m.length
    if n.opcode = 0x1A then len ≠ 16 else len ≠ 1 && len ≠ n.outLen)

/-- The lowest node at which a graph rule is broken, those that the simulation of R86 shows late with them (log 93); an arm
without a node, and a HOME_BOUND above 450 ns, name no node, and the number that they report is free (log 14). -/
def graphFail (s : State) (c : Cand) : Option Nat :=
  let bad := (c.nodes.zipIdx.filter (fun x => nodeBad c x.2 x.1)).map (·.2)
  match leastOf (if bad.isEmpty then simLate c.nodes else bad) with
  | some k => some k
  | none =>
    if c.plate.arms.keys.any (fun a => !(c.nodes.any (fun n => n.armSel = a + 1))) || 4500 < c.plate.hdr.homeBound.toNat then
      some (Config.freeWord s.free).toNat
    else none

/-! ### Rules on live state (R274) -/

/-- A station port's lane is in use at one of the given modes. -/
def stationLit (s : State) (modes : List Nat) : Bool :=
  (List.range 8).any (fun p => (s.stn.ports.get p {}).up && modes.contains (parN s 0x30 p 0))

/-- A clock output feeds the timebase, the MPC, a lit lane or a linked endpoint (R272, R274). -/
def clkInUse (s : State) (k : Nat) : Bool :=
  let bl1 := (namedPorts s).any (fun p => lit s p && (port s p).gen == .bl1)
  let bl23 := (namedPorts s).any (fun p => lit s p && (port s p).gen != .bl1)
  let b0 := stationLit s [1]
  let b1 := stationLit s [2, 3] || s.tan.tp0Up || s.tan.tp1Up
  let lanes := bl1 || bl23 || b0 || b1
  match k with
  | 0 | 1 => !s.clk.onE
  | 2 => !s.clk.onE && lanes
  | 3 | 4 => s.clk.onE
  | 5 => s.clk.onE && lanes
  | 6 => bl1
  | 7 => bl23
  | 8 => b0
  | 9 => b1
  | _ => s.host.cfgReady

/-- Control word in force of a clock output. -/
def clkWord (s : State) (k : Nat) : Word := s.clk.active.get k (clkResetWord k)

/-- Control word that a configuration gives an output; a DELAY that it does not name stays as it is. -/
def clkCand (s : State) (c : Cand) (k : Nat) : Word :=
  let d := match c.par.find (pid 0x40 k 4) with | some d => d.toNat | none => (clkWord s k).toNat / 2 ^ 16 % 256
  BitVec.ofNat 32 ((c.get 0x40 k 0).toNat * 2 ^ 31 + d * 2 ^ 16 + (c.get 0x40 k 8).toNat)

/-- R274 for every output in use. -/
def liveRules (s : State) (c : Cand) : List CheckRule :=
  ((List.range 12).filter (clkInUse s)).flatMap (fun k =>
    let a := (clkWord s k).toNat
    let b := (clkCand s c k).toNat
    [([pid 0x40 k 0], a / 2 ^ 31 != b / 2 ^ 31), ([pid 0x40 k 8], a % 1024 != b % 1024),
     ([pid 0x40 k 4], 1 < ((a / 2 ^ 16 % 256 : Nat) - (b / 2 ^ 16 % 256 : Nat) : Int).natAbs)])

/-! ### The check (R358) -/

/-- An exponent limit outside −128 to 127 (R58). -/
def limitsOut (x : Int × Int) : Bool := decide (x.1 < -128) || decide (127 < x.1) || decide (x.2 < -128) || decide (127 < x.2)

/-- Values of the tables that lie outside their ranges, by place; descriptors at and above NODE_COUNT are ignored (R77). -/
def tableRanges (s : State) (c : Cand) : List CheckRule :=
  let pl := c.plate
  pl.order.map (fun x => ([skey 1 x.1], decide (nPorts s ≤ x.1) || x.2.any (fun m => 255 < m))) ++
  pl.arms.map (fun x => ([skey 2 x.1],
    decide (nArms s ≤ x.1) || x.2.isEmpty || decide (1024 < x.2.length) || decide (4 < (x.2.filter (·.trim)).length) || x.2.any (fun m => nCells s ≤ m.ci))) ++
  [([skey 3 65536], decide (pl.hdr.nodeCount.toNat < 1) || decide (4096 < pl.hdr.nodeCount.toNat)), ([skey 0 0], pl.hdr.plateTag = 0#16)] ++
  pl.stages.map (fun x => ([skey 4 x.1], limitsOut (x.2.efloor, x.2.eceil))) ++ pl.inLims.map (fun x => ([skey 6 x.1], limitsOut x.2)) ++
  pl.obsLims.map (fun x => ([skey 2 x.1], limitsOut x.2)) ++
  c.nodes.zipIdx.map (fun x => ([skey 3 x.2],
    limitsOut (x.1.efloor, x.1.eceil) || x.1.refs.any (fun r => 7 < r.kind || 65535 < r.index) ||
    7 < x.1.prio || 63 < x.1.homeLane || 12 < x.1.armSel || x.1.outLen = 0 || 16 < x.1.outLen || 16 < x.1.refs.length || 90 < x.1.parCount)) ++
  (List.range 8).map (fun p =>
    ([pid 0x30 p 12], decide (4094 < c.get 0x30 p 12 % 4096) || (c.get 0x30 p 12).toNat.testBit 12)) ++
  (List.range 8).map (fun p => ([pid 0x30 p 10], notUnicast (c.get 0x30 p 10))) ++
  pl.svs.map (fun x => ([skey 6 x.1],
    63 < x.1 || !portOrPair pl x.2.ports || x.2.asdu < 1 || 8 < x.2.asdu || 1 < x.2.domain || x.2.groups.any (fun g => g.any (fun q => x.2.qty ≤ q)) || x.2.rate < 4000 || 96000 < x.2.rate || x.2.qty = 0 || 24 < x.2.qty || 3 < x.2.groups.length || x.2.groups.any (fun g => 8 < g.length) ||
    200000 < x.2.delay || 200000 < x.2.latency || x.2.timeout < 2 || 255 < x.2.timeout)) ++
  pl.gooseSubs.map (fun x => ([skey 6 (64 + x.1)],
    127 < x.1 || !portOrPair pl x.2.ports || x.2.groups.any (fun g => g.any (fun m => 47 < m)) || 3 < x.2.groups.length || x.2.groups.any (fun g => 16 < g.length))) ++
  pl.goosePubs.map (fun x => ([skey 6 (256 + x.1)],
    31 < x.1 || 64 < x.2.members.length || x.2.t1 < 50 || 10000 < x.2.t1 || x.2.t0 < 10 || 6000 < x.2.t0)) ++
  pl.slots.map (fun x => ([skey 4 (65536 + x.1)], 255 < x.1 || 32767 < x.2))

/-- Values that have no default and that a plate must give: C_NOM and GAUGE_I of an arm (R145), LOCATION and CELL_TYPE of
a mooring (R205). One that is missing is reported as out of its range (log 107). -/
def requiredRules (c : Cand) : List CheckRule :=
  let miss := fun id => ([id], (c.par.find id).isNone)
  c.plate.arms.keys.flatMap (fun a => [miss (pid 0x11 a 0), miss (pid 0x11 a 4)]) ++
  c.basins.flatMap (fun p => (c.order p).flatMap (fun m => [miss (pid 3 (ciOf p m) 8), miss (pid 3 (ciOf p m) 10)]))

/-- Every value against its own range. -/
def rangeRules (s : State) (c : Cand) : List CheckRule :=
  tableRanges s c ++ requiredRules c ++ c.par.filterMap (fun x => (parRow x.1).map (fun r => ([x.1], !valueOk x.1 r x.2)))

/-- The lowest report among broken rules. -/
def firstBroken (c : Cand) (rs : List CheckRule) : Option Nat :=
  leastOf ((rs.filter (fun r => r.2)).map (fun r => reportKey c r.1))

/-- The first staged entry that fails by itself: out of range, or whole plate only. -/
def entryFail (s : State) (entries : List (Nat × Int)) : Option (Nat × Nat) :=
  entries.findSome? (fun x =>
    match paramRow s x.1 with
    | some r => if r.whole then some (2, x.1) else if valueOk x.1 r x.2 then none else some (1, x.1)
    | none => some (1, x.1))

/-- FAIL_CODE and FAIL_PARAM of a configuration, both 0 where it passes (R358). -/
def checkFail (s : State) (c : Cand) : Nat × Nat :=
  let first : Option (Nat × Nat) :=
    match c.staged with
    | some _ => entryFail s s.pound.entries
    | none =>
      if c.plate.hdr.plateTag = plateTag s && s.cfg.plate.isSome then some (6, 0)
      else (firstBroken c (rangeRules s c)).map (fun k => (1, k))
  match first with
  | some f => f
  | none =>
    match firstBroken c (crossRules s c) with
    | some k => (3, k)
    | none =>
      match graphFail s c with
      | some n => (4, n)
      | none =>
        match firstBroken c (liveRules s c) with
        | some k => (5, k)
        | none => (0, 0)

/-- The rules on live state hold: what a lock-through looks at again (R365). -/
def liveOk (s : State) (c : Cand) : Bool := (firstBroken c (liveRules s c)).isNone

/-- The content is of protection class (R359). -/
def protectionClass (s : State) : Bool :=
  match s.pound.plate with
  | some _ => true
  | none => s.pound.entries.any (fun x => match paramRow s x.1 with | some r => r.protection | none => false)

/-- CHANGE_DIGEST (R360). -/
def changeDigest (s : State) : List Byte :=
  match s.pound.plate with
  | some p => sha256 (2#8 :: p.imageDigest)
  | none => sha256 (1#8 :: s.pound.entries.flatMap (fun x => be 4 x.1 ++ beI 8 x.2) ++ be 2 (plateTag s).toNat)

end Sys2Proof.Machine
end

