-- ==== Sys2Proof/Machine/Governor.lean ====
section
/-! DEFINITION. The supply governor and the thermal monitors (R457–R472): voltages in 0.1 mV, slack and canary steps
in 0.1 ns, temperatures in 0.1 °C. -/

namespace Sys2Proof.Machine

/-- The governor governs (R467): a state in which the graph's frames have a deadline to keep. -/
def governs (s : State) : Bool := !fixedVolt s.dev.state

/-- Raise or lower the command, inside the limits of R463. -/
def govMove (d : Int) (s : State) : State :=
  let low : Int := max (par s 0x60 0 12 * 25) (if s.gov.recover then par s 0x60 0 14 * 25 else 6300)
  { s with gov := govCommand (min (max ((s.gov.v : Int) + d) low) 8700).toNat s.gov }

/-- A deadline miss reaches the governor (R464). -/
def govMiss (s : State) : State :=
  if !governs s then s else
  let v := max s.gov.v (par s 0x60 0 14 * 25).toNat
  { s with gov := { govCommand v s.gov with recover := true } }

/-- The slack of a launched cycle (R461). -/
def govSlack (slack : Int) (s : State) : State :=
  { s with gov := { s.gov with sMin := some (match s.gov.sMin with | some m => min m slack | none => slack) } }

/-- The lanes' canary steps of a cycle (R465): a forced raise at most once in 20 µs, and FLT_CANARY above 6.0 ns. -/
def govCanary (c : SMap Nat) (s : State) : State :=
  let live := c.filter (fun x => !(s.graph.lanes.get x.1 {}).retired)
  let top : Nat := (live.map (fun x => x.2)).foldl max 0
  let s := { s with gov := { s.gov with canaryMax := max s.gov.canaryMax top } }
  let free := match s.gov.lastCanary with | some t => 8000 ≤ s.now - t | none => true
  let s := if governs s && free && par s 0x60 0 10 < (top : Int) then
      let s := govMove (par s 0x60 0 6 * 25) s
      { s with gov := { s.gov with lastCanary := some s.now } }
    else s
  (live.filter (fun x => 60 < x.2)).foldl (fun s x => raise 355 (be 1 x.1) s) s

/-- A window without a launched cycle has no s_min: element 0 of the graph input is then a free value (R468, log 14). -/
def govStage (s : State) : List Int :=
  [match s.gov.sMin with | some m => m | none => (Config.freeWord s.free).toInt, (s.gov.v : Int), (s.gov.canaryMax : Int),
   s.gov.temps.foldl max (s.gov.temps.headD 0)]

/-- A decision window ends (R463, R468). -/
def execGovWindowEnd (s : State) : Host.Outcome State Fault Refusal :=
  if !governs s then ok s else
  let lo := par s 0x60 0 0 * 25
  let hi := par s 0x60 0 2 * 25
  let s := match s.gov.sMin with
    | none => govMove 0 s
    | some m =>
      let s := govMove (if m < lo then par s 0x60 0 6 * 25 else if hi < m then -(par s 0x60 0 8 * 25) else 0) s
      if m < lo then (if s.gov.v = 8700 then raise 354 [] s else s) else clear 354 s
  ok { s with gov := { s.gov with stage := govStage s, sMin := none, canaryMax := 0 }, free := s.free + 1 }

/-- 100 ms have passed since the last miss (R464). -/
def execGovRecoverHoldExpiry (s : State) : Host.Outcome State Fault Refusal := ok { s with gov := { s.gov with recover := false } }

/-- An AVSBus transaction succeeds: a command that has changed meanwhile is written next. -/
def avsDone (g : Gov) : Gov := govCommand g.v { g with writePend := false, retry := false }

/-- An AVSBus transaction fails (R458): one retry, then FLT_GOV_AVS and silence until a status read succeeds. -/
def avsFailed (s : State) : State :=
  if !s.gov.writePend then s
  else if s.gov.retry then raise 352 [] { s with gov := { s.gov with writePend := false, retry := false, blocked := true } }
  else { s with gov := { s.gov with retry := true } }

/-- An AVSBus transaction is done (R458). -/
def execAvsTransactionDone (r : AvsResult) (s : State) : Host.Outcome State Fault Refusal :=
  ok (match r with
  | .write v | .read v =>
    if !s.gov.writePend then s
    else if ((v : Int) - (s.gov.written : Int)).natAbs ≤ 50 then { s with gov := avsDone s.gov } else avsFailed s
  | .statusOk =>
    if s.gov.blocked then
      let s := clear 352 s
      { s with gov := { s.gov with blocked := false, written := s.gov.v, writePend := true, retry := false } }
    else s
  | .failed => avsFailed s)

/-- VDD_CORE has left 0.615 V to 0.885 V for 1 µs (R460). -/
def execCoreVoltageOutOfRange (s : State) : Host.Outcome State Fault Refusal := ok (raise 353 [] s)

/-- VDD_CORE has been inside that range for 1 ms (R460). -/
def execCoreVoltageRecovered (s : State) : Host.Outcome State Fault Refusal := ok (clear 353 s)

/-- A level source with hysteresis over the dies: raised above `hi`, cleared when every die is below `lo`. -/
def thermalSource (src : Nat) (hi lo : Int) (dies : List Int) (s : State) : State :=
  if dies.any (fun t => hi < t) then raise src (dies.flatMap (beI 2)) s
  else if dies.all (fun t => t < lo) then clear src s else s

/-- The four junction temperatures are sampled (R471). -/
def execThermalSample (dies : List Int) (s : State) : Host.Outcome State Fault Refusal :=
  let w := par s 0x63 0 0 * 10
  ok (thermalSource 357 1100 1000 dies (thermalSource 356 w (w - 50) dies { s with gov := { s.gov with temps := dies } }))

end Sys2Proof.Machine
end

