-- ==== Sys2Proof/Machine/Cycle.lean ====
section
/-! DEFINITION. The control cycle (R14, R19, R20, R31–R51, R84): cycle start, cutoff, packing, launch and deadline. -/

namespace Sys2Proof.Machine

/-! ### The start of a cycle (R17, R20, R25, R30, R31) -/

/-- Converter time has reached an instant of the current cycle, counted in 10 ns from its start. -/
def reached (s : State) (n : CycleNo) (after10 : Nat) : Bool := cycleStartCt s n + after10 * 10 * 2 ^ 32 ≤ ctNow s

/-- A level-4 reaction takes effect (R19, R20, R430): FAULTED, and a unit that asks its twin to take over goes dark. -/
def boundaryLevel4 (s : State) : State :=
  if !s.cyc.level4 then s else
  let s := moveState .faulted { s with cyc := { s.cyc with level4 := false, block4 := false, hwslBlock := false, blockReq := false } }
  if s.dev.takeoverReq then relight { s with tan := { s.tan with withhold := some (holdCycles s - 1) } } else s

/-- Block requests of the HWSL and others (R19, R20); a follower leaves its state to its twin (R23). -/
def boundaryBlock (s : State) : State :=
  let due := s.cyc.hwslBlock || s.cyc.blockReq
  let s := { s with cyc := { s.cyc with hwslBlock := false, blockReq := false, block4 := false } }
  if due && runs s && !follower s then moveState .blocked s else s

/-- An SRB request (R19, R402), or ramp completion (R395, R403). -/
def boundarySrb (s : State) : State :=
  if follower s then s
  else match s.dev.state with
    | .running => if (srbDue s).isSome then moveState .ramping s else s
    | .ramping => if s.srb.st = .ramp && s.srb.complete then moveState .blocked s else s
    | _ => s

/-- A PHASE_SET is due at this cycle: it wins over a request of the graph, and one that R24 does not list from the
phase in force is rejected with ST_STATE all the same (R25, log 100). -/
def phaseSetDue (s : State) : Bool := s.cyc.waiting.any (fun w => w.opcode = 0x13 && dueNow s w)

/-- Phase requests of the cycle before (R25, R26): RECOVERY first, then a PHASE_SET, then the graph's. -/
def boundaryPhase (s : State) : State :=
  let d := s.dev
  let s := { s with dev := { d with recoveryReq := false, phaseReq := none } }
  if d.state ≠ .running then s
  else if d.recoveryReq then
    (let t := setPhase .recovery s; { t with dev := { t.dev with phaseFirst := true, recoveryNow := true } })
  else match d.phaseReq with
    | none => s
    | some p =>
      if phaseSetDue s then s
      else if phaseStep d.phase p then (let t := setPhase p s; { t with dev := { t.dev with phaseFirst := true } })
      else { s with dev := { s.dev with phaseRejects := s.dev.phaseRejects + 1 } }

/-- The observer image buffer written last becomes current (R30). -/
def imageSwap (s : State) : State :=
  let o := s.obs
  if o.written && !o.hold then { s with obs := { o with curBuf := 1 - o.curBuf, imgCycle := o.wrCycle, written := false } } else s

/-- A cycle begins: its flags, the heartbeat (R420), and what waits for a new window. -/
def freshCycle (n : CycleNo) (s : State) : State :=
  { s with
    cyc := { s.cyc with n := n, wraps := if s.cyc.running && n = 0 then s.cyc.wraps + 1 else s.cyc.wraps, running := true, startTick := s.now, frozen := false, launched := false, obsDone := false,
                        graphDone := false, armsDone := [], packed := [], packTime := 0, forceMiss := s.cyc.forceMiss - 1 }
    dev := { s.dev with recoveryNow := false, blockReset := [] }
    obs := { s.obs with corrupt := s.obs.corruptNew, corruptNew := [] }
    tan := { s.tan with hbTx := s.tan.role == .active && !s.tan.hbTx, heardB := s.tan.heardBNext, heardBNext := false,
                        startOff := (s.time.act.ctr.toNat : Int) - (s.time.ct.toNat : Int),
                        withhold := s.tan.withhold.map (fun k => k - 1) } }

/-- The cycle of a planned handover starts on the unit that hands over: dark from here (R432). -/
def handoverStart (s : State) : State :=
  if s.tan.handover ≠ 0 && s.tan.handover = s.cyc.n && s.tan.role == .active then
    relight { s with tan := { s.tan with handed := true } } else s

/-- No channel of the pulse engine runs or waits: a running state has just been entered. -/
def pulIdle (s : State) : Bool := !(s.pul.ch.any (fun x => x.2.running || x.2.waitSync))

/-- What happens at the start of cycle `n`. -/
def beginCycle (n : CycleNo) (s : State) : State :=
  let s := imageSwap (freshCycle n s)
  let s := boundarySrb (boundaryBlock (boundaryLevel4 s))
  let s := judgePorts (handoverStart (boundaryPhase s))
  let s := pulCycle (runs s && pulIdle s) s
  judgeCtOffset (judgeSync (autoSwitch s))

/-- The next cycle starts (R31). -/
def execCycleStart (t : Nat) (s : State) : Host.Outcome State Fault Refusal :=
  let s := advanceTo t s
  ok (if s.cyc.running && reached s (s.cyc.n + 1) 0 then beginCycle (s.cyc.n + 1) s else s)

/-- Converter time reaches CYCLE_BASE: cycle 0 of the new plate starts (R31, R367). -/
def execCycleBaseReached (t : Nat) (s : State) : Host.Outcome State Fault Refusal :=
  let s := advanceTo t s
  ok (if s.cyc.baseWait && s.dev.state.loadedOn && reached s 0 0 then
        beginCycle 0 { s with cyc := { s.cyc with baseWait := false, running := false, wraps := 0, missed := false, missedPrev := false, forceMiss := 0 } }
      else s)

/-! ### The measurement cutoff (R14, R80, R130, R153, R209, R224) -/

/-- The reports taken for this cutoff. -/
def takeReports (s : State) : State :=
  { s with obs := { s.obs with taken := s.obs.late ++ s.obs.store, late := [], store := [] } }

/-- Points of report capture, and gauge samples, from one report (R219, R224, R441). -/
def reportPoints (s : State) (r : Report) : State :=
  let ci := r.ci
  let k := sampleOf r
  let g := r.rep.gauge
  let put := fun i v (s : State) => ptInt (ptOf ci i) v k 0 s
  let s := if r.rep.faultCode = 0 then s
    else setMoor ci (fun x => { x with lastFault := r.rep.faultCode, faultReps := cnt32 x.faultReps }) s
  let s := if g then put 40 r.rep.q0 s else if r.rep.vDev = 0xFFFF then s else put 40 r.rep.vDev s
  let s := put 41 (if g then r.rep.q1 else r.rep.temp) s
  let s := if g then s else put 42 r.rep.vAux s
  let s := ptCount (ptOf ci 44) (moor s ci).faultReps k 0 (put 43 (moor s ci).lastFault s)
  if g then
    let one := fun el (v : Int) (s : State) => capFeed 2 ci el { word := BitVec.ofInt 32 v, v := v, cycle := k, tick := 0 } s
    one 1 r.rep.q1 (one 0 r.rep.q0 s)
  else s

/-- Delays that come into use, and the basin port's counts (R209, R219, R224). -/
def moorCutoff (ci : Nat) (s : State) : State :=
  let t := cutoffTicks s
  let n := s.cyc.n
  let s := match (moor s ci).dNext with
    | some d =>
      if (moor s ci).dDown = d then setMoor ci (fun x => { x with dNext := none }) s
      else ptInt (ptOf ci 19) d n t (setMoor ci (fun x => { x with dDown := d, dNext := none }) s)
    | none => s
  let x := moor s ci
  let c := fun k v (s : State) => ptCount (ptOf ci k) v n t s
  let s := c 22 x.reranges (c 18 x.codeErrors (c 17 x.malformed s))
  if isGauge s ci then s
  else c 26 x.inhibited (c 25 x.selfBlocked (c 24 x.holding (c 23 x.frameErr (c 16 x.firePast s))))

/-- Gauges whose scheduled report did not come leave a gap in captures (R442). -/
def gaugeGaps (cis : List Nat) (s : State) : State :=
  cis.foldl (fun s ci => if isGauge s ci && (missNow s ci).isSome then capGap 2 ci s else s) s

/-- Integers into a graph input. -/
def setInputI (k : Nat) (xs : List Int) (s : State) : State := setInput k (xs.map (fun x => (x : Rat))) s

/-- Graph inputs frozen at the cutoff (R78, R144, R289, R308, R411, R468). -/
def freezeInputs (s : State) : State :=
  let s := getClose s
  let s := (getInputs s 0 ++ getInputs s 1).foldl (fun s x => setInputI x.1 x.2 s) s
  let s := pulCutoff (gooseAll (svAll (getFreeze s)))
  let s := (armsUsed s).foldl (fun s a => setInputI (0xFFE0 + a) (s.arms.get a {}).feedback s) s
  setInputI 0xFFF1 s.gov.stage (setInputI 0xFFF0 (srbStage s) s)

/-- Named moorings by cell index. -/
def namedCells (s : State) : List Nat := (namedPorts s).flatMap (fun p => (portOrder s p).map (ciOf p))

/-- The cutoff freeze. -/
def cutoff (s : State) : State :=
  let s := takeReports { s with cyc := { s.cyc with frozen := true, ctInc := (ctIncrement s.time (slewStep (par s 0x32 0 2))).toNat } }
  let cis := namedCells s
  let s := cis.foldl (fun s ci => moorCutoff ci s) s
  let s := gaugeGaps cis (s.obs.taken.foldl reportPoints s)
  let s := tandemCutoff (gaugeMissing (settleAll (freezeInputs s)))
  let s := placeAtCutoff s
  if s.dev.state.graphOn then graphStart s else withGraph s (graphIdle s.graph)

/-- The measurement cutoff of the cycle (R14). -/
def execMeasurementCutoff (t : Nat) (s : State) : Host.Outcome State Fault Refusal :=
  let s := advanceTo t s
  ok (if s.cyc.running && !s.cyc.frozen && reached s s.cyc.n (parN s 1 0 2) then cutoff s else s)

/-! ### Packing, launch, deadline (R39–R42, R48–R51, R84) -/

/-- A block is due in this cycle (R50): outside RUNNING and RAMPING, or while the HWSL drives the inhibit lines. -/
def blockFrames (s : State) : Bool := !runs s || s.srb.inhibit

/-- Ports that have frames to pack. -/
def livePorts (s : State) : List Nat := (List.range (nPorts s)).filter (portLive s)

/-- Arms with members on a port are complete (R84). -/
def armsReadyFor (s : State) (p : Nat) : Bool :=
  (armsUsed s).all (fun a => s.cyc.armsDone.contains a || !(members s a).any (fun m => m.ci / 256 = p))

/-- A port has packed its frame (R41): `packed` in 0.1 ns after the cutoff, with the lanes' canary steps (R465). -/
def execPackReady (p packed : Nat) (canary : SMap Nat) (s : State) : Host.Outcome State Fault Refusal :=
  unit (p < nPorts s)
    (if s.cyc.running && s.cyc.frozen && !s.cyc.launched && portLive s p && s.cyc.graphDone && armsReadyFor s p &&
        decide (packed ≤ 8500) then
      govCanary canary { s with cyc := { s.cyc with packed := if s.cyc.packed.contains p then s.cyc.packed else s.cyc.packed ++ [p],
                                                    packTime := max s.cyc.packTime packed } }
     else s)

/-- Every active port has packed its frame in time. -/
def allPacked (s : State) : Bool :=
  s.cyc.frozen && s.cyc.obsDone && s.cyc.graphDone && (armsUsed s).all (fun a => s.cyc.armsDone.contains a) &&
  (livePorts s).all (fun p => s.cyc.packed.contains p) && s.cyc.forceMiss = 0

/-- A point of the plate that the fabric writes (R59, R219). -/
def fabricPoint (p : Nat) (m : PointMap) (s : State) : State :=
  match (if 112 ≤ p % 128 then m.source else none) with
  | none => s
  | some (n, el) =>
    let w := elemWord (nodeExport s n m.state) el
    let v : Word := if m.format = 2 then elemBits w
      else if m.format = 1 then BitVec.ofInt 32 (clampI 0 4294967295 (rhe (ewVal w)))
      else BitVec.ofInt 32 (clampI (-2147483648) 2147483647 (rhe (ewVal w)))
    ptWrite p v s.cyc.n (tickPhase s) s

/-- Every such point at a launch tick. -/
def fabricPoints (s : State) : State :=
  match s.cfg.plate with | some pl => pl.points.foldl (fun s x => fabricPoint x.1 x.2 s) s | none => s

/-- Node outputs to triggers and captures (R441). -/
def captureNodes (s : State) : State :=
  (nodes s).foldl (fun s n => (List.range n.outLen).foldl (fun s i =>
    let w := elemBits (elemWord (nodeOut s.graph.cur n.node) i)
    capFeed 1 n.node i { word := w, v := capV 2 w, cycle := s.cyc.n, tick := tickPhase s } s) s) s

/-- What follows the commit of a complete graph at a launch: shadows, points, publications, captures, jumps. -/
def publishAll (s : State) : State := getLaunch (captureNodes (fabricPoints (publish (pulLaunch s))))

/-- The cycle's frames are out. -/
def closeCycle (launched missed : Bool) (s : State) : State :=
  { s with cyc := { s.cyc with launched := true, missed := missed, missedPrev := s.cyc.missed },
           tan := if launched then { s.tan with launches := (s.cyc.n :: s.tan.launches).take 64 } else s.tan }

/-- A complete graph becomes current, with the digest of the arms taken before their commit (R54, R426). -/
def commitAll (block : Bool) (s : State) : State :=
  let d := digestArms s
  let s := commitNodes s
  let s := (armsUsed s).foldl (fun s a => if block then armCommitBlock a s else armCommit a s) s
  let s := schedLaunch s
  publishAll { s with tan := { s.tan with digest := resultDigest d s } }

/-- FRAME_LEAD (R42): ticks from the current one to the tick of the frame deadline, the first at or after its instant of
converter time, under the increment in force. -/
def frameLead (s : State) : Nat :=
  let inc := (ctIncrement s.time (slewStep (par s 0x32 0 2))).toNat
  min 340 ((cycleStartCt s s.cyc.n + (parN s 1 0 2 + 85) * 10 * 2 ^ 32 - ctNow s + inc - 1) / inc)

/-- The common launch of COMMAND frames (R40, R42, R54). -/
def launch (s : State) : State :=
  let lead := frameLead s
  let out := transmits s
  let s := pushFrame false (sendAll (fun p => sendWords p false lead) s)
  let s := govSlack (8500 - (s.cyc.packTime : Int)) (commitAll false s)
  closeCycle out false (sendRecord out false { s with dev := { s.dev with phaseFirst := false } })

/-- The launch tick (R40). -/
def execLaunchTick (t : Nat) (s : State) : Host.Outcome State Fault Refusal :=
  let s := advanceTo t s
  ok (if s.cyc.running && !s.cyc.launched && !blockFrames s && allPacked s then launch s else s)

/-- Results that the deadline finds incomplete are discarded (R48). -/
def discardAll (s : State) : State :=
  let s := schedMiss { s with dev := { s.dev with phaseReq := none } }
  { s with arms := s.arms.mapVals (fun _ a => armDiscard a) }

/-- BLOCK frames at the deadline (R50), whether or not the fabric has finished. -/
def launchBlock (s : State) : State :=
  let out := transmits s
  let done := s.dev.state.graphOn && s.cyc.graphDone && s.cyc.forceMiss = 0
  let part := s.dev.state.graphOn && !done
  let s := pushFrame true (sendAll (fun p => sendWords p true 0) s)
  let s := if done then commitAll true s else if part then discardAll s else getLaunch (publish (schedIdle { s with tan := { s.tan with digest := resultDigest [] s } }))
  closeCycle out part (sendRecord out part { s with dev := { s.dev with phaseFirst := false } })

/-- A deadline miss (R48, R50, R51, R464): SERVICE_ONLY frames, the graph's and the arms' results are discarded, and a
second miss in a row is a block request, but not on a follower. -/
def missCycle (s : State) : State :=
  let s := govMiss (raise 1 (be 6 s.cyc.n.toNat) (discardAll (sendAll (fun p => sendService p) s)))
  let s := (nodes s).foldl (fun s n => capGap 1 n.node s) s
  let s := if s.cyc.missed && !follower s then { s with cyc := { s.cyc with blockReq := true } } else s
  closeCycle false true (sendRecord false true s)

/-- The frame deadline passes (R40, R48, R50). -/
def execFrameDeadline (t : Nat) (s : State) : Host.Outcome State Fault Refusal :=
  let s := advanceTo t s
  ok (if !s.cyc.running || s.cyc.launched || !reached s s.cyc.n (parN s 1 0 2 + 85) then s
      else if blockFrames s then launchBlock s
      else if allPacked s then s
      else missCycle s)

end Sys2Proof.Machine
end

