-- ==== Sys2Proof/Machine/Lock.lean ====
section
/-! DEFINITION. Lock-through (R17, R355, R364–R369): of staged changes, and of a whole plate with the resets that every
chapter ties to it. -/

namespace Sys2Proof.Machine

/-! ### The pending commit (R363–R366) -/

/-- The STAGE_COMMIT behind a pending commit, for its SCHEDULED_RESULT. -/
def commitWait (s : State) (c : CycleNo) (m : Nat) (tag : BitVec 16) : Waiting :=
  { mbx := m, tag := tag, epoch := match s.pound.owner with | some o => o.2 | none => (mget s m).epoch, opcode := 0x24, cycle := c }

/-- Shadow control words that a configuration gives (R274). -/
def clkShadows (s : State) (c : Cand) : SMap Word :=
  (List.range 12).foldl (fun (m : SMap Word) k => if clkCand s c k = clkWord s k then m.del k else m.set k (clkCand s c k)) []

/-- The shadow control words with a configuration's changed words in them (R274, R364). -/
def shadowed (s : State) (c : Cand) : SMap Word := (clkShadows s c).foldl (fun (m : SMap Word) x => m.set x.1 x.2) s.clk.active

/-- After acceptance the changed values stand in the inactive copies (R364). -/
def bankWrite (s : State) : State :=
  match candOf s with
  | some c => { s with cfg := { s.cfg with parI := c.par, stagesI := c.stages },
                       clk := { s.clk with shadow := shadowed s c } }
  | none => s

/-- The inactive copies take the values in force again (R365, R369). -/
def bankRestore (s : State) : State :=
  { s with cfg := { s.cfg with parI := s.cfg.par, stagesI := s.cfg.stages }, clk := { s.clk with shadow := s.clk.active } }

/-- A commit that fails at its flip is discarded: the staging area keeps its content and its check (R365). -/
def commitFails (w : Waiting) (st : Status) (s : State) : State :=
  scheduledResult w st s.cyc.n (bankRestore { s with pound := { s.pound with commit := none, late := false } })

/-- A completed lock-through empties the staging area (R359, R366); it stays the target of an abort, unless one has been
resolved against it already, whose status its result then carries (R348, R349). -/
def commitDone (w : Waiting) (cycle : CycleNo) (s : State) : State :=
  let st := if s.pound.late then .completedBeforeAbort else .ok
  scheduledResult w st cycle { s with pound := { checking := s.pound.checking, target := if s.pound.late then none else some cycle } }

/-- The flip of WHARF_4 (R17, R364): the inactive bank, with every changed value in it, is exchanged for the active one, the
shadow control words become active (R274), and the changed locations are copied back into the new inactive bank. -/
def flipStaged (c : Cand) (s : State) : State :=
  let s := { s with cfg := { s.cfg with parI := c.par, stagesI := c.stages },
                    clk := { s.clk with shadow := shadowed s c } }
  bankRestore { s with cfg := bankSwap s.cfg, clk := { s.clk with active := s.clk.shadow } }

/-- Every value of the staged entries takes effect (R223, R364). -/
def applyStaged (c : Cand) (s : State) : State :=
  let moved := par s 0x12 0 6
  let s := flipStaged c s
  let ids := c.staged.getD []
  let s := if ids.any (fun i => i / 2 ^ 24 = 0x14) then ptRelimit s else s
  let s := if par s 0x12 0 6 = moved then s else { s with graph := { s.graph with hist := [] } }
  let s := withGraph s { s.graph with boundRaised := false }
  if ids.contains (pid 0x12 0 0) && par s 0x12 0 0 = 0 then withGraph s { placeChange homeAll s.graph with moveSet := none, goHome := none } else s

/-- The flip that starts the cycle of a commit of staged changes (R364, R365). -/
def execLockThrough (digestOk : Bool) (s : State) : Host.Outcome State Fault Refusal :=
  ok (match s.pound.commit, atBoundary s && lockDue s, candOf s with
    | some (n, m, tag, _), true, some c =>
      let w := commitWait s n m tag
      if !liveOk s c then commitFails w .consistency s
      else
        commitDone w n (safetyDigest digestOk (countApplied 0x24 (applyStaged c s)))
    | _, _, _ => s)

/-! ### What the lock-through of a whole plate resets -/

/-- Every command that waits is discarded (R365), a planned handover with them. -/
def dropWaiting (s : State) : State :=
  let ws := s.cyc.waiting ++ s.tan.handoverCmd.toList
  ws.foldl (fun s w => scheduledResult w .state w.cycle s)
    { s with cyc := { s.cyc with waiting := [] }, tan := { s.tan with handoverCmd := none, handover := 0 } }

/-- Capture channels stop (R453). -/
def capStopAll (s : State) : State :=
  (List.range 16).foldl (fun s n =>
    let c := capGet s n
    if c.st = .idle then s else
    let c := { c with st := .idle, plateStop := true, doneAt := none, fired := 0, lastTick := none }
    eventTag (some (c.mbx, c.epoch)) c.tag 0x84 3 (be 1 n ++ be 1 Status.aborted.code ++ be 2 0 ++ be 4 (capLast c) ++ be 4 (capBase s n))
      (capPut n c true s)) s

/-- The ports of the plate before and of the new one (R176, R184, R203, R206), with the values of the new one in force. -/
def platePort (old : Plate) (p : Nat) (s : State) : State :=
  let was := old.order.get p []
  let oldPar := fun item ci => parOf old.params old.arms (pid 3 ci item)
  let same := fun m => was.contains m && moorNamed s p m &&
    oldPar 8 (ciOf p m) == par s 3 (ciOf p m) 8 && oldPar 10 (ciOf p m) == par s 3 (ciOf p m) 10
  let wasNamed := (old.order.find p).isSome
  let s := match (port s p).rangeCmd with
    | some c => if c.completed then setPort p (fun y => { y with rangeCmd := none }) s else rangeCmdLost p c.mooring s
    | none => s
  let gone := fun (ms : List Nat) (s : State) => ms.foldl (fun s m => setMoor (ciOf p m) (fun x => { x with preset := {} }) (vacate p m s)) s
  let s := setPort p (fun x => { x with reqs := x.reqs.map (fun r => { r with dead := true }), bypass := [], attempts := if wasNamed then x.attempts else 0 }) s
  if !portNamed s p then
    let s := gone was s
    laneGo p .dark (setPort p (fun x => { x with locked := false, squelch := true, svc := [], acked := [], holdUntil := none, attempts := 0 }) s)
  else
    let s := gone (was.filter (fun m => !same m)) s
    let s := (portOrder s p).foldl (fun s m =>
      let x := moor s (ciOf p m)
      let s := if x.st = .refused then moorGo p m .vacant s else s
      setMoor (ciOf p m) (fun y => { y with assigned := false, everRanged := false }) s) s
    let s := setPort p (fun x => { x with epoch := x.epoch + 1 }) s
    let gen := fun (pl : Plate) => parOf pl.params pl.arms (pid 2 p 0)
    if (port s p).lane = .dark then toAcquire p (setPort p (fun x => { x with attempts := 0, holdUntil := none }) s)
    else if gen old ≠ par s 2 p 0 then restartPort p s
    else match (port s p).lane with
      | .up => assignAll p s
      | _ => s

/-- Observer records at their seeds (R149, R156). -/
def obsSeeds (s : State) (pl : Plate) : SMap ObsRec :=
  (armsUsed s).foldl (fun (m : SMap ObsRec) a => (members s a).foldl (fun (m : SMap ObsRec) x =>
    let seed := pl.seeds.get x.ci (0x8000, parN s 0x11 a 34)
    m.set x.ci { ({} : ObsRec) with capGain := seed.1, esr := seed.2 }) m) []

/-- Placement of every node on its home lane (R96). -/
def homePlace (pl : Plate) : SMap Place :=
  (pl.nodes.take pl.hdr.nodeCount.toNat).foldl (fun (m : SMap Place) n => m.set n.node { lane := n.homeLane, home := n.homeLane }) []

/-- PTP parameters whose value changes with the lock-through (R258). -/
def ptpChanged (old : SMap Int) (s : State) : List Nat :=
  ((old ++ s.cfg.par).map (fun x => x.1)).filter (fun k => k / 2 ^ 24 = 0x31 && parOf old [] k ≠ parOf s.cfg.par [] k)

/-- A changed PTP parameter concerns a domain's port (R258): those per TD concern the domain's ports, those per port that
port, and the others every port (log 120). -/
def ptpConcerns (i p k : Nat) : Bool :=
  let item := k % 256
  if 18 ≤ item then k / 256 % 65536 = p else if 2 ≤ item ∧ item < 10 then k / 256 % 65536 = i else true

/-- The PTP ports concerned restart (R258): what they have heard and what waits on them is gone; the domain's counter runs
on its last increment, and its status follows R261. -/
def restartPtp (old : SMap Int) (s : State) : State :=
  let ch := ptpChanged old s
  let hit := fun i p => ch.any (ptpConcerns i p)
  [0, 1].foldl (fun s i =>
    if ch.any (fun k => (List.range 8).any (fun p => ptpConcerns i p k)) then
      bmca i (setDom i (fun d => { d with ports := d.ports.filter (fun x => !hit i x.1), good := 0, bad := 0 }) s)
    else s)
    { s with time := { s.time with syncs := s.time.syncs.filter (fun x => !(hit 0 x.port || hit 1 x.port)),
                                   pdelays := s.time.pdelays.filter (fun x => !(hit 0 x.port || hit 1 x.port)) } }

/-- The Plate Store takes the image (R355). -/
def storePlate (img : List Byte) (s : State) : State :=
  { s with store := Memory.writes (Memory.clear s.store 0x07000000 0x400000) 0x07000000 img }

/-- Subsystems at the lock-through of a whole plate: graph, arms, observer, points, station, Grid Edge Timer, pulse
engine, safety die, tandem (R67, R96, R129, R149, R220, R290, R307, R416, R422, R438). -/
def plateResets (pl : Plate) (s : State) : State :=
  { s with
    graph := { lanes := s.graph.lanes.mapVals (fun _ l => { ({} : Lane) with retired := l.retired }), place := homePlace pl, table := homePlace pl }
    arms := (armsUsed s).foldl (fun (m : SMap Arm) a => m.set a {}) []
    obs := { ({} : Obs) with recs := obsSeeds s pl, image0 := obsSeeds s pl, image1 := obsSeeds s pl, hold := s.obs.hold, timeoutRel := s.obs.timeoutRel, curBuf := s.obs.curBuf, imgCycle := s.obs.imgCycle }
    points := []
    moors := s.moors.mapVals (fun _ x => let y := { x with firePast := 0, malformed := 0, codeErrors := 0, reranges := 0 }
                                         { y with frameErr := 0, holding := 0, selfBlocked := 0, inhibited := 0, faultReps := 0, lastFault := 0 })
    stn := { s.stn with svs := [], subs := [], pubs := [], dup := [] }
    get := []
    getLast := none
    pul := { ({} : Pul) with ti := s.pul.ti }
    srb := { s.srb with lastVerdict := none, qs := [], frozen := [], t0 := none }
    cap := { s.cap with primedR := [], primedF := [], inside := [] }
    tan := { s.tan with mismatches := 0, transferSeq := 0, recv := [], launches := [], digest := 0, heardB := false, heardBNext := false }
    dev := { s.dev with gpioOut := pl.gpioOut, phaseReq := none, recoveryReq := false, recoveryNow := false, phaseFirst := false } }

/-- CYCLE_BASE of a lock-through instant of converter time (R31): the first whole second at least 1 ms after it. -/
def baseAfter (inst : Nat) : Nat := (inst + 1000000 * 2 ^ 32 + secUnits - 1) / secUnits

/-- A whole plate locks through (R367); the base is given, or follows from the lock-through instant. -/
def lockPlate (pl : Plate) (img : List Byte) (digestOk : Bool) (inst base : Option Nat) (s : State) : State :=
  let old : Plate := s.cfg.plate.getD { hdr := pl.hdr }
  let oldPar := s.cfg.par
  let oldMode := fun p => par s 0x30 p 0
  let s := capStopAll (dropWaiting s)
  let words := clkShadows s { plate := pl, par := pl.params, stages := pl.stages, staged := none }
  let s := { s with
    cfg := { plate := some pl, par := pl.params, parI := pl.params, stages := pl.stages, stagesI := pl.stages, plateTag := pl.hdr.plateTag }
    clk := (let a := words.foldl (fun (m : SMap Word) x => m.set x.1 x.2) s.clk.active; { s.clk with active := a, shadow := a })
    cyc := { ({} : Cyc) with level4 := s.cyc.level4, hwslBlock := s.cyc.hwslBlock, blockReq := s.cyc.blockReq, block4 := s.cyc.block4 } }
  let s := (List.range (nPorts s)).foldl (fun s p =>
    if portNamed s p || (old.order.find p).isSome then platePort old p s else s) (plateResets pl s)
  let s := storePlate img (restartPtp oldPar s)
  let follows := ctFollows s
  let s := switchDomain (parN s 0x32 0 0) false s
  let s := if follows then { s with time := { s.time with ct := s.time.act.ctr } } else s
  let b := base.getD (baseAfter (inst.getD (ctNow s)))
  let s := { s with cyc := { s.cyc with base := b, baseWait := true } }
  let s := remode oldMode (moveState .loaded (telegramPath old.safetyPair pl.safetyPair s))
  let s := if !pairMode s && s.tan.role == .isolated then becomeActive false false s else s
  safetyDigest digestOk (relight s)

/-- The flip of a whole plate's commit in LOADED, READY or BLOCKED (R365, R367). -/
def execWholePlateLockThrough (t : Nat) (digestOk : Bool) (s : State) : Host.Outcome State Fault Refusal :=
  let s := advanceTo t s
  ok (match s.pound.commit, s.pound.plate, candOf s with
    | some (n, m, tag, true), some pl, some c =>
      let w := commitWait s n m tag
      if !atBoundary s || !(n = s.cyc.n || after 48 s.cyc.n.toNat n.toNat) then s
      else (match s.dev.state with
        | .loaded | .ready | .blocked =>
          if !liveOk s c then commitFails w .consistency s
          else commitDone w n (lockPlate pl s.pound.image digestOk (some (cycleStartCt s n)) none s)
        | _ => commitFails w .state s)
    | _, _, _ => s)

/-- A whole plate locks through in IDLE (R367): the pair's CYCLE_BASE where one was agreed. -/
def execIdlePlateLockThrough (t : Nat) (digestOk : Bool) (s : State) : Host.Outcome State Fault Refusal :=
  let s := advanceTo t s
  ok (match s.pound.commit, s.pound.plate, candOf s with
    | some (n, m, tag, true), some pl, some c =>
      let w := commitWait s n m tag
      if s.dev.state ≠ .idle then s
      else if !liveOk s c then commitFails w .consistency s
      else commitDone w 0 (lockPlate pl s.pound.image digestOk none s.cyc.baseAgreed s)
    | _, _, _ => s)

end Sys2Proof.Machine
end

