-- ==== Sys2Proof/Machine/BcsBase.lean ====
section
/-! DEFINITION. What the commands of the command set share (R333–R349): the checks in their order, the naming of a cycle,
the transfer to a follower, acceptance, and the outcome of aborts. -/

namespace Sys2Proof.Machine

/-! ### One row of the command tables (R338, R340, R342–R347) -/

/-- Tandem class of a command (R340). -/
inductive TandemClass where
  | a | f | l | r
deriving DecidableEq, Repr

/-- A command's opcode, lowest role, tandem class, device states, bytes of its body, and how its responses look: with
CYCLE, or as the abort of an operation (R341, R349). -/
structure BcsCmd where
  op     : Nat
  role   : SessRole
  cls    : TandemClass
  states : DevState → Bool
  len    : Nat := 0
  cycled : Bool := false
  abort  : Option Nat := none

/-- Any device state. -/
def anyState (_ : DevState) : Bool := true

/-- Order of the roles below PROTECTION. -/
def roleRank : SessRole → Nat | .observer => 0 | .operator => 1 | .engineer => 2 | .protection => 3

/-- The session's role allows the command (R338). -/
def roleAllows (c : BcsCmd) (r : SessRole) : Bool :=
  match r with
  | .protection => c.role == .observer || c.op = 0x23 || c.op = 0x25 || c.op = 0x26
  | _ => decide (roleRank c.role ≤ roleRank r)

/-! ### Responses -/

/-- The command belongs to a session that a sender reset has ended (R322). -/
def isGhost (h : BcsHdr) (s : State) : Bool :=
  match (mget s h.mbx).ghost with | some g => g.epoch = h.sessionEpoch && decide (0 < g.left) | none => false

/-- One command of an ended session has been executed. -/
def ghostDone (h : BcsHdr) (s : State) : State :=
  if isGhost h s then mset h.mbx (fun m => { m with ghost := m.ghost.map (fun g => { g with left := g.left - 1 }) }) s else s

/-- The response of a command (R335); that of an ended session is dropped. -/
def answer (h : BcsHdr) (op : Nat) (st : Status) (body : List Byte) (s : State) : State :=
  if isGhost h s then dropResponse h.mbx (ghostDone h s) else respond h.mbx h.tag op st body s

/-- The body of an abort's response (R349). -/
def abortBody (op : Nat) (bc : CycleNo) (bt : Nat) (s : State) : List Byte :=
  be 2 (op * 256) ++ be 6 bc.toNat ++ be 2 bt ++ be 6 s.cyc.n.toNat ++ be 2 (tickPhase s)

/-- The body of a rejected command's response: CYCLE of a WHEN command, the layout of R349 of an abort. -/
def rejectBody (c : BcsCmd) (s : State) : List Byte :=
  match c.abort with
  | some op => abortBody op 0 0 s
  | none => if c.cycled then be 6 s.cyc.n.toNat else []

/-- A command is rejected (R339). -/
def reject (h : BcsHdr) (c : BcsCmd) (st : Status) (s : State) : State := answer h c.op st (rejectBody c s) s

/-! ### The checks (R339) -/

/-- Role and party of the session that sent the command, or the failure of the session check. -/
def sessionFor (h : BcsHdr) (s : State) : Status × SessRole × Nat :=
  let m := mget s h.mbx
  match isGhost h s, m.ghost, m.role with
  | true, some g, _ => (.ok, g.role, g.party)
  | _, _, none => (.noSession, .observer, 0)
  | _, _, some r => if h.sessionEpoch = m.epoch then (.ok, r, m.party) else (.sessionStale, .observer, 0)

/-- VERSION and KIND, then the body's length. -/
def formCheck (h : BcsHdr) (len : Nat) : Status :=
  if h.version ≠ 1 ∨ h.kind ≠ 1 then .version else if h.bodyLen < len then .length else .ok

/-- Version to tandem class; a class F command passes in any role. -/
def headCheck (h : BcsHdr) (c : BcsCmd) (s : State) : Status :=
  match formCheck h c.len with
  | .ok =>
    (match sessionFor h s with
     | (.ok, r, _) =>
       if !roleAllows c r then .role
       else if c.cls == .a && h.roleEpoch != s.dev.roleEpoch then .roleChanged
       else if c.cls == .a && s.tan.role != .active then .notActive
       else .ok
     | (e, _, _) => e)
  | e => e

/-- The checks up to the device state. -/
def bcsCheck (h : BcsHdr) (c : BcsCmd) (s : State) : Status :=
  match headCheck h c s with
  | .ok => if c.states s.dev.state then .ok else .state
  | e => e

/-- The effect of a command that its check lets through, and the answer to one that it does not. -/
def onOk {β : Type} (e : Status) (go : β) (no : Status → β) : β := match e with | .ok => go | e => no e

/-- Firmware executes a command: nothing before Bybex runs, a rejection, or its effect. -/
def bcsRun (h : BcsHdr) (c : BcsCmd) (s : State) (act : State → State) : Host.Outcome State Fault Refusal :=
  unit (h.mbx < 16)
    (if !s.dev.mpcReady then s
     else onOk (bcsCheck h c s) (act s) (fun e => reject h c e s))

/-! ### The named cycle (R341, R363) -/

/-- The first cycle that starts at least `lead` ticks after now. -/
def firstCycle (s : State) (lead : Nat) : CycleNo :=
  let t := max 1 (tccTicks s)
  if s.cyc.running then s.cyc.n + BitVec.ofNat 48 ((tickPhase s + lead + t - 1) / t)
  else
    let inst := ctNow s + lead * 5 * 2 ^ 31
    let u := max 1 (parN s 1 0 0 * 10 * 2 ^ 32)
    BitVec.ofNat 48 ((inst - s.cyc.base * secUnits + u - 1) / u)

/-- The cycle that a WHEN names: with ASAP the first at least 2 cycles after acceptance, for which a pair leaves the
transfer its time (log 25). -/
def whenCycle (s : State) (w : When) (plate : Bool) : CycleNo :=
  if !w.asap then w.cycle
  else if hasFollower s then firstCycle s (2 * tccTicks s + (if plate then 2000000000 else 800000))
  else firstCycle s (2 * tccTicks s)

/-- A named cycle lies half the range away (R32, R341). -/
def cycleFar (s : State) (c : CycleNo) : Bool := halfAway 48 c.toNat s.cyc.n.toNat

/-- A named cycle has started, or starts within `lead` ticks. -/
def cycleLate (s : State) (c : CycleNo) (lead : Nat) : Bool :=
  if s.cyc.running then !(after 48 c.toNat s.cyc.n.toNat) || (c = s.cyc.n + 1 && decide (tccTicks s < tickPhase s + lead))
  else after 48 s.cyc.n.toNat c.toNat

/-- Commands that wait for their cycle. -/
def waitingCount (s : State) : Nat :=
  s.cyc.waiting.length + b2n s.tan.handoverCmd.isSome + b2n (s.pound.commit.isSome && s.dev.state.loadedOn)

/-- What acceptance says of a command that waits. -/
def acceptCheck (s : State) (c : CycleNo) (lead : Nat) : Status :=
  if cycleFar s c then .range else if cycleLate s c lead then .tooLate else if 64 ≤ waitingCount s then .busy else .ok

/-! ### Aborts (R348, R369) -/

/-- The staging area is empty. -/
def poundEmpty (s : State) : Bool := s.pound.entries.isEmpty && s.pound.load.isNone && s.pound.plate.isNone

/-- The staging area loses its content, its check, its countersignatures and its owner. -/
def emptyPound (s : State) : State := { s with pound := { checking := s.pound.checking, target := s.pound.target } }

/-- STAGE_ABORT. -/
def abortStage (s : State) : State × Status × List Byte :=
  match s.pound.commit with
  | some (c, _, _, _) =>
    let bc := if s.dev.state = .idle then 0 else c
    if s.cyc.running && !(after 48 c.toNat s.cyc.n.toNat) then
      (if s.pound.late then (s, .nothingToAbort, abortBody 1 0 0 s)
       else ({ s with pound := { s.pound with late := true } }, .completedBeforeAbort, abortBody 1 bc 0 s))
    else
      (bankRestore (emptyPound s), .aborted, abortBody 1 bc 0 s)
  | none =>
    if !poundEmpty s then (emptyPound s, .ok, be 2 256 ++ be 16 0)
    else match s.pound.target with
      | some c => ({ s with pound := { s.pound with target := none } }, .completedBeforeAbort, abortBody 1 c 0 s)
      | none => (s, .nothingToAbort, abortBody 1 0 0 s)

/-- MOORING_RANGE_ABORT on a port. -/
def abortRange (p : Nat) (s : State) : State × Status × List Byte :=
  match (port s p).rangeCmd with
  | none => (s, .nothingToAbort, abortBody 4 0 0 s)
  | some c =>
    if c.completed then (setPort p (fun x => { x with rangeCmd := none }) s, .completedBeforeAbort, abortBody 4 c.cycle c.tick s)
    else
      let drop := fun (y : Port) => { y with
        rangeCmd := none,
        reqs := y.reqs.map (fun r => if c.reqTag = some r.tag then { r with dead := true } else r),
        svc := if c.reqTag.isSome then y.svc else y.svc.filter (fun z => !(z.type = 0x03 && z.mooring = c.mooring)) }
      (setPort p drop s, .aborted, abortBody 4 0 0 s)

/-- The outcome of an aborted commit or ranging, reported after the abort's response (R349): `s0` is the state before. -/
def abortNotice (op : Nat) (p : Nat) (s0 : State) (st : Status) (s : State) : State :=
  if st ≠ .aborted then s
  else if op = 0x25 then
    (match s0.pound.commit with | some (c, m, tag, _) => scheduledResult (commitWait s0 c m tag) .aborted c s | none => s)
  else
    (match (port s0 p).rangeCmd with
     | some c => (let x := moor s0 (ciOf p c.mooring); rangeDone p c .aborted x.dDown x.dUp s)
     | none => s)

/-! ### Acceptance of class A commands (R340, R363, R434) -/

/-- SP_CLAMPED of a SETPOINT_SET at acceptance (R115): an element outside the limits of a ramp that reports to the slot. -/
def spClamps (s : State) (slot : Nat) (ws : List ElemWord) : Bool :=
  match s.cfg.plate.bind (fun pl => pl.slots.find slot) with
  | none => false
  | some k =>
    let x := pstage s k
    let v := outPlain 24 x.efloor x.eceil (ws.map ewVal)
    let co := fun (n : NodeDef) (j i : Nat) => (let st := (pstage s (n.parBase + j)).val; ewVal (elemWord st (if st.m.length = 1 then 0 else i)))
    (nodes s).any (fun n => n.opcode = 0x19 && n.opt.toNat / 65536 % 512 = slot + 1 &&
      (List.range n.outLen).any (fun i =>
        let t := ewVal (elemWord v (if v.m.length = 1 then 0 else i))
        decide (t < co n 2 i) || decide (co n 3 i < t)))

/-- STAGE_COMMIT is accepted: the commit is pending and the inactive copies are written. -/
def acceptCommit (w : Waiting) (whole : Bool) (s : State) : State :=
  let s := { s with pound := { s.pound with commit := some (w.cycle, w.mbx, w.tag, whole), target := none } }
  if whole then s else bankWrite s

/-- A class A command is posted for its cycle, or takes effect where it has none; its status and response body. A
follower's frames and service traffic are its twin's (R186, R418). -/
def accept (w : Waiting) (s : State) : State × Status × List Byte :=
  let cyc := be 6 w.cycle.toNat
  match w.opcode with
  | 0x24 =>
    let whole := s.pound.plate.isSome
    if whole && s.dev.state = .idle then (acceptCommit { w with cycle := 0 } true s, .ok, be 6 0)
    else onOk (acceptCheck s w.cycle 800) (acceptCommit w whole s, .ok, cyc) (fun e => (s, e, be 6 s.cyc.n.toNat))
  | 0x61 =>
    onOk (acceptCheck s w.cycle 0)
      (if follower s then s else { s with tan := { s.tan with handover := w.cycle, handoverCmd := some w } }, .ok, cyc)
      (fun e => (s, e, be 6 s.cyc.n.toNat))
  | 0x18 => (if follower s then s else restartPort (w.arg 0) s, .ok, [])
  | 0x25 => abortStage s
  | 0x34 =>
    let p := w.arg 0 / 256
    let first := if s.cyc.launched then s.cyc.n + 1 else s.cyc.n
    (setPort p (fun x => { x with bypass := x.bypass.set (w.arg 0 % 256) 2 }) s, .ok, be 6 first.toNat)
  | 0x35 =>
    if follower s then (s, .ok, [])
    else
      let cmd : RangeCmd := { mooring := w.arg 1, mbx := w.mbx, tag := w.tag, epoch := w.epoch }
      (queueRange (w.arg 0) (w.arg 1) true (setPort (w.arg 0) (fun x => { x with rangeCmd := some cmd }) s), .ok, [])
  | 0x36 => if follower s then (s, .ok, []) else abortRange (w.arg 0) s
  | op =>
    onOk (acceptCheck s w.cycle 0)
      ({ s with cyc := { s.cyc with waiting := s.cyc.waiting ++ [w] } }, .ok,
        cyc ++ (if op = 0x30 then be 1 (b2n (spClamps s (w.arg 0) w.elems)) else []))
      (fun e => (s, e, be 6 s.cyc.n.toNat))

/-- TRANSFER_SEQ for commands without a cycle, which are applied when they are accepted. -/
def countNow (w : Waiting) (st : Status) (s : State) : State :=
  if st = .ok && [0x18, 0x34, 0x35].contains w.opcode then countApplied w.opcode s else s

/-! ### Transfer to the follower (R368, R434) -/

/-- The transfer of a command. -/
def transferOf (w : Waiting) (s : State) : Transfer :=
  { seq := s.tan.transferSeq + BitVec.ofNat 16 (s.tan.xfers.length + 1), opcode := w.opcode, cycle := w.cycle,
    args := w.args ++ w.elems.flatMap (fun e => [e.m, e.e]),
    digest := if w.opcode = 0x24 then changeDigest s else [],
    entries := if w.opcode = 0x24 then s.pound.entries else [],
    plate := if w.opcode = 0x24 then s.pound.plate else none,
    image := if w.opcode = 0x24 then s.pound.image else [] }

/-- A command is sent to the twin; its response waits. -/
def sendTransfer (h : BcsHdr) (w : Waiting) (s : State) : State :=
  ghostDone h { s with tan := { s.tan with xfers := s.tan.xfers ++
    [{ tr := transferOf w s, mbx := h.mbx, epoch := h.sessionEpoch, tag := h.tag, w := w }] } }

/-- A class A command whose checks have passed: transferred where there is a follower, else accepted at once. -/
def classA (h : BcsHdr) (w : Waiting) (s : State) : State :=
  if hasFollower s then sendTransfer h w s
  else
    let (s', st, body) := accept w s
    abortNotice w.opcode (w.arg 0) s st (answer h w.opcode st body (countNow w st s'))

/-- The waiting form of a command. -/
def waitFor (h : BcsHdr) (op : Nat) (c : CycleNo) (args : List Int) : Waiting :=
  { mbx := h.mbx, tag := h.tag, epoch := h.sessionEpoch, opcode := op, cycle := c, args := args }

/-- A WHEN command of class A whose own preconditions are given: the range of its fields, the cycle, and the command. -/
def whenA (h : BcsHdr) (c : BcsCmd) (w : When) (args : List Int) (pre : State → Status) (s : State) : State :=
  let cy := whenCycle s w false
  if cycleFar s cy then reject h c .range s
  else onOk (pre s) (onOk (acceptCheck s cy 0) (classA h (waitFor h c.op cy args) s) (fun e => reject h c e s))
    (fun e => reject h c e s)

/-- A WHEN command of class L: it waits on this unit alone. -/
def whenL (h : BcsHdr) (c : BcsCmd) (w : When) (args : List Int) (pre : State → Status) (s : State) : State :=
  let cy := if w.asap then firstCycle s (2 * tccTicks s) else w.cycle
  if cycleFar s cy then reject h c .range s
  else
    let r := accept (waitFor h c.op cy args) s
    onOk (pre s) (answer h c.op r.2.1 r.2.2 r.1) (fun e => reject h c e s)

end Sys2Proof.Machine
end

