-- ==== Sys2Proof/Machine/Device.lean ====
section
/-! DEFINITION. Session, status and device control commands (R266, R336–R343, R348, R401). -/

namespace Sys2Proof.Machine

/-! ### Sessions (R336, R337, R342) -/

/-- A command outside the session checks (R339): VERSION, KIND, length and device state. -/
def openCheck (h : BcsHdr) (len : Nat) (s : State) : Status :=
  match formCheck h len with
  | .ok => if s.dev.state.idleOn then .ok else .state
  | e => e

/-- SESSION_CHALLENGE: a nonce, or ST_AUTH while the mailbox is locked out. -/
def challenge (h : BcsHdr) (s : State) : State :=
  if (mget s h.mbx).locked then answer h 0x01 .auth [] s
  else
    let n := Config.nonce s.free
    answer h 0x01 .ok (be 16 n.toNat) (mset h.mbx (fun m => { m with nonce := some n }) { s with free := s.free + 1 })

/-- SESSION_CHALLENGE. -/
def execSessionChallenge (h : BcsHdr) (s : State) : Host.Outcome State Fault Refusal :=
  unit (h.mbx < 16)
    (if !s.dev.mpcReady then s
     else match openCheck h 0 s with
       | .ok => challenge h s
       | e => answer h 0x01 e [] s)

/-- 10 s have passed since the challenge (R337). -/
def execNonceExpiry (mbx : Nat) (s : State) : Host.Outcome State Fault Refusal :=
  unit (mbx < 16) (mset mbx (fun m => { m with nonce := none }) s)

/-- The lock-out of a mailbox has lasted 60 s (R337). -/
def execAuthLockoutExpiry (mbx : Nat) (s : State) : Host.Outcome State Fault Refusal :=
  unit (mbx < 16) (mset mbx (fun m => { m with locked := false, authFails := [] }) s)

/-- A role of a code (R328). -/
def roleOfCode : Nat → Option SessRole
  | 1 => some .observer | 2 => some .operator | 3 => some .engineer | 4 => some .protection | _ => none

/-- The credential that authenticates an opening, or the open observer's (R337). -/
def authenticate (h : BcsHdr) (r : SessRole) (credId : Word) (authTag : List Byte) (s : State) : Option Credential :=
  match s.dev.bootRec with
  | none => none
  | some b =>
    if b.openObserver && r == .observer && credId = 0 then some { credId := 0, key := [], roles := [.observer], party := 0 }
    else
      match b.creds.find? (fun c => c.credId = credId && c.roles.contains r), (mget s h.mbx).nonce with
      | some c, some n =>
        if authTag = hmac c.key (be 16 n.toNat ++ be 1 h.mbx ++ be 1 (roleCode (some r)) ++ be 4 credId.toNat) then some c else none
      | _, _ => none

/-- An authentication fails (R337): ST_AUTH and FLT_AUTH; the third within 60 s locks the mailbox out. -/
def authFails (h : BcsHdr) (s : State) : State :=
  let recent := s.now :: ((mget s h.mbx).authFails.filter (fun t => s.now - t ≤ 24000000000))
  let s := mset h.mbx (fun m => { m with nonce := none, authFails := recent, locked := m.locked || decide (3 ≤ recent.length) }) s
  answer h 0x02 .auth [] (raise 291 (be 1 h.mbx) s)

/-- A session opens (R336). -/
def openSession (h : BcsHdr) (r : SessRole) (c : Credential) (mask : Word) (s : State) : State :=
  let prior := (mget s h.mbx).intStatus.getLsbD 2
  let s := mset h.mbx (fun m => { m with
    sessOpen := true, role := some r, credId := c.credId, party := c.party, mask := mask, nonce := none, epoch := m.epoch + 1,
    intStatus := m.intStatus &&& 0xB#4 }) s
  answer h 0x02 .ok
    (be 4 (mget s h.mbx).epoch.toNat ++ be 1 (roleCode (some r)) ++ be 1 (b2n prior) ++ be 2 0 ++ be 4 s.dev.roleEpoch.toNat ++
     be 1 s.tan.role.code ++ be 1 s.dev.state.code ++ be 2 (plateTag s).toNat ++ be 4 s.dev.fwVersion.toNat) s

/-- SESSION_OPEN. -/
def execSessionOpen (h : BcsHdr) (role : Nat) (credId eventMask : Word) (authTag : List Byte) (s : State) : Host.Outcome State Fault Refusal :=
  unit (h.mbx < 16)
    (if !s.dev.mpcReady then s
     else match openCheck h 44 s with
       | .ok =>
         (match roleOfCode role with
          | none => answer h 0x02 .range [] s
          | some r =>
            if sessionOf s h.mbx then answer h 0x02 .busy [] s
            else match authenticate h r credId authTag s with
              | some c => openSession h r c eventMask s
              | none => authFails h s)
       | e => answer h 0x02 e [] s)

/-- SESSION_CLOSE. -/
def cSessionClose : BcsCmd := { op := 0x03, role := .observer, cls := .l, states := anyState }
/-- SESSION_CLOSE: the session ends after its response is queued. -/
def execSessionClose (h : BcsHdr) (s : State) : Host.Outcome State Fault Refusal :=
  bcsRun h cSessionClose s (fun s =>
    let g := isGhost h s
    let s := answer h 0x03 .ok [] s
    if g then s else endSession h.mbx false s)

/-- EVENT_MASK_SET. -/
def cEventMaskSet : BcsCmd := { op := 0x04, role := .observer, cls := .l, states := anyState, len := 4 }
/-- EVENT_MASK_SET: the session's mask is replaced. -/
def execEventMaskSet (h : BcsHdr) (mask : Word) (s : State) : Host.Outcome State Fault Refusal :=
  bcsRun h cEventMaskSet s (fun s =>
    if isGhost h s then answer h 0x04 .ok [] s else answer h 0x04 .ok [] (mset h.mbx (fun m => { m with mask := mask }) s))

/-- POUND_STATE: 0 empty, 1 changes, 2 plate, 3 commit pending. -/
def poundState (s : State) : Nat :=
  if s.pound.commit.isSome then 3 else if s.pound.plate.isSome || s.pound.load.isSome then 2 else if s.pound.entries.isEmpty then 0 else 1

/-- DEVICE_STATUS. -/
def cDeviceStatus : BcsCmd := { op := 0x05, role := .observer, cls := .r, states := anyState }
/-- Body of DEVICE_STATUS. -/
def statusBody (s : State) : List Byte :=
  be 1 s.dev.state.code ++ be 1 s.dev.phase.code ++ be 1 s.tan.role.code ++ be 1 s.dev.unitId ++ be 4 s.dev.roleEpoch.toNat ++ be 6 s.cyc.n.toNat ++
  be 2 (plateTag s).toNat ++ be 6 s.time.ct.sec.toNat ++ be 4 s.time.ct.ns.toNat ++ be 1 (poundState s) ++ be 1 0 ++ be 2 s.pound.entries.length ++
  be 2 (waitingCount s)
/-- DEVICE_STATUS. -/
def execDeviceStatus (h : BcsHdr) (s : State) : Host.Outcome State Fault Refusal :=
  bcsRun h cDeviceStatus s (fun s => answer h 0x05 .ok (statusBody s) s)

/-! ### Device control (R343) -/

/-- DEBLOCK. -/
def cDeblock : BcsCmd := { op := 0x10, role := .operator, cls := .a, states := fun d => d == .ready, len := 8, cycled := true }
/-- DEBLOCK: READY to RUNNING at its cycle. -/
def execDeblock (h : BcsHdr) (w : When) (s : State) : Host.Outcome State Fault Refusal :=
  bcsRun h cDeblock s (whenA h cDeblock w [] deblockCheck)

/-- A class F command: a follower forwards it, any other unit executes it (R340). -/
def runF (h : BcsHdr) (c : BcsCmd) (args : List Int) (act : State → State) (s : State) : Host.Outcome State Fault Refusal :=
  unit (h.mbx < 16)
    (if !s.dev.mpcReady then s
     else match headCheck h c s with
       | .ok =>
         if follower s then sendTransfer h (waitFor h c.op 0 args) s
         else if c.states s.dev.state then act s else reject h c .state s
       | e => reject h c e s)

/-- The next cycle boundary, 0 where no cycle runs. -/
def nextBoundary (s : State) : CycleNo := if s.cyc.running then s.cyc.n + 1 else 0

/-- BLOCK. -/
def cBlock : BcsCmd :=
  { op := 0x11, role := .operator, cls := .f,
    states := fun d => match d with | .loaded | .ready | .running | .ramping | .blocked => true | _ => false }
/-- A block request at the next boundary, outside RUNNING and RAMPING without effect. -/
def doBlock (s : State) : State := { s with cyc := { s.cyc with blockReq := s.cyc.blockReq || runs s } }
/-- BLOCK. -/
def execBlock (h : BcsHdr) (s : State) : Host.Outcome State Fault Refusal :=
  runF h cBlock [] (fun s => answer h 0x11 .ok (be 6 (nextBoundary s).toNat) (doBlock s)) s

/-- BLOCK_CLEAR. -/
def cBlockClear : BcsCmd := { op := 0x12, role := .operator, cls := .a, states := fun d => d == .blocked, len := 8, cycled := true }
/-- BLOCK_CLEAR: its conditions are checked at its cycle. -/
def execBlockClear (h : BcsHdr) (w : When) (s : State) : Host.Outcome State Fault Refusal :=
  bcsRun h cBlockClear s (whenA h cBlockClear w [] (fun _ => .ok))

/-- PHASE_SET. -/
def cPhaseSet : BcsCmd := { op := 0x13, role := .operator, cls := .a, states := fun d => d == .running, len := 9, cycled := true }
/-- PHASE_SET: a transition that R24 lists. -/
def execPhaseSet (h : BcsHdr) (w : When) (phase : Nat) (s : State) : Host.Outcome State Fault Refusal :=
  bcsRun h cPhaseSet s (fun s =>
    match Phase.ofCode phase with
    | some p => whenA h cPhaseSet w [(phase : Int)] (fun s => if phaseStep s.dev.phase p then .ok else .state) s
    | none => reject h cPhaseSet .range s)

/-- SRB_REQUEST. -/
def cSrbRequest : BcsCmd := { op := 0x14, role := .operator, cls := .f, states := fun d => d == .running, len := 1 }
/-- A commanded request of a session is registered (R401); the next one of the same session ends the last as a target. -/
def doSrbRequest (mbx : Nat) (epoch : Word) (profile : Nat) (s : State) : State :=
  let x := s.srb
  let own := (mbx, epoch)
  let s := { s with srb := { x with
    cmd := if x.cmd.contains own then x.cmd else x.cmd ++ [own],
    cmdDone := x.cmdDone.filter (fun y => (y.1, y.2.1) ≠ own) } }
  srbRegister { cause := 3, profile := some profile, own := some own } s
/-- SRB_REQUEST: RUNNING to RAMPING at the first boundary 1.0 µs ahead. -/
def execSrbRequest (h : BcsHdr) (profile : Nat) (s : State) : Host.Outcome State Fault Refusal :=
  runF h cSrbRequest [(profile : Int)] (fun s =>
    if 3 < profile then reject h cSrbRequest .range s
    else answer h 0x14 .ok (be 6 (firstCycle s 400).toNat) (doSrbRequest h.mbx h.sessionEpoch profile s)) s

/-- SRB_WITHDRAW. -/
def cSrbWithdraw : BcsCmd :=
  { op := 0x15, role := .operator, cls := .f, states := fun d => d == .running || d == .ramping, abort := some 3 }
/-- The boundary at which a session's request would start its ramp (R349, R402): the first at least 1.0 µs after its
registration, and none before the next. -/
def srbBoundary (own : Nat × Word) (s : State) : CycleNo :=
  if !s.cyc.running then 0
  else match s.srb.reqs.find? (fun r => r.own = some own) with
    | some r => let t := max 1 (tccTicks s)
                s.cyc.n + BitVec.ofNat 48 (max 1 ((r.tick + 400 - s.cyc.startTick + t - 1) / t))
    | none => s.cyc.n + 1
/-- A session's request is removed, with the event of a release (R348, R412). -/
def srbWithdrawn (own : Nat × Word) (s : State) : State :=
  safetyEvent 10 s.srb.profile 0 0 0 { s with srb := { s.srb with
    cmd := s.srb.cmd.erase own, reqs := s.srb.reqs.filter (fun r => r.own ≠ some own) } }
/-- The outcome of a withdrawal by a session (R348, R349). -/
def doWithdraw (mbx : Nat) (epoch : Word) (s : State) : State × Status × List Byte :=
  let own := (mbx, epoch)
  if s.srb.cmd.contains own then (srbWithdrawn own s, .aborted, abortBody 3 (srbBoundary own s) 0 s)
  else match s.srb.cmdDone.find? (fun x => (x.1, x.2.1) = own) with
    | some x => ({ s with srb := { s.srb with cmdDone := s.srb.cmdDone.erase x } }, .completedBeforeAbort, abortBody 3 x.2.2 0 s)
    | none => (s, .nothingToAbort, abortBody 3 0 0 s)
/-- SRB_WITHDRAW. -/
def execSrbWithdraw (h : BcsHdr) (s : State) : Host.Outcome State Fault Refusal :=
  runF h cSrbWithdraw [] (fun s =>
    let (s', st, body) := doWithdraw h.mbx h.sessionEpoch s
    answer h 0x15 st body s') s

/-- TIME_DOMAIN_SELECT. -/
def cTimeDomainSelect : BcsCmd := { op := 0x16, role := .engineer, cls := .a, states := DevState.loadedOn, len := 9, cycled := true }
/-- TIME_DOMAIN_SELECT: checked here and at its cycle (R266). -/
def execTimeDomainSelect (h : BcsHdr) (w : When) (td : Nat) (s : State) : Host.Outcome State Fault Refusal :=
  bcsRun h cTimeDomainSelect s (fun s =>
    if 1 < td then reject h cTimeDomainSelect .range s
    else whenA h cTimeDomainSelect w [(td : Int)] (fun s => (switchBad s td).getD .ok) s)

/-- TIME_SET. -/
def cTimeSet : BcsCmd := { op := 0x17, role := .engineer, cls := .l, states := DevState.idleOn, len := 8 }
/-- TIME_SET: SECONDS of a domain served from PPS_IN, at its next edge (R271). -/
def execTimeSet (h : BcsHdr) (td seconds : Nat) (s : State) : Host.Outcome State Fault Refusal :=
  bcsRun h cTimeSet s (fun s =>
    if 1 < td then reject h cTimeSet .range s
    else if !onPps s td then reject h cTimeSet .state s
    else answer h 0x17 .ok [] (setDom td (fun d => { d with setSec := some seconds }) s))

/-- BASIN_RESTART. -/
def cBasinRestart : BcsCmd :=
  { op := 0x18, role := .engineer, cls := .a, states := fun d => d == .loaded || d == .ready || d == .blocked, len := 1 }
/-- BASIN_RESTART: the port starts again at ACQUIRE (R184). -/
def execBasinRestart (h : BcsHdr) (basin : Nat) (s : State) : Host.Outcome State Fault Refusal :=
  bcsRun h cBasinRestart s (fun s =>
    if 31 < basin then reject h cBasinRestart .range s
    else if !portNamed s basin then reject h cBasinRestart .resource s
    else classA h (waitFor h 0x18 0 [(basin : Int)]) s)

/-- The answer to an opcode that is not known (R339): after the checks that come before it. -/
def opcodeUnknown (h : BcsHdr) (opcode : Nat) (s : State) : State :=
  match formCheck h 0, sessionFor h s with
  | .ok, (.ok, _, _) => answer h (opcode % 256) .opcode [] s
  | .ok, (e, _, _) => answer h (opcode % 256) e [] s
  | e, _ => answer h (opcode % 256) e [] s

/-- An opcode that no table lists (R339, R347). -/
def execUnknownOpcode (h : BcsHdr) (opcode : Nat) (s : State) : Host.Outcome State Fault Refusal :=
  unit (h.mbx < 16) (if !s.dev.mpcReady then s else opcodeUnknown h opcode s)

end Sys2Proof.Machine
end

