-- ==== Sys2Proof/Machine/Staging.lean ====
section
/-! DEFINITION. Commands of the staging area (R344, R352–R363, R369): plate load, staged changes, check, countersignature,
commit, abort and readback. -/

namespace Sys2Proof.Machine

/-! ### Ownership (R344, R363) -/

/-- Another session owns the staging area. -/
def poundOther (h : BcsHdr) (s : State) : Bool :=
  match s.pound.owner with | some o => o ≠ (h.mbx, h.sessionEpoch) | none => false

/-- Commands that change or check the staging area give ST_BUSY: another session owns it, or a commit is pending. -/
def poundBusy (h : BcsHdr) (s : State) : Bool := poundOther h s || s.pound.commit.isSome

/-- The staging area changes: its session owns it, the check and the countersignatures are void, and a completed commit
is no target any more (R344, R348). -/
def poundTouch (h : BcsHdr) (p : Pound) : Pound :=
  { p with owner := some (h.mbx, h.sessionEpoch), check := none, signs := [], target := none }

/-! ### Plate load (R352–R354) -/

/-- PLATE_LOAD. -/
def cPlateLoad (len : Nat) : BcsCmd := { op := 0x20, role := .engineer, cls := .l, states := DevState.idleOn, len := len }

/-- PLATE_LOAD BEGIN. -/
def execPlateLoadBegin (h : BcsHdr) (size : Nat) (digest : List Byte) (s : State) : Host.Outcome State Fault Refusal :=
  bcsRun h (cPlateLoad 40) s (fun s =>
    if size = 0 ∨ 4194304 < size then reject h (cPlateLoad 40) .range s
    else if poundBusy h s || !s.pound.entries.isEmpty then reject h (cPlateLoad 40) .busy s
    else answer h 0x20 .ok [] { s with pound := { poundTouch h s.pound with load := some (size, digest), image := [], plate := none } })

/-- PLATE_LOAD DATA: OFFSET equals the bytes received. -/
def execPlateLoadData (h : BcsHdr) (off : Nat) (data : List Byte) (s : State) : Host.Outcome State Fault Refusal :=
  bcsRun h (cPlateLoad 8) s (fun s =>
    if poundBusy h s then reject h (cPlateLoad 8) .busy s
    else if s.pound.load.isNone || off ≠ s.pound.image.length then reject h (cPlateLoad 8) .sequence s
    else answer h 0x20 .ok [] { s with pound := { poundTouch h s.pound with image := s.pound.image ++ data } })

/-- A little-endian field of an image. -/
def imgField (img : List Byte) (off n : Nat) : Nat := ofLe ((img.drop off).take n)

/-- The header of an image (R352). -/
def imgHeader (img : List Byte) : PlateHdr :=
  { magic := BitVec.ofNat 32 (imgField img 0 4), format := BitVec.ofNat 16 (imgField img 4 2), variant := BitVec.ofNat 8 (imgField img 6 1),
    keySlot := BitVec.ofNat 8 (imgField img 7 1), imageSize := BitVec.ofNat 32 (imgField img 8 4), minFw := BitVec.ofNat 32 (imgField img 12 4),
    plateTag := BitVec.ofNat 16 (imgField img 16 2), nodeCount := BitVec.ofNat 16 (imgField img 18 2),
    homeBound := BitVec.ofNat 32 (imgField img 20 4), sectionCount := BitVec.ofNat 16 (imgField img 24 2),
    sigOffset := BitVec.ofNat 32 (imgField img 28 4) }

/-- TYPE, PROTECTION, OFFSET and LENGTH of each section. -/
def imgSections (img : List Byte) (n : Nat) : List (Nat × Nat × Nat × Nat) :=
  (List.range n).map (fun k =>
    let o := 256 + 16 * k
    (imgField img o 2, imgField img (o + 2) 2 % 2, imgField img (o + 4) 4, imgField img (o + 8) 4))

/-- PROTECTION of a section as the table fixes it; none for the stage image, whose stages carry their own. -/
def sectionProt (t : Nat) : Option Nat := if t = 4 then none else some (b2n (8 ≤ t))

/-- MAGIC, FORMAT, IMAGE_SIZE, SIG_OFFSET and the section table are well formed (R352, R354). -/
def imgFormed (img : List Byte) : Bool :=
  let x := imgHeader img
  let secs := imgSections img x.sectionCount.toNat
  let types := secs.map (·.1)
  320 ≤ img.length && x.magic = 0x53563850#32 && x.format = 1#16 && x.imageSize.toNat = img.length && x.sigOffset.toNat + 64 = img.length &&
  1 ≤ x.sectionCount.toNat && x.sectionCount.toNat ≤ 64 && 256 + 16 * x.sectionCount.toNat ≤ x.sigOffset.toNat &&
  secs.all (fun y => 1 ≤ y.1 && y.1 ≤ 11 && (match sectionProt y.1 with | some p => y.2.1 = p | none => true) && y.2.2.1 + y.2.2.2 ≤ x.sigOffset.toNat) &&
  types.eraseDups.length = types.length && [1, 2, 3, 4, 9, 10, 11].all (fun t => types.contains t)

/-- The signature of an image verifies under its key slot (R353). -/
def imgSigned (s : State) (img : List Byte) : Bool :=
  let x := imgHeader img
  let k := x.keySlot.toNat
  (match s.dev.bootRec with | some b => k < 4 && b.keySlots.testBit k | none => false) &&
  Config.ecdsaOk k (sha256 (img.take x.sigOffset.toNat)) (img.drop x.sigOffset.toNat)

/-- VARIANT matches the unit and MIN_FW does not exceed the running release (R2, R354). -/
def imgFits (s : State) (img : List Byte) : Bool :=
  let x := imgHeader img
  x.variant.toNat = (match s.dev.variant with | .sv8x32 => 0x20 | .sv8x16 => 0x10) && decide (x.minFw.toNat ≤ s.dev.fwVersion.toNat)

/-- No mooring, arm or point of a plate lies beyond the variant's range (R2). -/
def plateFits (s : State) (pl : Plate) : Bool :=
  pl.order.keys.all (· < nPorts s) && pl.arms.all (fun x => x.1 < nArms s && x.2.all (fun m => m.ci < nCells s)) &&
  pl.points.keys.all (· < nCells s * 128) && pl.seeds.keys.all (· < nCells s) &&
  pl.params.keys.all (fun id =>
    let inst := id / 2 ^ 8 % 2 ^ 16
    let item := id % 2 ^ 8
    match id / 2 ^ 24 with
    | 0x01 => if item = 10 then inst < nCells s else inst < nPorts s
    | 0x02 => inst < nPorts s
    | 0x03 => if 8 ≤ item ∧ item ≤ 12 then inst < nCells s else inst < nPorts s
    | 0x10 | 0x11 => inst < nArms s
    | 0x14 => id % 2 ^ 24 / 16 < nCells s * 128
    | _ => true)

/-- The nodes that section TYPE 3 spells (R77, R78, R98): NODE_COUNT descriptors, and the input reference list after them
(log 9); the exponent limits are not in the descriptors and come with the content. -/
def imgNodes (img : List Byte) (given : List NodeDef) : List NodeDef :=
  let x := imgHeader img
  let count := x.nodeCount.toNat
  match (imgSections img x.sectionCount.toNat).find? (fun y => y.1 = 3) with
  | some (_, _, off, len) =>
    let sec := (img.drop off).take len
    let ref := fun j => refOfWord (imgField sec (64 * count + 4 * j) 4)
    (List.range count).map (fun k =>
      nodeOfWords (fun j => imgField sec (64 * k + 4 * j) 4) ref (match given[k]? with | some n => (n.efloor, n.eceil) | none => (-128, 127)))
  | none => []

/-- The plate that an image holds, of the content that its sections spell. -/
def plateOf (img digest : List Byte) (content : Plate) : Plate :=
  { content with hdr := imgHeader img, imageDigest := digest, nodes := imgNodes img content.nodes }

/-- The checks of END in their order (R2, R354). -/
def loadCheck (s : State) (size : Nat) (digest : List Byte) (content : Plate) : Status :=
  let img := s.pound.image
  if img.length ≠ size then .length
  else if sha256 img ≠ digest then .digest
  else if !imgFormed img then .consistency
  else if !imgSigned s img then .signature
  else if !imgFits s img || !plateFits s content then .resource
  else .ok

/-- PLATE_LOAD END; `content` is what the image's sections hold. -/
def execPlateLoadEnd (h : BcsHdr) (content : Plate) (s : State) : Host.Outcome State Fault Refusal :=
  bcsRun h (cPlateLoad 1) s (fun s =>
    if poundBusy h s then reject h (cPlateLoad 1) .busy s
    else match s.pound.load with
      | none => reject h (cPlateLoad 1) .sequence s
      | some (size, digest) =>
        match loadCheck s size digest content with
        | .ok =>
          let pl := plateOf s.pound.image digest content
          let s := { s with pound := { poundTouch h s.pound with load := none, plate := some pl } }
          answer h 0x20 .ok (be 2 pl.hdr.plateTag.toNat ++ be 2 0 ++ changeDigest s) s
        | e => reject h (cPlateLoad 1) e (emptyPound s))

/-! ### Staged changes (R344, R356, R357) -/

/-- STAGE_SET. -/
def cStageSet (n : Nat) : BcsCmd := { op := 0x21, role := .engineer, cls := .l, states := DevState.idleOn, len := 4 + 12 * n }

/-- What speaks against the entries of a STAGE_SET. -/
def entriesCheck (s : State) (es : List (Nat × Int)) : Status :=
  if es.any (fun x => (paramRow s x.1).isNone) then .notFound
  else if es.any (fun x => match paramRow s x.1 with | some r => !valueOk x.1 r (canonVal r x.2) | none => true) then .range
  else .ok

/-- The staged entries with new ones, in ascending PARAM_ID. -/
def entriesAdd (s : State) (es : List (Nat × Int)) : SMap Int :=
  es.foldl (fun (m : SMap Int) x => m.set x.1 (match paramRow s x.1 with | some r => canonVal r x.2 | none => x.2)) s.pound.entries

/-- STAGE_SET: all entries are added, or none. -/
def execStageSet (h : BcsHdr) (entries : List (Nat × Int)) (s : State) : Host.Outcome State Fault Refusal :=
  let c := cStageSet entries.length
  bcsRun h c s (fun s =>
    if entries.length = 0 ∨ 19 < entries.length then reject h c .range s
    else if poundBusy h s || s.pound.plate.isSome || s.pound.load.isSome then reject h c .busy s
    else
      let es := entriesAdd s entries
      onOk (entriesCheck s entries)
        (if 512 < es.length then reject h c .poundFull s
         else answer h 0x21 .ok (be 2 es.length) { s with pound := { poundTouch h s.pound with entries := es } })
        (fun e => reject h c e s))

/-! ### Check, countersignature, commit, abort (R358–R363, R369) -/

/-- STAGE_CHECK. -/
def cStageCheck : BcsCmd := { op := 0x22, role := .engineer, cls := .l, states := DevState.idleOn }

/-- STAGE_CHECK starts a check; its response is deferred. -/
def execStageCheck (h : BcsHdr) (s : State) : Host.Outcome State Fault Refusal :=
  bcsRun h cStageCheck s (fun s =>
    if poundBusy h s || s.pound.checking.isSome then reject h cStageCheck .busy s
    else if (candOf s).isNone then reject h cStageCheck .notFound s
    else ghostDone h { s with pound := { s.pound with checking := some (h.mbx, h.sessionEpoch, h.tag) } })

/-- Body of STAGE_CHECK. -/
def checkBody (s : State) (code param : Nat) : List Byte :=
  be 1 (b2n (protectionClass s) + 2 * b2n s.pound.plate.isSome) ++ be 1 0 ++ be 2 s.pound.entries.length ++ changeDigest s ++ be 4 param ++ be 2 code

/-- The check is made: it is valid, or reports the first failure (R358, R359). -/
def checkDone (m : Nat) (epoch : Word) (tag : BitVec 16) (s : State) : State :=
  match candOf s with
  | none => respondLate m epoch tag 0x22 .notFound [] s
  | some c =>
    let (code, param) := checkFail s c
    let s := { s with free := s.free + 1 }
    if code = 0 then
      respondLate m epoch tag 0x22 .ok (checkBody s 0 0) { s with pound := { s.pound with check := some (changeDigest s, protectionClass s) } }
    else respondLate m epoch tag 0x22 .consistency (checkBody s code param) { s with pound := { s.pound with check := none } }

/-- A check completes. -/
def execStageCheckComplete (s : State) : Host.Outcome State Fault Refusal :=
  ok (match s.pound.checking with
    | some (m, e, tag) => checkDone m e tag { s with pound := { s.pound with checking := none } }
    | none => s)

/-- STAGE_COUNTERSIGN. -/
def cStageCountersign : BcsCmd := { op := 0x23, role := .engineer, cls := .l, states := DevState.idleOn, len := 32 }

/-- What a countersignature does to those held (R361, R362); a third is not recorded. -/
def countersign (digest : List Byte) (party : Nat) (r : SessRole) (p : Pound) : Status × Pound :=
  match p.check with
  | none => (.notChecked, p)
  | some (d, prot) =>
    if digest ≠ d then (.countersignMismatch, p)
    else if p.signs.any (fun x => x.1 = party) then (.sameParty, p)
    else if 2 ≤ p.signs.length then (.ok, p)
    else if prot && p.signs.length = 1 && r != .protection && !(p.signs.any (fun x => x.2 == .protection)) then (.countersignRequired, p)
    else (.ok, { p with signs := p.signs ++ [(party, r)] })

/-- STAGE_COUNTERSIGN records the session's party. -/
def execStageCountersign (h : BcsHdr) (digest : List Byte) (s : State) : Host.Outcome State Fault Refusal :=
  bcsRun h cStageCountersign s (fun s =>
    let (_, r, party) := sessionFor h s
    match countersign digest party r s.pound with
    | (.ok, p) => answer h 0x23 .ok (be 1 p.signs.length) { s with pound := p }
    | (e, _) => reject h cStageCountersign e s)

/-- STAGE_COMMIT. -/
def cStageCommit : BcsCmd := { op := 0x24, role := .engineer, cls := .a, states := DevState.idleOn, len := 40, cycled := true }

/-- The valid check and the countersignatures that a commit needs (R361, R362). -/
def commitCheck (digest : List Byte) (s : State) : Status :=
  match s.pound.check with
  | none => .notChecked
  | some (d, prot) => if digest ≠ d then .notChecked else if prot && s.pound.signs.length < 2 then .countersignRequired else .ok

/-- STAGE_COMMIT: the lock-through is pending for its cycle; a whole plate in IDLE names none (R367). -/
def execStageCommit (h : BcsHdr) (w : When) (digest : List Byte) (s : State) : Host.Outcome State Fault Refusal :=
  bcsRun h cStageCommit s (fun s =>
    let whole := s.pound.plate.isSome
    let idle := whole && s.dev.state == .idle
    let may := match s.dev.state with | .idle | .loaded | .ready | .blocked => true | _ => false
    let cy := if idle then 0 else whenCycle s w whole
    if whole && !may then reject h cStageCommit .state s
    else if !idle && cycleFar s cy then reject h cStageCommit .range s
    else if poundBusy h s then reject h cStageCommit .busy s
    else onOk (commitCheck digest s)
      (onOk (if idle then .ok else acceptCheck s cy 800) (classA h (waitFor h 0x24 cy []) s) (fun e => reject h cStageCommit e s))
      (fun e => reject h cStageCommit e s))

/-- STAGE_ABORT. -/
def cStageAbort : BcsCmd := { op := 0x25, role := .engineer, cls := .a, states := anyState, abort := some 1 }

/-- The session may abort: its owner, or one in role PROTECTION; an area without an owner has none to ask. -/
def abortRole (h : BcsHdr) (s : State) : Bool :=
  match sessionFor h s with
  | (.ok, .protection, _) => true
  | (.ok, _, _) => !poundOther h s
  | _ => true

/-- STAGE_ABORT: R348 and R369 settle its outcome. -/
def execStageAbort (h : BcsHdr) (s : State) : Host.Outcome State Fault Refusal :=
  if s.dev.mpcReady && decide (h.mbx < 16) && decide (formCheck h 0 = .ok) && !abortRole h s then ok (reject h cStageAbort .role s)
  else bcsRun h cStageAbort s (fun s => classA h (waitFor h 0x25 0 []) s)

/-! ### Readback (R344, R355, R357) -/

/-- STAGE_READ. -/
def cStageRead : BcsCmd := { op := 0x26, role := .observer, cls := .r, states := anyState, len := 2 }

/-- STAGE_READ: entries from a given one on. -/
def execStageRead (h : BcsHdr) (first : Nat) (s : State) : Host.Outcome State Fault Refusal :=
  bcsRun h cStageRead s (fun s =>
    let es := (s.pound.entries.drop first).take 19
    answer h 0x26 .ok (be 2 s.pound.entries.length ++ be 1 es.length ++ be 1 0 ++ es.flatMap (fun x => be 4 x.1 ++ beI 8 x.2)) s)

/-- VALUE in force of a parameter (R355). -/
def valueInForce (s : State) (id : Nat) : Int :=
  let g := id / 2 ^ 24
  let inst := id / 2 ^ 8 % 2 ^ 16
  if g = 0x13 then ((elemBits (elemWord (pstage s inst).val (id % 256))).toNat : Nat)
  else if g = 0x40 then
    (let w := (clkWord s inst).toNat
     ((match id % 256 with | 0 => w / 2 ^ 31 | 4 => w / 2 ^ 16 % 256 | _ => w % 1024 : Nat) : Int))
  else parOf s.cfg.par (armTab s) id

/-- PARAM_GET. -/
def cParamGet (n : Nat) : BcsCmd := { op := 0x27, role := .observer, cls := .r, states := DevState.loadedOn, len := 4 + 4 * n }

/-- PARAM_GET: values in force. -/
def execParamGet (h : BcsHdr) (ids : List Nat) (s : State) : Host.Outcome State Fault Refusal :=
  let c := cParamGet ids.length
  bcsRun h c s (fun s =>
    if ids.length = 0 ∨ 19 < ids.length then reject h c .range s
    else if ids.any (fun i => (paramRow s i).isNone) then reject h c .notFound s
    else answer h 0x27 .ok (be 4 0 ++ ids.flatMap (fun i => be 4 i ++ beI 8 (valueInForce s i))) s)

end Sys2Proof.Machine
end

