-- ==== Sys2Proof/Machine/Operate.lean ====
section
/-! DEFINITION. Operation and diagnostic commands (R67, R97, R114, R129, R214, R223, R252, R253, R307, R345, R346, R348). -/

namespace Sys2Proof.Machine

/-! ### Setpoints (R114, R115) -/

/-- The parameter stage of a setpoint slot. -/
def slotStage (s : State) (slot : Nat) : Option Nat := s.cfg.plate.bind (fun pl => pl.slots.find slot)

/-- SETPOINT_SET. -/
def cSetpointSet (l : Nat) : BcsCmd :=
  { op := 0x30, role := .operator, cls := .a, states := DevState.loadedOn, len := 12 + 4 * l, cycled := true }

/-- The slot exists and its stage has as many elements as the command. -/
def slotCheck (slot l : Nat) (s : State) : Status :=
  match slotStage s slot with
  | none => .notFound
  | some k => if (pstage s k).val.m.length = l then .ok else .length

/-- SETPOINT_SET: the value waits for its cycle; SP_CLAMPED against the limits in force. -/
def execSetpointSet (h : BcsHdr) (w : When) (slot : Nat) (elems : List ElemWord) (s : State) : Host.Outcome State Fault Refusal :=
  let c := cSetpointSet elems.length
  bcsRun h c s (fun s =>
    let cy := whenCycle s w false
    if 255 < slot ∨ elems.length = 0 ∨ 16 < elems.length then reject h c .range s
    else if cycleFar s cy then reject h c .range s
    else onOk (slotCheck slot elems.length s)
      (onOk (acceptCheck s cy 0) (classA h { waitFor h 0x30 cy [(slot : Int)] with elems := elems } s) (fun e => reject h c e s))
      (fun e => reject h c e s))

/-- SETPOINT_GET. -/
def cSetpointGet : BcsCmd := { op := 0x31, role := .observer, cls := .r, states := DevState.loadedOn, len := 1 }

/-- Body of SETPOINT_GET. -/
def setpointBody (s : State) (slot k : Nat) : List Byte :=
  let x := pstage s k
  be 6 (s.graph.spCycle.get slot 0).toNat ++ be 1 (b2n (s.graph.spClamped.get slot false)) ++ be 1 x.val.m.length ++
  (List.range x.val.m.length).flatMap (fun i => be 4 (elemBits (elemWord x.val i)).toNat)

/-- SETPOINT_GET: the value in force. -/
def execSetpointGet (h : BcsHdr) (slot : Nat) (s : State) : Host.Outcome State Fault Refusal :=
  bcsRun h cSetpointGet s (fun s =>
    if 255 < slot then reject h cSetpointGet .range s
    else match slotStage s slot with
      | none => reject h cSetpointGet .notFound s
      | some k => answer h 0x31 .ok (setpointBody s slot k) s)

/-! ### Cells (R129, R214) -/

/-- CELL_EXCLUDE. -/
def cCellExclude : BcsCmd := { op := 0x32, role := .operator, cls := .a, states := DevState.loadedOn, len := 10, cycled := true }

/-- The cell is in an arm, and its category allows the change. -/
def catCheck (may : State → Nat → Bool) (ci : Nat) (s : State) : Status :=
  if (memberOf s ci).isNone then .notFound else if may s ci then .ok else .state

/-- CELL_EXCLUDE. -/
def execCellExclude (h : BcsHdr) (w : When) (ci : Nat) (s : State) : Host.Outcome State Fault Refusal :=
  bcsRun h cCellExclude s (whenA h cCellExclude w [(ci : Int)] (catCheck mayExclude ci))

/-- CELL_RESTORE. -/
def cCellRestore : BcsCmd := { op := 0x33, role := .operator, cls := .a, states := DevState.loadedOn, len := 10, cycled := true }

/-- CELL_RESTORE: settled at the cutoff of its cycle (R130). -/
def execCellRestore (h : BcsHdr) (w : When) (ci : Nat) (s : State) : Host.Outcome State Fault Refusal :=
  bcsRun h cCellRestore s (whenA h cCellRestore w [(ci : Int)] (catCheck mayRestore ci))

/-- CELL_BYPASS_CLOSE. -/
def cCellBypassClose : BcsCmd := { op := 0x34, role := .engineer, cls := .a, states := DevState.loadedOn, len := 4 }

/-- A cell that the plate names. -/
def cellNamed (s : State) (ci : Nat) : Bool := portNamed s (ci / 256) && moorNamed s (ci / 256) (ci % 256) && !isGauge s ci

/-- CELL_BYPASS_CLOSE: BYPASS_CLOSE in two consecutive frames. -/
def execCellBypassClose (h : BcsHdr) (ci confirm : Nat) (s : State) : Host.Outcome State Fault Refusal :=
  let c := cCellBypassClose
  bcsRun h c s (fun s =>
    if confirm ≠ ci % 65536 ^^^ 0xFFFF then reject h c .range s
    else if !cellNamed s ci then reject h c .notFound s
    else if memberCat s ci == some .active then reject h c .state s
    else classA h (waitFor h 0x34 0 [(ci : Int)]) s)

/-! ### Ranging and presets (R208, R209, R176, R348) -/

/-- MOORING_RANGE. -/
def cMooringRange : BcsCmd := { op := 0x35, role := .engineer, cls := .a, states := DevState.loadedOn, len := 2 }

/-- No ranging command is outstanding on the port. -/
def rangeFree (s : State) (p : Nat) : Bool := match (port s p).rangeCmd with | some c => c.completed | none => true

/-- MOORING_RANGE: a RANGE_REQ with TRAIN in the next service area; RANGE_DONE reports. -/
def execMooringRange (h : BcsHdr) (basin mooring : Nat) (s : State) : Host.Outcome State Fault Refusal :=
  let c := cMooringRange
  bcsRun h c s (fun s =>
    if 31 < basin ∨ 255 < mooring then reject h c .range s
    else if !portNamed s basin then reject h c .resource s
    else if !moorNamed s basin mooring then reject h c .notFound s
    else if !served (moor s (ciOf basin mooring)).st then reject h c .state s
    else if !rangeFree s basin then reject h c .busy s
    else classA h (waitFor h 0x35 0 [(basin : Int), (mooring : Int)]) s)

/-- MOORING_RANGE_ABORT. -/
def cMooringRangeAbort : BcsCmd :=
  { op := 0x36, role := .engineer, cls := .a, states := DevState.loadedOn, len := 1, abort := some 4 }

/-- MOORING_RANGE_ABORT. -/
def execMooringRangeAbort (h : BcsHdr) (basin : Nat) (s : State) : Host.Outcome State Fault Refusal :=
  let c := cMooringRangeAbort
  bcsRun h c s (fun s =>
    if 31 < basin then reject h c .range s
    else if !portNamed s basin then reject h c .resource s
    else classA h (waitFor h 0x36 0 [(basin : Int)]) s)

/-- PRESET_READ. -/
def cPresetRead : BcsCmd := { op := 0x37, role := .observer, cls := .r, states := DevState.loadedOn, len := 3 }

/-- PRESET_READ: preset entries of a port. -/
def execPresetRead (h : BcsHdr) (basin first count : Nat) (s : State) : Host.Outcome State Fault Refusal :=
  let c := cPresetRead
  bcsRun h c s (fun s =>
    if 31 < basin ∨ count = 0 ∨ 56 < count ∨ 256 < first + count then reject h c .range s
    else if !portNamed s basin then reject h c .resource s
    else answer h 0x37 .ok ((List.range count).flatMap (fun i => be 4 (presetWord (moor s (ciOf basin (first + i))).preset).toNat)) s)

/-! ### Flags, statistics and points (R67, R97, R223) -/

/-- NODE_FLAGS_CLEAR. -/
def cNodeFlagsClear : BcsCmd := { op := 0x40, role := .engineer, cls := .a, states := DevState.loadedOn, len := 12, cycled := true }

/-- NODE_FLAGS_CLEAR. -/
def execNodeFlagsClear (h : BcsHdr) (w : When) (first count : Nat) (s : State) : Host.Outcome State Fault Refusal :=
  bcsRun h cNodeFlagsClear s (fun s =>
    if count = 0 ∨ 4096 < count then reject h cNodeFlagsClear .range s
    else whenA h cNodeFlagsClear w [(first : Int), (count : Int)] (fun _ => .ok) s)

/-- SCHED_STATS_CLEAR. -/
def cSchedStatsClear : BcsCmd := { op := 0x41, role := .engineer, cls := .l, states := DevState.loadedOn, len := 8, cycled := true }

/-- SCHED_STATS_CLEAR. -/
def execSchedStatsClear (h : BcsHdr) (w : When) (s : State) : Host.Outcome State Fault Refusal :=
  bcsRun h cSchedStatsClear s (whenL h cSchedStatsClear w [] (fun _ => .ok))

/-- POINT_MINMAX_CLEAR. -/
def cPointMinmaxClear : BcsCmd := { op := 0x42, role := .engineer, cls := .l, states := DevState.loadedOn, len := 16, cycled := true }

/-- POINT_MINMAX_CLEAR. -/
def execPointMinmaxClear (h : BcsHdr) (w : When) (first count : Nat) (s : State) : Host.Outcome State Fault Refusal :=
  bcsRun h cPointMinmaxClear s (whenL h cPointMinmaxClear w [(first : Int), (count : Int)] (fun _ => .ok))

/-! ### Pulse engine and clocks (R274, R277, R307) -/

/-- PULSE_STATUS. -/
def cPulseStatus : BcsCmd := { op := 0x43, role := .observer, cls := .r, states := anyState }

/-- Body of PULSE_STATUS. -/
def pulseBody (s : State) : List Byte :=
  (List.range 12).flatMap (fun c =>
    let x := s.pul.ch.get c {}
    be 4 (pulStatus s c).toNat ++ be 4 x.trips ++ be 4 x.swallows ++ be 4 x.stretches ++ be 4 x.rejects)

/-- PULSE_STATUS: five words for each channel. -/
def execPulseStatus (h : BcsHdr) (s : State) : Host.Outcome State Fault Refusal :=
  bcsRun h cPulseStatus s (fun s => answer h 0x43 .ok (pulseBody s) s)

/-- PULSE_FLAGS_CLEAR. -/
def cPulseFlagsClear : BcsCmd := { op := 0x44, role := .engineer, cls := .l, states := DevState.loadedOn, len := 10, cycled := true }

/-- PULSE_FLAGS_CLEAR. -/
def execPulseFlagsClear (h : BcsHdr) (w : When) (mask : Nat) (s : State) : Host.Outcome State Fault Refusal :=
  bcsRun h cPulseFlagsClear s (whenL h cPulseFlagsClear w [(mask : Int)] (fun _ => .ok))

/-- CLOCK_STATUS. -/
def cClockStatus : BcsCmd := { op := 0x45, role := .observer, cls := .r, states := anyState }

/-- Body of CLOCK_STATUS: locked loops C, E, A, B, D from bit 0, driver, cache misses, and the words of the outputs. -/
def clockBody (s : State) : List Byte :=
  let k := s.clk
  be 1 ((List.range 5).foldl (fun a i => a + b2n (k.locked.getD i false) * 2 ^ i) 0) ++ be 1 (b2n k.onE) ++ be 2 k.cacheMisses.toNat ++ be 4 0 ++
  (List.range 12).flatMap (fun i => be 4 (clkWord s i).toNat ++ be 4 (k.shadow.get i (clkResetWord i)).toNat)

/-- CLOCK_STATUS. -/
def execClockStatus (h : BcsHdr) (s : State) : Host.Outcome State Fault Refusal :=
  bcsRun h cClockStatus s (fun s => answer h 0x45 .ok (clockBody s) s)

/-! ### Eye scan (R252, R253, R348) -/

/-- EYE_SCAN. -/
def cEyeScan : BcsCmd := { op := 0x46, role := .engineer, cls := .l, states := DevState.idleOn, len := 2 }

/-- The link of a lane that has eye scan is up: SP0–SP7, TP0, TP1. -/
def scanUp (s : State) (lane : Nat) : Bool :=
  if lane < 8 then (s.stn.ports.get lane {}).up else if lane = 8 then s.tan.tp0Up else s.tan.tp1Up

/-- EYE_SCAN starts a scan; its response carries the counts. -/
def execEyeScan (h : BcsHdr) (lane dwell : Nat) (s : State) : Host.Outcome State Fault Refusal :=
  let c := cEyeScan
  bcsRun h c s (fun s =>
    if 9 < lane ∨ dwell < 20 ∨ 34 < dwell then reject h c .range s
    else if s.stn.scan.isSome then reject h c .busy s
    else if !scanUp s lane then reject h c .state s
    else
      let x : EyeScan := { lane := lane, dwell := dwell, mbx := h.mbx, epoch := h.sessionEpoch, tag := h.tag }
      ghostDone h { s with stn := { s.stn with scan := some x, scanDone := none } })

/-- Bytes in bodies of 240. -/
def bodies (bs : List Byte) : List (List Byte) := (List.range ((bs.length + 239) / 240)).map (fun i => (bs.drop (240 * i)).take 240)

/-- The last count of a scan: 64 × 127 counts, each held at 65,535, in 68 parts. -/
def execEyeScanComplete (counts : List Nat) (s : State) : Host.Outcome State Fault Refusal :=
  ok (match s.stn.scan with
    | some x =>
      let t := { s with stn := { s.stn with scan := none, scanDone := some (s.cyc.n, tickPhase s) } }
      respondParts x.mbx x.epoch x.tag 0x46 (bodies ((counts.take 8128).flatMap (fun n => be 2 (min 65535 n)))) t
    | none => s)

/-- EYE_SCAN_ABORT. -/
def cEyeScanAbort : BcsCmd := { op := 0x47, role := .engineer, cls := .l, states := anyState, abort := some 5 }

/-- EYE_SCAN_ABORT: the scan ends without counts, and its own response says so. -/
def execEyeScanAbort (h : BcsHdr) (s : State) : Host.Outcome State Fault Refusal :=
  bcsRun h cEyeScanAbort s (fun s =>
    match s.stn.scan, s.stn.scanDone with
    | some x, _ =>
      respondLate x.mbx x.epoch x.tag 0x46 .aborted []
        (answer h 0x47 .aborted (abortBody 5 0 0 s) { s with stn := { s.stn with scan := none } })
    | none, some (c, t) => answer h 0x47 .completedBeforeAbort (abortBody 5 c t s) { s with stn := { s.stn with scanDone := none } }
    | none, none => answer h 0x47 .nothingToAbort (abortBody 5 0 0 s) s)

end Sys2Proof.Machine
end

