-- ==== Sys2Proof/Machine/Faults.lean ====
section
/-! DEFINITION. Commands and events of the Fault Collection and Reaction Unit: traps, clearing, readback, acknowledgement,
injection, and errors of the stacked memory (R28, R227, R372, R380, R381, R385, R387, R455). -/

namespace Sys2Proof.Machine

/-! ### Firmware's trap and the clearing of sources (R371, R372, R381) -/

/-- Base and size of the trap area (R381). -/
def trapBase : Nat := 0x07F08000
/-- Size of the trap area. -/
def trapSize : Nat := 0x80000

/-- Bybex enters the trap of a source and copies diagnostic state into the trap area. -/
def execTrapEntry (source : Nat) (s : State) : Host.Outcome State Fault Refusal :=
  unit (source < 512)
    (if s.dev.mpcReady && s.fcru.traps.contains source then
       { s with fcru := { s.fcru with traps := s.fcru.traps.erase source },
                store := Memory.writes s.store trapBase ((Config.trapBytes source s.fcru.seq.toNat).take trapSize) }
     else s)

/-- The condition of a level source ends. -/
def execLevelSourceClear (source : Nat) (s : State) : Host.Outcome State Fault Refusal :=
  unit (source < 512)
    (match faultInfo source with
     | some f => if f.level then clear source s else s
     | none => s)

/-! ### Records (R380, R385) -/

/-- A cause record as bytes. -/
def causeBytes (src : Nat) (r : Cause) : List Byte :=
  if r.occurrences = 0 then be 60 0 else
  be 2 src ++ be 1 (r.cls * 64 + r.levelCfg * 8 + r.applied) ++
  be 1 (b2n r.preReset * 128 + b2n r.injected * 64 + b2n r.convBlock * 32 + b2n r.escalated * 16 + b2n r.read * 8 +
    b2n r.clearedBeforeRead * 4 + b2n r.active * 2 + b2n r.latched) ++
  be 4 r.firstSeq.toNat ++ stampBytes r.firstTime ++ be 6 r.firstCycle.toNat ++ be 1 (r.phase.code * 16 + r.dstate.code) ++ be 1 r.role.code ++
  be 4 r.occurrences ++ stampBytes r.lastTime ++ be 4 r.lastSeq.toNat ++ (r.detail ++ be 12 0).take 12

/-- FAULT_READ. -/
def cFaultRead : BcsCmd := { op := 0x48, role := .observer, cls := .r, states := anyState, len := 2 }

/-- FAULT_READ returns the record and sets its READ. -/
def execFaultRead (h : BcsHdr) (source : Nat) (s : State) : Host.Outcome State Fault Refusal :=
  bcsRun h cFaultRead s (fun s =>
    if 511 < source then reject h cFaultRead .range s
    else if (faultInfo source).isNone then reject h cFaultRead .notFound s
    else
      let r : Cause := { rec? s source with read := (rec? s source).occurrences ≠ 0 }
      let s := if r.occurrences = 0 then s else { s with fcru := { s.fcru with recs := s.fcru.recs.set source r } }
      answer h 0x48 .ok (be 4 s.fcru.seq.toNat ++ causeBytes source r) s)

/-- FAULT_ACK. -/
def cFaultAck : BcsCmd := { op := 0x49, role := .operator, cls := .l, states := anyState, len := 8 }

/-- What an acknowledgement meets. -/
def ackCheck (r : Cause) (lastSeq : Word) : Status :=
  if !r.latched then .notFound else if r.lastSeq ≠ lastSeq then .sequence else if r.active then .state else .ok

/-- FAULT_ACK clears LATCHED; the pending count and FIRST_SOURCE follow from the latched records. -/
def execFaultAck (h : BcsHdr) (source : Nat) (lastSeq : Word) (s : State) : Host.Outcome State Fault Refusal :=
  bcsRun h cFaultAck s (fun s =>
    if 511 < source then reject h cFaultAck .range s
    else onOk (ackCheck (rec? s source) lastSeq)
      (answer h 0x49 .ok [] { s with fcru := { s.fcru with recs := s.fcru.recs.set source { rec? s source with latched := false } } })
      (fun e => reject h cFaultAck e s))

/-! ### Injection (R387, R388) -/

/-- A key word is written to INJECT_KEY over PCI Express. -/
def execInjectKey (val : Word) (t : Nat) (s : State) : Host.Outcome State Fault Refusal :=
  let s := advanceTo t s
  ok (if pcieUp s then keyWord val s else s)

/-- FAULT_INJECT; the manual names neither its role nor its states. -/
def cFaultInject : BcsCmd := { op := 0x7F, role := .observer, cls := .l, states := anyState, len := 2 }

/-- A source asserts once: a level source that was not asserted clears again. A source whose resource the variant lacks is
never asserted (R2, R370). -/
def injectOnce (src : Nat) (f : FaultInfo) (s : State) : State :=
  if faultAbsent s.dev.variant src then s else
  let was := (rec? s src).active
  let t := assertSource src f true [] s
  if was then t else clear src t

/-- FAULT_INJECT: known in factory test mode alone. -/
def execFaultInject (h : BcsHdr) (source : Nat) (s : State) : Host.Outcome State Fault Refusal :=
  if factoryMode s then
    bcsRun h cFaultInject s (fun s =>
      if 511 < source then reject h cFaultInject .range s
      else match faultInfo source with
        | some f => injectOnce source f (answer h 0x7F .ok [] s)
        | none => reject h cFaultInject .notFound s)
  else unit (h.mbx < 16) (if !s.dev.mpcReady then s else opcodeUnknown h 0x7F s)

/-! ### Memory errors (R28, R227, R455) -/

/-- The point record of an address is flagged. -/
def flagPoint (addr : Nat) (s : State) : State :=
  { s with points := s.points.upd (addr / 64) {} (fun x => { x with dataLost := true, rebuild := true }) }

/-- The capture record of an address is flagged, in its header too. -/
def flagCapture (addr : Nat) (s : State) : State :=
  (List.range 16).foldl (fun s c =>
    if capBase s c ≤ addr && addr < capBase s c + capShare s c then capPut c { capGet s c with dataError := true } true s else s) s

/-- A read or the scrub finds an error of the stacked memory, or of a static memory of the compute die. -/
def execSramEccError (addr : Nat) (corrected onComputeDie : Bool) (s : State) : Host.Outcome State Fault Refusal :=
  ok (if corrected then raise 286 [] s
      else if onComputeDie then raise 4 [] s
      else if addr < 0x04000000 then raise 287 [] (flagPoint addr s)
      else if addr < 0x07000000 then raise 287 [] (flagCapture addr s)
      else if addr < 0x08000000 then raise 4 [] s
      else s)

end Sys2Proof.Machine
end

