-- ==== Sys2Proof/Machine/Tandem.lean ====
section
/-! DEFINITION. Commands and events of a tandem pair (R3, R332, R367, R368, R416–R438): records and heartbeats received,
transfers, takeovers and handovers. -/

namespace Sys2Proof.Machine

/-! ### What a record says (R3, R269, R423, R427–R430, R435) -/

/-- The twin reports this unit's variant and release (R3). -/
def matchingTwin (r : MirrorRec) (s : State) : Bool := r.variant == s.dev.variant && r.fwVersion == s.dev.fwVersion

/-- The unit takes part in pairing: it has been in IDLE and no transition is barred (R387, R428). -/
def mayPair (s : State) : Bool :=
  pairMode s && s.dev.state.idleOn && s.dev.idleSeen && !s.tan.darkForGood && !factoryMode s

/-- An ISOLATED unit hears a matching twin (R428). -/
def pairWith (r : MirrorRec) (s : State) : State :=
  if s.tan.role != .isolated || !mayPair s then s
  else if r.role == .active then toResync s
  else if r.mirrorEpoch.toNat < s.tan.mirrorEpoch.toNat || (r.mirrorEpoch = s.tan.mirrorEpoch && preferred s) then becomeActive false false s
  else toResync s

/-- A takeover request has reached a follower (R430). -/
def requestHeard (s : State) : State :=
  if follower s && s.tan.reqTick.isNone then { s with tan := { s.tan with reqTick := some s.now } } else s

/-- A phase error to the twin, in 2^-32 ns: CT closes on the twin's (R269, R435). -/
def twinPhase (e : Int) (s : State) : State :=
  { s with tan := { s.tan with phaseErr := e },
           time := { s.time with twinOff := some (-e), slew := s.time.slew || e ≠ 0 } }

/-- FLT_TANDEM_TIME follows the phase error and the difference of the offsets from the active domain (R435). -/
def judgeTandemTime (s : State) : State :=
  let lim : Int := ((1000 * 2 ^ 32 : Nat) : Int)
  let d : Int := match s.tan.last with | some r => r.ctOffset * 65536 - s.tan.startOff | none => 0
  levelSource 308 (decide (lim < (s.tan.phaseErr.natAbs : Int)) || decide (lim < (d.natAbs : Int))) [] s

/-- A follower takes from a record of the ACTIVE twin what does not wait for the cutoff (R427, R435); with towpath B
silent the phase error comes from the record's arrival, whose lane delay is open (log 14). -/
def recordNow (r : MirrorRec) (s : State) : State :=
  if !follower s || r.role != .active then s
  else
    let s := { s with tan := { s.tan with mirrorEpoch := r.mirrorEpoch } }
    let s := if 0 < s.tan.silentB then twinPhase ((Config.freeWord s.free).toInt * ((2 ^ 24 : Nat) : Int)) { s with free := s.free + 1 } else s
    judgeTandemTime s

/-- A requester that withholds its frames finds its twin ACTIVE, and stays dark (R428, R430). -/
def requesterYields (r : MirrorRec) (s : State) : State :=
  if s.tan.withhold.isSome && s.tan.role == .active && r.role == .active then
    relight (setRole .isolated { s with tan := { s.tan with withhold := none, darkForGood := true } })
  else s

/-- An intact record or beacon is noted. -/
def noteRecord (r : MirrorRec) (s : State) : State :=
  { s with tan := { s.tan with last := some r, heardA := true, silenceTakeover := false,
                               recv := if r.beacon then s.tan.recv else s.tan.recv ++ [r] } }

/-- A record or beacon arrives on TP0; one that is not intact counts for nothing. -/
def execTandemRecordReceived (r : MirrorRec) (t : Nat) (s : State) : Host.Outcome State Fault Refusal :=
  let s := advanceTo t s
  ok (if !r.intact || s.dev.state == .reset then s
      else
        let s := requesterYields r (noteRecord r s)
        if !matchingTwin r s then (if s.dev.state.idleOn then raise 285 [] s else s)
        else
          let s := recordNow r (pairWith r (clear 285 s))
          let s := if r.takeoverReq then requestHeard s else s
          if r.hostBlock && s.tan.role == .active && runs s then { s with cyc := { s.cyc with blockReq := true } } else s)

/-! ### Beacons and heartbeats (R420, R421, R423, R435) -/

/-- A unit sends beacons: it has been in IDLE, and no cycle runs. -/
def beaconing (s : State) : Bool := s.dev.state.idleOn && s.dev.idleSeen && !s.cyc.running

/-- A beacon leaves on TP0. -/
def execBeaconSend (s : State) : Host.Outcome State Fault Refusal :=
  ok (if beaconing s then
        { s with tan := { s.tan with sent := some (mkRecord false false true s), beacons := s.tan.beacons + 1,
                                     hbTx := s.tan.role == .active && !s.tan.hbTx } }
      else s)

/-- A beacon interval of this unit ends. -/
def execBeaconIntervalJudge (s : State) : Host.Outcome State Fault Refusal :=
  ok (if beaconing s && pairMode s then
        let s := towpaths s.tan.heardA s.tan.heardB s
        silenceJudge true { s with tan := { s.tan with heardA := false, heardB := false } }
      else s)

/-- An instant is within 1.0 µs of the heartbeat due for a cycle. -/
def hbNear (s : State) (n : CycleNo) (stamp : Nat) : Bool :=
  let due : Nat := cycleStartCt s n + parN s 0x52 0 16 * 2 ^ 32 / 10
  decide (((stamp : Int) - (due : Int)).natAbs ≤ 1000 * 2 ^ 32)

/-- An edge of HB_RX at a tick and a fraction of it in 1/64, timestamped in CT. -/
def execHbRxEdge (t : Nat) (frac : Nat) (s : State) : Host.Outcome State Fault Refusal :=
  let s := advanceTo t s
  let stamp : Nat := ctNow s + (ctIncrement s.time (slewStep (par s 0x32 0 2))).toNat * (frac % 64) / 64
  let judge := fun (n : CycleNo) (s : State) =>
    if follower s then
      judgeTandemTime (twinPhase ((stamp : Int) - ((parN s 0x52 0 16 * 2 ^ 32 / 10 : Nat) : Int) - (cycleStartCt s n : Int)) s)
    else s
  ok (if !s.cyc.running then { s with tan := { s.tan with heardB := true } }
      else if hbNear s s.cyc.n stamp then judge s.cyc.n { s with tan := { s.tan with heardB := true } }
      else if hbNear s (s.cyc.n + 1) stamp then judge (s.cyc.n + 1) { s with tan := { s.tan with heardBNext := true } }
      else s)

/-! ### Takeovers (R428, R430, R431) -/

/-- A takeover request arrives, as a pulse or as an urgent record. -/
def execTakeoverRequestReceived (s : State) : Host.Outcome State Fault Refusal := ok (requestHeard s)

/-- The withholding of a requester ends without a twin ACTIVE: its outputs are lit again. -/
def execTakeoverWithholdEnd (s : State) : Host.Outcome State Fault Refusal :=
  ok (if s.tan.withhold.isSome then relight { s with obs := { s.obs with pendFrame := none }, tan := { s.tan with withhold := none } } else s)

/-- A follower becomes ACTIVE on a request, at a cycle start at least 2.0 µs after it. -/
def execBecomeActive (s : State) : Host.Outcome State Fault Refusal :=
  let inst := if s.cyc.running then s.cyc.startTick else s.now
  ok (match s.tan.reqTick with
    | some t => if follower s && decide (t + 800 ≤ inst) then becomeActive false true s else s
    | none => s)

/-- An unpaired unit has heard nothing for SOLO_WAIT. -/
def execSoloWaitExpiry (s : State) : Host.Outcome State Fault Refusal :=
  ok (if s.tan.role == .isolated && mayPair s then becomeActive false false s else s)

/-- HOLD_OFF has elapsed: a STANDBY unit becomes ELIGIBLE. -/
def execHoldOffExpiry (s : State) : Host.Outcome State Fault Refusal :=
  ok (if s.tan.holdOff then
        let s := { s with tan := { s.tan with holdOff := false, holdOffDone := true } }
        if s.tan.role == .standby then setRole .eligible s else s
      else s)

/-! ### The tandem lanes (R252, R419) -/

/-- TP1 has been without link for 100 ms. -/
def execTp1LinkLoss (s : State) : Host.Outcome State Fault Refusal :=
  ok (raise 300 [] (senderReset 15 (scanDrop 9 (portChange 41 0 { s with tan := { s.tan with tp1Up := false } }))))

/-- A tandem lane has link: 0 TP0, 1 TP1; both are fed from PLL-B (R272, R278). -/
def execTandemLinkUp (lane : Nat) (s : State) : Host.Outcome State Fault Refusal :=
  unit (lane < 2)
    (if !s.clk.locked.getD 3 false then s
     else if lane = 0 then portChange 40 1 { s with tan := { s.tan with tp0Up := true } }
     else clear 300 (portChange 41 1 { s with tan := { s.tan with tp1Up := true } }))

/-! ### Transfers (R340, R367, R368, R434) -/

/-- Pairs of mantissa and exponent. -/
def pairElems : List Int → List ElemWord
  | m :: e :: xs => { m := m, e := e } :: pairElems xs
  | _ => []

/-- A transferred command as it waits on this unit, for no mailbox of its own. -/
def waitOf (tr : Transfer) : Waiting :=
  { mbx := 16, tag := 0, epoch := 0, opcode := tr.opcode, cycle := tr.cycle,
    args := if tr.opcode = 0x30 then tr.args.take 1 else tr.args, elems := if tr.opcode = 0x30 then pairElems (tr.args.drop 1) else [] }

/-- The content of a transferred commit in the follower's staging area. -/
def takeContent (tr : Transfer) (s : State) : State :=
  let s := { s with pound := { checking := s.pound.checking, owner := some (16, 0), entries := tr.entries, plate := tr.plate, image := tr.image } }
  { s with pound := { s.pound with check := some (changeDigest s, protectionClass s) } }

/-- The follower's own digest, and for a plate its image's digest and signature, match (R353, R368). -/
def contentOk (tr : Transfer) (s : State) : Bool :=
  changeDigest s == tr.digest &&
  (match tr.plate with | some pl => sha256 tr.image == pl.imageDigest && imgSigned s tr.image | none => true)

/-- The follower's answer to a transfer. -/
def confirm (tr : Transfer) (st : Status) (s : State) : State := { s with tan := { s.tan with confirmed := some (tr.seq, st) } }

/-- A follower receives a class A command: it posts it for its cycle and confirms, or refuses. -/
def followA (tr : Transfer) (s : State) : State :=
  let w := waitOf tr
  if tr.opcode = 0x24 then
    if s.pound.commit.isSome && !tr.args.isEmpty then
      { s with cyc := { s.cyc with baseAgreed := some (w.arg 0) } }
    else if !contentOk tr (takeContent tr s) then confirm tr .digest s
    else
      (match accept w (takeContent tr s) with
       | (t, .ok, _) => confirm tr .ok { t with cyc := { t.cyc with baseAgreed := tr.args.head?.map Int.toNat } }
       | (_, e, _) => confirm tr e s)
  else
    (match accept w s with
     | (t, .ok, _) => confirm tr .ok (countNow w .ok t)
     | (t, e, _) =>
       if tr.opcode = 0x25 || tr.opcode = 0x36 then abortNotice w.opcode (w.arg 0) s e (confirm tr .ok t) else confirm tr e s)

/-- The ACTIVE unit executes a class F command that its twin forwards, and answers with its status. -/
def forwarded (tr : Transfer) (s : State) : State :=
  let arg := (tr.args.headD 0).toNat
  if tr.opcode = 0x11 then
    (if cBlock.states s.dev.state then confirm tr .ok (doBlock s) else confirm tr .state s)
  else if tr.opcode = 0x14 then
    (if !cSrbRequest.states s.dev.state then confirm tr .state s else if 3 < arg then confirm tr .range s
     else confirm tr .ok (doSrbRequest 16 0 arg s))
  else if cSrbWithdraw.states s.dev.state then (let (t, st, _) := doWithdraw 16 0 s; confirm tr st t)
  else confirm tr .state s

/-- Commands of tandem class F (R340). -/
def isClassF (op : Nat) : Bool := op = 0x11 || op = 0x14 || op = 0x15

/-- A transfer arrives on TP1. -/
def execClassATransferReceived (tr : Transfer) (s : State) : Host.Outcome State Fault Refusal :=
  ok (if !s.dev.mpcReady then s
      else if follower s && isClassA tr.opcode then followA tr s
      else if s.tan.role == .active && isClassF tr.opcode then forwarded tr s
      else s)

/-- Body of a class A or F command's response that reports a failure. -/
def failBody (op : Nat) (s : State) : List Byte :=
  if op = 0x25 then abortBody 1 0 0 s else if op = 0x36 then abortBody 4 0 0 s else if op = 0x15 then abortBody 3 0 0 s
  else if [0x18, 0x34, 0x35].contains op || isClassF op then [] else be 6 s.cyc.n.toNat

/-- The commit stands on the content that was transferred. -/
def stillChecked (x : XferWait) (s : State) : Bool := x.tr.opcode ≠ 0x24 || changeDigest s == x.tr.digest

/-- The first whole second at least 20 ms after now (R367). -/
def agreedBase (s : State) : Nat := (ctNow s + 20000000 * 2 ^ 32 + secUnits - 1) / secUnits

/-- A pair in IDLE agrees its CYCLE_BASE when the follower confirms a plate; a unit alone agrees none. -/
def agreeBase (x : XferWait) (alone : Bool) (s : State) : State :=
  if x.tr.opcode = 0x24 && x.tr.plate.isSome && s.dev.state = .idle then
    { s with cyc := { s.cyc with baseAgreed := if alone then none else some (agreedBase s) } }
  else s

/-- A class A command is accepted once its transfer is settled, by both units or by this one alone. -/
def settleA (x : XferWait) (alone : Bool) (s : State) : State :=
  if !stillChecked x s then respondLate x.mbx x.epoch x.tag x.tr.opcode .notChecked (failBody x.tr.opcode s) s
  else
    let (t, st, body) := accept x.w s
    let st' := if st = .ok && alone then .acceptedAlone else st
    let t := if st = .ok then agreeBase x alone (countNow x.w st t) else t
    abortNotice x.tr.opcode (x.w.arg 0) s st (respondLate x.mbx x.epoch x.tag x.tr.opcode st' body t)

/-- The response of a forwarded class F command, with the twin's status. -/
def settleF (x : XferWait) (st : Status) (s : State) : State :=
  let op := x.tr.opcode
  let body := if op = 0x11 then be 6 (nextBoundary s).toNat else if op = 0x14 then be 6 (firstCycle s 400).toNat else abortBody 3 0 0 s
  respondLate x.mbx x.epoch x.tag op st (if st = .ok || op = 0x15 then body else []) s

/-- The confirmation or refusal of a transfer arrives on TP1. -/
def execTransferConfirmReceived (seq : BitVec 16) (status : Status) (s : State) : Host.Outcome State Fault Refusal :=
  ok (match s.tan.xfers.find? (fun x => x.tr.seq = seq) with
    | none => s
    | some x =>
      let s := { s with tan := { s.tan with xfers := s.tan.xfers.erase x } }
      if isClassF x.tr.opcode then settleF x status s
      else if status = .ok then settleA x false s
      else respondLate x.mbx x.epoch x.tag x.tr.opcode status (failBody x.tr.opcode s) s)

/-- No confirmation has come for the oldest transfer. -/
def execTransferConfirmTimeout (s : State) : Host.Outcome State Fault Refusal :=
  ok (match s.tan.xfers with
    | [] => s
    | x :: xs =>
      let s := { s with tan := { s.tan with xfers := xs } }
      if isClassF x.tr.opcode then settleF x .notActive s else raise 307 [] (settleA x true s))

/-! ### Planned handover (R432) -/

/-- TANDEM_SWITCH. -/
def cTandemSwitch : BcsCmd := { op := 0x61, role := .engineer, cls := .a, states := anyState, len := 8, cycled := true }

/-- TANDEM_SWITCH: control goes to an ELIGIBLE twin at the named cycle. -/
def execTandemSwitch (h : BcsHdr) (w : When) (s : State) : Host.Outcome State Fault Refusal :=
  bcsRun h cTandemSwitch s (whenA h cTandemSwitch w []
    (fun s => if twinRole s ≠ some .eligible then .state else if s.tan.handover ≠ 0 then .busy else .ok))

/-- The target's conditions at the cutoff of cycle S. -/
def handoverOk (r : MirrorRec) (s : State) : Bool :=
  s.tan.role == .eligible && r.handover ≠ 0 && r.handover = s.cyc.n && r.cycle = s.cyc.n - 1 && decide (0 < s.tan.clean) &&
  s.dev.state != .ramping &&
  (namedPorts s).all (fun p => (port s p).lane == .up && (match r.lanes[p]? with | some l => l.1 == .up | none => false))

/-- Cycle S on the target: it takes control at its cutoff, before its launch. -/
def execHandoverCycle (s : State) : Host.Outcome State Fault Refusal :=
  ok (match s.tan.last with
    | some r => if s.cyc.running && s.cyc.frozen && !s.cyc.launched && handoverOk r s then becomeActive false false s else s
    | none => s)

/-- The result of a handover for the command that named it. -/
def handoverReport (st : Status) (c : CycleNo) (s : State) : State :=
  match s.tan.handoverCmd with
  | some w => scheduledResult w st c { s with tan := { s.tan with handoverCmd := none } }
  | none => s

/-- The target's record of cycle S has shown it ACTIVE, or not. -/
def execHandoverResult (twinActive : Bool) (s : State) : Host.Outcome State Fault Refusal :=
  let c := s.tan.handover
  ok (if !s.tan.handed || s.tan.role != .active then s
      else
        let s := { s with tan := { s.tan with handed := false, handover := 0 } }
        if twinActive then handoverReport .ok c (startHoldOff (setRole .standby s))
        else
          handoverReport .state c (raise 310 [] (relight { s with obs := { s.obs with pendFrame := none }, tan := { s.tan with revertAfter := s.now + parN s 0x52 0 8 * 400000000 } })))

/-! ### Status (R438) -/

/-- TANDEM_STATUS. -/
def cTandemStatus : BcsCmd := { op := 0x60, role := .observer, cls := .r, states := anyState }

/-- Hold-off remaining, in ms. -/
def holdLeft (s : State) : Nat := if s.tan.holdOff then parN s 0x52 0 8 * 1000 - (s.now - s.tan.holdTick) / 400000 else 0

/-- Body of TANDEM_STATUS. -/
def tandemBody (s : State) : List Byte :=
  let t := s.tan
  be 1 t.role.code ++ be 1 (match twinRole s with | some r => r.code | none => 7) ++ be 1 s.dev.unitId ++
  be 1 (b2n (preferred s) + 2 * parN s 0x52 0 4 + 4 * b2n t.tp0Up + 8 * b2n t.tp1Up + 16 * b2n (t.silentA = 0) + 32 * b2n (t.silentB = 0) +
    64 * b2n t.veto) ++
  be 4 s.dev.roleEpoch.toNat ++ be 4 t.mirrorEpoch.toNat ++ be 4 (match t.last with | some r => r.mirrorEpoch.toNat | none => 0) ++
  be 2 (min 65535 t.clean) ++ be 2 (min 65535 t.notClean) ++ be 4 t.mismatches ++ be 4 (holdLeft s) ++ be 6 t.roleCycle.toNat ++
  be 6 t.handover.toNat ++ beI 4 (rheDiv t.phaseErr ((2 ^ 24 : Nat) : Int)) ++ be 4 t.takeovers

/-- TANDEM_STATUS. -/
def execTandemStatus (h : BcsHdr) (s : State) : Host.Outcome State Fault Refusal :=
  bcsRun h cTandemStatus s (fun s => answer h 0x60 .ok (tandemBody s) s)

end Sys2Proof.Machine
end

