-- ==== Sys2Proof/Machine/Capture.lean ====
section
/-! DEFINITION. Commands and events of the capture engine (R347, R348, R440–R453). -/

namespace Sys2Proof.Machine

/-- CAPTURE_ARM. -/
def cCaptureArm : BcsCmd := { op := 0x50, role := .engineer, cls := .l, states := DevState.idleOn, len := 24 }

/-- Ranges of the fields of CAPTURE_ARM (R441, R446–R449). -/
def armRange (cap : Nat) (a : CapArm) : Bool :=
  cap < 16 && a.mode ≤ 2 && a.srcKind ≤ 3 && 1 ≤ a.decimation && a.decimation ≤ 65535 && 1 ≤ a.postCount && a.postCount < 2 ^ 32 &&
  a.preCount < 2 ^ 32 && (a.srcKind ≠ 3 || (a.mode = 0 && a.decimation = 1)) && (a.mode = 0 || a.preCount = 0) &&
  (a.srcKind ≠ 2 || a.element ≤ 1)

/-- The source is one that the plate, or for points and pulse channels the part, has (R441). -/
def armSource (s : State) (a : CapArm) : Bool :=
  match a.srcKind with
  | 0 => a.srcIndex < nCells s * 128
  | 1 => (match node? s a.srcIndex with | some n => a.element < n.outLen | none => false)
  | 2 => portNamed s (a.srcIndex / 256) && moorNamed s (a.srcIndex / 256) (a.srcIndex % 256) && isGauge s a.srcIndex
  | _ => a.srcIndex < 12

/-- Record bytes (R449). -/
def armBytes (a : CapArm) : Nat :=
  if a.mode = 0 then 64 + 16 * (a.preCount + a.postCount) else if a.mode = 1 then 64 + 4096 else 64 + 131072

/-- A channel may be armed (R453). -/
def armFree (c : CapCh) : Bool := match c.st with | .idle | .done | .overflow => true | _ => false

/-- Channels armed as persistence maps (R448). -/
def armedMaps (s : State) : Nat := (s.cap.ch.filter (fun x => !armFree x.2 && x.2.arm.mode = 2)).length

/-- What speaks against an arm, in order. -/
def armCheck (s : State) (cap : Nat) (a : CapArm) : Status :=
  if s.dev.state = .idle && a.srcKind ≠ 0 then .state
  else if !armRange cap a then .range
  else if !armSource s a then .notFound
  else if !armFree (capGet s cap) || (a.mode = 2 && decide (8 ≤ armedMaps s)) then .busy
  else if capShare s cap < armBytes a then .length
  else .ok

/-- A channel after its arm: its header is reset, and the bins of a histogram or map start empty. -/
def armChannel (h : BcsHdr) (cap : Nat) (a : CapArm) (s : State) : State :=
  let c : CapCh := { st := if a.preCount = 0 then .armed else .preFill, arm := a, armSeq := (capGet s cap).armSeq + 1,
                     mbx := h.mbx, epoch := h.sessionEpoch, tag := h.tag }
  let st := if a.mode = 0 then s.store else Memory.clear s.store (capBase s cap + 64) (armBytes a - 64)
  capPut cap c true { s with store := st }

/-- CAPTURE_ARM answers with the record's base and size; CAPTURE_DONE reports its end. -/
def execCaptureArm (h : BcsHdr) (cap : Nat) (a : CapArm) (s : State) : Host.Outcome State Fault Refusal :=
  bcsRun h cCaptureArm s (fun s =>
    onOk (armCheck s cap a) (answer h 0x50 .ok (be 4 (capBase s cap) ++ be 4 (armBytes a)) (armChannel h cap a s))
      (fun e => reject h cCaptureArm e s))

/-- CAPTURE_DONE, the event, to the session that armed the channel and to those that ask for the group. -/
def capDoneEvent (cap : Nat) (st : Status) (s : State) : State :=
  let c := capGet s cap
  eventTag (some (c.mbx, c.epoch)) c.tag 0x84 3 (be 1 cap ++ be 1 st.code ++ be 2 0 ++ be 4 (capLast c) ++ be 4 (capBase s cap)) s

/-- CAPTURE_ABORT. -/
def cCaptureAbort : BcsCmd := { op := 0x51, role := .engineer, cls := .l, states := anyState, len := 1, abort := some 2 }

/-- CAPTURE_ABORT: before the last sample is written it closes the record; after, the capture stands (R348). -/
def execCaptureAbort (h : BcsHdr) (cap : Nat) (s : State) : Host.Outcome State Fault Refusal :=
  bcsRun h cCaptureAbort s (fun s =>
    let c := capGet s cap
    if 15 < cap then reject h cCaptureAbort .range s
    else match c.doneAt with
      | some (n, t) => answer h 0x51 .completedBeforeAbort (abortBody 2 n t s) (capPut cap { c with doneAt := none } false s)
      | none =>
        if armFree c || !capLive c then answer h 0x51 .nothingToAbort (abortBody 2 0 0 s) s
        else
          capDoneEvent cap .aborted
            (answer h 0x51 .aborted (abortBody 2 0 0 s) (capPut cap { c with st := .idle, aborted := true, fired := 0, lastTick := none } true s)))

/-- CAPTURE_STATUS. -/
def cCaptureStatus : BcsCmd := { op := 0x52, role := .observer, cls := .r, states := anyState, len := 1 }

/-- CAPTURE_STATUS. -/
def execCaptureStatus (h : BcsHdr) (cap : Nat) (s : State) : Host.Outcome State Fault Refusal :=
  bcsRun h cCaptureStatus s (fun s =>
    let c := capGet s cap
    if 15 < cap then reject h cCaptureStatus .range s
    else answer h 0x52 .ok (be 1 c.st.code ++ be 1 c.cause ++ be 1 c.coincident ++ be 1 0 ++ be 4 (capLast c) ++ be 6 c.trigCycle.toNat) s)

/-- A trigger fires at a tick, such as one of kind GPIO at an edge of its pin. -/
def execTriggerFire (trg t : Nat) (s : State) : Host.Outcome State Fault Refusal :=
  let s := advanceTo t s
  unit (trg < 8) (if parN s 0x62 trg 0 = 0 then s else trgFire trg s)

/-- The last sample of a record has been written: the channel is done (R453). -/
def execCaptureDone (cap : Nat) (s : State) : Host.Outcome State Fault Refusal :=
  let c := capGet s cap
  unit (cap < 16)
    (if c.st == .postTrigger && c.left = 0 then capDoneEvent cap .ok (capPut cap { c with st := .done } true s) else s)

end Sys2Proof.Machine
end

