-- ==== Sys2Proof/Machine/JtagPort.lean ====
section
/-! DEFINITION. The test port (R490, R494, R495). Instructions by number: 0 BYPASS, 1 IDCODE,
2 SAMPLE/PRELOAD, 3 EXTEST, 4 EXTEST_PULSE, 5 EXTEST_TRAIN, 6 CLAMP, 7 HIGHZ, 8 DEVKEY, 9 OTP_PROGRAM,
10 CORE_DEBUG. -/

namespace Sys2Proof.Machine

/-- An instruction is in force with the pins left to the device. -/
def jtagSelect (k : Nat) (tdo : List Byte) (s : State) : State :=
  { s with jtag := { s.jtag with instr := k, driving := false, floating := false, tdo := tdo } }

/-- PORST_N or WARM_RST_N holds the device in RESET (R494). -/
def scanAllowed (s : State) : Bool := !s.dev.porstN || !s.dev.warmN

/-- An instruction outside its condition acts as BYPASS and raises FLT_JTAG_REFUSED. -/
def jtagRefused (s : State) : State := raise 371 [] (jtagSelect 0 [] s)

/-- A pin-driving instruction. The four safety balls have observe-only cells (R495). -/
def jtagPins (k : Nat) (float : Bool) (s : State) : State :=
  if scanAllowed s then { s with jtag := { s.jtag with instr := k, driving := !float, floating := float, tdo := [] } }
  else jtagRefused s

/-- JTAG_TRST_N resets the TAP. -/
def execJtagTrst (s : State) : Host.Outcome State Fault Refusal := ok { s with jtag := {} }
/-- BYPASS. -/
def execBypass (s : State) : Host.Outcome State Fault Refusal := ok (jtagSelect 0 [] s)
/-- IDCODE reads 0x1550_854F on B0 and 0x0550_854F on A0. -/
def execIdcode (s : State) : Host.Outcome State Fault Refusal :=
  ok (jtagSelect 1 (be 4 (match s.dev.stepping with | .b0 => 0x1550854F | .a0 => 0x0550854F)) s)
/-- SAMPLE/PRELOAD captures the pins and loads the boundary cells. -/
def execSamplePreload (pins : List Bool) (s : State) : Host.Outcome State Fault Refusal :=
  ok (jtagSelect 2 [] { s with jtag := { s.jtag with boundary := pins } })
/-- EXTEST. -/
def execExtest (s : State) : Host.Outcome State Fault Refusal := ok (jtagPins 3 false s)
/-- EXTEST_PULSE. -/
def execExtestPulse (s : State) : Host.Outcome State Fault Refusal := ok (jtagPins 4 false s)
/-- EXTEST_TRAIN. -/
def execExtestTrain (s : State) : Host.Outcome State Fault Refusal := ok (jtagPins 5 false s)
/-- CLAMP. -/
def execClamp (s : State) : Host.Outcome State Fault Refusal := ok (jtagPins 6 false s)
/-- HIGHZ. -/
def execHighz (s : State) : Host.Outcome State Fault Refusal := ok (jtagPins 7 true s)
/-- DEVKEY reads the public half of the device key. -/
def execDevkey (s : State) : Host.Outcome State Fault Refusal := ok (jtagSelect 8 ((List.range 64).map Config.deviceKey) s)
/-- OTP_PROGRAM writes OWNER_KEY_DIGEST once, while it is blank and PORST_N is low. -/
def execOtpProgram (digest : List Byte) (s : State) : Host.Outcome State Fault Refusal :=
  let t := jtagSelect 9 [] s
  ok (if s.otp.ownerKey.isNone && !s.dev.porstN then { t with otp := { t.otp with ownerKey := some digest } } else t)
/-- CORE_DEBUG gives access to the MPC cores in factory test mode only. -/
def execCoreDebug (s : State) : Host.Outcome State Fault Refusal :=
  ok (if factoryMode s then jtagSelect 10 [] { s with jtag := { s.jtag with debug := true } } else jtagRefused s)

end Sys2Proof.Machine
end

