-- ==== Sys2Proof/Machine/Dispatch.lean ====
section
/-! DEFINITION. The effect of a command on everything but the queue: one arm per command. -/

namespace Sys2Proof.Machine

/-- The effect of one command. -/
def exec (i : Instr) (s : State) : Host.Outcome State Fault Refusal :=
  match i with
  | .porstNAssert => Sys2Proof.Machine.execPorstNAssert s
  | .porstNRelease unitSel testMode => Sys2Proof.Machine.execPorstNRelease unitSel testMode s
  | .warmRstNAssert => Sys2Proof.Machine.execWarmRstNAssert s
  | .warmRstNRelease => Sys2Proof.Machine.execWarmRstNRelease s
  | .railMonitorTrip => Sys2Proof.Machine.execRailMonitorTrip s
  | .pllCEInitialLock => Sys2Proof.Machine.execPllCEInitialLock s
  | .resetCalibrationDone txp rxp failed => Sys2Proof.Machine.execResetCalibrationDone txp rxp failed s
  | .bandSearchDone => Sys2Proof.Machine.execBandSearchDone s
  | .bootRecordAuthenticated rec => Sys2Proof.Machine.execBootRecordAuthenticated rec s
  | .bybexReady slotA slotB railOrder => Sys2Proof.Machine.execBybexReady slotA slotB railOrder s
  | .bootAuthFail noRecord => Sys2Proof.Machine.execBootAuthFail noRecord s
  | .cycleStart t => Sys2Proof.Machine.execCycleStart t s
  | .scheduledCommandApply => Sys2Proof.Machine.execScheduledCommandApply s
  | .lockThrough digestOk => Sys2Proof.Machine.execLockThrough digestOk s
  | .wholePlateLockThrough t digestOk => Sys2Proof.Machine.execWholePlateLockThrough t digestOk s
  | .idlePlateLockThrough t digestOk => Sys2Proof.Machine.execIdlePlateLockThrough t digestOk s
  | .cycleBaseReached t => Sys2Proof.Machine.execCycleBaseReached t s
  | .reportWordIngress ci => Sys2Proof.Machine.execReportWordIngress ci s
  | .reportBurstReceived p m off delim payload margin signal meas => Sys2Proof.Machine.execReportBurstReceived p m off delim payload margin signal meas s
  | .measurementCutoff t => Sys2Proof.Machine.execMeasurementCutoff t s
  | .observerUpdateComplete => Sys2Proof.Machine.execObserverUpdateComplete s
  | .laneStepComplete lane dur residue => Sys2Proof.Machine.execLaneStepComplete lane dur residue s
  | .nodeOutputComplete lane dur => Sys2Proof.Machine.execNodeOutputComplete lane dur s
  | .armEngineComplete arm => Sys2Proof.Machine.execArmEngineComplete arm s
  | .packReady p packed canary => Sys2Proof.Machine.execPackReady p packed canary s
  | .launchTick t => Sys2Proof.Machine.execLaunchTick t s
  | .frameDeadline t => Sys2Proof.Machine.execFrameDeadline t s
  | .inhibitLineRise p => Sys2Proof.Machine.execInhibitLineRise p s
  | .inhibitFrameRepeat p => Sys2Proof.Machine.execInhibitFrameRepeat p s
  | .inhibitReadback p word => Sys2Proof.Machine.execInhibitReadback p word s
  | .discReplyReceived p b delimEnd => Sys2Proof.Machine.execDiscReplyReceived p b delimEnd s
  | .rangeReplyReceived p delim payload margin bit phase => Sys2Proof.Machine.execRangeReplyReceived p delim payload margin bit phase s
  | .stepAckReceived p delim payload margin bit phase => Sys2Proof.Machine.execStepAckReceived p delim payload margin bit phase s
  | .svcDataReceived p delim payload margin t bit phase => Sys2Proof.Machine.execSvcDataReceived p delim payload margin t bit phase s
  | .trainingBurstAccepted p m meas => Sys2Proof.Machine.execTrainingBurstAccepted p m meas s
  | .requestUnanswered p tag => Sys2Proof.Machine.execRequestUnanswered p tag s
  | .rangeRefreshDue p m => Sys2Proof.Machine.execRangeRefreshDue p m s
  | .readmissionDue p m => Sys2Proof.Machine.execReadmissionDue p m s
  | .discoverDue p => Sys2Proof.Machine.execDiscoverDue p s
  | .stepAckDeadline p => Sys2Proof.Machine.execStepAckDeadline p s
  | .stepCycleStart p => Sys2Proof.Machine.execStepCycleStart p s
  | .stepGapElapsed p => Sys2Proof.Machine.execStepGapElapsed p s
  | .stepLockTimeout p => Sys2Proof.Machine.execStepLockTimeout p s
  | .trainTimeout p => Sys2Proof.Machine.execTrainTimeout p s
  | .basinLos p => Sys2Proof.Machine.execBasinLos p s
  | .basinLol p => Sys2Proof.Machine.execBasinLol p s
  | .basinRelockComplete p cacheMiss => Sys2Proof.Machine.execBasinRelockComplete p cacheMiss s
  | .pllLossOfLock pll => Sys2Proof.Machine.execPllLossOfLock pll s
  | .pllRelock pll cacheMiss => Sys2Proof.Machine.execPllRelock pll cacheMiss s
  | .safetyOscTimebaseCheck ppm => Sys2Proof.Machine.execSafetyOscTimebaseCheck ppm s
  | .stationFrameReceived p f t => Sys2Proof.Machine.execStationFrameReceived p f t s
  | .gooseTimeout sub => Sys2Proof.Machine.execGooseTimeout sub s
  | .gooseRetransmit pub => Sys2Proof.Machine.execGooseRetransmit pub s
  | .prpSupervisionSend pair => Sys2Proof.Machine.execPrpSupervisionSend pair s
  | .prpLanSilent pair lan => Sys2Proof.Machine.execPrpLanSilent pair lan s
  | .stationLinkDown p => Sys2Proof.Machine.execStationLinkDown p s
  | .announceReceiptTimeout td => Sys2Proof.Machine.execAnnounceReceiptTimeout td s
  | .tdStep td delta => Sys2Proof.Machine.execTdStep td delta s
  | .incWrite td val => Sys2Proof.Machine.execIncWrite td val s
  | .ctSlewComplete t => Sys2Proof.Machine.execCtSlewComplete t s
  | .ppsInEdge t frac => Sys2Proof.Machine.execPpsInEdge t frac s
  | .ppsInTimeout td => Sys2Proof.Machine.execPpsInTimeout td s
  | .ppsOutEdge level => Sys2Proof.Machine.execPpsOutEdge level s
  | .geEdge input rising eu => Sys2Proof.Machine.execGeEdge input rising eu s
  | .getCoasting pt => Sys2Proof.Machine.execGetCoasting pt s
  | .getStandstill pt => Sys2Proof.Machine.execGetStandstill pt s
  | .periodStart ch eu => Sys2Proof.Machine.execPeriodStart ch eu s
  | .pulseEdgePosition ch eu => Sys2Proof.Machine.execPulseEdgePosition ch eu s
  | .tripQualified ti seen => Sys2Proof.Machine.execTripQualified ti seen s
  | .syncEvent ch eu => Sys2Proof.Machine.execSyncEvent ch eu s
  | .syncInEdge eu => Sys2Proof.Machine.execSyncInEdge eu s
  | .syncLoss ch => Sys2Proof.Machine.execSyncLoss ch s
  | .h2fPayloadWrite mbx off bytes => Sys2Proof.Machine.execH2fPayloadWrite mbx off bytes s
  | .h2fDoorbell mbx len => Sys2Proof.Machine.execH2fDoorbell mbx len s
  | .h2fTake mbx => Sys2Proof.Machine.execH2fTake mbx s
  | .coreIdleGate core => Sys2Proof.Machine.execCoreIdleGate core s
  | .f2hRelease mbx => Sys2Proof.Machine.execF2hRelease mbx s
  | .f2hMessageEnter mbx => Sys2Proof.Machine.execF2hMessageEnter mbx s
  | .mbxReset mbx val => Sys2Proof.Machine.execMbxReset mbx val s
  | .pcieLinkReset perst flr => Sys2Proof.Machine.execPcieLinkReset perst flr s
  | .mpcReceiverReset => Sys2Proof.Machine.execMpcReceiverReset s
  | .msixVectorSend v => Sys2Proof.Machine.execMsixVectorSend v s
  | .registerWrite target val => Sys2Proof.Machine.execRegisterWrite target val s
  | .observerImageHold on => Sys2Proof.Machine.execObserverImageHold on s
  | .holdTimeoutRelease => Sys2Proof.Machine.execHoldTimeoutRelease s
  | .snapTrigger t => Sys2Proof.Machine.execSnapTrigger t s
  | .emergKey spi val => Sys2Proof.Machine.execEmergKey spi val s
  | .emergArmExpire spi => Sys2Proof.Machine.execEmergArmExpire spi s
  | .hostBlock spi => Sys2Proof.Machine.execHostBlock spi s
  | .mpcRestart spi => Sys2Proof.Machine.execMpcRestart spi s
  | .warmReset spi => Sys2Proof.Machine.execWarmReset spi s
  | .emergCtrlIgnored spi => Sys2Proof.Machine.execEmergCtrlIgnored spi s
  | .injectKey val t => Sys2Proof.Machine.execInjectKey val t s
  | .spiStatus => Sys2Proof.Machine.execSpiStatus s
  | .spiRegRead off count => Sys2Proof.Machine.execSpiRegRead off count s
  | .spiRegWrite off val crc => Sys2Proof.Machine.execSpiRegWrite off val crc s
  | .spiH2fWrite len payload crc => Sys2Proof.Machine.execSpiH2fWrite len payload crc s
  | .spiF2hRead => Sys2Proof.Machine.execSpiF2hRead s
  | .spiF2hAck => Sys2Proof.Machine.execSpiF2hAck s
  | .spiSessionEnd => Sys2Proof.Machine.execSpiSessionEnd s
  | .spiSessionIdleTimeout => Sys2Proof.Machine.execSpiSessionIdleTimeout s
  | .f2hDataResend mbx => Sys2Proof.Machine.execF2hDataResend mbx s
  | .udpSessionTimeout mbx => Sys2Proof.Machine.execUdpSessionTimeout mbx s
  | .sessionChallenge h => Sys2Proof.Machine.execSessionChallenge h s
  | .nonceExpiry mbx => Sys2Proof.Machine.execNonceExpiry mbx s
  | .authLockoutExpiry mbx => Sys2Proof.Machine.execAuthLockoutExpiry mbx s
  | .sessionOpen h role credId eventMask authTag => Sys2Proof.Machine.execSessionOpen h role credId eventMask authTag s
  | .sessionClose h => Sys2Proof.Machine.execSessionClose h s
  | .eventMaskSet h mask => Sys2Proof.Machine.execEventMaskSet h mask s
  | .deviceStatus h => Sys2Proof.Machine.execDeviceStatus h s
  | .deblock h w => Sys2Proof.Machine.execDeblock h w s
  | .block h => Sys2Proof.Machine.execBlock h s
  | .blockClear h w => Sys2Proof.Machine.execBlockClear h w s
  | .phaseSet h w phase => Sys2Proof.Machine.execPhaseSet h w phase s
  | .srbRequest h profile => Sys2Proof.Machine.execSrbRequest h profile s
  | .srbWithdraw h => Sys2Proof.Machine.execSrbWithdraw h s
  | .timeDomainSelect h w td => Sys2Proof.Machine.execTimeDomainSelect h w td s
  | .timeSet h td seconds => Sys2Proof.Machine.execTimeSet h td seconds s
  | .basinRestart h basin => Sys2Proof.Machine.execBasinRestart h basin s
  | .plateLoadBegin h size digest => Sys2Proof.Machine.execPlateLoadBegin h size digest s
  | .plateLoadData h off data => Sys2Proof.Machine.execPlateLoadData h off data s
  | .plateLoadEnd h content => Sys2Proof.Machine.execPlateLoadEnd h content s
  | .stageSet h entries => Sys2Proof.Machine.execStageSet h entries s
  | .stageCheck h => Sys2Proof.Machine.execStageCheck h s
  | .stageCheckComplete => Sys2Proof.Machine.execStageCheckComplete s
  | .stageCountersign h digest => Sys2Proof.Machine.execStageCountersign h digest s
  | .stageCommit h w digest => Sys2Proof.Machine.execStageCommit h w digest s
  | .stageAbort h => Sys2Proof.Machine.execStageAbort h s
  | .stageRead h first => Sys2Proof.Machine.execStageRead h first s
  | .paramGet h ids => Sys2Proof.Machine.execParamGet h ids s
  | .setpointSet h w slot elems => Sys2Proof.Machine.execSetpointSet h w slot elems s
  | .setpointGet h slot => Sys2Proof.Machine.execSetpointGet h slot s
  | .cellExclude h w ci => Sys2Proof.Machine.execCellExclude h w ci s
  | .cellRestore h w ci => Sys2Proof.Machine.execCellRestore h w ci s
  | .cellBypassClose h ci confirm => Sys2Proof.Machine.execCellBypassClose h ci confirm s
  | .mooringRange h basin mooring => Sys2Proof.Machine.execMooringRange h basin mooring s
  | .mooringRangeAbort h basin => Sys2Proof.Machine.execMooringRangeAbort h basin s
  | .presetRead h basin first count => Sys2Proof.Machine.execPresetRead h basin first count s
  | .nodeFlagsClear h w first count => Sys2Proof.Machine.execNodeFlagsClear h w first count s
  | .schedStatsClear h w => Sys2Proof.Machine.execSchedStatsClear h w s
  | .pointMinmaxClear h w first count => Sys2Proof.Machine.execPointMinmaxClear h w first count s
  | .pulseStatus h => Sys2Proof.Machine.execPulseStatus h s
  | .pulseFlagsClear h w mask => Sys2Proof.Machine.execPulseFlagsClear h w mask s
  | .clockStatus h => Sys2Proof.Machine.execClockStatus h s
  | .eyeScan h lane dwell => Sys2Proof.Machine.execEyeScan h lane dwell s
  | .eyeScanComplete counts => Sys2Proof.Machine.execEyeScanComplete counts s
  | .eyeScanAbort h => Sys2Proof.Machine.execEyeScanAbort h s
  | .faultRead h source => Sys2Proof.Machine.execFaultRead h source s
  | .faultAck h source lastSeq => Sys2Proof.Machine.execFaultAck h source lastSeq s
  | .faultInject h source => Sys2Proof.Machine.execFaultInject h source s
  | .captureArm h cap a => Sys2Proof.Machine.execCaptureArm h cap a s
  | .captureAbort h cap => Sys2Proof.Machine.execCaptureAbort h cap s
  | .captureStatus h cap => Sys2Proof.Machine.execCaptureStatus h cap s
  | .tandemStatus h => Sys2Proof.Machine.execTandemStatus h s
  | .tandemSwitch h w => Sys2Proof.Machine.execTandemSwitch h w s
  | .unknownOpcode h opcode => Sys2Proof.Machine.execUnknownOpcode h opcode s
  | .trapEntry source => Sys2Proof.Machine.execTrapEntry source s
  | .levelSourceClear source => Sys2Proof.Machine.execLevelSourceClear source s
  | .sramEccError addr corrected onComputeDie => Sys2Proof.Machine.execSramEccError addr corrected onComputeDie s
  | .pointStale pt => Sys2Proof.Machine.execPointStale pt s
  | .safeReqChange a b t => Sys2Proof.Machine.execSafeReqChange a b t s
  | .pinWindowExpiry => Sys2Proof.Machine.execPinWindowExpiry s
  | .safetyTelegramCopy lan payload t => Sys2Proof.Machine.execSafetyTelegramCopy lan payload t s
  | .discWindowExpiry lan => Sys2Proof.Machine.execDiscWindowExpiry lan s
  | .teleTimeout lan => Sys2Proof.Machine.execTeleTimeout lan s
  | .srbTimeoutExpiry => Sys2Proof.Machine.execSrbTimeoutExpiry s
  | .smpVerdict cycle lockstepOk => Sys2Proof.Machine.execSmpVerdict cycle lockstepOk s
  | .smpWatchdogExpiry => Sys2Proof.Machine.execSmpWatchdogExpiry s
  | .blockOutReadbackFail => Sys2Proof.Machine.execBlockOutReadbackFail s
  | .tandemRecordReceived r t => Sys2Proof.Machine.execTandemRecordReceived r t s
  | .beaconSend => Sys2Proof.Machine.execBeaconSend s
  | .beaconIntervalJudge => Sys2Proof.Machine.execBeaconIntervalJudge s
  | .hbRxEdge t frac => Sys2Proof.Machine.execHbRxEdge t frac s
  | .takeoverRequestReceived => Sys2Proof.Machine.execTakeoverRequestReceived s
  | .takeoverWithholdEnd => Sys2Proof.Machine.execTakeoverWithholdEnd s
  | .becomeActive => Sys2Proof.Machine.execBecomeActive s
  | .tp1LinkLoss => Sys2Proof.Machine.execTp1LinkLoss s
  | .classATransferReceived tr => Sys2Proof.Machine.execClassATransferReceived tr s
  | .transferConfirmTimeout => Sys2Proof.Machine.execTransferConfirmTimeout s
  | .handoverCycle => Sys2Proof.Machine.execHandoverCycle s
  | .handoverResult twinActive => Sys2Proof.Machine.execHandoverResult twinActive s
  | .soloWaitExpiry => Sys2Proof.Machine.execSoloWaitExpiry s
  | .holdOffExpiry => Sys2Proof.Machine.execHoldOffExpiry s
  | .triggerFire trg t => Sys2Proof.Machine.execTriggerFire trg t s
  | .captureDone cap => Sys2Proof.Machine.execCaptureDone cap s
  | .govWindowEnd => Sys2Proof.Machine.execGovWindowEnd s
  | .govRecoverHoldExpiry => Sys2Proof.Machine.execGovRecoverHoldExpiry s
  | .avsTransactionDone r => Sys2Proof.Machine.execAvsTransactionDone r s
  | .coreVoltageOutOfRange => Sys2Proof.Machine.execCoreVoltageOutOfRange s
  | .thermalSample dies => Sys2Proof.Machine.execThermalSample dies s
  | .jtagTrst => Sys2Proof.Machine.execJtagTrst s
  | .bypass => Sys2Proof.Machine.execBypass s
  | .idcode => Sys2Proof.Machine.execIdcode s
  | .samplePreload pins => Sys2Proof.Machine.execSamplePreload pins s
  | .extest => Sys2Proof.Machine.execExtest s
  | .extestPulse => Sys2Proof.Machine.execExtestPulse s
  | .extestTrain => Sys2Proof.Machine.execExtestTrain s
  | .clamp => Sys2Proof.Machine.execClamp s
  | .highz => Sys2Proof.Machine.execHighz s
  | .devkey => Sys2Proof.Machine.execDevkey s
  | .otpProgram digest => Sys2Proof.Machine.execOtpProgram digest s
  | .coreDebug => Sys2Proof.Machine.execCoreDebug s
  | .railMonitorRelease => Sys2Proof.Machine.execRailMonitorRelease s
  | .stationLinkUp p => Sys2Proof.Machine.execStationLinkUp p s
  | .tandemLinkUp lane => Sys2Proof.Machine.execTandemLinkUp lane s
  | .ptpIntervalSend td p kind => Sys2Proof.Machine.execPtpIntervalSend td p kind s
  | .transferConfirmReceived seq status => Sys2Proof.Machine.execTransferConfirmReceived seq status s
  | .mpcRestartComplete => Sys2Proof.Machine.execMpcRestartComplete s
  | .coreVoltageRecovered => Sys2Proof.Machine.execCoreVoltageRecovered s
  | .pciePerstNRelease => Sys2Proof.Machine.execPciePerstNRelease s
  | .pcieConfigReady => Sys2Proof.Machine.execPcieConfigReady s

end Sys2Proof.Machine
end

