-- ==== Sys2Proof/Machine/Store.lean ====
section
/-! DEFINITION. The stacked memory as a host reads it: what stands at every store address (R27, R66, R76, R149, R220, R381),
the BULK window (R312) and read requests of the PCI Express function (R29, R310, R311). -/

namespace Sys2Proof.Machine

/-! ### Records of the store -/

/-- A point record, 64 bytes little-endian (R220). -/
def pointBytes (s : State) (p : Nat) : List Byte :=
  let x := s.points.get p {}
  let lim := fun i => (BitVec.ofInt 32 (ptLim s p i) : Word).toNat
  let on := fun i => b2n (ptLim s p i = 1)
  let flags := ptFormat s p * 2 ^ 28 + ptWriter s p * 2 ^ 24 + b2n x.dataLost * 128 + b2n x.stale * 64 + on 3 * 32 + on 2 * 16 +
    b2n x.below * 8 + b2n x.above * 4 + on 4 * 2 + b2n x.valid
  le 4 x.val.toNat ++ le 4 x.min.toNat ++ le 4 x.max.toNat ++ le 4 (lim 0) ++ le 4 (lim 1) ++
    le 8 (x.cycle.toNat * 65536 + x.tick) ++ le 4 (min 0xFFFFFFFF x.events) ++ le 4 flags ++
    (x.hist.flatMap (fun h => le 4 h.1.toNat ++ le 2 h.2)) ++ le 4 x.updates.toNat

/-- A record of the observer image (R149): gauges, moorings that the plate does not name, cells in no arm, and on an SV8-16
CI 4,096 and above read 0. -/
def imageBytes (s : State) (img : SMap ObsRec) (ci : Nat) : List Byte :=
  match img.find ci with
  | some r => if nCells s ≤ ci || isGauge s ci || !(portOrder s (ci / 256)).contains (ci % 256) then le 32 0 else obsImage r
  | none => le 32 0

/-- Plate tables of the graph image (R76): descriptor of node `k`. -/
def descAt (s : State) (k : Nat) : List Byte :=
  match s.cfg.plate with
  | some pl => (match pl.nodes.find? (fun n => n.node = k) with | some n => descBytes n | none => le 64 0)
  | none => le 64 0

/-- Word `k` of the input reference list (R76, R78): the reference of the node whose list it stands in. -/
def refAt (s : State) (k : Nat) : List Byte :=
  match s.cfg.plate with
  | some pl =>
    (match pl.nodes.find? (fun n => n.inBase ≤ k && k < n.inBase + n.refs.length) with
     | some n => le 4 (refWord (n.refs.getD (k - n.inBase) { kind := 0, index := 0 }))
     | none => le 4 0)
  | none => le 4 0

/-- Entry `k` of the placement table (R96). -/
def placeAt (s : State) (k : Nat) : List Byte :=
  match s.graph.table.find k with
  | some p => le 8 (placeEntry (match node? s k with | some n => n.pin | none => false) p)
  | none => le 8 0

/-- A cause record in the fault log (R380, R381): LAST_SEQ and the 60 bytes of the record, each field little-endian; DETAIL
stands as it was raised (log 124). -/
def logBytes (src : Nat) (r : Cause) : List Byte :=
  if r.occurrences = 0 then le 64 0 else
  let ct := fun (c : TimeCtr) => le 6 c.sec.toNat ++ le 4 c.ns.toNat ++ le 2 (c.frac.toNat / 2 ^ 16)
  le 4 r.lastSeq.toNat ++ le 2 src ++ le 1 (r.cls * 64 + r.levelCfg * 8 + r.applied) ++
    le 1 (b2n r.preReset * 128 + b2n r.injected * 64 + b2n r.convBlock * 32 + b2n r.escalated * 16 + b2n r.read * 8 +
      b2n r.clearedBeforeRead * 4 + b2n r.active * 2 + b2n r.latched) ++
    le 4 r.firstSeq.toNat ++ ct r.firstTime ++ le 6 r.firstCycle.toNat ++ le 1 (r.phase.code * 16 + r.dstate.code) ++ le 1 r.role.code ++
    le 4 r.occurrences ++ ct r.lastTime ++ le 4 r.lastSeq.toNat ++ (r.detail ++ le 12 0).take 12

/-- Byte `i` of an entry of the log ring (R381): the manual names its fields and gives no layout of them (log 124). -/
def ringByte (x : LogEnt) (i : Nat) : Byte :=
  Config.logEntry x.seq.toNat x.source x.level (x.escalated, x.block) x.time.toNat i

/-! ### Store addresses (R27) -/

/-- A region's byte by offset: the record that holds it, and its place in the record. -/
def recByte (size : Nat) (rec : Nat → List Byte) (off : Nat) : Byte := (rec (off / size)).getD (off % size) 0

/-- The graph image and placement region (R76), by offset from 0x07E8_0000. -/
def graphByte (s : State) (o : Nat) : Byte :=
  if o < 0x40000 then recByte 64 (descAt s) o
  else if o < 0x70000 then recByte 4 (refAt s) (o - 0x40000)
  else if o < 0x78000 then recByte 8 (placeAt s) (o - 0x70000)
  else if o < 0x7A000 then recByte 512 (fun k => ringBytes (s.graph.ring.get k {})) (o - 0x78000)
  else if o < 0x7C000 then 0
  else recByte 4 (fun k => le 4 (statWord (s.graph.stat.get k {})).toNat) (o - 0x7C000)

/-- The fault and event log (R381), by offset from 0x07F0_0000. -/
def faultByte (s : State) (o : Nat) : Byte :=
  if o < 0x8000 then recByte 64 (fun k => logBytes k (rec? s k)) o
  else if o < 0x88000 then Memory.read s.store (0x07F00000 + o)
  else match s.fcru.ring.find ((o - 0x88000) / 32) with
    | some x => ringByte x ((o - 0x88000) % 32)
    | none => 0

/-- The byte at a store address, as a host reads it (R27): the firmware's working memory, the mirror buffers, the unused half
of an SV8-16's Point Store and addresses beyond the memory read 0. -/
def storeByte (s : State) (a : Nat) : Byte :=
  if a < 0x04000000 then (if a / 64 < nCells s * 128 then recByte 64 (pointBytes s) a else 0)
  else if a < 0x07400000 then Memory.read s.store a
  else if a < 0x07E00000 then 0
  else if a < 0x07E40000 then recByte 32 (imageBytes s s.obs.image0) (a - 0x07E00000)
  else if a < 0x07E80000 then recByte 32 (imageBytes s s.obs.image1) (a - 0x07E40000)
  else if a < 0x07F00000 then graphByte s (a - 0x07E80000)
  else if a < 0x08000000 then faultByte s (a - 0x07F00000)
  else 0

/-! ### Read requests (R29, R310–R312) -/

/-- The store address that an offset of the BULK window reads (R312). -/
def bulkAddr (s : State) (o : Nat) : Nat :=
  if o < 0x2000000 then s.host.bulk0 * 0x100000 + o else s.host.bulk1 * 0x100000 + (o - 0x2000000)

/-- Bytes of the BULK window (R312). A 64-byte aligned block is read at one instant, so it is one beat (R29). -/
def bulkRead (s : State) (off len : Nat) : List Byte := (List.range len).map (fun i => storeByte s (bulkAddr s (off + i)))

/-- A Point Store record by its number, as one aligned 64-byte read returns it (R29). -/
def pointRead (s : State) (p : Nat) : List Byte := (List.range 64).map (fun i => storeByte s (64 * p + i))

/-- A byte of the REG window: of the aligned word that holds it, little-endian (R7, R310). -/
def regByte (s : State) (off : Nat) : Byte := (regRead s (off / 4 * 4)).extractLsb' (off % 4 * 8) 8

/-- A request lies within one aligned word, or within one side of a mailbox's payload area (R311). -/
def regRequestOk (off len : Nat) : Bool :=
  if 0x10000 ≤ off ∧ off < 0x12000 then 1 ≤ len && off % 256 + len ≤ 256 else 1 ≤ len && off % 4 + len ≤ 4

/-- A word of the MSI-X table and pending bits (R310, R313). -/
def msixWord (s : State) (off : Nat) : Word :=
  if off < 0x200 then
    (if off % 16 = 12 then BitVec.ofNat 32 (b2n (s.host.vecMask.getLsbD (off / 16))) else s.host.msix.get (off / 4) 0)
  else if off = 0x2000 then s.host.vecPend else 0

/-- What a read request of the function returns (R310–R312): BAR 0 the REG window, 2 the BULK window, 4 the MSI-X table; none
is Unsupported Request. -/
def hostRead (s : State) (bar off len : Nat) : Option (List Byte) :=
  if !pcieUp s then none
  else match bar with
    | 0 => if off < 0x80000 && regRequestOk off len then some ((List.range len).map (fun i => regByte s (off + i))) else none
    | 2 => if off + len ≤ 0x4000000 then some (bulkRead s off len) else none
    | 4 => if off % 4 + len ≤ 4 && off < 0x4000 then
        some ((List.range len).map (fun i => (msixWord s (off / 4 * 4)).extractLsb' ((off + i) % 4 * 8) 8)) else none
    | _ => none

end Sys2Proof.Machine
end

