-- ==== Sys2Proof/Safety.lean ====
section
/-! DEFINITION. The terms the claims use: what a sound machine is, and what a command that answers a host leaves. -/

namespace Sys2Proof.Machine

/-! ### Invariants -/

/-- The stacked memory keeps its canonical form (R27). -/
def Sound (s : State) : Prop := Memory.wf s.store = true

/-- The cause record of a source is latched (R379). -/
def Latched (s : State) (src : Nat) : Prop := (rec? s src).latched = true

/-- One-time-programmable memory only gains: a programmed OWNER_KEY_DIGEST stays, and ROLLBACK does not fall (R493, R494). -/
def OtpGrows (s t : State) : Prop :=
  (∀ k, s.otp.ownerKey = some k → t.otp.ownerKey = some k) ∧ s.otp.rollback ≤ t.otp.rollback

/-- Silicon: variant and stepping (R1, R4). -/
def SameSilicon (s t : State) : Prop := t.dev.variant = s.dev.variant ∧ t.dev.stepping = s.dev.stepping

/-- A command is carried out: it answers a next state, of which `P` holds. -/
def Goes (c : Instr) (s : State) (P : State → Prop) : Prop := ∃ t, exec c s = .next t ∧ P t

/-- No assertion of a command under the claims can reach reaction level 5, a reset of the device: every level that a plate or a boot record
sets is below 4, and escalation adds one (R372, R382). The four sources whose default is 4 (memory, PLL-A, core voltage, junction
temperature) are left out; a claim about a command that raises one says more. -/
def Calm (s : State) : Prop := ∀ src f, faultInfo src = some f → f.fixed = false → src ∉ [4, 7, 353, 357] → faultLevel s src < 4

/-- Nothing differs but what goes out to hosts: the mailboxes, the vectors and the queues of the station ports. -/
def ButMessages (s t : State) : Prop := { t with mbx := s.mbx, host := s.host, stn := s.stn } = s

/-! ### Answers to a host -/

/-- The response of a command of the command set (R333, R335). -/
def response (h : BcsHdr) (op : Nat) (st : Status) (body : List Byte) (s : State) : Msg :=
  { kind := 2, opcode := op, status := st, tag := h.tag, sess := (mget s h.mbx).epoch, role := s.dev.roleEpoch, body := body }

/-- Mailbox `n` has one more message behind its F2H side and one reserved place less; no other mailbox changed (R318, R319). -/
def Queued (n : Nat) (m : Msg) (s t : State) : Prop :=
  mget t n = { mget s n with f2h := (mget s n).f2h ++ [m], reserved := (mget s n).reserved - 1 } ∧
  ∀ k, k ≠ n → mget t k = mget s k

/-- Nothing but the mailboxes differs. -/
def OnlyMail (s t : State) : Prop := { t with mbx := s.mbx } = s

/-- The response waits behind the command's mailbox. -/
def Responded (h : BcsHdr) (op : Nat) (st : Status) (body : List Byte) (s t : State) : Prop :=
  Queued h.mbx (response h op st body s) s t

/-- The response is among the messages behind the command's mailbox. -/
def Answered (h : BcsHdr) (op : Nat) (st : Status) (body : List Byte) (s t : State) : Prop :=
  response h op st body s ∈ (mget t h.mbx).f2h

/-- A mailbox command that firmware will read, of a session of its own, with room for its response. -/
def Heard (h : BcsHdr) (s : State) : Prop :=
  h.mbx < 16 ∧ s.dev.mpcReady = true ∧ isGhost h s = false ∧ (mget s h.mbx).f2h.length < 8

/-- The header and the row of a command of the command set, for those whose checks R339 orders. STAGE_ABORT asks its own role
first, the openings of a session skip the session checks, and the opcodes outside the tables have no row. -/
def bcsRow : Instr → Option (BcsHdr × BcsCmd)
  | .sessionClose h => some (h, cSessionClose)
  | .eventMaskSet h _ => some (h, cEventMaskSet)
  | .deviceStatus h => some (h, cDeviceStatus)
  | .deblock h _ => some (h, cDeblock)
  | .block h => some (h, cBlock)
  | .blockClear h _ => some (h, cBlockClear)
  | .phaseSet h _ _ => some (h, cPhaseSet)
  | .srbRequest h _ => some (h, cSrbRequest)
  | .srbWithdraw h => some (h, cSrbWithdraw)
  | .timeDomainSelect h _ _ => some (h, cTimeDomainSelect)
  | .timeSet h _ _ => some (h, cTimeSet)
  | .basinRestart h _ => some (h, cBasinRestart)
  | .plateLoadBegin h _ _ => some (h, cPlateLoad 40)
  | .plateLoadData h _ _ => some (h, cPlateLoad 8)
  | .plateLoadEnd h _ => some (h, cPlateLoad 1)
  | .stageSet h es => some (h, cStageSet es.length)
  | .stageCheck h => some (h, cStageCheck)
  | .stageCountersign h _ => some (h, cStageCountersign)
  | .stageCommit h _ _ => some (h, cStageCommit)
  | .stageRead h _ => some (h, cStageRead)
  | .paramGet h ids => some (h, cParamGet ids.length)
  | .setpointSet h _ _ es => some (h, cSetpointSet es.length)
  | .setpointGet h _ => some (h, cSetpointGet)
  | .cellExclude h _ _ => some (h, cCellExclude)
  | .cellRestore h _ _ => some (h, cCellRestore)
  | .cellBypassClose h _ _ => some (h, cCellBypassClose)
  | .mooringRange h _ _ => some (h, cMooringRange)
  | .mooringRangeAbort h _ => some (h, cMooringRangeAbort)
  | .presetRead h _ _ _ => some (h, cPresetRead)
  | .nodeFlagsClear h _ _ _ => some (h, cNodeFlagsClear)
  | .schedStatsClear h _ => some (h, cSchedStatsClear)
  | .pointMinmaxClear h _ _ _ => some (h, cPointMinmaxClear)
  | .pulseStatus h => some (h, cPulseStatus)
  | .pulseFlagsClear h _ _ => some (h, cPulseFlagsClear)
  | .clockStatus h => some (h, cClockStatus)
  | .eyeScan h _ _ => some (h, cEyeScan)
  | .eyeScanAbort h => some (h, cEyeScanAbort)
  | .faultRead h _ => some (h, cFaultRead)
  | .faultAck h _ _ => some (h, cFaultAck)
  | .captureArm h _ _ => some (h, cCaptureArm)
  | .captureAbort h _ => some (h, cCaptureAbort)
  | .captureStatus h _ => some (h, cCaptureStatus)
  | .tandemStatus h => some (h, cTandemStatus)
  | .tandemSwitch h _ => some (h, cTandemSwitch)
  | _ => none

/-- A command that passes every check of R339. -/
def Passes (h : BcsHdr) (c : BcsCmd) (s : State) : Prop := Heard h s ∧ bcsCheck h c s = .ok

/-- The command passes to the twin, and waits for its confirmation with no effect yet (R340, R434). -/
def Transferred (h : BcsHdr) (w : Waiting) (s t : State) : Prop :=
  t.tan.xfers = s.tan.xfers ++ [{ tr := transferOf w s, mbx := h.mbx, epoch := h.sessionEpoch, tag := h.tag, w := w }] ∧
  { t with tan := { t.tan with xfers := s.tan.xfers } } = s

/-- A command that waits for its cycle, as the unit alone takes it (R341). -/
def Posted (h : BcsHdr) (op : Nat) (cy : CycleNo) (args : List Int) (s t : State) : Prop :=
  t.cyc.waiting = s.cyc.waiting ++ [waitFor h op cy args] ∧ Responded h op .ok (be 6 cy.toNat) s t ∧
  { t with mbx := s.mbx, cyc := { t.cyc with waiting := s.cyc.waiting } } = s

/-- A cycle that a command may name: not half the range away, not too late, and a place among the waiting commands. -/
def MayName (s : State) (cy : CycleNo) : Prop := acceptCheck s cy 0 = .ok

end Sys2Proof.Machine
end

