-- ==== Sys2Proof/Certificates/Slice0/Obligations.lean ====
section
/-! DEFINITION. The statements for the provers. Each cites the rules of spec/ it rests on in OBLIGATIONS.json. -/

open Sys2Proof Sys2Proof.Machine

set_option linter.all false

/-! ### The machine as a whole -/

/-- A step takes the command at the front of the queue and runs it with the queue's rest. -/
def Obligations.StepTakesFront : Prop := ∀ (c : Instr) (rest : List Instr) (s : State),
  step { s with pending := c :: rest } = exec c { s with pending := rest }

/-- With no command waiting a step is one tick of the timebase (the model's choice, log 3). -/
def Obligations.StepIdles : Prop := ∀ s : State, s.pending = [] →
  ∃ t, step s = .next t ∧ t.now = s.now + 1 ∧ { t with now := s.now, time := s.time } = s

/-- A command is taken once: what remains of the queue is the rest, whatever the command did. The timebase never runs back (R254). -/
def Obligations.StepsTakeOneCommandForward : Prop :=
  (∀ (c : Instr) (rest : List Instr) (s t : State),
   step { s with pending := c :: rest } = .next t → t.pending = rest) ∧
  (∀ s t : State, step s = .next t → s.now ≤ t.now)

/-- Every step keeps the canonical form of the stacked memory. -/
def Obligations.StepKeepsStore : Prop := ∀ s t : State, Sound s → step s = .next t → Sound t

/-- The stacked memory is in canonical form at reset. -/
def Obligations.ResetStoreSound : Prop := Sound State.reset

/-- No step takes a value back from one-time-programmable memory, and none changes the silicon (R1, R4, R493, R494). -/
def Obligations.OtpOnlyGains : Prop := ∀ s t : State, step s = .next t → OtpGrows s t ∧ SameSilicon s t

/-- A latched cause record stays latched until an acknowledgement or a power-on reset (R379, R380, R485). -/
def Obligations.LatchedStays : Prop := ∀ (s t : State) (src : Nat), Latched s src → step s = .next t →
  (∀ c, s.pending.head? = some c → c ≠ .porstNAssert ∧ c ≠ .railMonitorTrip ∧ ∀ h n q, c ≠ .faultAck h n q) →
  Latched t src

/-- Reset: RESET, ISOLATED, no control phase, no cycle, no session, no plate, an empty staging area, every cause record and sequence number
0, no vector pending, VDD_CORE commanded at 0.80 V, every clock output enabled with its divider, and the identity block at its reset values
(R19, R272, R274, R313, R327, R488); that every vector is masked is PCI Express's value, not the spec's (PRESUMED, log 124), and the
unlisted rest of the state at reset is the model's choice (log 2). -/
def Obligations.ResetValues : Prop :=
  let s := State.reset
  s.dev.state = .reset ∧ s.tan.role = .isolated ∧ s.dev.phase = .none ∧ s.dev.roleEpoch = 0 ∧ s.dev.scratch = 0 ∧
  s.host.bulk0 = 0 ∧ s.host.bulk1 = 32 ∧ s.host.vecMask = 0xFFFFFFFF ∧ s.host.vecPend = 0 ∧ s.cyc.running = false ∧
  (∀ n, sessionOf s n = false) ∧ (∀ n, (rec? s n).occurrences = 0 ∧ (rec? s n).latched = false) ∧
  s.fcru.seq = 0 ∧ s.pound.owner = none ∧ s.pound.entries = [] ∧ s.cfg.plate = none ∧ s.pending = [] ∧ s.gov.v = 8000 ∧
  (∀ k div, [8, 4, 128, 8, 4, 128, 33, 32, 33, 32, 80, 32][k]? = some div → clkWord s k = BitVec.ofNat 32 (2 ^ 31 + div)) ∧
  regRead s 0x000 = 0x55081FC7 ∧ regRead s 0x008 = 0 ∧ regRead s 0x010 = 0 ∧ regRead s 0x014 = 0 ∧ regRead s 0x020 = 0 ∧
  regRead s 0x024 = 32 ∧ regRead s 0x030 = 0 ∧ regRead s 0x034 = 0 ∧ regRead s 0x038 = 0 ∧ regRead s 0x040 = 0

/-! ### Resets and start-up -/

/-- A power-on reset keeps silicon, the one-time memory, the test port, the levels of WARM_RST_N and PERST_N and a rail hold, and nothing
else but the time and the queue (R19, R485, R494); a rail monitor's trip holds RESET with PORST_N high, keeps the straps, and resets the
test port too (R483, R494); with PORST_N low it resets the test port alone. A warm reset by WARM_RST_N restarts the device: RESET, ISOLATED,
no plate, no session, an empty staging area and empty mailboxes. It keeps the one-time memory, the Capture Store and the fault log, and
every latched record, marked as from before the reset, with its count (R19, R380, R456, R485). -/
def Obligations.PowerOnAndWarmReset : Prop :=
  (∀ s : State,
   let rest := fun (t : State) => t.otp = s.otp ∧ t.host = { State.reset.host with perstHigh := s.host.perstHigh } ∧
     { t with pending := [], now := 0, free := 0, otp := State.reset.otp, jtag := {}, dev := State.reset.dev, host := State.reset.host } = State.reset
   let silicon := { State.reset.dev with variant := s.dev.variant, stepping := s.dev.stepping, warmN := s.dev.warmN, coldStart := true }
   (Goes .porstNAssert s fun t => t.dev = { silicon with porstN := false, railHold := s.dev.railHold } ∧ t.dev.state = .reset ∧ t.jtag = s.jtag ∧ rest t) ∧
   (s.dev.porstN = true →
     Goes .railMonitorTrip s fun t =>
       t.dev = { silicon with porstN := true, railHold := true, unitId := s.dev.unitId, testStrap := s.dev.testStrap } ∧ t.dev.state = .reset ∧
       t.jtag = {} ∧ rest t) ∧
   (s.dev.porstN = false → exec .railMonitorTrip s = .next { s with jtag := {} })) ∧
  (∀ s : State, heldInReset s = false →
   Goes .warmRstNAssert s fun t => t.dev.state = .reset ∧ t.dev.warmN = false ∧ t.dev.coldStart = false ∧
     t.otp = s.otp ∧ t.dev.unitId = s.dev.unitId ∧ t.tan.role = .isolated ∧ t.cfg = State.reset.cfg ∧ t.pound.owner = none ∧
     t.pound.entries = [] ∧ (∀ n, n < 16 → sessionOf t n = false ∧ (mget t n).f2h = [] ∧ (mget t n).h2fFull = false) ∧
     (∀ n, Latched s n → Latched t n ∧ (rec? t n).preReset = true ∧ (rec? t n).active = false ∧
       (rec? t n).occurrences = (rec? s n).occurrences) ∧
     (∀ a, Memory.read t.store a = if keptAddr a then Memory.read s.store a else 0))

/-- RESET is released into BOOT at PORST_N's edge, which latches the straps, and at the ends of a warm reset and of a rail hold, unless
another reset still holds the device (R19, R476, R483, R486, R488). -/
def Obligations.ResetRelease : Prop := ∀ s : State,
  (∀ b tm, s.dev.porstN = false →
    Goes (.porstNRelease b tm) s fun t => t.dev.porstN = true ∧ t.dev.unitId = (if b then 2 else 1) ∧
      t.dev.testStrap = tm ∧ t.dev.keyStep = 0 ∧
      t.dev.state = (if s.dev.warmN = true ∧ s.dev.railHold = false then .boot else s.dev.state) ∧
      { t with dev := s.dev, gov := s.gov, jtag := s.jtag } = s) ∧
  (Goes .warmRstNRelease s fun t => t.dev.warmN = true ∧
    t.dev.state = (if s.dev.porstN = true ∧ s.dev.railHold = false ∧ s.dev.state = .reset then .boot else s.dev.state) ∧
    { t with dev := s.dev, gov := s.gov, jtag := s.jtag } = s) ∧
  (s.dev.railHold = true →
    Goes .railMonitorRelease s fun t => t.dev.railHold = false ∧
      t.dev.state = (if s.dev.porstN = true ∧ s.dev.warmN = true then .boot else s.dev.state) ∧
      { t with dev := s.dev, gov := s.gov, jtag := s.jtag } = s)

/-- The steps of BOOT (R208, R254, R275, R488, R492): the ticks run from the first lock, calibrations and band searches are made after a
power-on reset alone, the searches fill the band cache with their results, one for each synthesiser and rate, and a boot record is taken
when an OWNER_KEY_DIGEST is programmed. The end of BOOT (R19, R491, R493, R497): with a boot record, of two authentic images the one that
names the higher release runs, slot A on a tie, and the device enters IDLE; ROLLBACK rises at the first entry to the lower of the two
levels; when no image or record authenticates, FLT_BOOT_AUTH takes the device to FAULTED with FAULT_N asserted. -/
def Obligations.BootStepsAndEnd : Prop :=
  (∀ s : State, s.dev.state = .boot →
   (s.dev.ticksRun = false →
     Goes .pllCEInitialLock s fun t => t.dev.ticksRun = true ∧ t.clk.onE = false ∧
       t.clk.locked = [true, true, true, true, true] ∧
       { t with dev := { t.dev with ticksRun := s.dev.ticksRun }, clk := s.clk } = s) ∧
   (∀ txp rxp, s.dev.coldStart = true →
     Goes (.resetCalibrationDone txp rxp []) s fun t => t.dev.calibrated = true ∧
       (∀ p, p < nPorts s → (port t p).t_txp = txp.get p 0 ∧ (port t p).t_rxp = rxp.get p 0) ∧
       { t with dev := s.dev, ports := s.ports, clk := s.clk } = s) ∧
   (s.dev.coldStart = true →
     exec .bandSearchDone s = .next { s with dev := { s.dev with bandsDone := true }, clk := { s.clk with bandCache := true,
                                                                                                             bands := bandsOf (nPorts s) s.clk.cacheMisses.toNat } }) ∧
   (s.dev.coldStart = false → (∀ txp rxp fl, exec (.resetCalibrationDone txp rxp fl) s = .next s) ∧ exec .bandSearchDone s = .next s) ∧
   (∀ r, s.otp.ownerKey.isSome = true →
     Goes (.bootRecordAuthenticated r) s fun t => t.dev.bootRec = some r ∧ t.cfg.par = r.params ∧ t.cfg.parI = r.params ∧
       { t with dev := { t.dev with bootRec := s.dev.bootRec }, cfg := { t.cfg with par := s.cfg.par, parI := s.cfg.parI } } = s) ∧
   (∀ r, s.otp.ownerKey = none → exec (.bootRecordAuthenticated r) s = .next s)) ∧
  (∀ s : State, s.dev.state = .boot → s.dev.porstN = true → s.dev.railHold = false →
   s.cyc.running = false → (rec? s 0).active = false →
   (∀ a b : FwImage, s.dev.bootRec.isSome = true → imageOk s a = true → imageOk s b = true → s.dev.coldStart = false →
     Goes (.bybexReady (some a) (some b) []) s fun t => t.dev.state = .idle ∧ t.dev.mpcReady = true ∧
       t.dev.fwVersion = (if a.release.toNat < b.release.toNat then b.release else a.release) ∧
       t.otp = { s.otp with rollback := if s.dev.idleSeen then s.otp.rollback else max s.otp.rollback (min a.rollback b.rollback) }) ∧
   (∀ o, s.dev.bootRec.isSome = true →
     Goes (.bybexReady none none o) s fun t => t.dev.state = .faulted ∧ t.dev.faultN = true ∧ Latched t 0 ∧ t.otp = s.otp) ∧
   (∀ n, Goes (.bootAuthFail n) s fun t => t.dev.state = .faulted ∧ t.dev.faultN = true ∧ Latched t 0 ∧ t.otp = s.otp))

/-! ### Cycles, commands at their cycles, lock-through -/

/-- Cycles start at their instants of converter time (R14, R19, R20, R30, R31, R420). Before its instant a start brings nothing but the
time. At it the cycle number rises by one, the cycle's work begins afresh, the heartbeat of an ACTIVE unit toggles, the observer image that
was written becomes current unless the host holds it, a level-4 reaction takes FAULTED, and a block request takes a running unit to BLOCKED.
Cycle 0 of a new plate starts when converter time reaches its CYCLE_BASE. -/
def Obligations.CycleStarts : Prop := ∀ (s : State) (t : Nat),
  let a := advanceTo t s
  let fresh := fun (u : State) => u.cyc.running = true ∧ u.cyc.frozen = false ∧ u.cyc.launched = false ∧ u.cyc.graphDone = false ∧
    u.cyc.obsDone = false ∧ u.cyc.packed = [] ∧ u.cyc.startTick = a.now ∧ u.cfg = s.cfg ∧ u.otp = s.otp ∧ u.store = s.store ∧ u.jtag = s.jtag
  ((s.cyc.running = false ∨ reached a (s.cyc.n + 1) 0 = false) → exec (.cycleStart t) s = .next a) ∧
  (s.cyc.running = true → reached a (s.cyc.n + 1) 0 = true → Calm s →
    Goes (.cycleStart t) s fun u => u.cyc.n = s.cyc.n + 1 ∧ fresh u ∧
      u.tan.hbTx = (s.tan.role == .active && !s.tan.hbTx) ∧
      u.obs.curBuf = (if s.obs.written && !s.obs.hold then 1 - s.obs.curBuf else s.obs.curBuf) ∧
      (s.cyc.level4 = true → u.dev.state = .faulted) ∧
      (s.cyc.level4 = false → (s.cyc.blockReq = true ∨ s.cyc.hwslBlock = true) → runs s = true → follower s = false → u.dev.state = .blocked)) ∧
  (s.cyc.baseWait = true → s.dev.state.loadedOn = true → reached a 0 0 = true → Calm s →
    Goes (.cycleBaseReached t) s fun u => u.cyc.n = 0 ∧ u.cyc.baseWait = false ∧ u.cyc.missed = false ∧ fresh u) ∧
  ((s.cyc.baseWait = false ∨ s.dev.state.loadedOn = false ∨ reached a 0 0 = false) → exec (.cycleBaseReached t) s = .next a)

/-- A command that waited is applied at the boundary of its cycle, before the cutoff freeze (R17, R20, R24, R67, R97, R114, R129, R130,
R223, R266, R307, R341, R343): with none due, or after the freeze, nothing happens. A DEBLOCK that meets its conditions takes READY to
RUNNING in phase STARTUP, and BLOCK_CLEAR takes BLOCKED to READY; PHASE_SET enters a phase that R24 allows; TIME_DOMAIN_SELECT switches the
active domain; a command of these four that does not meet its conditions changes nothing. SETPOINT_SET writes its stage, CELL_EXCLUDE
excludes its member, CELL_RESTORE is noted for the member's next cutoff, and the four clearing commands clear what they name and nothing
else. What else differs are messages to hosts, and the count of class A commands. -/
def Obligations.CommandsAtTheirCycle : Prop := ∀ (s : State),
  ((atBoundary s = false ∨ nextDue s = none) → exec .scheduledCommandApply s = .next s) ∧
  ∀ (w : Waiting), atBoundary s = true → nextDue s = some w →
  let taken := { s.cyc with waiting := s.cyc.waiting.erase w }
  let counted := fun (t : State) => t.tan = { s.tan with transferSeq := s.tan.transferSeq + (if isClassA w.opcode then 1 else 0) }
  let refused := Goes .scheduledCommandApply s fun t => ButMessages { s with cyc := taken } t
  (w.opcode = 0x10 → follower s = false → deblockCheck s = .ok → Calm s →
    Goes .scheduledCommandApply s fun t => t.dev.state = .running ∧ t.dev.phase = .startup ∧ t.dev.phaseFirst = true ∧
      t.cyc.waiting = taken.waiting ∧ t.cyc.n = s.cyc.n ∧ t.cfg = s.cfg ∧ t.obs = s.obs ∧ t.moors = s.moors) ∧
  (w.opcode = 0x10 → follower s = false → deblockCheck s ≠ .ok → refused) ∧
  (w.opcode = 0x12 → follower s = false → blockClearOk s = true →
    Goes .scheduledCommandApply s fun t => t.dev.state = .ready ∧ t.cyc.waiting = taken.waiting ∧ t.cyc.n = s.cyc.n ∧ t.cfg = s.cfg ∧ t.moors = s.moors ∧
      t.tan.transferSeq = s.tan.transferSeq + 1) ∧
  (w.opcode = 0x12 → follower s = false → blockClearOk s = false → refused) ∧
  (∀ q, w.opcode = 0x13 → Phase.ofCode (w.arg 0) = some q → s.dev.state = .running → s.dev.recoveryNow = false → phaseStep s.dev.phase q = true →
    Goes .scheduledCommandApply s fun t => t.dev = { s.dev with phase := q, phaseFirst := true } ∧ counted t ∧
      ButMessages { s with dev := t.dev, cyc := taken, tan := t.tan } t) ∧
  (∀ q, w.opcode = 0x13 → Phase.ofCode (w.arg 0) = some q → (s.dev.state ≠ .running ∨ s.dev.recoveryNow = true ∨ phaseStep s.dev.phase q = false) → refused) ∧
  (w.opcode = 0x16 → switchBad s (w.arg 0) = none → Calm s →
    Goes .scheduledCommandApply s fun t => t.time.active = w.arg 0 ∧ t.time.ct = s.time.ct ∧ t.time.td0 = s.time.td0 ∧ t.time.td1 = s.time.td1 ∧
      t.cyc.waiting = taken.waiting ∧ t.cyc.n = s.cyc.n ∧ t.cfg = s.cfg) ∧
  (w.opcode = 0x16 → switchBad s (w.arg 0) ≠ none → refused) ∧
  (∀ pl k, w.opcode = 0x30 → s.cfg.plate = some pl → pl.slots.find (w.arg 0) = some k →
    Goes .scheduledCommandApply s fun t =>
      let v := outPlain 24 (pstage s k).efloor (pstage s k).eceil (w.elems.map ewVal)
      (t.cfg.stages.get k { val := { e := -128, m := [0] } }).val = v ∧ (t.cfg.stagesI.get k { val := { e := -128, m := [0] } }).val = v ∧
      t.cfg.par = s.cfg.par ∧ t.cfg.parI = s.cfg.parI ∧ t.cfg.plate = s.cfg.plate ∧
      (∀ j, j ≠ k → t.cfg.stages.find j = s.cfg.stages.find j ∧ t.cfg.stagesI.find j = s.cfg.stagesI.find j) ∧
      t.graph = { s.graph with spCycle := s.graph.spCycle.set (w.arg 0) s.cyc.n } ∧ counted t ∧
      ButMessages { s with cfg := t.cfg, graph := t.graph, cyc := taken, tan := t.tan } t) ∧
  (∀ a m, w.opcode = 0x32 → mayExclude s (w.arg 0) = true → memberOf s (w.arg 0) = some (a, m) →
    Goes .scheduledCommandApply s fun t => (((t.arms.get a {}).cats.get (w.arg 0) {}).cat = .excluded) ∧
      (∀ b, b ≠ a → t.arms.get b {} = s.arms.get b {}) ∧ (∀ c, c ≠ w.arg 0 → (t.arms.get a {}).cats.get c {} = (s.arms.get a {}).cats.get c {}) ∧
      counted t ∧ ButMessages { s with arms := t.arms, cyc := taken, tan := t.tan } t) ∧
  (∀ a m, w.opcode = 0x33 → mayRestore s (w.arg 0) = true → memberOf s (w.arg 0) = some (a, m) →
    Goes .scheduledCommandApply s fun t => (t.arms.get a {}).restores = (s.arms.get a {}).restores ++ [w] ∧ (t.arms.get a {}).cats = (s.arms.get a {}).cats ∧
      (∀ b, b ≠ a → t.arms.get b {} = s.arms.get b {}) ∧ counted t ∧ ButMessages { s with arms := t.arms, cyc := taken, tan := t.tan } t) ∧
  (w.opcode = 0x40 → Goes .scheduledCommandApply s fun t => (∀ n, t.graph.stat.find n = (s.graph.stat.find n).map (fun x =>
        if w.arg 0 ≤ n ∧ n < w.arg 0 + w.arg 1 then { x with satCount := 0, domSticky := false, clampSticky := false, satSticky := false } else x)) ∧
      counted t ∧ ButMessages { s with graph := { s.graph with stat := t.graph.stat }, cyc := taken, tan := t.tan } t) ∧
  (w.opcode = 0x41 → Goes .scheduledCommandApply s fun t => t.graph.hist = [] ∧ (∀ n, (t.graph.place.get n {}).moves = 0) ∧
      (∀ n, (t.graph.place.get n {}).lane = (s.graph.place.get n {}).lane) ∧
      ButMessages { s with graph := { s.graph with hist := [], place := t.graph.place, table := t.graph.table }, cyc := taken } t) ∧
  (w.opcode = 0x42 → Goes .scheduledCommandApply s fun t => (∀ n, t.points.find n = (s.points.find n).map (fun x =>
        if w.arg 0 ≤ n ∧ n < w.arg 0 + w.arg 1 then ptMinMaxClear x else x)) ∧ ButMessages { s with points := t.points, cyc := taken } t) ∧
  (w.opcode = 0x44 → Goes .scheduledCommandApply s fun t =>
      (∀ c, t.pul.ch.find c = (s.pul.ch.find c).map (fun x => if (w.arg 0).testBit c then pulClear x else x)) ∧
      ButMessages { s with pul := { s.pul with ch := t.pul.ch }, cyc := taken } t)

/-- The flip of a commit of staged changes (R17, R355, R364–R366): at the boundary of its cycle, before the cutoff freeze, the values staged
take effect together, parameters, stages and clock words, the staging area is empty, and nothing of the converter's state moves. Where a
rule on live state no longer holds the commit is discarded: the values in force stay, and the entries stay staged. Before its cycle and
after the freeze nothing happens (log 108). -/
def Obligations.LockThrough : Prop := ∀ (s : State) (n : CycleNo) (m : Nat) (tag : BitVec 16) (c : Cand),
  s.pound.commit = some (n, m, tag, false) → candOf s = some c →
  (atBoundary s = true → lockDue s = true → liveOk s c = true →
    Goes (.lockThrough true) s fun t => t.cfg.par = c.par ∧ t.cfg.parI = c.par ∧ t.cfg.stages = c.stages ∧ t.cfg.stagesI = c.stages ∧
      t.cfg.plate = s.cfg.plate ∧ t.clk.shadow = t.clk.active ∧ t.pound.commit = none ∧ t.pound.entries = [] ∧ t.pound.owner = none ∧
      t.pound.check = none ∧ t.pound.signs = [] ∧ (rec? t 38).active = false ∧ t.tan.transferSeq = s.tan.transferSeq + 1 ∧
      ButMessages { s with cfg := t.cfg, clk := t.clk, points := t.points, graph := t.graph, pound := t.pound, tan := t.tan, fcru := t.fcru } t) ∧
  (∀ good, atBoundary s = true → lockDue s = true → liveOk s c = false →
    Goes (.lockThrough good) s fun t => t.cfg.par = s.cfg.par ∧ t.cfg.parI = s.cfg.par ∧ t.cfg.stages = s.cfg.stages ∧
      t.clk.active = s.clk.active ∧ t.clk.shadow = s.clk.active ∧ t.pound.commit = none ∧ t.pound.entries = s.pound.entries ∧
      t.pound.owner = s.pound.owner ∧ t.pound.check = s.pound.check ∧
      ButMessages { s with cfg := t.cfg, clk := t.clk, pound := t.pound } t) ∧
  (∀ good, (atBoundary s = false ∨ lockDue s = false) → exec (.lockThrough good) s = .next s)

/-- The flip of a whole plate (R67, R96, R129, R220, R307, R355, R365, R367, R422, R453): in LOADED, READY or BLOCKED at the cycle of its
commit, and in IDLE, the plate is in force with its parameters, the device is LOADED (or FAULTED by a port whose mode changed), its cycles
have stopped until its CYCLE_BASE, nothing waits, the states of the graph, points, Grid Edge Timer and pulse channels start afresh, every
capture has stopped, the Plate Store holds the image, and the staging area is empty. In RUNNING at that cycle the commit is discarded; away
from a boundary, and outside IDLE for the second, nothing is done but the time. -/
def Obligations.WholePlate : Prop := ∀ (s : State) (t m : Nat) (tag : BitVec 16) (pl : Plate) (c : Cand) (n : CycleNo),
  let a := advanceTo t s
  s.pound.commit = some (n, m, tag, true) → s.pound.plate = some pl → candOf a = some c →
  Calm { s with cfg := { plate := some pl, par := pl.params, parI := pl.params, stages := pl.stages, stagesI := pl.stages, plateTag := pl.hdr.plateTag } } →
  let done := fun (u : State) => u.cfg.plate = some pl ∧ u.cfg.par = pl.params ∧ u.cfg.stages = pl.stages ∧ u.cfg.plateTag = pl.hdr.plateTag ∧
    (u.dev.state = .loaded ∨ u.dev.state = .faulted) ∧ u.cyc.running = false ∧ u.cyc.baseWait = true ∧ u.cyc.waiting = [] ∧ u.points = [] ∧
    u.get = [] ∧ u.pul.ch = [] ∧ u.graph.stat = [] ∧ u.pound.commit = none ∧ u.pound.plate = none ∧ u.pound.entries = [] ∧
    u.dev.gpioOut = pl.gpioOut ∧
    u.store = Memory.writes (Memory.clear (capStopAll (dropWaiting a)).store 0x07000000 0x400000) 0x07000000 s.pound.image ∧
    u.otp = s.otp ∧ u.jtag = s.jtag ∧ ∀ k, (capGet u k).st = .idle ∨ 16 ≤ k
  ((s.dev.state = .loaded ∨ s.dev.state = .ready ∨ s.dev.state = .blocked) → atBoundary s = true → n = s.cyc.n → liveOk a c = true →
    Goes (.wholePlateLockThrough t true) s done) ∧
  (s.dev.state = .running → atBoundary s = true → n = s.cyc.n → ∀ good,
    Goes (.wholePlateLockThrough t good) s fun u => u.cfg.plate = s.cfg.plate ∧ u.cfg.par = s.cfg.par ∧ u.pound.commit = none ∧
      u.pound.plate = some pl ∧ ButMessages { a with cfg := u.cfg, clk := u.clk, pound := u.pound } u) ∧
  (s.dev.state = .idle → liveOk a c = true → Goes (.idlePlateLockThrough t true) s done) ∧
  (s.dev.state ≠ .idle → ∀ good, exec (.idlePlateLockThrough t good) s = .next a) ∧
  (atBoundary s = false → ∀ good, exec (.wholePlateLockThrough t good) s = .next a)

/-! ### Reports and the observer -/

/-- Report bursts and their words (R16, R153, R168, R174, R177, R206, R217, R398). A burst of a serving lane whose delimiter is accepted,
whose line code and CRC-16 are right and whose fields are in form enters the capture buffer under the cycle of its window, and a RANGED
mooring serves; one with a wrong stuff bit or CRC, or with malformed fields, marks its cell corrupt, is counted, and enters nothing; a slot
without an accepted delimiter changes nothing that is reported. A buffered word crosses into the store, or is late when its cycle is frozen.
-/
def Obligations.Reports : Prop := ∀ s : State,
  (∀ (p m : Nat) (off : Int) (d : BitVec 32) (pay mar : List Bool) (sig : Bool) (meas : BurstMeas) (w : BitVec 128), let b := burstOn d pay mar
    Calm s → p < nPorts s → m < 256 → moorNamed s p m = true →
    (port s p).lane = .up → (port s p).locked = true → slotSuspended s p m = false → delimOk off b = true → reportIn b = some w →
    malformedRep s p (ciOf p m) (reportOf w) = false →
    Goes (.reportBurstReceived p m off (some d) pay mar sig meas) s fun t =>
      t.obs = { s.obs with buf := s.obs.buf ++ [{ ci := ciOf p m, rep := reportOf w, cycle := windowCycle s }] } ∧
      (moor t (ciOf p m)).last = some (reportOf w) ∧ ((moor s (ciOf p m)).st = .ranged → (moor t (ciOf p m)).st = .serving) ∧
      (∀ c, c ≠ ciOf p m → moor t c = moor s c) ∧ t.cfg = s.cfg ∧ t.graph.cur = s.graph.cur) ∧
  (∀ (p m : Nat) (off : Int) (d : BitVec 32) (pay mar : List Bool) (sig : Bool) (meas : BurstMeas), let b := burstOn d pay mar
    Calm s → p < nPorts s → m < 256 →
    moorNamed s p m = true → (port s p).lane = .up → (port s p).locked = true → slotSuspended s p m = false → delimOk off b = true →
    (reportIn b = none ∨ ∃ w, reportIn b = some w ∧ malformedRep s p (ciOf p m) (reportOf w) = true) →
    Goes (.reportBurstReceived p m off (some d) pay mar sig meas) s fun t => t.obs.buf = s.obs.buf ∧
      (ciOf p m ∈ t.obs.corrupt ∨ ciOf p m ∈ t.obs.corruptNew) ∧ (moor t (ciOf p m)).last = (moor s (ciOf p m)).last ∧
      (moor t (ciOf p m)).st = (moor s (ciOf p m)).st ∧
      (moor t (ciOf p m)).codeErrors = (if codeError 128 b then cnt32 (moor s (ciOf p m)).codeErrors else (moor s (ciOf p m)).codeErrors) ∧
      (moor t (ciOf p m)).malformed = (if (reportIn b).isSome then cnt32 (moor s (ciOf p m)).malformed else (moor s (ciOf p m)).malformed)) ∧
  (∀ (p m : Nat) (off : Int) (d : Option (BitVec 32)) (pay mar : List Bool) (sig : Bool) (meas : BurstMeas), Calm s → p < nPorts s → m < 256 → moorNamed s p m = true →
    (port s p).lane = .up → (port s p).locked = true → slotSuspended s p m = false → (∀ x, d = some x → delimOk off (burstOn x pay mar) = false) →
    Goes (.reportBurstReceived p m off d pay mar sig meas) s fun t => t.obs = s.obs ∧ (moor t (ciOf p m)).last = (moor s (ciOf p m)).last ∧
      (moor t (ciOf p m)).st = (moor s (ciOf p m)).st ∧ (∀ c, c ≠ ciOf p m → moor t c = moor s c) ∧ t.cfg = s.cfg) ∧
  (∀ (p m : Nat) (off : Int) (d : Option (BitVec 32)) (pay mar : List Bool) (sig : Bool) (meas : BurstMeas), p < nPorts s → m < 256 →
    (moorNamed s p m = false ∨ (port s p).lane ≠ .up ∨ (port s p).locked = false ∨ slotSuspended s p m = true) →
    exec (.reportBurstReceived p m off d pay mar sig meas) s = .next s) ∧
  (∀ ci r, ci < nCells s → s.obs.buf.find? (fun r => r.ci = ci) = some r →
    let late := (r.cycle = s.cyc.n ∧ s.cyc.frozen = true) ∨ after 48 s.cyc.n.toNat r.cycle.toNat = true
    Goes (.reportWordIngress ci) s fun t => t.obs.buf = s.obs.buf.erase r ∧
      (late → t.obs.late = s.obs.late ++ [{ r with late := true }] ∧ t.obs.store = s.obs.store) ∧
      (¬ late → t.obs.late = s.obs.late ∧ t.obs.store = s.obs.store ++ [r]) ∧ (r.rep.gauge = false → { t with obs := s.obs } = s)) ∧
  (∀ ci, ci < nCells s → s.obs.buf.find? (fun r => r.ci = ci) = none → exec (.reportWordIngress ci) s = .next s)

/-- The measurement cutoff freezes the cycle once, at its instant: the reports taken are the late ones and the store's, CT's increment is
kept for the fire offsets, and the graph starts (R14, R43, R80, R153). The observer update follows once in a frozen cycle, in READY,
RUNNING, RAMPING, BLOCKED and FAULTED (R22); its records go to the image buffer that is not current (R30, R150, R152). -/
def Obligations.CutoffAndObserver : Prop := ∀ s : State, Calm s →
  (∀ t, let a := advanceTo t s
    s.cyc.running = true → s.cyc.frozen = false → reached a s.cyc.n (parN s 1 0 2) = true →
    Goes (.measurementCutoff t) s fun u => u.cyc.frozen = true ∧ u.cyc.n = s.cyc.n ∧ u.obs.store = [] ∧ u.obs.late = [] ∧ u.obs.taken = s.obs.late ++ s.obs.store ∧
      u.cyc.ctInc = (ctIncrement a.time (slewStep (par s 0x32 0 2))).toNat ∧ u.cfg.par = s.cfg.par ∧ u.cyc.launched = s.cyc.launched ∧
      (u.dev.state.graphOn = true → u.graph.work = [] ∧ u.graph.done = [] ∧ u.graph.gt = 0)) ∧
  (∀ t, (s.cyc.running = false ∨ s.cyc.frozen = true ∨ reached (advanceTo t s) s.cyc.n (parN s 1 0 2) = false) →
    exec (.measurementCutoff t) s = .next (advanceTo t s)) ∧
  (s.dev.state.observes = true → s.cyc.frozen = true → s.cyc.obsDone = false →
    Goes .observerUpdateComplete s fun u => u.cyc.obsDone = true ∧ u.obs.taken = [] ∧ u.obs.corrupt = [] ∧ u.obs.written = true ∧
      u.obs.wrCycle = s.cyc.n ∧ u.obs.curBuf = s.obs.curBuf ∧ (if s.obs.curBuf = 0 then u.obs.image1 else u.obs.image0) = u.obs.recs ∧
      u.cfg = s.cfg ∧ u.cyc.n = s.cyc.n ∧ u.graph.cur = s.graph.cur) ∧
  ((s.dev.state.observes = false ∨ s.cyc.frozen = false ∨ s.cyc.obsDone = true) → exec .observerUpdateComplete s = .next s)

/-! ### The fabric, the arms and the frames -/

/-- Steps of a lane (R53–R55, R80, R84): one without a residue mismatch passes its time and leaves the rest alone; a mismatch is
FLT_LANE_RESIDUE and spoils the cycle; an output step puts the node's results in the working copy, and the states in force stand; an arm
engine then computes the arm's outputs, or a block. None acts outside the span from freeze to launch. -/
def Obligations.StepsOfTheFabric : Prop := ∀ s : State,
  (∀ l dur n, l < 64 → graphLive s = true → (s.graph.lanes.get l {}).exec = some n → 1 < (s.graph.lanes.get l {}).stepsLeft →
    Goes (.laneStepComplete l dur none) s fun t =>
      let x := s.graph.lanes.get l {}
      let y := t.graph.lanes.get l {}
      y.exec = some n ∧ y.stepsLeft = x.stepsLeft - 1 ∧ y.busy = x.busy + dur ∧ y.time = x.time + dur ∧ t.graph.stepsRun = s.graph.stepsRun + 1 ∧
      t.graph.work = s.graph.work ∧ t.graph.cur = s.graph.cur ∧ { t with graph := s.graph } = s) ∧
  (∀ l dur n sl, l < 64 → graphLive s = true → (s.graph.lanes.get l {}).exec = some n → 1 < (s.graph.lanes.get l {}).stepsLeft →
    s.dev.porstN = true → s.dev.railHold = false → Calm s →
    Goes (.laneStepComplete l dur (some sl)) s fun t => Latched t 2 ∧ 0 < t.cyc.forceMiss ∧ t.graph.cur = s.graph.cur) ∧
  (∀ l dur n d, l < 64 → graphLive s = true → (s.graph.lanes.get l {}).exec = some n → (s.graph.lanes.get l {}).stepsLeft = 1 → node? s n = some d →
    Goes (.nodeOutputComplete l dur) s fun t => nodeOut t.graph.work n = (nodeEval s d).1.1.out ∧ t.graph.done = s.graph.done ++ [n] ∧
      (∀ k, k ≠ n → nodeOut t.graph.work k = nodeOut s.graph.work k) ∧ t.graph.cur = s.graph.cur ∧ t.graph.stat = s.graph.stat ∧
      t.cyc = { s.cyc with graphDone := t.graph.done.length = (nodes s).length } ∧ t.dev.phase = s.dev.phase ∧
      { t with graph := s.graph, cyc := s.cyc, dev := s.dev } = s) ∧
  (∀ l dur r, l < 64 → graphLive s = false → exec (.laneStepComplete l dur r) s = .next s ∧ exec (.nodeOutputComplete l dur) s = .next s) ∧
  (∀ a, a < nArms s → armReady s a = true → ∀ d, armNode s a = some d →
    Goes (.armEngineComplete a) s fun t => (∀ b, b ≠ a → t.arms.get b {} = s.arms.get b {}) ∧
      t.cyc = { s.cyc with armsDone := s.cyc.armsDone ++ [a] } ∧
      (t.arms.get a {}).out = some (if runs s then (engineRun s a (nodeOut s.graph.work d.node)).1 else engineBlock s a) ∧
      (t.arms.get a {}).sel = (s.arms.get a {}).sel ∧ (t.arms.get a {}).d = (s.arms.get a {}).d ∧ { t with arms := s.arms, cyc := s.cyc } = s) ∧
  (∀ a, a < nArms s → armReady s a = false → exec (.armEngineComplete a) s = .next s)

/-- Frames of a cycle (R39–R42, R48, R50, R51, R54). Each lit port packs; when all have packed, the launch tick sends a COMMAND frame from
every one and the working states become current; a deadline before that is a miss: SERVICE_ONLY frames, states as they were, and after a
miss before it a block request; in a cycle that blocks, the deadline sends BLOCK frames, and the cycle is a missed one where the graph runs
and has not finished (log 89). -/
def Obligations.FramesOfTheCycle : Prop := ∀ (s : State) (t : Nat),
  let a := advanceTo t s
  let sent := fun (ft : FType) (u : State) => u.cyc.launched = true ∧ u.cyc.missedPrev = s.cyc.missed ∧ u.cyc.n = s.cyc.n ∧ u.cfg = s.cfg ∧
    ∀ p, p < nPorts s → lit s p = true → ∃ f, (port u p).lastFrame = some f ∧ f.ftype = ft ∧ f.cycle = s.cyc.n ∧ f.gen = (port s p).gen
  (∀ p k, p < nPorts s → s.cyc.running = true → s.cyc.frozen = true → s.cyc.launched = false → portLive s p = true → s.cyc.graphDone = true →
    armsReadyFor s p = true → k ≤ 8500 →
    Goes (.packReady p k []) s fun u => p ∈ u.cyc.packed ∧ u.cyc.packTime = max s.cyc.packTime k ∧
      { u with cyc := { u.cyc with packed := s.cyc.packed, packTime := s.cyc.packTime }, gov := s.gov } = s) ∧
  (∀ p k, p < nPorts s → 8500 < k → exec (.packReady p k []) s = .next s) ∧
  (s.cyc.running = true → s.cyc.launched = false → blockFrames s = false → allPacked s = true → Calm s →
    Goes (.launchTick t) s fun u => sent .command u ∧ u.cyc.missed = false ∧ u.graph.cur = s.graph.work ∧ u.dev.phaseFirst = false ∧
      (transmits s = true → u.tan.launches.head? = some s.cyc.n)) ∧
  ((s.cyc.running = false ∨ s.cyc.launched = true ∨ blockFrames s = true ∨ allPacked s = false) → exec (.launchTick t) s = .next a) ∧
  (s.cyc.running = true → s.cyc.launched = false → reached a s.cyc.n (parN s 1 0 2 + 85) = true → blockFrames s = false → allPacked s = false → Calm s →
    Goes (.frameDeadline t) s fun u => sent .serviceOnly u ∧ u.cyc.missed = true ∧ u.graph.cur = s.graph.cur ∧
      (∀ x, (u.arms.get x {}).sel = (s.arms.get x {}).sel ∧ (u.arms.get x {}).d = (s.arms.get x {}).d) ∧
      (s.cyc.missed = true → follower s = false → u.cyc.blockReq = true) ∧ (s.dev.porstN = true → s.dev.railHold = false → Latched u 1)) ∧
  (s.cyc.running = true → s.cyc.launched = false → reached a s.cyc.n (parN s 1 0 2 + 85) = true → blockFrames s = true → Calm s →
    Goes (.frameDeadline t) s fun u => sent .block u ∧ u.cyc.missed = (s.dev.state.graphOn && !(s.cyc.graphDone && decide (s.cyc.forceMiss = 0)))) ∧
  ((s.cyc.running = false ∨ s.cyc.launched = true ∨ reached a s.cyc.n (parN s 1 0 2 + 85) = false) → exec (.frameDeadline t) s = .next a)

/-- Inhibit lines, stale points and memory errors (R12, R28, R199, R224, R227, R406, R455): a line that the HWSL drives sends INHIBIT frames
at once and again while it stands, wherever the port has light on its line; a point that has waited longer than its interval goes stale with
its value; an error of the memory raises its source and flags the point it struck. -/
def Obligations.InhibitStaleMemory : Prop := ∀ s : State,
  (∀ p, p < nPorts s → s.srb.inhibit = true → (port s p).inhibit = false → sending s p = true →
    Goes (.inhibitLineRise p) s fun t => (port t p).inhibit = true ∧ (port t p).inhibits = 1 ∧
      (∃ f, (port t p).lastFrame = some f ∧ f.ftype = .inhibit ∧ f.header = [0xB10C4EF3#32] ∧ f.cmds = []) ∧
      (∀ q, q ≠ p → port t q = port s q) ∧ { t with ports := s.ports, free := s.free } = s) ∧
  (∀ p, p < nPorts s → s.srb.inhibit = true → (port s p).inhibit = false → sending s p = false →
    exec (.inhibitLineRise p) s = .next (setPort p (fun x => { x with inhibit := true, inhibits := 0 }) s)) ∧
  (∀ p, p < nPorts s → s.srb.inhibit = false → exec (.inhibitLineRise p) s = .next s) ∧
  (∀ p, p < nPorts s → (port s p).inhibit = true → sending s p = true →
    Goes (.inhibitFrameRepeat p) s fun t => (port t p).inhibits = (port s p).inhibits + 1 ∧
      (∃ f, (port t p).lastFrame = some f ∧ f.ftype = .inhibit) ∧ (∀ q, q ≠ p → port t q = port s q) ∧ { t with ports := s.ports, free := s.free } = s) ∧
  (∀ p, p < nPorts s → (port s p).inhibit = false → exec (.inhibitFrameRepeat p) s = .next s) ∧
  (∀ k j, k < nCells s * 128 → staleAfter s k = some j → j < (s.cyc.n - (s.points.get k {}).wrote).toNat →
    Goes (.pointStale k) s fun t => t.points.get k {} = { s.points.get k {} with stale := true } ∧
      (∀ i, i ≠ k → t.points.get i {} = s.points.get i {}) ∧ { t with points := s.points } = s) ∧
  (∀ k, k < nCells s * 128 → (∀ j, staleAfter s k = some j → (s.cyc.n - (s.points.get k {}).wrote).toNat ≤ j) → exec (.pointStale k) s = .next s) ∧
  (∀ addr d, s.dev.porstN = true → s.dev.railHold = false → Goes (.sramEccError addr true d) s fun t => Latched t 286) ∧
  (∀ addr, s.dev.porstN = true → s.dev.railHold = false → Goes (.sramEccError addr false true) s fun t => Latched t 4) ∧
  (∀ addr, s.dev.porstN = true → s.dev.railHold = false → addr < 0x04000000 → Calm s →
    Goes (.sramEccError addr false false) s fun t => Latched t 287 ∧ (t.points.get (addr / 64) {}).dataLost = true ∧
      (t.points.get (addr / 64) {}).rebuild = true ∧ ∀ j, j ≠ addr / 64 → t.points.get j {} = s.points.get j {})

/-! ### Basin ports -/

/-- Admission of cells (R197, R206, R207, R217): a DISC_REPLY that answers an outstanding DISCOVER in its listening window admits the cell
of a vacant mooring of the plate when type and generation fit and refuses it when one does not; another serial number there, or a location
that the plate does not name, raises its source; a served mooring that answers again has lost its ranging; any other message changes
nothing. A discovery is queued where it may be sent. Ranging and service replies (R177, R198, R206, R208–R210, R225). The answer to a
RANGE_REQ ranges an admitted mooring with the delays measured; a request that stays unanswered counts, and the third loses a served
mooring's ranging and makes one vacant that was never ranged; rangings and readmissions that fall due are queued; on a follower the six
values of a page, later than their records, go to their points; and a training burst sets the mooring's preset. -/
def Obligations.AdmissionAndRanging : Prop :=
  (∀ s : State, Calm s → ∀ p, p < nPorts s →
   (∀ (b : Burst) (e m : Nat) (q : Req) (bs : List Byte), svcReq s p 0x81 b = some (q, bs) → q.kind = 4 → (port s p).locked = true →
     inWindow s p q q.pre e = true → let r := discOf bs
     (portOrder s p).find? (fun m => locationOf s (ciOf p m) = r.location.toNat) = some m →
     ((moor s (ciOf p m)).st = .vacant → (basinGen s p).code ≤ r.genMax → r.cellType = some (cellType s (ciOf p m)) →
       Goes (.discReplyReceived p b e) s fun t => (moor t (ciOf p m)).st = .admitted ∧ (moor t (ciOf p m)).serial = r.serial ∧
         (moor t (ciOf p m)).cellRx = r.cellRx ∧ (moor t (ciOf p m)).cellTx = r.cellTx ∧ (∀ c, c ≠ ciOf p m → moor t c = moor s c) ∧
         t.cfg = s.cfg ∧ t.obs = s.obs) ∧
     ((moor s (ciOf p m)).st = .vacant → (r.genMax < (basinGen s p).code ∨ r.cellType ≠ some (cellType s (ciOf p m))) → s.dev.porstN = true →
       s.dev.railHold = false →
       Goes (.discReplyReceived p b e) s fun t => (moor t (ciOf p m)).st = .refused ∧ (r.genMax < (basinGen s p).code → Latched t 271) ∧
         (r.cellType ≠ some (cellType s (ciOf p m)) → Latched t 272) ∧ ∀ c, c ≠ ciOf p m → moor t c = moor s c) ∧
     ((moor s (ciOf p m)).st ≠ .vacant → (moor s (ciOf p m)).serial ≠ r.serial → s.dev.porstN = true → s.dev.railHold = false →
       Goes (.discReplyReceived p b e) s fun t => Latched t 275 ∧ t.moors = s.moors) ∧
     (((moor s (ciOf p m)).st = .ranged ∨ (moor s (ciOf p m)).st = .serving) → (moor s (ciOf p m)).serial = r.serial → s.dev.porstN = true →
       s.dev.railHold = false → Goes (.discReplyReceived p b e) s fun t => Latched t 270 ∧ (moor t (ciOf p m)).st = .admitted) ∧
     (((moor s (ciOf p m)).st = .admitted ∨ (moor s (ciOf p m)).st = .refused) → (moor s (ciOf p m)).serial = r.serial →
       exec (.discReplyReceived p b e) s = .next s)) ∧
   (∀ (b : Burst) (e : Nat) (q : Req) (bs : List Byte), svcReq s p 0x81 b = some (q, bs) → q.kind = 4 → (port s p).locked = true →
     inWindow s p q q.pre e = true → (portOrder s p).find? (fun m => locationOf s (ciOf p m) = (discOf bs).location.toNat) = none →
     s.dev.porstN = true → s.dev.railHold = false → Goes (.discReplyReceived p b e) s fun t => Latched t 274 ∧ t.moors = s.moors) ∧
   (∀ (b : Burst) (e : Nat), (∀ q bs, svcReq s p 0x81 b = some (q, bs) → q.kind ≠ 4 ∨ inWindow s p q q.pre e = false) →
     exec (.discReplyReceived p b e) s = .next s) ∧
   (mayDiscover s p = true → Goes (.discoverDue p) s fun t => (∃ y ∈ (port t p).svc, y.type = 0x01 ∧ y.reqKind = 4) ∧
     (∀ k, k ≠ p → port t k = port s k) ∧ { t with ports := s.ports } = s) ∧
   (mayDiscover s p = false → exec (.discoverDue p) s = .next s)) ∧
  (∀ s : State, Calm s → ∀ p m, p < nPorts s → m < 256 →
   let ci := ciOf p m
   (∀ (d : BitVec 32) (pay mar : List Bool) (k ph : Nat) (q : Req) (bs : List Byte), let b := burstOn d pay mar
     let e := gridAt k ph
     svcReq s p 0x82 b = some (q, bs) → q.mooring = m → replyFits s p 1 q bs e = true →
     svcField bs 4 7 = q.cycle.toNat % 2 ^ 32 → (svcField bs 8 8).testBit 0 = q.train → (moor s ci).st = .admitted →
     let x := measure s p ci q q.pre 0 e
     x.1 ≤ maxDown s p → ageOk s p m x.2 = true →
     Goes (.rangeReplyReceived p d pay mar k ph) s fun t => (moor t ci).st = .ranged ∧
       (moor t ci).dNext = some x.1 ∧ (moor t ci).dUp = x.2 ∧ (moor t ci).everRanged = true ∧ (moor t ci).unanswered = 0 ∧
       reqOf t p q.tag = none ∧ t.cfg = s.cfg) ∧
   (∀ (d : BitVec 32) (pay mar : List Bool) (k ph : Nat),
     (∀ q bs, svcReq s p 0x82 (burstOn d pay mar) = some (q, bs) → replyFits s p 1 q bs (gridAt k ph) = false) →
     exec (.rangeReplyReceived p d pay mar k ph) s = .next s) ∧
   (∀ tag q, reqOf s p tag = some q → q.kind ≤ 2 → q.mooring = m → (moor s ci).unanswered < 2 →
     Goes (.requestUnanswered p tag) s fun t => (moor t ci).unanswered = (moor s ci).unanswered + 1 ∧ (moor t ci).st = (moor s ci).st ∧
       reqOf t p tag = none ∧ { t with ports := s.ports, moors := s.moors } = s) ∧
   (∀ tag q, reqOf s p tag = some q → q.kind ≤ 2 → q.mooring = m → 2 ≤ (moor s ci).unanswered →
     ((moor s ci).st = .ranged ∨ (moor s ci).st = .serving) → s.dev.porstN = true → s.dev.railHold = false →
     Goes (.requestUnanswered p tag) s fun t => (moor t ci).st = .admitted ∧ Latched t 270) ∧
   (∀ tag q, reqOf s p tag = some q → q.kind ≤ 2 → q.mooring = m → 2 ≤ (moor s ci).unanswered → (moor s ci).st = .admitted →
     (moor s ci).everRanged = false →
     Goes (.requestUnanswered p tag) s fun t => (moor t ci).st = .vacant ∧ { t with ports := s.ports, moors := s.moors } = s) ∧
   (∀ tag, reqOf s p tag = none → exec (.requestUnanswered p tag) s = .next s) ∧
   (moorNamed s p m = true → (moor s ci).st = .serving → follower s = false →
     Goes (.rangeRefreshDue p m) s fun t => (∃ y ∈ (port t p).svc, y.type = 0x03 ∧ y.mooring = m) ∧ { t with ports := s.ports } = s) ∧
   ((moor s ci).st ≠ .serving → exec (.rangeRefreshDue p m) s = .next s) ∧
   (moorNamed s p m = true → (moor s ci).st = .admitted → (moor s ci).everRanged = true → follower s = false →
     Goes (.readmissionDue p m) s fun t => (∃ y ∈ (port t p).svc, y.type = 0x02 ∧ y.mooring = m ∧ y.frames = 8) ∧
       (∃ y ∈ (port t p).svc, y.type = 0x03 ∧ y.mooring = m) ∧ { t with ports := s.ports } = s) ∧
   ((moor s ci).st ≠ .admitted → exec (.readmissionDue p m) s = .next s) ∧
   (∀ (d : BitVec 32) (pay mar : List Bool) (bs : List Byte) (t k ph : Nat), let a := advanceTo t s
     let b := burstOn d pay mar
     let page := svcField bs 4 5
     follower s = true → svcIn b = some bs → svcField bs 0 0 = 0x84 → svcField bs 2 2 = m → moorNamed s p m = true → page < 10 →
     (∃ v ∈ pageVals bs, v ≠ -2147483648) →
     (∀ i, i < 6 → let x := s.points.get (ptOf ci (48 + 6 * page + i)) {}
       x.rebuild = true ∨ ptLater x a.cyc.n (tickPhase a) = true) →
     Goes (.svcDataReceived p d pay mar t k ph) s fun u => (∀ i v, (pageVals bs)[i]? = some v →
       (u.points.get (ptOf ci (48 + 6 * page + i)) {}).val = BitVec.ofInt 32 (clampI (-2147483648) 2147483647 v) ∧
       (u.points.get (ptOf ci (48 + 6 * page + i)) {}).valid = true) ∧ u.moors = s.moors ∧ u.cfg = s.cfg) ∧
   (∀ (d : BitVec 32) (pay mar : List Bool) (t k ph : Nat), (∀ bs, svcIn (burstOn d pay mar) = some bs → svcField bs 0 0 ≠ 0x84) →
     exec (.svcDataReceived p d pay mar t k ph) s = .next (advanceTo t s)) ∧
   (∀ b, moorNamed s p m = true → (port s p).locked = true →
     Goes (.trainingBurstAccepted p m b) s fun t => (moor t ci).preset = presetLearn (port s p).gen b ∧
       (moor t ci).serial = (moor s ci).serial ∧ t.cfg = s.cfg) ∧
   (∀ b, moorNamed s p m = false → exec (.trainingBurstAccepted p m b) s = .next s))

/-- The rate step of a lane (R184, R197, R206): an acknowledgement is noted; at its deadline a missing one of a required mooring takes the
lane back to ACQUIRE, cancels the step and holds the next for 1,000 cycles, and others are released; at cycle S the port changes generation,
unlocked and squelched; after the gap it trains under a new epoch; and a lock or a training that fails goes back to ACQUIRE at BL1. Loss of
signal and of lock (R163, R179–R181, R184): loss of signal raises FLT_BASIN_LOS once, loss of lock takes the lane to RELOCK, squelched, with
FLT_BASIN_LOL and its moorings as they were; a port relocks only on a locked PLL-A, from the band cache or by a full search whose result the
cache keeps (R275), and comes back UP from UP, to ACQUIRE from a step. -/
def Obligations.RateStepAndLossOfBasin : Prop :=
  (∀ s : State, Calm s → ∀ p, p < nPorts s →
   (∀ (d : BitVec 32) (pay mar : List Bool) (k ph : Nat) (q : Req) (bs : List Byte), let m := svcField bs 2 2
     svcReq s p 0x83 (burstOn d pay mar) = some (q, bs) → q.kind = 3 → m ∈ q.asked → (port s p).lane = .negotiate → m ∉ (port s p).acked →
     svcField bs 4 4 = (basinGen s p).code → svcField bs 5 8 = (port s p).stepCycle.toNat % 2 ^ 32 →
     inWindow s p q (preBits (port s p).gen (!presetGood (moor s (ciOf p m)).preset)) (gridAt k ph) = true →
     Goes (.stepAckReceived p d pay mar k ph) s fun t =>
       (port t p).acked = (port s p).acked ++ [m] ∧ (port t p).lane = .negotiate ∧ t.cfg = s.cfg) ∧
   (∀ (d : BitVec 32) (pay mar : List Bool) (k ph : Nat), ((port s p).lane ≠ .negotiate ∨ svcReq s p 0x83 (burstOn d pay mar) = none) →
     exec (.stepAckReceived p d pay mar k ph) s = .next s) ∧
   ((port s p).lane = .negotiate → follower s = false → (unacked s p).any (fun m => required s (ciOf p m)) = true →
     Goes (.stepAckDeadline p) s fun t => (port t p).lane = .acquire ∧ (port t p).holdUntil = some (s.cyc.n + 1000) ∧
       (port t p).attempts = (port s p).attempts + 1 ∧ (port t p).acked = [] ∧
       (∃ y ∈ (port t p).svc, y.type = 0x06 ∧ y.til = some (port s p).stepCycle) ∧ t.moors = s.moors) ∧
   ((port s p).lane = .negotiate → follower s = false → (unacked s p).any (fun m => required s (ciOf p m)) = false →
     Goes (.stepAckDeadline p) s fun t => (∀ m ∈ unacked s p, (moor t (ciOf p m)).st = .vacant) ∧ (port t p).lane = .negotiate ∧
       { t with ports := s.ports, moors := s.moors, mbx := s.mbx, host := s.host, stn := s.stn } = s) ∧
   ((port s p).lane = .negotiate → follower s = false → unacked s p = [] →
     Goes (.stepCycleStart p) s fun t => (port t p).lane = .step ∧ (port t p).gen = basinGen s p ∧ (port t p).locked = false ∧
       (port t p).squelch = true ∧ (port t p).reqs = [] ∧ (port t p).svc = [] ∧ (∀ k, k ≠ p → port t k = port s k) ∧
       { t with ports := s.ports, moors := s.moors, mbx := s.mbx, host := s.host, stn := s.stn } = s) ∧
   ((port s p).lane = .step → (port s p).locked = true → follower s = false →
     Goes (.stepGapElapsed p) s fun t => (port t p).epoch = (port s p).epoch + 1 ∧ ((port t p).lane = .train ∨ (port t p).lane = .up) ∧
       (∀ m ∈ portOrder s p, (moor t (ciOf p m)).preset = {}) ∧ t.cfg = s.cfg) ∧
   ((port s p).lane = .step → (port s p).locked = false → follower s = false →
     Goes (.stepLockTimeout p) s fun t => (port t p).lane = .acquire ∧ (port t p).gen = .bl1 ∧ (port t p).attempts = (port s p).attempts + 1) ∧
   ((port s p).lane = .train → follower s = false →
     Goes (.trainTimeout p) s fun t => (port t p).lane = .acquire ∧ (port t p).gen = .bl1 ∧ (port t p).attempts = (port s p).attempts + 1 ∧
       (port t p).locked = false) ∧
   ((port s p).lane ≠ .negotiate → exec (.stepAckDeadline p) s = .next s ∧ exec (.stepCycleStart p) s = .next s) ∧
   ((port s p).lane ≠ .step → exec (.stepGapElapsed p) s = .next s ∧ exec (.stepLockTimeout p) s = .next s) ∧
   ((port s p).lane ≠ .train → exec (.trainTimeout p) s = .next s)) ∧
  (∀ s : State, Calm s → ∀ p, p < nPorts s →
   ((port s p).lane ≠ .dark → (portOrder s p).any (fun m => admitted (moor s (ciOf p m)).st) = true → (port s p).los = false →
     Goes (.basinLos p) s fun t => (port t p).los = true ∧ t.moors = s.moors ∧
       (s.dev.porstN = true → s.dev.railHold = false → (rec? s (96 + p)).active = false → Latched t (96 + p))) ∧
   ((port s p).lane ≠ .dark → (port s p).lane ≠ .relock →
     Goes (.basinLol p) s fun t => (port t p).lane = .relock ∧ (port t p).relockFrom = (port s p).lane ∧ (port t p).locked = false ∧
       (port t p).squelch = true ∧ t.moors = s.moors ∧
       (s.dev.porstN = true → s.dev.railHold = false → (rec? s (64 + p)).active = false → Latched t (64 + p))) ∧
   ((port s p).lane = .dark → exec (.basinLol p) s = .next s ∧ exec (.basinLos p) s = .next s) ∧
   (∀ miss, (port s p).lane = .relock → (port s p).relockFrom = .up → (port s p).locked = false → pllALocked s = true →
     Goes (.basinRelockComplete p miss) s fun t => (port t p).lane = .up ∧ (port t p).locked = true ∧ (port t p).lockTick = s.now ∧
       (rec? t (64 + p)).active = false ∧ t.clk.cacheMisses = s.clk.cacheMisses + (if miss then 1 else 0) ∧
       t.clk.bands = (if miss then (bandMiss (16 * p + (port s p).gen.code) s).clk.bands else s.clk.bands) ∧
       { t with ports := s.ports, clk := s.clk, dev := s.dev, fcru := s.fcru, mbx := s.mbx, host := s.host, stn := s.stn } = s) ∧
   (∀ miss, (port s p).lane = .relock → (port s p).relockFrom ≠ .up → (port s p).gen ≠ .bl1 → (port s p).locked = false → pllALocked s = true →
     Goes (.basinRelockComplete p miss) s fun t => (port t p).lane = .acquire ∧ (port t p).gen = .bl1 ∧ (port t p).locked = false ∧ t.moors = s.moors) ∧
   (∀ miss, (port s p).lane = .acquire → (port s p).locked = false → pllALocked s = true →
     Goes (.basinRelockComplete p miss) s fun t => (port t p).locked = true ∧ (port t p).lockTick = s.now ∧ (port t p).gen = (port s p).gen) ∧
   (∀ miss, pllALocked s = false → exec (.basinRelockComplete p miss) s = .next s))

/-! ### Clocks and time -/

/-- Loss and return of a loop (R273, R275–R278): the loss of the loop that drives the timebase hands it to the other; with both lost the
cycle stops and the device faults, with the class A fault alone; PLL-A takes every lit lane to RELOCK, PLL-B every station and tandem link,
PLL-D the configuration of the PCI Express endpoint. A loop that relocks clears its source, a full search that it needed goes to the band
cache, and the first timebase loop ends TIMEBASE_LOST. A comparison beyond 5 % with the safety die's oscillator is a loss of the timebase.
The loss of PLL-A is stated where its source's level and the pending records of class A bring no reset. -/
def Obligations.ClockLoops : Prop := ∀ s : State, Calm s → s.clk.locked.length = 5 →
  (∀ l, s.clk.locked.getD (pllIndex l) false = false → exec (.pllLossOfLock l) s = .next s) ∧
  (∀ l, s.clk.locked.getD (pllIndex l) false = true → s.dev.porstN = true → s.dev.railHold = false → (rec? s (pllSource l)).active = false →
    (l = .a → faultLevel s 7 < 4 ∨ faultLevel s 7 = 4 ∧ pendingOf s 0 = 0) →
    let both := (l = .c ∧ s.clk.onE = false ∧ s.clk.locked.getD 1 false = false) ∨ (l = .e ∧ s.clk.onE = true ∧ s.clk.locked.getD 0 false = false)
    Goes (.pllLossOfLock l) s fun t => (¬ both → Latched t (pllSource l)) ∧ t.clk.locked.getD (pllIndex l) true = false ∧ t.cfg = s.cfg ∧
      (l = .c → s.clk.onE = false → s.clk.locked.getD 1 false = true → t.clk.onE = true ∧ t.cyc.running = s.cyc.running) ∧
      (l = .e → s.clk.onE = true → s.clk.locked.getD 0 false = true → t.clk.onE = false ∧ t.cyc.running = s.cyc.running) ∧
      (l = .e → s.clk.onE = false → t.clk.onE = false) ∧
      (both → (rec? s 6).active = false → s.dev.state ≠ .reset →
        t.cyc.running = false ∧ Latched t 6 ∧ t.dev.state = .faulted ∧ (rec? t (pllSource l)).active = false) ∧
      (l = .a → ∀ p, p < nPorts s → (port s p).lane ≠ .dark → (port t p).lane = .relock) ∧
      (l = .b → (∀ p, p < 8 → (stp t p).up = false) ∧ t.tan.tp0Up = false ∧ t.tan.tp1Up = false) ∧
      (l = .d → t.host.cfgReady = false)) ∧
  (∀ l miss, s.clk.locked.getD (pllIndex l) false = false → s.dev.ticksRun = true →
    Goes (.pllRelock l miss) s fun t => t.clk.locked.getD (pllIndex l) false = true ∧ (rec? t (pllSource l)).active = false ∧
      t.clk.cacheMisses = s.clk.cacheMisses + (if miss then 1 else 0) ∧
      t.clk.bands = (if miss then (bandMiss (16 * (42 + pllIndex l)) s).clk.bands else s.clk.bands) ∧
      (l = .d → t.host.cfgReady = (s.host.perstHigh && s.dev.bootRec.isSome)) ∧
      (l = .c → (rec? s 6).active = true → t.clk.onE = false ∧ (rec? t 6).active = false) ∧
      (l = .e → (rec? s 6).active = true → t.clk.onE = true ∧ (rec? t 6).active = false) ∧
      { t with clk := s.clk, fcru := s.fcru, host := s.host } = s) ∧
  (∀ l miss, s.clk.locked.getD (pllIndex l) false = true → exec (.pllRelock l miss) s = .next s) ∧
  (∀ ppm : Int, s.dev.ticksRun = true → 50000 < ppm.natAbs → (rec? s 6).active = false → s.dev.state ≠ .reset → s.dev.porstN = true →
    s.dev.railHold = false →
    Goes (.safetyOscTimebaseCheck ppm) s fun t => t.cyc.running = false ∧ Latched t 6 ∧ t.dev.state = .faulted) ∧
  (∀ ppm : Int, ppm.natAbs ≤ 50000 → exec (.safetyOscTimebaseCheck ppm) s = .next s)

/-- Domains and converter time (R255, R264, R265): a step moves its domain and never steps CT in a state with cycles, where CT slews; INC is
clamped, and the clamp counted; a slew ends where the offset has come down to its step. PPS and PTP (R257, R258, R261, R270, R271): an edge
of PPS_IN less than 0.5 s after the last is counted and ignored, another is stamped in TD0, TD1 and CT; 3 s without one leaves its domain
INVALID; an announce timeout forgets the master of the slave port, and leaves the domain INVALID unless a boundary clock may serve it itself
(log 120) or PPS_IN does; PPS_OUT rises at each new whole second of its source plus the delay, unless squelched or in RESET, and falls its
width later; and a PTP message that falls due is sent, stamped, by a port that carries the domain: peer delay requests from each, Announce
and Sync, with a Follow_Up where the port is a two-step one, from a master port. -/
def Obligations.ConverterTimeAndPtp : Prop :=
  (∀ s : State, Calm s →
   (∀ td d, td < 2 → (td ≠ s.time.active ∨ follower s = true) →
     Goes (.tdStep td d) s fun t => (t.time.dom td).ctr = (s.time.dom td).ctr.add d ∧ t.time.ct = s.time.ct ∧
       t.time.dom (1 - td) = s.time.dom (1 - td) ∧ { t with time := s.time } = s) ∧
   (∀ d, s.time.active < 2 → follower s = false → ctFollows s = true →
     Goes (.tdStep s.time.active d) s fun t => t.time.act.ctr = s.time.act.ctr.add d ∧ t.time.ct = s.time.act.ctr.add d ∧ { t with time := s.time } = s) ∧
   (∀ d, s.time.active < 2 → follower s = false → ctFollows s = false →
     Goes (.tdStep s.time.active d) s fun t => t.time.act.ctr = s.time.act.ctr.add d ∧ t.time.ct = s.time.ct ∧
       (ctOff t.time ≠ 0 → t.time.slew = true) ∧ t.cfg = s.cfg) ∧
   (∀ td v, td < 2 → Goes (.incWrite td v) s fun t => (t.time.dom td).inc = max 10732049531 (min 10742786949 v) ∧
       (t.time.dom td).clamps = (s.time.dom td).clamps + (if 10732049531 ≤ v ∧ v ≤ 10742786949 then 0 else 1) ∧
       (t.time.dom td).ctr = (s.time.dom td).ctr ∧ t.time.dom (1 - td) = s.time.dom (1 - td) ∧ { t with time := s.time } = s) ∧
   (∀ t, let a := advanceTo t s
     a.time.slew = true → ((ctOff a.time).natAbs : Int) ≤ slewStep (par s 0x32 0 2) →
     Goes (.ctSlewComplete t) s fun u => u.time.ct = a.time.ct.add (ctOff a.time) ∧ u.time.slew = false ∧ u.time.td0 = a.time.td0 ∧
       u.time.td1 = a.time.td1 ∧ u.cfg = s.cfg) ∧
   (∀ t, (advanceTo t s).time.slew = false → exec (.ctSlewComplete t) s = .next (advanceTo t s))) ∧
  (∀ s : State, Calm s →
   (∀ t f, let a := advanceTo t s
     ((∃ u, s.time.ppsTick = some u ∧ a.now - u < 200000000) →
       exec (.ppsInEdge t f) s = .next { a with time := { a.time with ppsIgnored := a.time.ppsIgnored + 1 } }) ∧
     ((∀ u, s.time.ppsTick = some u → 200000000 ≤ a.now - u) →
       Goes (.ppsInEdge t f) s fun u => u.time.ppsTick = some a.now ∧ u.time.ppsIgnored = s.time.ppsIgnored ∧
         u.time.ppsStamp = [stampAt a.time.td0.ctr ((a.time.td0.inc * f / 64 : Nat) : Int), stampAt a.time.td1.ctr ((a.time.td1.inc * f / 64 : Nat) : Int),
           stampAt a.time.ct (((ctIncrement a.time (slewStep (par s 0x32 0 2))).toNat * f / 64 : Nat) : Int)] ∧ u.cfg = s.cfg)) ∧
   (∀ td, td < 2 → onPps s td = true → (s.time.dom td).valid = true →
     Goes (.ppsInTimeout td) s fun t => (t.time.dom td).valid = false ∧ (t.time.dom td).ppsGood = 0 ∧ t.time.dom (1 - td) = s.time.dom (1 - td) ∧
       (s.time.active = td → t.time.lostSinceStart = true) ∧
       (s.dev.porstN = true → s.dev.railHold = false → (rec? s (250 + td)).active = false → Latched t (250 + td))) ∧
   (∀ td, td < 2 → onPps s td = false → exec (.ppsInTimeout td) s = .next s) ∧
   (s.time.ppsSec < ppsNow s → Goes (.ppsOutEdge true) s fun t => t.time.ppsOut = (!ppsSquelched s && s.dev.state != .reset) ∧
     t.time.ppsSec = ppsNow s ∧ t.time.ppsEdge = rheDiv ((ppsNow s * secUnits + ppsDelay s) * 64) (ppsSource s).2 ∧ { t with time := s.time } = s) ∧
   (ppsNow s ≤ s.time.ppsSec → Goes (.ppsOutEdge true) s fun t => t.time.ppsOut = s.time.ppsOut ∧ t.time.ppsEdge = s.time.ppsEdge ∧ { t with time := s.time } = s) ∧
   (s.time.ppsEdge * (ppsSource s).2 + par s 0x33 0 2 * 1000 * 2 ^ 32 * 64 ≤ ((ppsSource s).1 : Int) * 64 →
     exec (.ppsOutEdge false) s = .next { s with time := { s.time with ppsOut := false } }) ∧
   (((ppsSource s).1 : Int) * 64 < s.time.ppsEdge * (ppsSource s).2 + par s 0x33 0 2 * 1000 * 2 ^ 32 * 64 → exec (.ppsOutEdge false) s = .next s) ∧
   (∀ td, td < 2 → Goes (.announceReceiptTimeout td) s fun t =>
     (∀ p, ((s.time.dom td).ports.get p {}).st = .slave → ((t.time.dom td).ports.get p {}).ann = none) ∧
     (onPps s td = true → (t.time.dom td).valid = (s.time.dom td).valid) ∧
     (onPps s td = false → (parN s 0x31 0 0 ≠ 1 ∨ mayMaster s td = false) → (t.time.dom td).valid = false) ∧
     t.time.dom (1 - td) = s.time.dom (1 - td) ∧ t.time.ct = s.time.ct) ∧
   (∀ td p, td < 2 → p < 8 → judgeSync s = s → s.dev.state.idleOn = true → tdOnPort s td p = true → (stp s p).up = true →
     let m : PtpOut := { kind := .sync, domain := parN s 0x31 td 2, seqId := s.time.seqNo % 65536 }
     let at_ := some (stampAt (s.time.dom td).ctr (ptpLat s p true))
     let sends := fun (k : PtpKind) (l : List PtpOut) => Goes (.ptpIntervalSend td p k) s fun t =>
       t.time.sent = s.time.sent ++ l.map (fun x => (p, x)) ∧ t.time.seqNo = s.time.seqNo + 1 ∧ t.time.dom td = s.time.dom td ∧ { t with time := s.time } = s
     sends .pdelayReq [{ m with kind := .pdelayReq }] ∧
     (portState s td p = .master → sends .announce [{ m with kind := .announce, ann := some (annOut s td) }]) ∧
     (portState s td p = .master → ptpTwo s p = false → sends .sync [{ m with stamp := at_ }]) ∧
     (portState s td p = .master → ptpTwo s p = true → sends .sync [{ m with twoStep := true }, { m with kind := .followUp, stamp := at_ }]) ∧
     (portState s td p ≠ .master → exec (.ptpIntervalSend td p .sync) s = .next s ∧ exec (.ptpIntervalSend td p .announce) s = .next s)) ∧
   (∀ td p k, td < 2 → p < 8 → judgeSync s = s → (stp s p).up = false → exec (.ptpIntervalSend td p k) s = .next s))

/-! ### Test port -/

/-- The test port: its reset and the instructions that leave the pins to the device (R494, R495). The instructions that drive or float the
pins act while PORST_N or WARM_RST_N is low; elsewhere each acts as BYPASS and raises FLT_JTAG_REFUSED (R494). OTP_PROGRAM writes
OWNER_KEY_DIGEST while PORST_N is low and the digest is blank, and never again (R490, R494); CORE_DEBUG opens the cores in factory test mode
and is refused elsewhere (R387, R494). -/
def Obligations.TestPort : Prop :=
  (∀ s : State,
   exec .jtagTrst s = .next { s with jtag := {} } ∧
   (Goes .bypass s fun t => t.jtag.instr = 0 ∧ t.jtag.driving = false ∧ t.jtag.floating = false ∧ { t with jtag := s.jtag } = s) ∧
   (Goes .idcode s fun t => t.jtag.instr = 1 ∧ t.jtag.driving = false ∧ t.jtag.floating = false ∧
     t.jtag.tdo = be 4 (if s.dev.stepping = .b0 then 0x1550854F else 0x0550854F) ∧ { t with jtag := s.jtag } = s) ∧
   (∀ pins, Goes (.samplePreload pins) s fun t => t.jtag.instr = 2 ∧ t.jtag.boundary = pins ∧ t.jtag.driving = false ∧
     t.jtag.floating = false ∧ { t with jtag := s.jtag } = s) ∧
   (Goes .devkey s fun t => t.jtag.instr = 8 ∧ t.jtag.tdo = (List.range 64).map Config.deviceKey ∧ t.jtag.driving = false ∧
     t.jtag.floating = false ∧ { t with jtag := s.jtag } = s)) ∧
  (∀ (c : Instr) (k : Nat) (s : State),
   (c, k) ∈ [(.extest, 3), (.extestPulse, 4), (.extestTrain, 5), (.clamp, 6), (.highz, 7)] →
   ((s.dev.porstN = false ∨ s.dev.warmN = false) →
     Goes c s fun t => t.jtag.instr = k ∧ t.jtag.driving = (k != 7) ∧ t.jtag.floating = (k == 7) ∧ { t with jtag := s.jtag } = s) ∧
   (s.dev.porstN = true → s.dev.warmN = true → s.dev.railHold = false → (rec? s 371).active = false →
     Goes c s fun t => t.jtag.instr = 0 ∧ t.jtag.driving = false ∧ t.jtag.floating = false ∧ Latched t 371)) ∧
  (∀ s : State,
   (∀ d, s.dev.porstN = false → s.otp.ownerKey = none →
     Goes (.otpProgram d) s fun t => t.otp = { s.otp with ownerKey := some d } ∧ t.jtag.instr = 9 ∧ { t with otp := s.otp, jtag := s.jtag } = s) ∧
   (∀ d, s.dev.porstN = true ∨ s.otp.ownerKey ≠ none →
     Goes (.otpProgram d) s fun t => t.jtag.instr = 9 ∧ { t with jtag := s.jtag } = s) ∧
   (factoryMode s = true → Goes .coreDebug s fun t => t.jtag.instr = 10 ∧ t.jtag.debug = true ∧ { t with jtag := s.jtag } = s) ∧
   (factoryMode s = false → s.dev.porstN = true → s.dev.railHold = false → (rec? s 371).active = false →
     Goes .coreDebug s fun t => t.jtag.instr = 0 ∧ t.jtag.debug = s.jtag.debug ∧ Latched t 371))

/-! ### Core voltage and temperature -/

/-- A decision window of the governor (R463, R464, R468): in a governed state the command rises by the step of VSTEP_UP where the least
slack is below SLACK_LO, falls by that of VSTEP_DOWN where it is above SLACK_HI, and stands between, inside its limits; the window's
observations start afresh; below SLACK_LO with nothing left to add it raises FLT_GOV_HEADROOM. A window outside a governed state changes
nothing. -/
def Obligations.GovernorWindow : Prop := ∀ s : State,
  (governs s = false → exec .govWindowEnd s = .next s) ∧
  (∀ m, governs s = true → s.gov.sMin = some m → par s 0x60 0 0 * 25 ≤ m → m ≤ par s 0x60 0 2 * 25 →
    Goes .govWindowEnd s fun t => t.gov.sMin = none ∧ t.gov.canaryMax = 0 ∧
      (t.gov.v : Int) = (min (max (s.gov.v : Int) (max (par s 0x60 0 12 * 25) (if s.gov.recover then par s 0x60 0 14 * 25 else 6300))) 8700).toNat) ∧
  (∀ m, governs s = true → s.gov.sMin = some m → par s 0x60 0 2 * 25 < m → par s 0x60 0 0 * 25 ≤ m →
    Goes .govWindowEnd s fun t => t.gov.sMin = none ∧
      (t.gov.v : Int) = (min (max ((s.gov.v : Int) - par s 0x60 0 8 * 25) (max (par s 0x60 0 12 * 25) (if s.gov.recover then par s 0x60 0 14 * 25 else 6300))) 8700).toNat) ∧
  (∀ m v, governs s = true → s.gov.sMin = some m → m < par s 0x60 0 0 * 25 →
    v = (min (max ((s.gov.v : Int) + par s 0x60 0 6 * 25) (max (par s 0x60 0 12 * 25) (if s.gov.recover then par s 0x60 0 14 * 25 else 6300))) 8700).toNat →
    (v ≠ 8700 → Goes .govWindowEnd s fun t => t.gov.sMin = none ∧ t.gov.v = v ∧ { t with gov := s.gov, free := s.free } = s) ∧
    (v = 8700 → s.dev.porstN = true → s.dev.railHold = false → (rec? s 354).active = false →
      Goes .govWindowEnd s fun t => Latched t 354)) ∧
  exec .govRecoverHoldExpiry s = .next { s with gov := { s.gov with recover := false } }

/-- AVSBus (R458): a write or a read-back within 5.0 mV of the command is done, one that fails is tried once more and then raises
FLT_GOV_AVS and silences the governor until a status read succeeds. The monitors of VDD_CORE and of the junction temperatures are level
sources (R460, R471): raised when the limit is crossed, cleared on return, with hysteresis for the temperatures. -/
def Obligations.AvsBusAndMonitors : Prop :=
  (∀ s : State,
   (∀ v : Nat, s.gov.writePend = true → ((v : Int) - (s.gov.written : Int)).natAbs ≤ 50 →
     Goes (.avsTransactionDone (.write v)) s (fun t => t.gov.retry = false ∧ t.gov.v = s.gov.v ∧ { t with gov := s.gov } = s) ∧
     exec (.avsTransactionDone (.read v)) s = exec (.avsTransactionDone (.write v)) s) ∧
   (∀ v : Nat, s.gov.writePend = true → s.gov.retry = false → 50 < ((v : Int) - (s.gov.written : Int)).natAbs →
     exec (.avsTransactionDone (.read v)) s = .next { s with gov := { s.gov with retry := true } }) ∧
   (s.gov.writePend = true → s.gov.retry = false →
     Goes (.avsTransactionDone .failed) s fun t => t.gov = { s.gov with retry := true } ∧ { t with gov := s.gov } = s) ∧
   (s.gov.writePend = true → s.gov.retry = true → s.dev.porstN = true → s.dev.railHold = false → (rec? s 352).active = false →
     Goes (.avsTransactionDone .failed) s fun t => Latched t 352) ∧
   (s.gov.blocked = true →
     Goes (.avsTransactionDone .statusOk) s fun t => t.gov.blocked = false ∧ t.gov.written = s.gov.v ∧ t.gov.writePend = true ∧
       (rec? t 352).active = false ∧ { t with gov := s.gov, fcru := s.fcru } = s)) ∧
  (∀ s : State, s.dev.porstN = true → s.dev.railHold = false →
   ((rec? s 353).active = false → Goes .coreVoltageOutOfRange s fun t => Latched t 353) ∧
   (Goes .coreVoltageRecovered s fun t => (rec? t 353).active = false ∧ { t with fcru := s.fcru } = s) ∧
   (∀ dies : List Int, (∃ d ∈ dies, 1100 < d) → (rec? s 357).active = false →
     Goes (.thermalSample dies) s fun t => Latched t 357) ∧
   (∀ dies : List Int, dies ≠ [] → (∀ d ∈ dies, d < 1000 ∧ d < par s 0x63 0 0 * 10 - 50) →
     Goes (.thermalSample dies) s fun t => t.gov.temps = dies ∧ (rec? t 356).active = false ∧ (rec? t 357).active = false ∧
       { t with gov := s.gov, fcru := s.fcru } = s))

/-! ### Mailboxes and the host interface -/

/-- A message's way through a mailbox (R315, R316, R318, R319): its payload is written, the doorbell posts it, firmware takes it and
reserves a place for its response, a queued message enters the F2H side, and the host releases it. What a mailbox refuses (R314, R316,
R319): a doorbell on a full side, a length it has not, a write by PCI Express to a mailbox of another transport; and a message taken when 8
places are reserved is discarded, with OVERRUN. -/
def Obligations.MailboxFlow : Prop :=
  (∀ (s : State) (n : Nat),
   (∀ off bytes, pcieUp s = true → n < 8 → bytes ≠ [] → off + bytes.length ≤ 256 → (mget s n).h2fFull = false →
     Goes (.h2fPayloadWrite n off bytes) s fun t => mget t n = { mget s n with h2f := splice (mget s n).h2f off bytes } ∧
       (∀ k, k ≠ n → mget t k = mget s k) ∧ OnlyMail s t) ∧
   (∀ len, pcieUp s = true → n < 8 → 0 < len → len ≤ 256 → (mget s n).h2fFull = false →
     Goes (.h2fDoorbell n len) s fun t =>       mget t n = { mget s n with h2fFull := true, h2fLen := len, coreAwake := true } ∧
       (∀ k, k ≠ n → mget t k = { mget s k with coreAwake := (mget s k).coreAwake || k / 4 == n / 4 }) ∧ OnlyMail s t) ∧
   (s.dev.mpcReady = true → n < 16 → (mget s n).h2fFull = true → (mget s n).reserved < 8 →
     Goes (.h2fTake n) s fun t => (mget t n).h2fFull = false ∧ (mget t n).reserved = (mget s n).reserved + 1 ∧
       (mget t n).h2fCount = (mget s n).h2fCount + 1 ∧ (mget t n).h2f = (mget s n).h2f ∧ (mget t n).f2h = (mget s n).f2h ∧
       { t with mbx := s.mbx, host := s.host, stn := s.stn } = s) ∧
   (∀ x xs, s.dev.mpcReady = true → n < 16 → (mget s n).f2hFull = false → (mget s n).f2h = x :: xs →
     Goes (.f2hMessageEnter n) s fun t => (mget t n).f2hFull = true ∧ (mget t n).side = some x ∧ (mget t n).f2h = xs ∧
       (mget t n).reserved = (mget s n).reserved ∧ { t with mbx := s.mbx, host := s.host, stn := s.stn } = s) ∧
   (∀ x, pcieUp s = true → n < 8 → (mget s n).f2hFull = true → (mget s n).side = some x → x.more = false →
     Goes (.f2hRelease n) s fun t => mget t n = { mget s n with f2hFull := false, side := none } ∧
       (∀ k, k ≠ n → mget t k = mget s k) ∧ OnlyMail s t)) ∧
  (∀ (s : State) (n len : Nat), pcieUp s = true →
   (n < 8 → 0 < len → len ≤ 256 → (mget s n).h2fFull = true →
     Goes (.h2fDoorbell n len) s fun t =>       mget t n = { mget s n with rejected := true, reason := 1, rejects := cnt32 (mget s n).rejects } ∧
       (∀ k, k ≠ n → mget t k = mget s k) ∧ t.host.aerCa = s.host.aerCa + 1 ∧ t.host.aerLast = some (true, 0, 0x1004 + 0x40 * n)) ∧
   (n < 8 → (len = 0 ∨ 256 < len) →
     Goes (.h2fDoorbell n len) s fun t =>       mget t n = { mget s n with rejected := true, reason := 2, rejects := cnt32 (mget s n).rejects } ∧ OnlyMail s t) ∧
   (8 ≤ n → n < 16 →
     Goes (.h2fDoorbell n len) s fun t =>       mget t n = { mget s n with rejected := true, reason := 3, rejects := cnt32 (mget s n).rejects } ∧ OnlyMail s t) ∧
   (n < 16 → s.dev.mpcReady = true → (mget s n).h2fFull = true → 8 ≤ (mget s n).reserved →
     Goes (.h2fTake n) s fun t => (mget t n).h2fFull = false ∧ (mget t n).reserved = (mget s n).reserved ∧
       (mget t n).overruns = cnt32 (mget s n).overruns ∧ (mget t n).intStatus.getLsbD 3 = true))

/-- A sender reset of one mailbox by MBX_RESET (R322, R336): the session ends, its epoch rises and SESSION_RESET is set; its queued messages
are gone, what it had doorbelled is still executed, and no other mailbox changes. Another value of MBX_RESET does nothing, and a mailbox of
another transport rejects the write. A restart of the MPC is a receiver reset (R321, R332): every session ends, every side, queue and
reserved place is emptied, and nothing of the converter's control changes; it ends when Bybex is ready again. Before Bybex has been ready
there is nothing to reset. -/
def Obligations.MailboxResets : Prop :=
  (∀ (s : State) (n : Nat), pcieUp s = true → n < 8 →
   (∀ r, (mget s n).role = some r →
     Goes (.mbxReset n 0xA5) s fun t => (mget t n).role = none ∧ (mget t n).sessOpen = false ∧
       (mget t n).epoch = (mget s n).epoch + 1 ∧ (mget t n).intStatus.getLsbD 2 = true ∧ (mget t n).f2h = [] ∧
       (mget t n).f2hFull = false ∧ (mget t n).side = none ∧ (mget t n).h2fFull = (mget s n).h2fFull ∧ (mget t n).reserved = (mget s n).reserved ∧
       (∀ k, k ≠ n → mget t k = mget s k) ∧ { t with mbx := s.mbx, host := s.host, pound := s.pound } = s) ∧
   ((mget s n).role = none →
     Goes (.mbxReset n 0xA5) s fun t => (mget t n).epoch = (mget s n).epoch ∧ (mget t n).f2h = [] ∧ (mget t n).f2hFull = false ∧
       (mget t n).intStatus.getLsbD 2 = (mget s n).intStatus.getLsbD 2 ∧ OnlyMail s t) ∧
   (∀ v, v % 256 ≠ 0xA5 → exec (.mbxReset n v) s = .next s) ∧
   (∀ k v, 8 ≤ k → k < 16 → Goes (.mbxReset k v) s fun t =>
     mget t k = { mget s k with rejected := true, reason := 3, rejects := cnt32 (mget s k).rejects } ∧ OnlyMail s t)) ∧
  (∀ s : State,
   ((s.dev.mpcReady = true ∨ s.dev.mpcRestarting = true) →
     Goes .mpcReceiverReset s fun t => t.dev = { s.dev with mpcReady := false, mpcRestarting := true } ∧
       (∀ n, n < 16 → (mget t n).role = none ∧ (mget t n).h2fFull = false ∧ (mget t n).f2hFull = false ∧ (mget t n).f2h = [] ∧
         (mget t n).reserved = 0 ∧ (mget t n).epoch = (mget s n).epoch + (if sessionOf s n then 1 else 0)) ∧
       { t with dev := s.dev, mbx := s.mbx, host := s.host, stn := s.stn, pound := s.pound } = s) ∧
   (s.dev.mpcReady = false → s.dev.mpcRestarting = false → exec .mpcReceiverReset s = .next s) ∧
   (s.dev.mpcRestarting = true →
     exec .mpcRestartComplete s = .next { s with dev := { s.dev with mpcReady := true, mpcRestarting := false } }) ∧
   (s.dev.mpcRestarting = false → exec .mpcRestartComplete s = .next s))

/-- The PCI Express endpoint (R312, R313, R487): PERST_N high is noted, the configuration space answers when the device has an identity and
its clock, and a reset of the link ends the sessions of MBX0 to MBX7 and masks and clears the vectors (PRESUMED, log 124). Messages of MSI-X
(R313): one per occurrence while the vector is unmasked, a pending bit when it is unmasked, none while it is masked. A core whose mailboxes
hold nothing gates its domain (R317). -/
def Obligations.PcieEndpointAndVectors : Prop :=
  (∀ s : State,
   exec .pciePerstNRelease s = .next { s with host := { s.host with perstHigh := true } } ∧
   (s.host.perstHigh = true → s.dev.state ≠ .reset → s.dev.bootRec.isSome = true → s.clk.locked.getD 4 false = true →
     exec .pcieConfigReady s = .next { s with host := { s.host with cfgReady := true } }) ∧
   (s.dev.bootRec = none → exec .pcieConfigReady s = .next s) ∧
   (∀ flr, Goes (.pcieLinkReset true flr) s fun t => t.host.perstHigh = false ∧ t.host.cfgReady = false ∧ t.host.vecMask = 0xFFFFFFFF ∧ t.host.msix = [] ∧
     t.host.vecPend = 0 ∧ t.host.due = [] ∧ (flr = true → t.host.bulk0 = 0 ∧ t.host.bulk1 = 32) ∧
     (∀ n, n < 8 → sessionOf t n = false ∧ (flr = true → (mget t n).intEnable = 0)) ∧ (∀ n, 8 ≤ n → mget t n = mget s n)) ∧
   (Goes (.pcieLinkReset false false) s fun t => t.host.perstHigh = s.host.perstHigh ∧ t.host.cfgReady = s.host.cfgReady ∧
     t.host.vecMask = 0xFFFFFFFF ∧ t.host.vecPend = 0 ∧ t.host.bulk0 = s.host.bulk0 ∧ t.host.bulk1 = s.host.bulk1)) ∧
  (∀ (s : State) (v : Nat),
   (v < 32 → s.host.cfgReady = true → s.host.vecMask.getLsbD v = false → v ∈ s.host.due →
     exec (.msixVectorSend v) s = .next { s with host := { s.host with due := s.host.due.erase v, sent := s.host.sent.upd v 0 (· + 1) } }) ∧
   (v < 32 → s.host.cfgReady = true → s.host.vecMask.getLsbD v = false → v ∉ s.host.due → s.host.vecPend.getLsbD v = true →
     Goes (.msixVectorSend v) s fun t => t.host.vecPend.getLsbD v = false ∧ t.host.sent = s.host.sent.upd v 0 (· + 1) ∧
       (∀ k, k ≠ v → t.host.vecPend.getLsbD k = s.host.vecPend.getLsbD k) ∧ { t with host := s.host } = s) ∧
   (v < 32 → s.host.vecMask.getLsbD v = true → exec (.msixVectorSend v) s = .next s) ∧
   (v < 4 → (∀ i, i < 4 → (mget s (4 * v + i)).h2fFull = false) →
     Goes (.coreIdleGate v) s fun t => (∀ i, i < 4 → (mget t (4 * v + i)).coreAwake = false) ∧
       (∀ k, k / 4 ≠ v → mget t k = mget s k) ∧ OnlyMail s t) ∧
   (v < 4 → (∃ i, i < 4 ∧ (mget s (4 * v + i)).h2fFull = true) → exec (.coreIdleGate v) s = .next s))

/-- Registers a host writes over PCI Express (R310–R313, R327, R328): SCRATCH, the BULK windows and INT_ENABLE read back; a write that is
not an aligned word, and any write to the BULK window, is dropped and logged as Unsupported Request; the MSI-X table takes its messages and
masks (its layout is PRESUMED, log 124); an endpoint that is not configured takes none. The time snapshot latches the fields of the tick
after it (R256, R330), and the observer image hold is set, released by the host, and after 1 s by itself, with vector 13 (R30, R313, R327).
-/
def Obligations.HostRegistersAndSnapshot : Prop :=
  (∀ (s : State) (v : Word),
   (pcieUp s = false → ∀ bar off, exec (.registerWrite (bar, off) v) s = .next s) ∧
   (pcieUp s = true → ∀ off, off % 4 ≠ 0 →
     exec (.registerWrite (0, off) v) s = .next { s with host := { s.host with aerUr := s.host.aerUr + 1, aerLast := some (false, 0, off) } }) ∧
   (pcieUp s = true → ∀ off,
     exec (.registerWrite (2, off) v) s = .next { s with host := { s.host with aerUr := s.host.aerUr + 1, aerLast := some (false, 2, off) } }) ∧
   (pcieUp s = true → ∀ k, k < 32 → Goes (.registerWrite (4, (16 * k + 12)) v) s fun t => t.host.vecMask.getLsbD k = v.getLsbD 0 ∧
     (∀ j, j ≠ k → t.host.vecMask.getLsbD j = s.host.vecMask.getLsbD j) ∧ { t with host := s.host } = s) ∧
   (pcieUp s = true → ∀ k, k < 128 → k % 4 ≠ 3 → Goes (.registerWrite (4, (4 * k)) v) s fun t => t.host.msix.get k 0 = v ∧
     (∀ j, j ≠ k → t.host.msix.get j 0 = s.host.msix.get j 0) ∧ t.host.vecMask = s.host.vecMask ∧ { t with host := s.host } = s) ∧
   (pcieUp s = true → Goes (.registerWrite (0, 0x40) v) s fun t => regRead t 0x40 = v ∧ { t with dev := s.dev } = s) ∧
   (pcieUp s = true → Goes (.registerWrite (0, 0x20) v) s fun t => regRead t 0x20 = BitVec.ofNat 32 (v.toNat % 128) ∧
     regRead t 0x24 = regRead s 0x24 ∧ { t with host := s.host } = s) ∧
   (pcieUp s = true → Goes (.registerWrite (0, 0x24) v) s fun t => regRead t 0x24 = BitVec.ofNat 32 (v.toNat % 128) ∧
     regRead t 0x20 = regRead s 0x20 ∧ { t with host := s.host } = s) ∧
   (pcieUp s = true → ∀ n, n < 8 → Goes (.registerWrite (0, (0x1014 + 0x40 * n)) v) s fun t =>
     (mget t n).intEnable = v.setWidth 4 ∧ (∀ k, k ≠ n → mget t k = mget s k) ∧ OnlyMail s t)) ∧
  (∀ s : State,
   (∀ k, s.dev.state ≠ .reset → Goes (.snapTrigger k) s fun t => t.now = max s.now k + 1 ∧ t.time.snapDone = true ∧
     t.time.snapSeq = s.time.snapSeq + 1 ∧ t.time.snapRegs.get 0x18 0 = t.time.ct.ns.setWidth 32 ∧
     t.time.snapRegs.get 0x10 0 = t.time.ct.sec.setWidth 32 ∧ t.time.snapRegs.get 0x40 0 = t.cyc.n.setWidth 32 ∧
     t.cyc = s.cyc ∧ { t with now := s.now, time := s.time, host := s.host } = s) ∧
   (∀ b, s.dev.state ≠ .reset → exec (.observerImageHold b) s = .next { s with obs := { s.obs with hold := b } }) ∧
   (s.obs.hold = true → s.host.cfgReady = true → s.host.vecMask.getLsbD 13 = false →
     exec .holdTimeoutRelease s = .next { s with obs := { s.obs with hold := false, timeoutRel := true },
                                                 host := { s.host with due := s.host.due ++ [13] } }) ∧
   (s.obs.hold = false → exec .holdTimeoutRelease s = .next s))

/-- Emergency controls (R331, R332): EMERG_KEY with its word arms a transport that reaches it; one control alone then acts and disarms; a
write without arming, or with no bit or several, is counted and does nothing. -/
def Obligations.EmergencyControls : Prop := ∀ (s : State) (spi : Bool), reach spi s = true →
  let armed := fun x : State => if spi then x.host.armedSpi else x.host.armedPcie
  (Goes (.emergKey spi 0x5E8A#32) s fun t => armed t = true ∧ { t with host := s.host } = s) ∧
  (∀ v, v ≠ 0x5E8A#32 → exec (.emergKey spi v) s = .next s) ∧
  (Goes (.emergArmExpire spi) s fun t => armed t = false ∧ { t with host := s.host } = s) ∧
  (armed s = true → follower s = false → Goes (.hostBlock spi) s fun t => armed t = false ∧
    t.cyc.blockReq = (s.cyc.blockReq || runs s) ∧ { t with host := s.host, cyc := s.cyc } = s) ∧
  (armed s = true → s.dev.mpcReady = true → Goes (.mpcRestart spi) s fun t => t.dev.mpcRestarting = true ∧ t.dev.mpcReady = false ∧
    t.dev.state = s.dev.state) ∧
  (armed s = true → Goes (.warmReset spi) s fun t => t.dev.state = .reset ∧ t.otp = s.otp ∧ t.dev.coldStart = false ∧ armed t = false) ∧
  (∀ c, c ∈ [Instr.hostBlock spi, .mpcRestart spi, .warmReset spi] → armed s = false →
    exec c s = .next { s with host := { s.host with ignored := min 255 (s.host.ignored + 1) } }) ∧
  exec (.emergCtrlIgnored spi) s = .next { s with host := { s.host with ignored := min 255 (s.host.ignored + 1) } }

/-- The SPI management port (R322, R324–R326): SPI_STATUS leaves with every transaction; a register word is read with its CRC and written
under a CRC that must match; MBX14's sides are written, read and released, and its session ends by command or after 10 s of silence. -/
def Obligations.SpiPort : Prop := ∀ s : State, s.dev.state ≠ .reset →
  (Goes .spiStatus s fun t => t.host.miso = [spiByte s] ∧ t.host.spiSticky = 0 ∧ { t with host := s.host } = s) ∧
  (∀ off, spiReach off = true → Goes (.spiRegRead off 1) s fun t => t.host.miso.head? = some (spiByte s) ∧
    t.host.miso.drop 2 = be 4 (regRead s off).toNat ++ be 2 (crc16 (be 4 (regRead s off).toNat)).toNat ∧
    { t with host := s.host, free := s.free } = s) ∧
  (∀ v : Word, Goes (.spiRegWrite 0x40 v (crc16 (be 3 0x40 ++ be 4 v.toNat))) s fun t => regRead t 0x40 = v ∧
    t.host.miso = [spiByte s, 0x5A#8] ∧ { t with host := s.host, dev := s.dev } = s) ∧
  (∀ off (v : Word) c, crc16 (be 3 off ++ be 4 v.toNat) ≠ c → Goes (.spiRegWrite off v c) s fun t =>
    t.host.miso = [spiByte s, 0xE2#8] ∧ { t with host := s.host } = s) ∧
  (∀ p : List Byte, 0 < p.length → p.length ≤ 256 → (mget s 14).h2fFull = false →
    Goes (.spiH2fWrite p.length p (crc16 (be 2 p.length ++ p))) s fun t => t.host.miso = [spiByte s, 0x5A#8] ∧
      (mget t 14).h2fFull = true ∧ (mget t 14).h2f = p ∧ (mget t 14).h2fLen = p.length ∧ { t with host := s.host, mbx := s.mbx } = s) ∧
  (Goes .spiF2hRead s fun t => t.host.miso = spiByte s :: (be 2 (f2hBytes (mget s 14)).length ++ f2hBytes (mget s 14) ++
    be 2 (crc16 (be 2 (f2hBytes (mget s 14)).length ++ f2hBytes (mget s 14))).toNat) ∧ { t with host := s.host } = s) ∧
  (∀ x, (mget s 14).f2hFull = true → (mget s 14).side = some x → x.more = false →
    Goes .spiF2hAck s fun t => t.host.miso = [spiByte s, 0x5A#8] ∧ (mget t 14).f2hFull = false ∧ { t with host := s.host, mbx := s.mbx } = s) ∧
  ((mget s 14).f2hFull = false → Goes .spiF2hAck s fun t => t.host.miso = [spiByte s, 0xE5#8] ∧ { t with host := s.host } = s) ∧
  (Goes .spiSessionEnd s fun t => sessionOf t 14 = false ∧ t.host.miso = [spiByte s, 0x5A#8] ∧ ∀ k, k ≠ 14 → mget t k = mget s k) ∧
  (sessionOf s 14 = true → Goes .spiSessionIdleTimeout s fun t => sessionOf t 14 = false ∧
    (mget t 14).epoch = (mget s 14).epoch + 1 ∧ ∀ k, k ≠ 14 → mget t k = mget s k)

/-! ### The command set -/

/-- The order of the checks (R339): form, length, session, role, role epoch and tandem class of a class A command, device state. -/
def Obligations.ChecksInOrder : Prop := ∀ (h : BcsHdr) (c : BcsCmd) (s : State), isGhost h s = false →
  bcsCheck h c s =
    if h.version ≠ 1 ∨ h.kind ≠ 1 then .version
    else if h.bodyLen < c.len then .length
    else match (mget s h.mbx).role with
      | none => .noSession
      | some r =>
        if h.sessionEpoch ≠ (mget s h.mbx).epoch then .sessionStale
        else if roleAllows c r = false then .role
        else if c.cls = .a ∧ h.roleEpoch ≠ s.dev.roleEpoch then .roleChanged
        else if c.cls = .a ∧ s.tan.role ≠ .active then .notActive
        else if c.states s.dev.state = false then .state
        else .ok

/-- A command that fails a check is answered with that status and changes nothing else (R10, R339, R341, R349). -/
def Obligations.RejectedCommandsChangeNothing : Prop := ∀ (i : Instr) (h : BcsHdr) (c : BcsCmd) (s : State),
  bcsRow i = some (h, c) → Heard h s → bcsCheck h c s ≠ .ok → (c.cls = .f → follower s = false) →
  Goes i s fun t => Responded h c.op (bcsCheck h c s) (rejectBody c s) s t ∧ OnlyMail s t

/-- Sessions (R336, R337, R342): a challenge gives a nonce, which is the model's free value (log 8); the right answer to it opens a session,
a wrong one raises FLT_AUTH and uses the nonce up; EVENT_MASK_SET replaces the mask; the session ends after the response to SESSION_CLOSE;
and the nonce and a lock-out expire. -/
def Obligations.Sessions : Prop := ∀ (s : State) (h : BcsHdr),
  (Heard h s → openCheck h 0 s = .ok → (mget s h.mbx).locked = false →
    Goes (.sessionChallenge h) s fun t => (mget t h.mbx).nonce = some (Config.nonce s.free) ∧
      Answered h 0x01 .ok (be 16 (Config.nonce s.free).toNat) s t ∧ (∀ k, k ≠ h.mbx → mget t k = mget s k) ∧
      { t with mbx := s.mbx, free := s.free } = s) ∧
  (Heard h s → openCheck h 0 s = .ok → (mget s h.mbx).locked = true →
    Goes (.sessionChallenge h) s fun t => Responded h 0x01 .auth [] s t ∧ OnlyMail s t) ∧
  (∀ (k : Nat) (r : SessRole) (id mask : Word) (tg : List Byte) (cr : Credential),
    Heard h s → openCheck h 44 s = .ok → roleOfCode k = some r → sessionOf s h.mbx = false → authenticate h r id tg s = some cr →
    Goes (.sessionOpen h k id mask tg) s fun t => (mget t h.mbx).role = some r ∧ (mget t h.mbx).sessOpen = true ∧
      (mget t h.mbx).epoch = (mget s h.mbx).epoch + 1 ∧ (mget t h.mbx).mask = mask ∧ (mget t h.mbx).party = cr.party ∧
      (mget t h.mbx).nonce = none ∧ (mget t h.mbx).intStatus.getLsbD 2 = false ∧ (∀ j, j ≠ h.mbx → mget t j = mget s j) ∧ OnlyMail s t) ∧
  (∀ (k : Nat) (r : SessRole) (id mask : Word) (tg : List Byte),
    Heard h s → openCheck h 44 s = .ok → roleOfCode k = some r → sessionOf s h.mbx = false → authenticate h r id tg s = none →
    s.dev.porstN = true → s.dev.railHold = false →
    Goes (.sessionOpen h k id mask tg) s fun t => Latched t 291 ∧ sessionOf t h.mbx = false ∧ (mget t h.mbx).nonce = none) ∧
  (Passes h cSessionClose s → Goes (.sessionClose h) s fun t => sessionOf t h.mbx = false ∧
    (mget t h.mbx).epoch = (mget s h.mbx).epoch + 1 ∧ Answered h 0x03 .ok [] s t ∧ ∀ k, k ≠ h.mbx → mget t k = mget s k) ∧
  (∀ mask, Passes h cEventMaskSet s → Goes (.eventMaskSet h mask) s fun t => (mget t h.mbx).mask = mask ∧ Answered h 0x04 .ok [] s t ∧
    (∀ k, k ≠ h.mbx → mget t k = mget s k) ∧ OnlyMail s t) ∧
  (∀ n, n < 16 → Goes (.nonceExpiry n) s fun t => mget t n = { mget s n with nonce := none } ∧
    (∀ k, k ≠ n → mget t k = mget s k) ∧ OnlyMail s t) ∧
  (∀ n, n < 16 → Goes (.authLockoutExpiry n) s fun t => mget t n = { mget s n with locked := false, authFails := [] } ∧
    (∀ k, k ≠ n → mget t k = mget s k) ∧ OnlyMail s t)

/-- A command that reads answers with what it reads and changes nothing (R340, R342, R344–R347); an opcode that no table lists answers
ST_OPCODE (R339). -/
def Obligations.ReadCommands : Prop := ∀ (s : State) (h : BcsHdr),
  (Passes h cDeviceStatus s → Goes (.deviceStatus h) s fun t => Responded h 0x05 .ok (statusBody s) s t ∧ OnlyMail s t) ∧
  (∀ n, Passes h cStageRead s → Goes (.stageRead h n) s fun t => Responded h 0x26 .ok
    (be 2 s.pound.entries.length ++ be 1 ((s.pound.entries.drop n).take 19).length ++ be 1 0 ++
      ((s.pound.entries.drop n).take 19).flatMap (fun x => be 4 x.1 ++ beI 8 x.2)) s t ∧ OnlyMail s t) ∧
  (∀ ids, Passes h (cParamGet ids.length) s → 0 < ids.length → ids.length ≤ 19 → (∀ i ∈ ids, (paramRow s i).isSome = true) →
    Goes (.paramGet h ids) s fun t => Responded h 0x27 .ok (be 4 0 ++ ids.flatMap (fun i => be 4 i ++ beI 8 (valueInForce s i))) s t ∧ OnlyMail s t) ∧
  (∀ slot k, Passes h cSetpointGet s → slot ≤ 255 → slotStage s slot = some k →
    Goes (.setpointGet h slot) s fun t => Responded h 0x31 .ok (setpointBody s slot k) s t ∧ OnlyMail s t) ∧
  (∀ b first count, Passes h cPresetRead s → b ≤ 31 → 0 < count → count ≤ 56 → first + count ≤ 256 → portNamed s b = true →
    Goes (.presetRead h b first count) s fun t => Responded h 0x37 .ok
      ((List.range count).flatMap (fun i => be 4 (presetWord (moor s (ciOf b (first + i))).preset).toNat)) s t ∧ OnlyMail s t) ∧
  (Passes h cPulseStatus s → Goes (.pulseStatus h) s fun t => Responded h 0x43 .ok (pulseBody s) s t ∧ OnlyMail s t) ∧
  (Passes h cClockStatus s → Goes (.clockStatus h) s fun t => Responded h 0x45 .ok (clockBody s) s t ∧ OnlyMail s t) ∧
  (∀ n, Passes h cCaptureStatus s → n ≤ 15 → Goes (.captureStatus h n) s fun t => Responded h 0x52 .ok
    (be 1 (capGet s n).st.code ++ be 1 (capGet s n).cause ++ be 1 (capGet s n).coincident ++ be 1 0 ++ be 4 (capLast (capGet s n)) ++
      be 6 (capGet s n).trigCycle.toNat) s t ∧ OnlyMail s t) ∧
  (Passes h cTandemStatus s → Goes (.tandemStatus h) s fun t => Responded h 0x60 .ok (tandemBody s) s t ∧ OnlyMail s t) ∧
  (∀ op, Heard h s → formCheck h 0 = .ok → (sessionFor h s).1 = .ok →
    Goes (.unknownOpcode h op) s fun t => Responded h (op % 256) .opcode [] s t ∧ OnlyMail s t)

/-- Commands that wait for a cycle (R341, R343, R345, R346): one that a unit without a follower may take waits for the cycle it names, which
its response repeats, and has no other effect until then. -/
def Obligations.ScheduledCommands : Prop := ∀ (s : State) (h : BcsHdr) (w : When),
  (hasFollower s = false → MayName s (whenCycle s w false) →
    (Passes h cDeblock s → deblockCheck s = .ok → Goes (.deblock h w) s (Posted h 0x10 (whenCycle s w false) [] s)) ∧
    (Passes h cBlockClear s → Goes (.blockClear h w) s (Posted h 0x12 (whenCycle s w false) [] s)) ∧
    (∀ k p, Passes h cPhaseSet s → Phase.ofCode k = some p → phaseStep s.dev.phase p = true →
      Goes (.phaseSet h w k) s (Posted h 0x13 (whenCycle s w false) [(k : Int)] s)) ∧
    (∀ td, Passes h cTimeDomainSelect s → td ≤ 1 → switchBad s td = none →
      Goes (.timeDomainSelect h w td) s (Posted h 0x16 (whenCycle s w false) [(td : Int)] s)) ∧
    (∀ ci, Passes h cCellExclude s → (memberOf s ci).isSome = true → mayExclude s ci = true →
      Goes (.cellExclude h w ci) s (Posted h 0x32 (whenCycle s w false) [(ci : Int)] s)) ∧
    (∀ ci, Passes h cCellRestore s → (memberOf s ci).isSome = true → mayRestore s ci = true →
      Goes (.cellRestore h w ci) s (Posted h 0x33 (whenCycle s w false) [(ci : Int)] s)) ∧
    (∀ a b, Passes h cNodeFlagsClear s → 0 < b → b ≤ 4096 →
      Goes (.nodeFlagsClear h w a b) s (Posted h 0x40 (whenCycle s w false) [(a : Int), (b : Int)] s)) ∧
    (∀ slot es, Passes h (cSetpointSet es.length) s → slot ≤ 255 → 0 < es.length → es.length ≤ 16 → slotCheck slot es.length s = .ok →
      Goes (.setpointSet h w slot es) s fun t =>
        t.cyc.waiting = s.cyc.waiting ++ [{ waitFor h 0x30 (whenCycle s w false) [(slot : Int)] with elems := es }] ∧
        Responded h 0x30 .ok (be 6 (whenCycle s w false).toNat ++ be 1 (b2n (spClamps s slot es))) s t ∧
        { t with mbx := s.mbx, cyc := { t.cyc with waiting := s.cyc.waiting } } = s)) ∧
  (∀ cy, cy = (if w.asap then firstCycle s (2 * tccTicks s) else w.cycle) → MayName s cy →
    (Passes h cSchedStatsClear s → Goes (.schedStatsClear h w) s (Posted h 0x41 cy [] s)) ∧
    (∀ a b, Passes h cPointMinmaxClear s → Goes (.pointMinmaxClear h w a b) s (Posted h 0x42 cy [(a : Int), (b : Int)] s)) ∧
    (∀ m, Passes h cPulseFlagsClear s → Goes (.pulseFlagsClear h w m) s (Posted h 0x44 cy [(m : Int)] s)))

/-- With a follower, a class A command goes to the twin and has no effect before its confirmation (R340, R434); on a follower a class F
command is forwarded. -/
def Obligations.TransferredCommands : Prop := ∀ (s : State) (h : BcsHdr) (w : When),
  (hasFollower s = true → MayName s (whenCycle s w false) →
    (Passes h cDeblock s → deblockCheck s = .ok →
      Goes (.deblock h w) s (Transferred h (waitFor h 0x10 (whenCycle s w false) []) s)) ∧
    (Passes h cBlockClear s → Goes (.blockClear h w) s (Transferred h (waitFor h 0x12 (whenCycle s w false) []) s)) ∧
    (∀ ci, Passes h cCellExclude s → (memberOf s ci).isSome = true → mayExclude s ci = true →
      Goes (.cellExclude h w ci) s (Transferred h (waitFor h 0x32 (whenCycle s w false) [(ci : Int)]) s)) ∧
    (Passes h cTandemSwitch s → twinRole s = some .eligible → s.tan.handover = 0 →
      Goes (.tandemSwitch h w) s (Transferred h (waitFor h 0x61 (whenCycle s w false) []) s))) ∧
  (∀ b, hasFollower s = true → Passes h cBasinRestart s → b ≤ 31 → portNamed s b = true →
    Goes (.basinRestart h b) s (Transferred h (waitFor h 0x18 0 [(b : Int)]) s)) ∧
  (follower s = true → Heard h s → headCheck h cBlock s = .ok → Goes (.block h) s (Transferred h (waitFor h 0x11 0 []) s)) ∧
  (∀ p : Nat, follower s = true → Heard h s → headCheck h cSrbRequest s = .ok →
    Goes (.srbRequest h p) s (Transferred h (waitFor h 0x14 0 [(p : Int)]) s)) ∧
  (follower s = true → Heard h s → headCheck h cSrbWithdraw s = .ok → Goes (.srbWithdraw h) s (Transferred h (waitFor h 0x15 0 []) s))

/-- Commands that act when they are accepted (R184, R271, R343, R348, R401): a block request for the next boundary, a safe-ramp request and
its withdrawal, each of a session's own (R349), SECONDS for a domain served from PPS_IN, a basin port restarted at ACQUIRE, and the bypass
of a cell. -/
def Obligations.ImmediateCommands : Prop := ∀ (s : State) (h : BcsHdr),
  (Passes h cBlock s → follower s = false → Goes (.block h) s fun t => t.cyc.blockReq = (s.cyc.blockReq || runs s) ∧
    Responded h 0x11 .ok (be 6 (nextBoundary s).toNat) s t ∧ { t with mbx := s.mbx, cyc := s.cyc } = s) ∧
  (let own := (h.mbx, h.sessionEpoch);
    (∀ p, Passes h cSrbRequest s → follower s = false → p ≤ 3 → par s 0x51 p 0 ≠ 1 → own ∉ s.srb.cmd →
      (∀ r ∈ s.srb.reqs, r.cause = 3 → r.own ≠ some own) →
      Goes (.srbRequest h p) s fun t => t.srb.reqs = s.srb.reqs ++ [{ cause := 3, profile := some p, own := some own, tick := s.now }] ∧
        t.srb.cmd = s.srb.cmd ++ [own] ∧ Answered h 0x14 .ok (be 6 (firstCycle s 400).toNat) s t) ∧
    (Passes h cSrbWithdraw s → follower s = false → own ∈ s.srb.cmd →
      Goes (.srbWithdraw h) s fun t => t.srb.cmd = s.srb.cmd.erase own ∧ t.srb.reqs = s.srb.reqs.filter (fun r => r.own ≠ some own) ∧
        Answered h 0x15 .aborted (abortBody 3 (srbBoundary own s) 0 s) s t) ∧
    (∀ x, Passes h cSrbWithdraw s → follower s = false → own ∉ s.srb.cmd → s.srb.cmdDone.find? (fun x => (x.1, x.2.1) = own) = some x →
      Goes (.srbWithdraw h) s fun t => t.srb = { s.srb with cmdDone := s.srb.cmdDone.erase x } ∧
        Responded h 0x15 .completedBeforeAbort (abortBody 3 x.2.2 0 s) s t ∧ { t with mbx := s.mbx, srb := s.srb } = s) ∧
    (Passes h cSrbWithdraw s → follower s = false → own ∉ s.srb.cmd → (∀ x ∈ s.srb.cmdDone, (x.1, x.2.1) ≠ own) →
      Goes (.srbWithdraw h) s fun t => Responded h 0x15 .nothingToAbort (abortBody 3 0 0 s) s t ∧ OnlyMail s t)) ∧
  (∀ td k, Passes h cTimeSet s → td ≤ 1 → onPps s td = true → Goes (.timeSet h td k) s fun t =>
    (t.time.dom td).setSec = some k ∧ (∀ j, j ≤ 1 → j ≠ td → t.time.dom j = s.time.dom j) ∧ Responded h 0x17 .ok [] s t ∧
    { t with mbx := s.mbx, time := s.time } = s) ∧
  (∀ b, Passes h cBasinRestart s → hasFollower s = false → follower s = false → b ≤ 31 → portNamed s b = true →
    Goes (.basinRestart h b) s fun t => (port t b).lane = .acquire ∧ (port t b).attempts = 0 ∧ (port t b).locked = false) ∧
  (∀ ci, Passes h cCellBypassClose s → hasFollower s = false → ci < 65536 → cellNamed s ci = true → memberCat s ci ≠ some .active →
    Goes (.cellBypassClose h ci (ci ^^^ 0xFFFF)) s fun t => (port t (ci / 256)).bypass = (port s (ci / 256)).bypass.set (ci % 256) 2 ∧
      (∀ p, p ≠ ci / 256 → port t p = port s p)) ∧
  (∀ w, Passes h cTandemSwitch s → hasFollower s = false → follower s = false → twinRole s = some .eligible → s.tan.handover = 0 →
    MayName s (whenCycle s w false) → Goes (.tandemSwitch h w) s fun t => t.tan.handover = whenCycle s w false ∧
      Responded h 0x61 .ok (be 6 (whenCycle s w false).toNat) s t)

/-- Ranging by command and eye scans (R208, R252, R253, R345, R346, R348): MOORING_RANGE is answered and outstanding on its port, EYE_SCAN
runs on its lane; an abort ends the ranging or the scan and says so, the last count ends the scan, and an abort that finds none says that
there is nothing to abort. -/
def Obligations.OperationsAndAborts : Prop := ∀ (s : State) (h : BcsHdr),
  (∀ b m, Passes h cMooringRange s → hasFollower s = false → follower s = false → b ≤ 31 → m ≤ 255 → portNamed s b = true → moorNamed s b m = true →
    served (moor s (ciOf b m)).st = true → rangeFree s b = true →
    Goes (.mooringRange h b m) s fun t => (port t b).rangeCmd = some { mooring := m, mbx := h.mbx, tag := h.tag, epoch := h.sessionEpoch } ∧
      Answered h 0x35 .ok [] s t ∧ ∀ p, p ≠ b → port t p = port s p) ∧
  (∀ b, Passes h cMooringRangeAbort s → hasFollower s = false → follower s = false → b ≤ 31 → portNamed s b = true → (port s b).rangeCmd = none →
    Goes (.mooringRangeAbort h b) s fun t => Responded h 0x36 .nothingToAbort (abortBody 4 0 0 s) s t ∧ OnlyMail s t) ∧
  (∀ b c, Passes h cMooringRangeAbort s → hasFollower s = false → follower s = false → b ≤ 31 → portNamed s b = true → (port s b).rangeCmd = some c →
    c.completed = false → Goes (.mooringRangeAbort h b) s fun t => (port t b).rangeCmd = none ∧ Answered h 0x36 .aborted (abortBody 4 0 0 s) s t ∧
      ∀ p, p ≠ b → port t p = port s p) ∧
  (∀ l d, Passes h cEyeScan s → l ≤ 9 → 20 ≤ d → d ≤ 34 → s.stn.scan = none → scanUp s l = true →
    Goes (.eyeScan h l d) s fun t => t.stn.scan = some { lane := l, dwell := d, mbx := h.mbx, epoch := h.sessionEpoch, tag := h.tag } ∧
      { t with stn := s.stn } = s) ∧
  (∀ x counts, s.stn.scan = some x → Goes (.eyeScanComplete counts) s fun t => t.stn.scan = none ∧
    t.stn.scanDone = some (s.cyc.n, tickPhase s) ∧ { t with stn := s.stn, mbx := s.mbx } = s) ∧
  (∀ x, Passes h cEyeScanAbort s → s.stn.scan = some x → Goes (.eyeScanAbort h) s fun t => t.stn.scan = none ∧
    Answered h 0x47 .aborted (abortBody 5 0 0 s) s t ∧ { t with stn := s.stn, mbx := s.mbx } = s) ∧
  (Passes h cEyeScanAbort s → s.stn.scan = none → s.stn.scanDone = none →
    Goes (.eyeScanAbort h) s fun t => Responded h 0x47 .nothingToAbort (abortBody 5 0 0 s) s t ∧ OnlyMail s t)

/-! ### Staging area -/

/-- PLATE_LOAD (R352–R354): BEGIN takes the staging area for its session, DATA appends in order, and END takes the image as the staged plate
where the checks of R354 pass, and empties the area where one fails. -/
def Obligations.PlateLoad : Prop := ∀ (s : State) (h : BcsHdr),
  (∀ (n : Nat) (d : List Byte), Passes h (cPlateLoad 40) s → 0 < n → n ≤ 4194304 → poundBusy h s = false → s.pound.entries = [] →
    Goes (.plateLoadBegin h n d) s fun t => t.pound.owner = some (h.mbx, h.sessionEpoch) ∧ t.pound.load = some (n, d) ∧ t.pound.image = [] ∧
      t.pound.plate = none ∧ t.pound.check = none ∧ t.pound.signs = [] ∧ Responded h 0x20 .ok [] s t ∧ { t with mbx := s.mbx, pound := s.pound } = s) ∧
  (∀ (o : Nat) (d : List Byte), Passes h (cPlateLoad 8) s → poundBusy h s = false → s.pound.load.isSome = true → o = s.pound.image.length →
    Goes (.plateLoadData h o d) s fun t => t.pound.image = s.pound.image ++ d ∧ t.pound.load = s.pound.load ∧ Responded h 0x20 .ok [] s t ∧
      { t with mbx := s.mbx, pound := s.pound } = s) ∧
  (∀ (o : Nat) (d : List Byte), Passes h (cPlateLoad 8) s → poundBusy h s = false → (s.pound.load = none ∨ o ≠ s.pound.image.length) →
    Goes (.plateLoadData h o d) s fun t => Responded h 0x20 .sequence [] s t ∧ OnlyMail s t) ∧
  (∀ (p : Plate) (n : Nat) (d : List Byte), Passes h (cPlateLoad 1) s → poundBusy h s = false → s.pound.load = some (n, d) → loadCheck s n d p = .ok →
    Goes (.plateLoadEnd h p) s fun t => t.pound.plate = some (plateOf s.pound.image d p) ∧ t.pound.load = none ∧
      t.pound.image = s.pound.image ∧ t.pound.owner = some (h.mbx, h.sessionEpoch) ∧ { t with mbx := s.mbx, pound := s.pound } = s) ∧
  (∀ (p : Plate) (n : Nat) (d : List Byte), Passes h (cPlateLoad 1) s → poundBusy h s = false → s.pound.load = some (n, d) → loadCheck s n d p ≠ .ok →
    Goes (.plateLoadEnd h p) s fun t => Responded h 0x20 (loadCheck s n d p) [] s t ∧ t.pound.plate = none ∧ t.pound.image = [] ∧ t.pound.owner = none ∧
      { t with mbx := s.mbx, pound := s.pound } = s)

/-- The way of a change through the staging area (R344, R356–R363, R369): set, checked, countersigned, committed for its cycle, or aborted.
STAGE_SET of a session that does not own the area, or while a commit is pending, is turned away. -/
def Obligations.StagedChanges : Prop := ∀ (s : State) (h : BcsHdr),
  (∀ es, Passes h (cStageSet es.length) s → 0 < es.length → es.length ≤ 19 → poundBusy h s = false → s.pound.plate = none → s.pound.load = none →
    entriesCheck s es = .ok → (entriesAdd s es).length ≤ 512 →
    Goes (.stageSet h es) s fun t => t.pound.entries = entriesAdd s es ∧ t.pound.owner = some (h.mbx, h.sessionEpoch) ∧ t.pound.check = none ∧
      t.pound.signs = [] ∧ Responded h 0x21 .ok (be 2 (entriesAdd s es).length) s t ∧ { t with mbx := s.mbx, pound := s.pound } = s) ∧
  (∀ es, Passes h (cStageSet es.length) s → 0 < es.length → es.length ≤ 19 → poundBusy h s = true →
    Goes (.stageSet h es) s fun t => Responded h 0x21 .busy [] s t ∧ OnlyMail s t) ∧
  (∀ c, Passes h cStageCheck s → poundBusy h s = false → s.pound.checking = none → candOf s = some c →
    Goes (.stageCheck h) s fun t => t.pound = { s.pound with checking := some (h.mbx, h.sessionEpoch, h.tag) } ∧ { t with pound := s.pound } = s) ∧
  (∀ c x, s.pound.checking = some x → candOf { s with pound := { s.pound with checking := none } } = some c →
    (checkFail { s with pound := { s.pound with checking := none } } c).1 = 0 →
    Goes .stageCheckComplete s fun t => t.pound.check = some (changeDigest s, protectionClass s) ∧ t.pound.checking = none ∧
      t.pound.entries = s.pound.entries ∧ { t with mbx := s.mbx, pound := s.pound, free := s.free } = s) ∧
  (∀ (d : List Byte) (prot : Bool) (r : SessRole) (party : Nat), Passes h cStageCountersign s → sessionFor h s = (.ok, r, party) → s.pound.check = some (d, prot) →
    s.pound.signs = [] →
    Goes (.stageCountersign h d) s fun t => t.pound = { s.pound with signs := [(party, r)] } ∧ Responded h 0x23 .ok (be 1 1) s t ∧
      { t with mbx := s.mbx, pound := s.pound } = s) ∧
  (∀ w d, Passes h cStageCommit s → hasFollower s = false → s.pound.plate = none → poundBusy h s = false → commitCheck d s = .ok →
    acceptCheck s (whenCycle s w false) 800 = .ok →
    Goes (.stageCommit h w d) s fun t => t.pound.commit = some (whenCycle s w false, h.mbx, h.tag, false) ∧ t.cfg.par = s.cfg.par ∧
      t.cfg.stages = s.cfg.stages ∧ t.clk.active = s.clk.active ∧ Responded h 0x24 .ok (be 6 (whenCycle s w false).toNat) s t) ∧
  (∀ w d, Passes h cStageCommit s → s.pound.plate = none → poundBusy h s = false → cycleFar s (whenCycle s w false) = false → commitCheck d s ≠ .ok →
    Goes (.stageCommit h w d) s fun t => Responded h 0x24 (commitCheck d s) (be 6 s.cyc.n.toNat) s t ∧ OnlyMail s t) ∧
  (Passes h cStageAbort s → hasFollower s = false → abortRole h s = true → s.pound.commit = none → poundEmpty s = false →
    Goes (.stageAbort h) s fun t => poundEmpty t = true ∧ t.pound.owner = none ∧ t.pound.check = none ∧ t.pound.signs = [] ∧ t.cfg = s.cfg ∧
      Responded h 0x25 .ok (be 2 256 ++ be 16 0) s t) ∧
  (Passes h cStageAbort s → hasFollower s = false → abortRole h s = true → s.pound.commit = none → poundEmpty s = true → s.pound.target = none →
    Goes (.stageAbort h) s fun t => Responded h 0x25 .nothingToAbort (abortBody 1 0 0 s) s t ∧ OnlyMail s t)

/-! ### Fault records -/

/-- A record is read, which sets its READ, and acknowledged, which clears its LATCHED, under the LAST_SEQ it was read with and with its
source clear (R380, R385). -/
def Obligations.FaultRecords : Prop := ∀ (s : State) (h : BcsHdr) (src : Nat),
  (Passes h cFaultRead s → src ≤ 511 → (faultInfo src).isSome = true → (rec? s src).occurrences ≠ 0 →
    Goes (.faultRead h src) s fun t => rec? t src = { rec? s src with read := true } ∧ (∀ k, k ≠ src → rec? t k = rec? s k) ∧
      Responded h 0x48 .ok (be 4 s.fcru.seq.toNat ++ causeBytes src { rec? s src with read := true }) s t ∧ { t with mbx := s.mbx, fcru := s.fcru } = s) ∧
  (Passes h cFaultRead s → src ≤ 511 → (faultInfo src).isSome = true → (rec? s src).occurrences = 0 →
    Goes (.faultRead h src) s fun t => Responded h 0x48 .ok (be 4 s.fcru.seq.toNat ++ be 60 0) s t ∧ OnlyMail s t) ∧
  (Passes h cFaultAck s → src ≤ 511 → Latched s src → (rec? s src).active = false →
    Goes (.faultAck h src (rec? s src).lastSeq) s fun t => rec? t src = { rec? s src with latched := false } ∧ (∀ k, k ≠ src → rec? t k = rec? s k) ∧
      Responded h 0x49 .ok [] s t ∧ { t with mbx := s.mbx, fcru := s.fcru } = s) ∧
  (∀ q, Passes h cFaultAck s → src ≤ 511 → Latched s src → (rec? s src).lastSeq ≠ q →
    Goes (.faultAck h src q) s fun t => Responded h 0x49 .sequence [] s t ∧ OnlyMail s t) ∧
  (Passes h cFaultAck s → src ≤ 511 → Latched s src → (rec? s src).active = true →
    Goes (.faultAck h src (rec? s src).lastSeq) s fun t => Responded h 0x49 .state [] s t ∧ OnlyMail s t) ∧
  (∀ q, Passes h cFaultAck s → src ≤ 511 → ¬ Latched s src →
    Goes (.faultAck h src q) s fun t => Responded h 0x49 .notFound [] s t ∧ OnlyMail s t)

/-- Firmware's trap leaves the queue of traps with the diagnostic state, free bytes of the model (log 10), in the trap area (R372, R381); a
level source's condition ends and the source clears (R371); and an injection, in factory test mode alone, latches its source's record,
unless the variant lacks the resource of the source (R2, R387, R388). The key words of INJECT_KEY over PCI Express (R387): the first starts
the sequence, each right one within 1 ms of the one before carries it on, the third makes the unit ISOLATED in factory test mode, and a
wrong one starts again. Without the strap none acts. -/
def Obligations.TrapsAndInjection : Prop :=
  (∀ (s : State) (src : Nat),
   (src < 512 → s.dev.mpcReady = true → src ∈ s.fcru.traps → Sound s →
     Goes (.trapEntry src) s fun t => t.fcru.traps = s.fcru.traps.erase src ∧
       (∀ a, (a < trapBase ∨ trapBase + trapSize ≤ a) → Memory.read t.store a = Memory.read s.store a) ∧ { t with fcru := s.fcru, store := s.store } = s) ∧
   (src < 512 → src ∉ s.fcru.traps → exec (.trapEntry src) s = .next s) ∧
   (∀ f, src < 512 → faultInfo src = some f → f.level = true →
     Goes (.levelSourceClear src) s fun t => (rec? t src).active = false ∧ (∀ k, k ≠ src → rec? t k = rec? s k) ∧ { t with fcru := s.fcru } = s) ∧
   (∀ h f, factoryMode s = true → Passes h cFaultInject s → src ≤ 511 → faultInfo src = some f → faultAbsent s.dev.variant src = false →
     Goes (.faultInject h src) s fun t => Latched t src) ∧
   (∀ h f, factoryMode s = true → Passes h cFaultInject s → src ≤ 511 → faultInfo src = some f → faultAbsent s.dev.variant src = true →
     Goes (.faultInject h src) s fun t => Responded h 0x7F .ok [] s t ∧ OnlyMail s t) ∧
   (∀ h, factoryMode s = false → Heard h s → formCheck h 0 = .ok → (sessionFor h s).1 = .ok →
     Goes (.faultInject h src) s fun t => Responded h 0x7F .opcode [] s t ∧ OnlyMail s t)) ∧
  (∀ (s : State) (t0 : Nat), t0 ≤ s.now →
   (∀ v, s.dev.testStrap = false → exec (.injectKey v t0) s = .next s) ∧
   (pcieUp s = true → s.dev.testStrap = true → s.dev.keyStep = 0 →
     exec (.injectKey 0x7E570A11#32 t0) s = .next { s with dev := { s.dev with keyStep := 1, keyTick := s.now } }) ∧
   (pcieUp s = true → s.dev.testStrap = true → s.dev.keyStep = 1 → s.now - s.dev.keyTick ≤ 400000 →
     exec (.injectKey 0x7E57B0B2#32 t0) s = .next { s with dev := { s.dev with keyStep := 2, keyTick := s.now } }) ∧
   (pcieUp s = true → s.dev.testStrap = true → s.dev.keyStep = 2 → s.now - s.dev.keyTick ≤ 400000 →
     Goes (.injectKey 0x7E57C0C3#32 t0) s fun t => factoryMode t = true ∧ t.tan.role = .isolated) ∧
   (∀ v, pcieUp s = true → s.dev.testStrap = true → s.dev.keyStep = 1 → v ≠ 0x7E57B0B2#32 →
     exec (.injectKey v t0) s = .next { s with dev := { s.dev with keyStep := 0 } }))

/-! ### Captures -/

/-- A capture channel (R441, R443, R447, R449, R453): CAPTURE_ARM starts it with a fresh header and, for a histogram or a map, with empty
bins, and touches no byte outside its share; the last sample makes it DONE; an abort closes it, and an abort that comes too late, or of a
channel that neither waits nor records, says so. A trigger that is enabled belongs, on each listening channel, to the sample of the same
tick, which an armed channel takes as its trigger sample, or else to the next one (R452); it touches no other channel and nothing outside
the captures. -/
def Obligations.CaptureChannels : Prop := ∀ (s : State) (h : BcsHdr) (c : Nat),
  (∀ a, Passes h cCaptureArm s → Sound s → armCheck s c a = .ok →
    Goes (.captureArm h c a) s fun t => (capGet t c).arm = a ∧ (capGet t c).st = (if a.preCount = 0 then .armed else .preFill) ∧
      (capGet t c).armSeq = (capGet s c).armSeq + 1 ∧ (capGet t c).written = 0 ∧ (∀ k, k ≠ c → capGet t k = capGet s k) ∧
      (∀ x, (x < capBase s c ∨ capBase s c + capShare s c ≤ x) → Memory.read t.store x = Memory.read s.store x) ∧
      (a.mode ≠ 0 → ∀ x, capBase s c + 64 ≤ x → x < capBase s c + armBytes a → Memory.read t.store x = 0) ∧
      Responded h 0x50 .ok (be 4 (capBase s c) ++ be 4 (armBytes a)) s t ∧ { t with mbx := s.mbx, cap := s.cap, store := s.store } = s) ∧
  (c < 16 → (capGet s c).st = .postTrigger → (capGet s c).left = 0 →
    Goes (.captureDone c) s fun t => capGet t c = { capGet s c with st := .done } ∧ (∀ k, k ≠ c → capGet t k = capGet s k)) ∧
  (c < 16 → (capGet s c).st ≠ .postTrigger → exec (.captureDone c) s = .next s) ∧
  (Passes h cCaptureAbort s → c ≤ 15 → (capGet s c).doneAt = none → armFree (capGet s c) = false → capLive (capGet s c) = true →
    Goes (.captureAbort h c) s fun t => (capGet t c).st = .idle ∧ (capGet t c).aborted = true ∧ (∀ k, k ≠ c → capGet t k = capGet s k) ∧
      Answered h 0x51 .aborted (abortBody 2 0 0 s) s t) ∧
  (Passes h cCaptureAbort s → c ≤ 15 → (capGet s c).doneAt = none → (armFree (capGet s c) = true ∨ capLive (capGet s c) = false) →
    Goes (.captureAbort h c) s fun t => Responded h 0x51 .nothingToAbort (abortBody 2 0 0 s) s t ∧ OnlyMail s t) ∧
  (∀ n k, Passes h cCaptureAbort s → c ≤ 15 → (capGet s c).doneAt = some (n, k) →
    Goes (.captureAbort h c) s fun t => Responded h 0x51 .completedBeforeAbort (abortBody 2 n k s) s t ∧ (capGet t c).st = (capGet s c).st) ∧
  (∀ g k, g < 8 → k ≤ s.now → parN s 0x62 g 0 = 0 → exec (.triggerFire g k) s = .next s) ∧
  (∀ g k, g < 8 → k ≤ s.now → parN s 0x62 g 0 ≠ 0 → Goes (.triggerFire g k) s fun t =>
    { t with cap := s.cap, store := s.store } = s ∧
    ∀ n, let x := capGet s n
      (x.arm.trgMask.getLsbD g = false → capGet t n = x) ∧
      (x.arm.trgMask.getLsbD g = true → capLive x = true → x.lastTick ≠ some s.now →
        (capGet t n).fired = x.fired ||| 2 ^ g ∧ (capGet t n).st = x.st) ∧
      (x.arm.trgMask.getLsbD g = true → x.st = .armed → x.lastArmed = true → x.lastTick = some s.now →
        (capGet t n).st = .postTrigger ∧ (capGet t n).trigCycle = x.lastCyc ∧ (capGet t n).trigTick = x.lastTk))

/-! ### Station ports -/

/-- Frames of the station ports (R22, R231, R233–R235, R239–R241, R244, R246, R248): a port that is down, or before IDLE, takes none; a
frame too long, with two tags or a bad check is counted; a pause is counted; a frame to another address is dropped; a message of a
subscription waits for the cutoff, a sample of a stream enters its buffer, an echo request is answered, and a frame that no function takes
is discarded and counted. A published block that falls due is repeated with the next SqNum on its ports, and a pair's supervision frame is
sent on both under the pair's next sequence number. -/
def Obligations.StationFrames : Prop := ∀ s : State,
  (∀ p f t, p < 8 → ((stp s p).up = false ∨ s.dev.state.idleOn = false) → exec (.stationFrameReceived p f t) s = .next (advanceTo t s)) ∧
  (∀ (p : Nat) (f : StFrame) (t : Nat), p < 8 → (stp s p).up = true → s.dev.state.idleOn = true →
    let a := advanceTo t s
    let counted := fun (g : StPort → StPort) => exec (.stationFrameReceived p f t) s = .next { a with stn := { a.stn with ports := a.stn.ports.upd p {} g } }
    let sound := f.len ≤ 1522 ∧ f.tags ≤ 1 ∧ f.fcsGood = true ∧ 64 ≤ f.len ∧ inPair s p = false
    let dropped := Goes (.stationFrameReceived p f t) s fun u => stp u p = { stp s p with rxFrames := (stp s p).rxFrames + 1, discards := (stp s p).discards + 1 } ∧
        (∀ q, q ≠ p → stp u q = stp s q) ∧ { u with stn := s.stn } = a
    (1522 < f.len → counted fun x => { x with long := x.long + 1 }) ∧
    (f.len ≤ 1522 → 1 < f.tags → counted fun x => { x with tagged := x.tagged + 1 }) ∧
    (f.len ≤ 1522 → f.tags ≤ 1 → f.fcsGood = false → counted fun x => { x with badFcs := x.badFcs + 1 }) ∧
    (f.len ≤ 1522 → f.tags ≤ 1 → f.fcsGood = true → 64 ≤ f.len → f.payload = .pause → counted fun x => { x with pauses := x.pauses + 1 }) ∧
    (sound → f.payload ≠ .pause → dstNamed s p f.dst = false → counted fun x => { x with rxFrames := x.rxFrames + 1 }) ∧
    (sound → dstNamed s p f.dst = true → f.payload = .unknown → dropped) ∧
    (∀ g, sound → dstNamed s p f.dst = true → f.payload = .goose g → f.etherType = 0x88B8 → safetyType s ≠ 0x88B8 →
      (portServes s p 1 = false ∨ (∀ x ∈ gooseDefs s, gooseSub p f.dst g x.2 = false) ∧ ∀ x ∈ pubDefs s, gooseTwin s p f.dst g x.2 = false) → dropped) ∧
    (∀ g k d, sound → dstNamed s p f.dst = true → f.payload = .goose g → f.etherType = 0x88B8 → safetyType s ≠ 0x88B8 →
      portServes s p 1 = true → (gooseDefs s).filter (fun x => gooseSub p f.dst g x.2) = [(k, d)] →
      (∀ x ∈ pubDefs s, gooseTwin s p f.dst g x.2 = false) → g.confRev = d.confRev → g.simulation = false → (subGet s k).seen = false →
      Goes (.stationFrameReceived p f t) s fun u => (subGet u k).pend = (subGet s k).pend ++ [g] ∧ (subGet u k).stNum = g.stNum ∧
        (subGet u k).sqNum = g.sqNum ∧ (subGet u k).seen = true ∧ (subGet u k).lost = false ∧
        { u with stn := s.stn, fcru := s.fcru } = a) ∧
    (∀ appid x k d, sound → dstNamed s p f.dst = true → f.payload = .sv appid [x] → f.etherType = 0x88BA → safetyType s ≠ 0x88BA →
      portServes s p 0 = true → (svDefs s).filter (fun y => svMatch p f.dst appid x y.2) = [(k, d)] → x.confRev = d.confRev →
      Goes (.stationFrameReceived p f t) s fun u => (svGet u k).lastCnt = some x.smpCnt ∧ (svGet u k).synch = x.smpSynch ∧
        (∃ y, (svGet u k).buf.head? = some y ∧ y.2.1 = x.qtys) ∧ { u with stn := s.stn, free := s.free } = a) ∧
    (∀ src data, sound → dstNamed s p f.dst = true → f.payload = .icmpEcho src (ownIp s p) data → f.etherType = 0x0800 → safetyType s ≠ 0x0800 →
      portServes s p 3 = true → hasAddress s p = true → ((stp s p).rateSec ≠ a.now / 400000000 ∨ (stp s p).rateCount.get 2 0 < 2000) →
      Goes (.stationFrameReceived p f t) s fun u => (stp u p).icmpArp = (stp s p).icmpArp + 1 ∧
        (∃ x, u.stn.sent = s.stn.sent ++ [x] ∧ x.port = p ∧ x.dst = f.srcMac ∧ x.body = .icmpReply src data) ∧ { u with stn := s.stn } = a)) ∧
  (∀ k d, k < 32 → (pubDefs s).find k = some d → maySend s d = true → (s.stn.pubs.get k {}).sent.isSome = true →
    Goes (.gooseRetransmit k) s fun t =>
      let x := s.stn.pubs.get k {}
      let y := t.stn.pubs.get k {}
      y.sqNum = x.sqNum + 1 ∧ y.stNum = x.stNum ∧ y.interval = min (2 * x.interval) (d.t0 * 1000) ∧ y.messages = x.messages + 1 ∧
      (∀ p, p < 8 → d.ports.testBit p = true → (stp s p).up = true → inPair s p = false →
        ∃ f ∈ t.stn.sent, f.port = p ∧ f.dst = d.dst ∧ f.body = .goose k y.stNum y.sqNum y.ttl (x.sent.getD [])) ∧
      { t with stn := s.stn } = s) ∧
  (∀ k, k < 32 → (s.stn.pubs.get k {}).sent = none → exec (.gooseRetransmit k) s = .next s) ∧
  (∀ q, q < 2 → pairOn s q = true → Goes (.prpSupervisionSend q) s fun t => t.stn.prpSup.get q 0 = s.stn.prpSup.get q 0 + 1 ∧
      t.stn.prpSeq.get q 0 = s.stn.prpSeq.get q 0 + 1 ∧
      (∀ l, l < 2 → (stp s (2 * q + l)).up = true → ∃ f ∈ t.stn.sent, f.port = 2 * q + l ∧ f.dst = supAddr ∧ f.etherType = 0x88FB) ∧
      { t with stn := s.stn } = s) ∧
  (∀ q, q < 2 → pairOn s q = false → exec (.prpSupervisionSend q) s = .next s)

/-- Supervision of the station ports (R229, R232, R240, R246, R251): a subscription whose time to live runs out, a silent LAN of a pair and
a link that drops raise their sources; a link comes up from IDLE on, on a locked PLL-B; a mailbox datagram is repeated five times, and then,
or after 10 s of silence, the transport session is lost and its mailbox's session ends. -/
def Obligations.StationSupervision : Prop := ∀ s : State, Calm s → s.dev.porstN = true → s.dev.railHold = false →
  (∀ k, k < 128 → (subGet s k).seen = true → (subGet s k).lost = false → Goes (.gooseTimeout k) s fun t => (subGet t k).lost = true ∧
      (∀ j, j ≠ k → subGet t j = subGet s j) ∧ ((rec? s 278).active = false → Latched t 278)) ∧
  (∀ k, k < 128 → (subGet s k).seen = false → exec (.gooseTimeout k) s = .next s) ∧
  (∀ q l, q < 2 → l < 2 → pairOn s q = true → (rec? s (260 + 2 * q + l)).active = false →
    Goes (.prpLanSilent q l) s fun t => Latched t (260 + 2 * q + l)) ∧
  (∀ q l, q < 2 → l < 2 → pairOn s q = false → exec (.prpLanSilent q l) s = .next s) ∧
  (∀ p, p < 8 → (stp s p).up = true → Goes (.stationLinkDown p) s fun t => (stp t p).up = false ∧ (∀ q, q ≠ p → stp t q = stp s q) ∧
      ((rec? s (252 + p)).active = false → Latched t (252 + p))) ∧
  (∀ p, p < 8 → (stp s p).up = false → exec (.stationLinkDown p) s = .next s) ∧
  (∀ p, p < 8 → (stp s p).up = false → par s 0x30 p 0 ≠ 0 → s.dev.state.idleOn = true → s.clk.locked.getD 3 false = true →
    Goes (.stationLinkUp p) s fun t => (stp t p).up = true ∧ (∀ q, q ≠ p → stp t q = stp s q) ∧ (rec? t (252 + p)).active = false ∧
      { t with stn := s.stn, fcru := s.fcru, mbx := s.mbx, host := s.host } = s) ∧
  (∀ p, p < 8 → s.clk.locked.getD 3 false = false → exec (.stationLinkUp p) s = .next s) ∧
  (∀ n b, n < 16 → s.stn.binds.find n = some b → b.outstanding = true → b.repeats < 5 →
    Goes (.f2hDataResend n) s fun t => t.stn.binds.find n = some { b with repeats := b.repeats + 1 } ∧ t.mbx = s.mbx ∧
      (∃ x, t.stn.outbox.getLast? = some x ∧ x.kind = .f2hData ∧ x.mbx = n ∧ x.sq = b.f2hSeq) ∧ { t with stn := s.stn } = s) ∧
  (∀ n b, n < 16 → s.stn.binds.find n = some b → b.outstanding = true → 5 ≤ b.repeats →
    Goes (.f2hDataResend n) s fun t => t.stn.binds.find n = none ∧ sessionOf t n = false ∧ b.host ∈ t.stn.lostHosts) ∧
  (∀ n b, n < 16 → s.stn.binds.find n = some b →
    Goes (.udpSessionTimeout n) s fun t => t.stn.binds.find n = none ∧ sessionOf t n = false ∧ b.host ∈ t.stn.lostHosts ∧
      ∀ k, k ≠ n → mget t k = mget s k) ∧
  (∀ n, n < 16 → s.stn.binds.find n = none → exec (.f2hDataResend n) s = .next s ∧ exec (.udpSessionTimeout n) s = .next s)

/-! ### Grid Edge Timer and pulse engine -/

/-- Edges of the Grid Edge Timer (R280–R286): the first edge of a sample, of an input that is on, is stamped in converter time and ends
coasting and standstill; one that follows the last of its input too soon is counted as fast and used for nothing; without edges a point
coasts and then stands still, with its sequence unknown and the edge of phase a alone left to place the phase. -/
def Obligations.GridEdges : Prop := ∀ s : State, Calm s →
  (∀ (i : Nat) (rise : Bool) (eu : Nat), i < 6 →
    let a := advanceTo (eu / 64) s
    let p := i / 3
    let inst := ctNow a + eu % 64 * (ctIncrement a.time (slewStep (par s 0x32 0 2))).toNat / 64
    let on := s.dev.state.loadedOn = true ∧ par s 0x34 i 0 = 1 ∧ rise = (par s 0x34 i 2 == 0)
    (¬ on → exec (.geEdge i rise eu) s = .next a) ∧
    (on → isFast a p (i % 3) inst (getPt s p) = true → Goes (.geEdge i rise eu) s fun t =>
      (getPt t p).fast = (getPt s p).fast + 1 ∧ (getPt t p).last = (getPt s p).last ∧ (getPt t p).freq = (getPt s p).freq ∧
      getPt t (1 - p) = getPt s (1 - p) ∧ t.getLast = s.getLast ∧
      ((getPt s p).fastTick = none → s.dev.porstN = true → s.dev.railHold = false → Latched t (246 + p))) ∧
    (on → isFast a p (i % 3) inst (getPt s p) = false → (∀ g, s.getLast = some g → g.tick ≠ a.now) → Goes (.geEdge i rise eu) s fun t =>
      (∃ g, t.getLast = some g ∧ g.tick = a.now ∧ g.edges = [(i, inst)]) ∧
      (getPt t p).last.find (i % 3) = some inst ∧ (getPt t p).newest = some (inst, i % 3, false) ∧ (getPt t p).coasting = false ∧
      (getPt t p).standstill = false ∧ (getPt t p).fast = (getPt s p).fast ∧ getPt t (1 - p) = getPt s (1 - p) ∧ (rec? t (244 + p)).active = false ∧
      t.cfg = s.cfg)) ∧
  (∀ p, p < 2 → (getPt s p).standstill = false → s.dev.state.loadedOn = true →
    Goes (.getCoasting p) s (fun t => getPt t p = { getPt s p with coasting := true } ∧ getPt t (1 - p) = getPt s (1 - p) ∧ t.getLast = none ∧ t.cfg = s.cfg) ∧
    Goes (.getStandstill p) s fun t => (getPt t p).standstill = true ∧ (getPt t p).coasting = false ∧ (getPt t p).valid = false ∧ (getPt t p).freq = 0 ∧
      (getPt t p).seq = 0 ∧ (getPt t p).phaseEdge = ((getPt s p).last.find 0).map (fun u => (u, 0)) ∧ getPt t (1 - p) = getPt s (1 - p) ∧ t.getLast = none ∧
      (s.dev.porstN = true → s.dev.railHold = false → (rec? s (244 + p)).active = false → Latched t (244 + p))) ∧
  (∀ p, p < 2 → (getPt s p).standstill = true → exec (.getCoasting p) s = .next (getClose s) ∧ exec (.getStandstill p) s = .next (getClose s))

/-- Positions of a pulse channel (R296–R298, R300, R304). A running channel starts its next period where its counter passes PERIOD − 1: the
shadow values that are to be loaded transfer, the counter counts from that position, and trips are forgotten but for inputs that are still
qualified. At a compare or timing position of a running channel the outputs follow the rule of R298 exactly, here where no mask node is
named. The two outputs of a channel that are not both on are never on together after either. -/
def Obligations.PulsePositions : Prop := ∀ (s : State) (c eu : Nat), c < 12 →
  let due := (pch s c).p0 + ((pch s c).period - (pch s c).k0)
  (Calm s → s.cyc.running = true → (pch s c).running = true → 0 < (pch s c).period → due ≤ eu → Goes (.periodStart c eu) s fun t =>
    let y := (pch s c).transfer due
    (pch t c).p0 = due ∧ (pch t c).k0 = 0 ∧ (pch t c).running = true ∧ (pch t c).period = y.period ∧ (pch t c).cmpOn = y.cmpOn ∧
    (pch t c).cmpOff = y.cmpOff ∧ (pch t c).full = false ∧
    (pch t c).trippedNow = s.pul.ti.any (fun x => x.2.qualified && (pchPar s c 12).testBit x.1) ∧
    (¬ ((pch s c).onA = true ∧ (pch s c).onB = true) → ¬ ((pch t c).onA = true ∧ (pch t c).onB = true)) ∧
    (∀ k, k ≠ c → (pch t k).p0 = (pch s k).p0 ∧ (pch t k).period = (pch s k).period) ∧ t.cfg = s.cfg ∧ t.cyc.n = s.cyc.n) ∧
  (((pch s c).running = false ∨ (pch s c).period = 0 ∨ eu < due) → exec (.periodStart c eu) s = .next (advanceTo (eu / 64) s)) ∧
  ((pch s c).running = true → (pch s c).p0 ≤ eu → Goes (.pulseEdgePosition c eu) s fun t =>
    (par s 0x64 0 8 < 0 → pch t c = ((pch s c).eval (pulPar s c) (s.pul.mask.testBit (2 * c)) (s.pul.mask.testBit (2 * c + 1)) eu).1 ∧
      ∀ k, k ≠ c → pch t k = pch s k) ∧
    (¬ ((pch s c).onA = true ∧ (pch s c).onB = true) → ¬ ((pch t c).onA = true ∧ (pch t c).onB = true)) ∧
    (pch t c).p0 = (pch s c).p0 ∧ (pch t c).k0 = (pch s c).k0 ∧ (pch t c).period = (pch s c).period ∧ (pch t c).running = true ∧
    t.cfg = s.cfg ∧ t.cyc.n = s.cyc.n) ∧
  (((pch s c).running = false ∨ eu < (pch s c).p0) → exec (.pulseEdgePosition c eu) s = .next (advanceTo (eu / 64) s))

/-- Trips and synchronisation of the pulse engine (R299–R302): an input that has been asserted long enough qualifies, and each running
channel that has it in its TRIP_MASK counts a trip, names the input and turns output A off at once; an input that is sampled at the other
level qualifies no more, and one that stays qualified trips nothing again; an accepted event restarts the counter at PHASE, one outside its
window is rejected and counted; an edge on SYNC_IN restarts its channels SYNC_IN_COMP later; and SYNC_LOSS periods without a restart raise
FLT_PULSE_SYNC. -/
def Obligations.TripsAndSync : Prop := ∀ s : State, Calm s → s.cyc.running = true →
  (∀ ti level n eu, ti < 16 → let a := advanceTo (eu / 64) s
    let kept := fun (q : Bool) => exec (.tripQualified ti { level := level, n := n, eu := eu }) s =
      .next { a with pul := { a.pul with ti := a.pul.ti.set ti { level := level, count := n, qualified := q } } }
    (level ≠ (parN s 0x21 ti 0 == 0) → kept false) ∧
    (level = (parN s 0x21 ti 0 == 0) → (∃ x, s.pul.ti.find ti = some x ∧ x.qualified = true) → kept true) ∧
    (level = (parN s 0x21 ti 0 == 0) → (∀ x, s.pul.ti.find ti = some x → x.qualified = false) → tripQualifies a ti n eu = false → kept false) ∧
    (level = (parN s 0x21 ti 0 == 0) → (∀ x, s.pul.ti.find ti = some x → x.qualified = false) → tripQualifies a ti n eu = true →
      Goes (.tripQualified ti { level := level, n := n, eu := eu }) s fun t => t.pul.ti.find ti = some { level := level, count := n, qualified := true } ∧ ∀ c, c < 12 →
        (((pch s c).running = true ∧ (pchPar s c 12).testBit ti = true) → (pch t c).trips = cnt32 (pch s c).trips ∧ (pch t c).lastTi = ti ∧
          (pch t c).onA = false ∧ (pchPar s c 14 ≠ 1 → (pch t c).onB = false)) ∧
        (((pch s c).running = false ∨ (pchPar s c 12).testBit ti = false) → pch t c = pch s c))) ∧
  (∀ c eu, c < 12 → (((pch s c).running = false ∧ (pch s c).waitSync = false) ∨ pchPar s c 20 = 0) →
    exec (.syncEvent c eu) s = .next (advanceTo (eu / 64) s)) ∧
  (∀ c eu, c < 12 → (pch s c).running = true → pchPar s c 20 ≠ 0 →
    let hit := (pch s c).waitSync = true ∨ (pch s c).firstSync = true ∨ (pch s c).syncLost = true ∨
      phaseDist (pch s c).period ((pch s c).ctr eu) (pchPar s c 24) ≤ pchPar s c 26
    (hit → Goes (.syncEvent c eu) s fun t => (pch t c).p0 = eu ∧ (pch t c).k0 = pchPar s c 24 ∧ (pch t c).syncLost = false ∧
      (pch t c).running = true ∧ (pch t c).rejects = (pch s c).rejects ∧ (rec? t (220 + c)).active = false) ∧
    (¬ hit → Goes (.syncEvent c eu) s fun t => pch t c = { pch s c with rejects := cnt32 (pch s c).rejects } ∧ (∀ k, k ≠ c → pch t k = pch s k) ∧
      { t with pul := s.pul } = advanceTo (eu / 64) s) ∧
    (pchPar s c 20 = 2 → hit → ∀ e, eu = e + parN s 0x64 0 6 → Goes (.syncInEdge e) s fun t => (pch t c).p0 = eu ∧ (pch t c).k0 = pchPar s c 24)) ∧
  (∀ e, (∀ c, c < 12 → pchPar s c 20 ≠ 2) → exec (.syncInEdge e) s = .next (advanceTo ((e + parN s 0x64 0 6) / 64) s)) ∧
  (∀ c, c < 12 → (pch s c).running = true → pchPar s c 20 ≠ 0 → (pch s c).syncLost = false → Goes (.syncLoss c) s fun t =>
    (pch t c).syncLost = true ∧ (s.dev.porstN = true → s.dev.railHold = false → (rec? s (220 + c)).active = false → Latched t (220 + c))) ∧
  (∀ c, c < 12 → (pch s c).running = false → exec (.syncLoss c) s = .next s)

/-! ### The safety die -/

/-- Requests to the safety die by pins and telegrams (R397–R400): a falling request pin registers a stop, and two that rise together release
it; channels apart for PIN_WINDOW bar the release; a stop telegram registers, one out of form is counted by its source; a partner that does
not come degrades its LAN, a silent LAN times out, and with both silent a stop follows where the plate asks it. -/
def Obligations.SafetyRequests : Prop := ∀ s : State, s.dev.porstN = true → s.dev.railHold = false →
  (∀ a b t, ((s.srb.pinA = true ∧ a = false) ∨ (s.srb.pinB = true ∧ b = false)) →
    Goes (.safeReqChange a b t) s fun u => srbHas u 1 = true ∧ u.srb.pinA = a ∧ u.srb.pinB = b ∧ u.cfg = s.cfg ∧ u.dev = s.dev) ∧
  (∀ t, s.srb.pinA = false → s.srb.pinB = false → s.srb.barred = false →
    Goes (.safeReqChange true true t) s fun u => srbHas u 1 = false ∧ u.srb.pinA = true ∧ u.srb.pinB = true ∧
      (∀ k, k ≠ 1 → srbHas u k = srbHas s k) ∧ (rec? u 40).active = false ∧ u.dev = s.dev) ∧
  (s.srb.pinA ≠ s.srb.pinB → srbHas s 1 = true → (rec? s 40).active = false →
    Goes .pinWindowExpiry s fun t => t.srb = { s.srb with barred := true } ∧ Latched t 40) ∧
  (srbHas s 1 = false → exec .pinWindowExpiry s = .next s) ∧
  (∀ lan b t, lan < 2 → hasSafetyPair s = false → exec (.safetyTelegramCopy lan b t) s = .next (advanceTo t s)) ∧
  (∀ lan b t, lan < 2 → hasSafetyPair s = true → telegramOk s b = false → (rec? s 43).active = false →
    Goes (.safetyTelegramCopy lan b t) s fun u => Latched u 43 ∧ u.srb = s.srb) ∧
  (∀ (lan : Nat) (b : List Byte) (t : Nat), lan < 2 → hasSafetyPair s = true → telegramOk s b = true → s.srb.waits = [] →
    telegramSeq s lan (BitVec.ofNat 32 (ofBe ((b.drop 12).take 4))) = true → ofBe ((b.drop 1).take 1) = 0x3C →
    Goes (.safetyTelegramCopy lan b t) s fun u => srbHas u 2 = true ∧ u.srb.timedOut.get lan false = false ∧
      u.srb.lastTel.get lan 0 = BitVec.ofNat 32 (ofBe ((b.drop 12).take 4)) ∧ u.srb.waits.length = 1 ∧ u.dev.state = s.dev.state) ∧
  (∀ lan w, lan < 2 → s.srb.waits.find? (fun w => w.lan ≠ lan) = some w → (rec? s 41).active = false →
    Goes (.discWindowExpiry lan) s fun t => t.srb = { s.srb with waits := s.srb.waits.erase w, degraded := s.srb.degraded.set lan true } ∧ Latched t 41) ∧
  (∀ lan, lan < 2 → s.srb.waits = [] → exec (.discWindowExpiry lan) s = .next s) ∧
  (∀ lan, lan < 2 → hasSafetyPair s = true → Goes (.teleTimeout lan) s fun t => t.srb.timedOut.get lan false = true ∧
      t.srb.degraded.get lan false = true ∧
      (s.srb.timedOut.get (1 - lan) false = true → par s 0x51 0x20 16 = 1 → srbHas t 2 = true ∧ ((rec? s 42).active = false → Latched t 42))) ∧
  (∀ lan, lan < 2 → hasSafetyPair s = false → exec (.teleTimeout lan) s = .next s)

/-- What the safety die does by itself (R395, R396, R403–R407): the timeout of a ramp and a failure of its supervision trip the HWSL, which
drives the inhibit lines and asks for a block at the next boundary; a verdict in sequence shows the monitor healthy; a wrong readback of
BLOCK_OUT forces both pins low; an INHIBIT frame that does not come back is FLT_INHIBIT_READBACK. That the first verdict counts as in
sequence whatever its cycle is the model's choice (log 126). -/
def Obligations.SafetySupervision : Prop := ∀ s : State, s.dev.porstN = true → s.dev.railHold = false →
  let tripped := fun (t : State) => t.srb.st = .tripped ∧ t.srb.inhibit = true ∧ t.cyc.hwslBlock = true ∧ blockOutRelease t = false
  (s.srb.st = .ramp → s.srb.timeoutRun = true → (rec? s 33).active = false →
    Goes .srbTimeoutExpiry s fun t => tripped t ∧ Latched t 33 ∧ t.srb.timeoutRun = false ∧ t.dev.state = s.dev.state) ∧
  (s.srb.timeoutRun = false → exec .srbTimeoutExpiry s = .next s) ∧
  (∀ c : CycleNo, (∀ l, s.srb.lastVerdict = some l → c = l + 1) →
    Goes (.smpVerdict c true) s fun t => t.srb = { s.srb with lastVerdict := some c, smpBad := false } ∧ (rec? t 34).active = false ∧
      { t with srb := s.srb, fcru := s.fcru } = s) ∧
  (∀ c, s.cyc.running = true → (s.srb.st = .armed ∨ s.srb.st = .ramp) → (rec? s 34).active = false →
    Goes (.smpVerdict c false) s fun t => tripped t ∧ Latched t 34 ∧ t.srb.smpBad = true) ∧
  (s.cyc.running = true → (s.srb.st = .armed ∨ s.srb.st = .ramp) → (rec? s 34).active = false →
    Goes .smpWatchdogExpiry s fun t => tripped t ∧ Latched t 34 ∧ t.srb.smpBad = true) ∧
  (s.srb.st = .hold → (rec? s 34).active = false → Goes .smpWatchdogExpiry s fun t => t.srb.st = .hold ∧ t.srb.smpBad = true ∧ Latched t 34) ∧
  ((rec? s 36).active = false → Goes .blockOutReadbackFail s fun t => t.dev.readbackBad = true ∧ blockOutRelease t = false ∧ Latched t 36) ∧
  (∀ p (w : Option Word), p < nPorts s → s.srb.inhibit = true → lit s p = true → w ≠ some 0xB10C4EF3#32 → (rec? s 37).active = false →
    Goes (.inhibitReadback p w) s fun t => Latched t 37) ∧
  (∀ p, p < nPorts s → exec (.inhibitReadback p (some 0xB10C4EF3#32)) s = .next s)

/-! ### The tandem pair -/

/-- Records, beacons and heartbeats (R3, R269, R332, R420–R423, R428): a record that is not intact counts for nothing; an ISOLATED unit that
may pair and hears an ACTIVE twin of its kind resynchronises; a twin of another variant or release is FLT_TANDEM_MISMATCH from IDLE on; a
forwarded HOST_BLOCK is a block request; a beacon leaves while no cycle runs, and an interval without one heard counts as silence, which
makes a follower ACTIVE at its limit; a heartbeat's edge within 1 µs of its instant is heard; and the lanes' links are followed, which come
up with PLL-B locked alone (R278). -/
def Obligations.TandemRecords : Prop := ∀ s : State, Calm s →
  (∀ r t, (r.intact = false ∨ s.dev.state = .reset) → exec (.tandemRecordReceived r t) s = .next (advanceTo t s)) ∧
  (∀ r t, r.intact = true → s.dev.state ≠ .reset → matchingTwin r s = true → s.tan.role = .isolated → mayPair s = true → r.role = .active →
    Goes (.tandemRecordReceived r t) s fun u => u.tan.role = .resync ∧ u.tan.last = some r ∧ u.tan.heardA = true ∧ u.tan.mirrorEpoch = r.mirrorEpoch ∧
      u.tan.holdOff = true ∧ u.dev.roleEpoch = s.dev.roleEpoch + 1 ∧ (rec? u 285).active = false) ∧
  (∀ r t, r.intact = true → s.dev.state ≠ .reset → matchingTwin r s = false → s.tan.withhold = none → s.dev.state.idleOn = true → s.dev.porstN = true → s.dev.railHold = false →
    (rec? s 285).active = false →
    Goes (.tandemRecordReceived r t) s fun u => Latched u 285 ∧ u.tan.role = s.tan.role ∧ u.tan.last = some r) ∧
  (∀ r t, r.intact = true → s.dev.state ≠ .reset → matchingTwin r s = false → s.tan.withhold = none → s.dev.state.idleOn = false →
    Goes (.tandemRecordReceived r t) s fun u => u.fcru = s.fcru ∧ u.tan.role = s.tan.role ∧ u.tan.last = some r) ∧
  (∀ r t, r.intact = true → s.dev.state ≠ .reset → matchingTwin r s = true → s.tan.withhold = none → s.tan.role = .active → r.hostBlock = true →
    runs s = true → Goes (.tandemRecordReceived r t) s fun u => u.cyc.blockReq = true ∧ u.tan.role = .active ∧ u.dev.state = s.dev.state) ∧
  (beaconing s = true → Goes .beaconSend s fun t => t.tan.beacons = s.tan.beacons + 1 ∧ t.tan.sent = some (mkRecord false false true s) ∧
    t.tan.hbTx = (s.tan.role == .active && !s.tan.hbTx) ∧ { t with tan := s.tan } = s) ∧
  (beaconing s = false → exec .beaconSend s = .next s ∧ exec .beaconIntervalJudge s = .next s) ∧
  (beaconing s = true → pairMode s = true → Goes .beaconIntervalJudge s fun t =>
    let a := if s.tan.heardA then 0 else s.tan.silentA + 1
    let b := if s.tan.heardB then 0 else s.tan.silentB + 1
    t.tan.silentA = a ∧ t.tan.silentB = b ∧ t.tan.heardA = false ∧ t.tan.heardB = false ∧
    (follower s = true → parN s 0x52 0 6 ≤ a → parN s 0x52 0 6 ≤ b → t.tan.role = .active ∧ t.tan.silenceTakeover = true) ∧
    (follower s = false → t.tan.role = s.tan.role)) ∧
  (∀ t f, let a := advanceTo t s
    let stamp := ctNow a + (ctIncrement a.time (slewStep (par s 0x32 0 2))).toNat * (f % 64) / 64
    (s.cyc.running = false → exec (.hbRxEdge t f) s = .next { a with tan := { a.tan with heardB := true } }) ∧
    (s.cyc.running = true → hbNear s s.cyc.n stamp = true → Goes (.hbRxEdge t f) s fun u => u.tan.heardB = true ∧ u.tan.role = s.tan.role ∧ u.cyc.n = s.cyc.n) ∧
    (s.cyc.running = true → hbNear s s.cyc.n stamp = false → hbNear s (s.cyc.n + 1) stamp = true →
      Goes (.hbRxEdge t f) s fun u => u.tan.heardBNext = true ∧ u.tan.heardB = s.tan.heardB ∧ u.cyc.n = s.cyc.n) ∧
    (s.cyc.running = true → hbNear s s.cyc.n stamp = false → hbNear s (s.cyc.n + 1) stamp = false → exec (.hbRxEdge t f) s = .next a)) ∧
  (Goes .tp1LinkLoss s fun t => t.tan.tp1Up = false ∧ sessionOf t 15 = false ∧
    (s.dev.porstN = true → s.dev.railHold = false → (rec? s 300).active = false → Latched t 300)) ∧
  (∀ l, l < 2 → s.clk.locked.getD 3 false = false → exec (.tandemLinkUp l) s = .next s) ∧
  (s.clk.locked.getD 3 false = true → Goes (.tandemLinkUp 0) s fun t => t.tan = { s.tan with tp0Up := true } ∧ ButMessages { s with tan := t.tan } t) ∧
  (s.clk.locked.getD 3 false = true → Goes (.tandemLinkUp 1) s fun t => t.tan = { s.tan with tp1Up := true } ∧ (rec? t 300).active = false ∧
    ButMessages { s with tan := t.tan, fcru := t.fcru } t)

/-- Takeovers (R427, R428, R430, R431): a request is noted by a follower, which becomes ACTIVE at a cycle start at least 2.0 µs after it,
under a MIRROR_EPOCH and a ROLE_EPOCH that rise, and from RESYNC in a block; an unpaired unit becomes ACTIVE after SOLO_WAIT; a STANDBY unit
becomes ELIGIBLE after its hold-off; and a requester whose withholding ends lights its outputs again. -/
def Obligations.Takeovers : Prop := ∀ s : State, Calm s →
  (follower s = true → s.tan.reqTick = none →
    exec .takeoverRequestReceived s = .next { s with tan := { s.tan with reqTick := some s.now } }) ∧
  ((follower s = false ∨ s.tan.reqTick.isSome = true) → exec .takeoverRequestReceived s = .next s) ∧
  (∀ k, s.tan.reqTick = some k → follower s = true → k + 800 ≤ (if s.cyc.running then s.cyc.startTick else s.now) →
    Goes .becomeActive s fun t => t.tan.role = .active ∧ t.tan.reqTick = none ∧ t.tan.takeovers = s.tan.takeovers + 1 ∧ t.tan.silenceTakeover = false ∧
      t.dev.roleEpoch = s.dev.roleEpoch + 1 ∧ t.tan.mirrorEpoch = (raiseEpoch s).tan.mirrorEpoch ∧ t.cfg = s.cfg ∧
      (s.tan.role = .resync → runs s = true → s.cyc.running = true → t.dev.state = .blocked)) ∧
  ((follower s = false ∨ s.tan.reqTick = none ∨
    (∀ k, s.tan.reqTick = some k → (if s.cyc.running then s.cyc.startTick else s.now) < k + 800)) → exec .becomeActive s = .next s) ∧
  (s.tan.role = .isolated → mayPair s = true → Goes .soloWaitExpiry s fun t => t.tan.role = .active ∧ t.dev.roleEpoch = s.dev.roleEpoch + 1 ∧
    t.tan.takeovers = s.tan.takeovers ∧ t.tan.mirrorEpoch = (raiseEpoch s).tan.mirrorEpoch ∧ t.cfg = s.cfg) ∧
  ((s.tan.role ≠ .isolated ∨ mayPair s = false) → exec .soloWaitExpiry s = .next s) ∧
  (s.tan.holdOff = true → Goes .holdOffExpiry s fun t => t.tan.holdOff = false ∧ t.tan.holdOffDone = true ∧
    t.tan.role = (if s.tan.role = .standby then .eligible else s.tan.role) ∧ t.cfg = s.cfg ∧ t.cyc = s.cyc ∧ t.time = s.time) ∧
  (s.tan.holdOff = false → exec .holdOffExpiry s = .next s) ∧
  (s.tan.withhold.isSome = true → Goes .takeoverWithholdEnd s fun t => t.tan = { s.tan with withhold := none } ∧ t.obs = { s.obs with pendFrame := none } ∧
    (∀ p x, s.ports.find p = some x → (port t p).squelch = !(transmits t && x.locked && x.lane != .dark)) ∧ { t with tan := s.tan, ports := s.ports, obs := s.obs } = s) ∧
  (s.tan.withhold = none → exec .takeoverWithholdEnd s = .next s)

/-- Transfers to the twin and planned handovers (R340, R350, R432, R434): a follower accepts a class A command as its own checks find and
confirms or refuses it; the ACTIVE unit carries out a BLOCK that is forwarded; a refused transfer is answered with the refusal and dropped,
one without confirmation is settled alone with FLT_TANDEM_TRANSFER; at its cycle the target takes control between cutoff and launch, and the
unit that hands over becomes STANDBY, or stays ACTIVE with FLT_TANDEM_HANDOVER where its twin did not. -/
def Obligations.TransfersAndHandover : Prop := ∀ s : State, Calm s →
  (∀ tr, s.dev.mpcReady = false → exec (.classATransferReceived tr) s = .next s) ∧
  (∀ tr u b, s.dev.mpcReady = true → follower s = true → isClassA tr.opcode = true → tr.opcode ≠ 0x24 → accept (waitOf tr) s = (u, .ok, b) →
    Goes (.classATransferReceived tr) s fun t => t.tan.confirmed = some (tr.seq, .ok) ∧ t.cyc.waiting = u.cyc.waiting) ∧
  (∀ tr u e b, s.dev.mpcReady = true → follower s = true → isClassA tr.opcode = true → tr.opcode ∉ [0x24, 0x25, 0x36] →
    accept (waitOf tr) s = (u, e, b) → e ≠ .ok →
    exec (.classATransferReceived tr) s = .next { s with tan := { s.tan with confirmed := some (tr.seq, e) } }) ∧
  (∀ tr, s.dev.mpcReady = true → s.tan.role = .active → tr.opcode = 0x11 → runs s = true →
    Goes (.classATransferReceived tr) s fun t => t.cyc.blockReq = true ∧ t.tan.confirmed = some (tr.seq, .ok) ∧ t.dev.state = s.dev.state) ∧
  (∀ q st, s.tan.xfers.find? (fun x => x.tr.seq = q) = none → exec (.transferConfirmReceived q st) s = .next s) ∧
  (∀ q st x, s.tan.xfers.find? (fun x => x.tr.seq = q) = some x → isClassF x.tr.opcode = false → st ≠ .ok →
    Goes (.transferConfirmReceived q st) s fun t => t.tan = { s.tan with xfers := s.tan.xfers.erase x } ∧
      ButMessages { s with tan := t.tan } t) ∧
  (s.tan.xfers = [] → exec .transferConfirmTimeout s = .next s) ∧
  (∀ x xs, s.tan.xfers = x :: xs → isClassF x.tr.opcode = false → s.dev.porstN = true → s.dev.railHold = false →
    Goes .transferConfirmTimeout s fun t => Latched t 307 ∧ t.tan.xfers = xs) ∧
  (∀ r, s.tan.last = some r → s.cyc.running = true → s.cyc.frozen = true → s.cyc.launched = false → handoverOk r s = true →
    Goes .handoverCycle s fun t => t.tan.role = .active ∧ t.tan.handover = 0 ∧ t.tan.takeovers = s.tan.takeovers ∧
      t.dev.roleEpoch = s.dev.roleEpoch + 1 ∧ t.cyc.n = s.cyc.n) ∧
  ((s.tan.last = none ∨ s.cyc.frozen = false ∨ s.cyc.launched = true) → exec .handoverCycle s = .next s) ∧
  (s.tan.handed = true → s.tan.role = .active →
    Goes (.handoverResult true) s fun t => t.tan.role = .standby ∧ t.tan.handed = false ∧ t.tan.handover = 0 ∧ t.tan.holdOff = true ∧
      t.tan.handoverCmd = none ∧ t.dev.roleEpoch = s.dev.roleEpoch + 1) ∧
  (s.tan.handed = true → s.tan.role = .active → s.dev.porstN = true → s.dev.railHold = false →
    Goes (.handoverResult false) s fun t => t.tan.role = .active ∧ t.tan.handed = false ∧ t.tan.handover = 0 ∧ t.tan.handoverCmd = none ∧
      t.tan.revertAfter = s.now + parN s 0x52 0 8 * 400000000 ∧ Latched t 310) ∧
  (∀ b, s.tan.handed = false → exec (.handoverResult b) s = .next s)

/-! ### Rules stated whole -/

/-- Fast edges of the Grid Edge Timer (R282): an edge less than MIN_INTERVAL × T_NOM after the last accepted edge of its input is discarded
and counted, and raises FLT_GET_FAST, of class C, where none was raised for its point within a second; the input's interval runs on; every
other edge is accepted. -/
def Obligations.FastEdges : Prop := (∀ p, p < 2 → (faultInfo (246 + p)).map (fun f => (f.cls, f.level)) = some (2, false)) ∧
  ∀ (s : State) (i : Nat) (rise : Bool) (eu : Nat), Calm s → i < 6 →
  let a := advanceTo (eu / 64) s
  let p := i / 3
  let inst := ctNow a + eu % 64 * (ctIncrement a.time (slewStep (par s 0x32 0 2))).toNat / 64
  let fast := ∃ u, (getPt s p).last.find (i % 3) = some u ∧
    (((inst : Int) - (u : Int) : Int) : Rat) / (secUnits : Rat) * ((par s 0x34 p 4 : Rat) / 100) < (par s 0x34 p 6 : Rat) / 100
  s.dev.state.loadedOn = true → par s 0x34 i 0 = 1 → rise = (par s 0x34 i 2 == 0) →
  (fast → Goes (.geEdge i rise eu) s fun t => (getPt t p).fast = (getPt s p).fast + 1 ∧ (getPt t p).last = (getPt s p).last ∧
    (getPt t p).newest = (getPt s p).newest ∧ (getPt t p).freq = (getPt s p).freq ∧ (getPt t p).phaseEdge = (getPt s p).phaseEdge ∧
    (getPt t p).seq = (getPt s p).seq ∧ getPt t (1 - p) = getPt s (1 - p) ∧
    ((∃ k, (getPt s p).fastTick = some k ∧ a.now - k < 400000000) → t.fcru = s.fcru) ∧
    ((∀ k, (getPt s p).fastTick = some k → 400000000 ≤ a.now - k) → s.dev.porstN = true → s.dev.railHold = false →
      Latched t (246 + p) ∧ t.fcru.seq = s.fcru.seq + 1 ∧ (getPt t p).fastTick = some a.now)) ∧
  (¬ fast → (∀ g, s.getLast = some g → g.tick ≠ a.now) →
    Goes (.geEdge i rise eu) s fun t => (getPt t p).last.find (i % 3) = some inst ∧ (getPt t p).fast = (getPt s p).fast) ∧
  (¬ fast → ∀ g, s.getLast = some g → g.tick = a.now →
    Goes (.geEdge i rise eu) s fun t => ((getPt t p).last.find (i % 3)).isSome = true ∧ (getPt t p).fast = (getPt s p).fast)

/-- The switch between the timebase loops (R277): no relock reverses a switch to PLL-E; with PLL-E driving, the loss of PLL-C changes no
driver, and PLL-C, relocked, takes over where PLL-E is lost; CLOCK_STATUS names the driver; and the loss of the driver with the other
unlocked is the loss of the timebase. -/
def Obligations.PllSwitchStays : Prop := ∀ s : State, Calm s → s.clk.locked.length = 5 →
  (∀ l miss, s.clk.onE = true → (rec? s 6).active = false → Goes (.pllRelock l miss) s fun t => t.clk.onE = true) ∧
  (s.clk.onE = true → s.clk.locked.getD 0 false = true → Goes (.pllLossOfLock .c) s fun t => t.clk.onE = true ∧ t.cyc.running = s.cyc.running ∧
    t.clk.locked.getD 0 true = false) ∧
  (s.clk.onE = true → s.clk.locked.getD 0 false = true → s.clk.locked.getD 1 false = true →
    Goes (.pllLossOfLock .e) s fun t => t.clk.onE = false ∧ t.cyc.running = s.cyc.running ∧ t.clk.locked.getD 0 false = true) ∧
  (∀ h, Passes h cClockStatus s → Goes (.clockStatus h) s fun t =>
    ∃ b, Responded h 0x45 .ok b s t ∧ b[1]? = some (if s.clk.onE then 1#8 else 0#8) ∧ OnlyMail s t) ∧
  (∀ l, (l = .c ∧ s.clk.onE = false ∧ s.clk.locked.getD 1 false = false ∨ l = .e ∧ s.clk.onE = true ∧ s.clk.locked.getD 0 false = false) →
    s.clk.locked.getD (pllIndex l) false = true → s.dev.porstN = true → s.dev.railHold = false → (rec? s 6).active = false →
    Goes (.pllLossOfLock l) s fun t => t.cyc.running = false ∧ t.srb.st = .tripped ∧ Latched t 6)

/-- A completed lock-through (R366) leaves the staging area empty, without owner, check or countersignature, and its SCHEDULED_RESULT is the
last message behind the mailbox of the commit, with ST_OK: of staged changes, and of a whole plate at its cycle and in IDLE. The event finds
its place where responses do not fill the queue. -/
def Obligations.LockThroughEmptiesStaging : Prop := ∀ (s : State) (n : CycleNo) (m : Nat) (tag : BitVec 16) (whole : Bool) (c : Cand) (k : Nat),
  let a := advanceTo k s
  let emptied := fun (cycle : CycleNo) (t : State) => t.pound.entries = [] ∧ t.pound.plate = none ∧ t.pound.load = none ∧ t.pound.image = [] ∧
    t.pound.owner = none ∧ t.pound.check = none ∧ t.pound.signs = [] ∧ t.pound.commit = none ∧
    ∃ x, (mget t m).f2h.getLast? = some x ∧ x.kind = 3 ∧ x.opcode = 0x83 ∧ x.tag = tag ∧ x.body = be 1 0x24 ++ be 1 0 ++ be 6 cycle.toNat
  s.pound.commit = some (n, m, tag, whole) → s.pound.late = false → s.pound.owner = some (m, (mget s m).epoch) → m < 16 → (mget s m).role.isSome = true →
  s.dev.mpcReady = true → ((mget s m).f2h.filter (fun x => !isEvent x)).length < 7 →
  (whole = false → candOf s = some c → atBoundary s = true → lockDue s = true → liveOk s c = true → Goes (.lockThrough true) s (emptied n)) ∧
  (∀ pl, whole = true → s.pound.plate = some pl → candOf a = some c → liveOk a c = true →
    Calm { s with cfg := { plate := some pl, par := pl.params, parI := pl.params, stages := pl.stages, stagesI := pl.stages, plateTag := pl.hdr.plateTag } } →
    (((s.dev.state = .loaded ∨ s.dev.state = .ready ∨ s.dev.state = .blocked) → atBoundary s = true → n = s.cyc.n →
      Goes (.wholePlateLockThrough k true) s (emptied n)) ∧
     (s.dev.state = .idle → Goes (.idlePlateLockThrough k true) s (emptied 0))))

/-- What a host reads and writes over PCI Express (R27, R29, R310–R312): a write of BULK_BASE_0 or BULK_BASE_1 moves its half of the BULK
window and nothing else; regions that R27 marks as unreadable, and addresses beyond the memory, read 0, and the Capture and Plate Stores
read as stored; an aligned read of 64 bytes returns a whole point record; a write to the BULK window is dropped and logged as Unsupported
Request; and an aligned read of a REG word outside the payload areas returns the register, where one across two words returns none. -/
def Obligations.BulkWindow : Prop := ∀ s : State, pcieUp s = true →
  (∀ v, Goes (.registerWrite (0, 0x20) v) s fun t => t = { s with host := { s.host with bulk0 := v.toNat % 128 } } ∧
    (∀ i, i < 0x2000000 → hostRead t 2 i 1 = some [storeByte t (v.toNat % 128 * 0x100000 + i)]) ∧
    (∀ i, i < 0x2000000 → hostRead t 2 (0x2000000 + i) 1 = some [storeByte t (s.host.bulk1 * 0x100000 + i)])) ∧
  (∀ v, Goes (.registerWrite (0, 0x24) v) s fun t => t = { s with host := { s.host with bulk1 := v.toNat % 128 } } ∧
    (∀ i, i < 0x2000000 → hostRead t 2 (0x2000000 + i) 1 = some [storeByte t (v.toNat % 128 * 0x100000 + i)]) ∧
    (∀ i, i < 0x2000000 → hostRead t 2 i 1 = some [storeByte t (s.host.bulk0 * 0x100000 + i)])) ∧
  (∀ a, (0x07400000 ≤ a ∧ a < 0x07E00000 ∨ 0x08000000 ≤ a) → storeByte s a = 0) ∧
  (∀ a, 0x04000000 ≤ a → a < 0x07400000 → storeByte s a = Memory.read s.store a) ∧
  (∀ p, s.host.bulk0 = 0 → 64 * p < 0x2000000 → p < nCells s * 128 → (s.points.get p {}).hist.length = 4 →
    hostRead s 2 (64 * p) 64 = some (pointBytes s p)) ∧
  (∀ off v, exec (.registerWrite (2, off) v) s =
    .next { s with host := { s.host with aerUr := s.host.aerUr + 1, aerLast := some (false, 2, off) } }) ∧
  (∀ off, off % 4 = 0 → (off < 0x10000 ∨ 0x12000 ≤ off) → off < 0x80000 → hostRead s 0 off 4 = some (le 4 (regRead s off).toNat)) ∧
  (∀ off len, (off < 0x10000 ∨ 0x12000 ≤ off) → 4 < off % 4 + len → hostRead s 0 off len = none)
end

