-- ==== Sys2Proof/Laws/Burst.lean ====
section
/-! SUPPORT. The receiver of upstream bursts reads what the transmitter's line code sends (R166–R168, R191). -/

namespace Sys2Proof.Laws
open Sys2Proof Sys2Proof.Machine

/-- Receiver and transmitter stand at the same place of a line: register, run and last bit, with no stuff bit due. -/
def InStep (x : Rcv) (y : Scr) : Prop := x.reg = y.reg ∧ x.run = y.run ∧ x.last = y.last ∧ x.run < 23

/-- The receiver of a message of `k` bits. -/
def readBit (k : Nat) (x : Rcv) (c : Bool) : Rcv := if x.n = k then x else x.bit false c

theorem readBit_full (k : Nat) (ls : List Bool) (x : Rcv) (h : x.n = k) : ls.foldl (readBit k) x = x := by
  induction ls with
  | nil => rfl
  | cons c ls ih => simp [readBit, h, ih]

theorem xor_back (b p q : Bool) : ((((b != p) != q) != p) != q) = b := by cases b <;> cases p <;> cases q <;> rfl

/-- What one scrambled bit sends, with the stuff bit behind it where one is due. -/
theorem scr_bit (y : Scr) (b l : Bool) (r : Nat) (hl : ((b != y.reg.getLsbD 38) != y.reg.getLsbD 57) = l)
    (hr : (if l == y.last then y.run + 1 else 1) = r) :
    y.bit false b = if r = 23
      then { reg := (y.reg <<< 1) ||| (if l then 1#58 else 0#58), run := 1, last := !l, out := (!l) :: l :: y.out, n := y.n + 2 }
      else { reg := (y.reg <<< 1) ||| (if l then 1#58 else 0#58), run := r, last := l, out := l :: y.out, n := y.n + 1 } := by
  simp only [Scr.bit, Scr.emit, Bool.false_eq_true, if_false, hl, hr]

/-- What one received bit of a payload gives where no stuff bit is due. -/
theorem rcv_bit (x : Rcv) (b l : Bool) (r : Nat) (h : x.run < 23) (hl : ((l != x.reg.getLsbD 38) != x.reg.getLsbD 57) = b)
    (hr : (if l == x.last then x.run + 1 else 1) = r) :
    x.bit false l = { x with reg := (x.reg <<< 1) ||| (if l then 1#58 else 0#58), run := r, last := l, out := b :: x.out, n := x.n + 1 } := by
  simp only [Rcv.bit, if_neg (Nat.ne_of_lt h), Bool.false_eq_true, if_false, hl, hr]

/-- A due stuff bit of the right value is taken out. -/
theorem rcv_stuff (x : Rcv) (l : Bool) (h : x.run = 23) (hl : x.last = l) : x.bit false (!l) = { x with run := 1, last := !l } := by
  simp only [Rcv.bit, if_pos h, hl]; cases l <;> simp

/-- Bits sent are read back, each once, and no stuff bit is wrong; a stuff bit behind the last one may stay unread. -/
theorem bits_read (k : Nat) (bs : List Bool) : ∀ (x : Rcv) (y : Scr), InStep x y → x.n + bs.length ≤ k →
    ∃ ls : List Bool, (bs.foldl (Scr.bit false) y).out = ls.reverse ++ y.out ∧ (ls.foldl (readBit k) x).n = x.n + bs.length ∧
      (ls.foldl (readBit k) x).out = bs.reverse ++ x.out ∧ (ls.foldl (readBit k) x).bad = x.bad := by
  induction bs with
  | nil => intro x y _ _; exact ⟨[], rfl, rfl, rfl, rfl⟩
  | cons b bs ih =>
    intro x y ⟨hr, hn, hl, h23⟩ hk
    simp only [List.length_cons] at hk ⊢
    have hlt : x.n ≠ k := by omega
    generalize hg : ((b != y.reg.getLsbD 38) != y.reg.getLsbD 57) = l
    have hb : ((l != x.reg.getLsbD 38) != x.reg.getLsbD 57) = b := by rw [hr, ← hg, xor_back]
    generalize hrr : (if l == y.last then y.run + 1 else 1) = r
    have hrx : (if l == x.last then x.run + 1 else 1) = r := by rw [hl, hn, hrr]
    have hy := scr_bit y b l r hg hrr
    have hx := rcv_bit x b l r h23 hb hrx
    have hr23 : r ≤ 23 := by rw [← hrx]; split <;> omega
    by_cases hc : r = 23
    · rw [if_pos hc] at hy
      by_cases hd : x.n + 1 = k
      · have : bs = [] := by cases bs with | nil => rfl | cons c cs => simp only [List.length_cons] at hk; omega
        subst this
        refine ⟨[l, !l], by simp [hy], ?_, ?_, ?_⟩ <;> simp [readBit, hlt, hx, hd]
      · have hz := rcv_stuff (x.bit false l) l (by rw [hx]; exact hc) (by rw [hx])
        obtain ⟨ls, h1, h2, h3, h4⟩ := ih ((x.bit false l).bit false (!l)) (y.bit false b)
          (by rw [hz, hx, hy]; exact ⟨by rw [hr], rfl, rfl, by simp only; omega⟩) (by rw [hz, hx]; simp only; omega)
        refine ⟨l :: (!l) :: ls, ?_, ?_, ?_, ?_⟩
        · rw [List.foldl_cons, h1, hy]; simp
        all_goals
          have e : (l :: (!l) :: ls).foldl (readBit k) x = ls.foldl (readBit k) ((x.bit false l).bit false (!l)) := by
            simp only [List.foldl_cons, readBit, if_neg hlt]; rw [if_neg (by rw [hx]; exact hd)]
          rw [e]
        · rw [h2, hz, hx]; simp only; omega
        · rw [h3, hz, hx]; simp
        · rw [h4, hz, hx]
    · rw [if_neg hc] at hy
      obtain ⟨ls, h1, h2, h3, h4⟩ := ih (x.bit false l) (y.bit false b)
        (by rw [hx, hy]; exact ⟨by rw [hr], rfl, rfl, by simp only; omega⟩) (by rw [hx]; simp only; omega)
      have e : (l :: ls).foldl (readBit k) x = ls.foldl (readBit k) (x.bit false l) := by simp only [List.foldl_cons, readBit, if_neg hlt]
      refine ⟨l :: ls, by rw [List.foldl_cons, h1, hy]; simp, ?_, ?_, ?_⟩ <;> rw [e]
      · rw [h2, hx]; simp only; omega
      · rw [h3, hx]; simp
      · rw [h4, hx]

theorem in_step_self (x : Rcv) (h : x.run < 23) : InStep x { reg := x.reg, run := x.run, last := x.last } := ⟨rfl, rfl, rfl, h⟩

/-- The number that bits spell, most significant first. -/
def bitsVal (bs : List Bool) : Nat := bs.foldl (fun a c => 2 * a + b2n c) 0

theorem bitsVal_append (a : List Bool) (n v : Nat) (hv : v < 2 ^ n) : bitsVal (a ++ bitsN n v) = bitsVal a * 2 ^ n + v := by
  induction n generalizing v with
  | zero => simp only [Nat.pow_zero, Nat.lt_one_iff] at hv; subst hv; simp [bitsN, bitsVal]
  | succ n ih =>
    have h : bitsN (n + 1) v = bitsN n (v / 2) ++ [v.testBit 0] := by
      simp only [bitsN, List.range_succ, List.map_append, List.map_cons, List.map_nil]
      congr 1
      · apply List.map_congr_left
        intro i hi
        have : i < n := by simpa using hi
        rw [← Nat.testBit_succ]; congr 1; omega
      · simp
    have hd : v / 2 < 2 ^ n := by rw [Nat.pow_succ] at hv; omega
    rw [h, ← List.append_assoc, bitsVal, List.foldl_append, ← bitsVal, ih _ hd]
    simp only [List.foldl_cons, List.foldl_nil]
    have ht : b2n (v.testBit 0) = v % 2 := by
      rw [Nat.testBit_zero]; rcases Nat.mod_two_eq_zero_or_one v with h | h <;> simp [h, b2n]
    rw [ht, Nat.pow_succ]
    have := Nat.div_add_mod v 2
    have e : 2 * (bitsVal a * 2 ^ n) = bitsVal a * (2 ^ n * 2) := by rw [Nat.mul_comm 2, Nat.mul_assoc]
    rw [Nat.mul_add, e]; omega

/-- A burst that carries a message of `k` bits and its CRC-16 behind US_DELIM. -/
def burstOf (k v : Nat) : Burst :=
  let r := Rcv.start usDelim
  { delim := usDelim,
    line := ((bitsN k v ++ bitsN 16 (crc16 (be (k / 8) v)).toNat).foldl (Scr.bit false) { reg := r.reg, run := r.run, last := r.last }).out.reverse }

theorem burst_payload (k v : Nat) (hv : v < 2 ^ k) : burstPayload (k + 16) (burstOf k v) = some (v * 2 ^ 16 + (crc16 (be (k / 8) v)).toNat, false) := by
  have hs : (Rcv.start usDelim).n = 0 ∧ (Rcv.start usDelim).out = [] ∧ (Rcv.start usDelim).bad = false ∧ (Rcv.start usDelim).run < 23 := by decide +kernel
  obtain ⟨h0, ho, hb, hr⟩ := hs
  obtain ⟨ls, h1, h2, h3, h4⟩ := bits_read (k + 16) (bitsN k v ++ bitsN 16 (crc16 (be (k / 8) v)).toNat) (Rcv.start usDelim)
    { reg := (Rcv.start usDelim).reg, run := (Rcv.start usDelim).run, last := (Rcv.start usDelim).last } (in_step_self _ hr) (by rw [h0]; simp only [bitsN, List.length_append, List.length_map, List.length_range]; omega)
  have hl : (burstOf k v).line = ls := by simp only [burstOf, h1]; simp
  have hf : (burstOf k v).line.foldl (fun x c => if x.n = k + 16 then x else x.bit false c) (Rcv.start (burstOf k v).delim) =
      ls.foldl (readBit (k + 16)) (Rcv.start usDelim) := by rw [hl]; rfl
  simp only [burstPayload, hf]
  rw [h0] at h2
  rw [if_pos (by rw [h2]; simp only [bitsN, List.length_append, List.length_map, List.length_range]; omega), h3, h4, hb, ho]
  simp only [List.append_nil, List.reverse_reverse]
  have hc := bitsVal_append (bitsN k v) 16 _ (crc16 (be (k / 8) v)).isLt
  have hm := bitsVal_append [] k v hv
  simp only [List.nil_append] at hm
  rw [hm] at hc
  simp only [bitsVal, List.foldl_nil, Nat.zero_mul, Nat.zero_add] at hc
  exact congrArg (fun z => some (z, false)) hc

/-- The message of a burst is read back. -/
theorem burst_msg (k v : Nat) (hv : v < 2 ^ k) : burstMsg k (burstOf k v) = some v := by
  have hc := (crc16 (be (k / 8) v)).isLt
  have hd : (v * 2 ^ 16 + (crc16 (be (k / 8) v)).toNat) / 2 ^ 16 = v := by omega
  have ho : BitVec.ofNat 16 (v * 2 ^ 16 + (crc16 (be (k / 8) v)).toNat) = crc16 (be (k / 8) v) := by
    apply BitVec.eq_of_toNat_eq; rw [BitVec.toNat_ofNat]; omega
  simp only [burstMsg, burst_payload k v hv, hd, ho]; simp

/-- A service message is read back. -/
theorem svc_in (v : Nat) (hv : v < 2 ^ 256) : svcIn (burstOf 256 v) = some (be 32 v) := by
  have hd : delimErrors usDelim ≤ 2 := by decide +kernel
  change delimErrors (burstOf 256 v).delim ≤ 2 at hd
  rw [svcIn, if_pos hd, burst_msg 256 v hv]; rfl

/-- A report word is read back. -/
theorem report_in (v : Nat) (hv : v < 2 ^ 128) : reportIn (burstOf 128 v) = some (BitVec.ofNat 128 v) := by
  rw [reportIn, burst_msg 128 v hv]; rfl

/-- Every burst comes by the parts of its envelope, wherever its payload ends. -/
theorem burst_on (b : Burst) (k : Nat) : burstOn b.delim (b.line.take k) (b.line.drop k) = b := by
  rw [burstOn, List.take_append_drop]

/-- Every instant in 1/64 bit is a point of the grid. -/
theorem grid_at (e : Nat) : gridAt (e / 64) (e % 64) = e := Nat.div_add_mod e 64

end Sys2Proof.Laws
end

