-- ==== Sys2Proof/Laws/Table.lean ====
section
/-! SUPPORT. Tables and the local store: what is read after a write, and that every operation of the store keeps its form. -/

set_option Elab.async false

namespace Sys2Proof.Machine

/-! ### The store -/

theorem wf_cons {a : Nat} {v : Byte} {m : List Host.Cell} :
    Memory.wf ((a, v) :: m) = true ↔ v ≠ Memory.dflt ∧ (∀ c ∈ m.head?, a < c.1) ∧ Memory.wf m = true := by
  cases m with
  | nil => simp [Memory.wf]
  | cons c m => obtain ⟨b, w⟩ := c; simp [Memory.wf, and_assoc]

/-- A lower bound of every address of a table in canonical form. -/
theorem wf_lower {m : List Host.Cell} {a : Nat} (h : Memory.wf m = true) (ha : ∀ c ∈ m.head?, a < c.1) : ∀ c ∈ m, a < c.1 := by
  induction m with
  | nil => simp
  | cons d m ih =>
    obtain ⟨b, w⟩ := d
    rw [wf_cons] at h
    simp at ha
    intro c hc
    rcases List.mem_cons.1 hc with rfl | hc
    · exact ha
    · have := ih h.2.2 (fun x hx => lt_trans ha (h.2.1 x hx)) c hc
      exact this

theorem wf_of_lower {a : Nat} {v : Byte} {m : List Host.Cell} (hv : v ≠ Memory.dflt) (h : ∀ c ∈ m, a < c.1) (hm : Memory.wf m = true) :
    Memory.wf ((a, v) :: m) = true := by
  rw [wf_cons]; exact ⟨hv, fun c hc => h c (List.mem_of_mem_head? hc), hm⟩

theorem write_mem {m : List Host.Cell} {a : Nat} {v : Byte} {c : Host.Cell} (h : c ∈ Memory.write m a v) : c.1 = a ∨ c ∈ m := by
  induction m with
  | nil => simp only [Memory.write] at h; split at h <;> simp_all
  | cons d m ih =>
    obtain ⟨b, w⟩ := d
    simp only [Memory.write] at h
    split at h
    · split at h
      · exact .inr h
      · rcases List.mem_cons.1 h with rfl | h
        · exact .inl rfl
        · exact .inr h
    · split at h
      · split at h
        · exact .inr (List.mem_cons_of_mem _ h)
        · rcases List.mem_cons.1 h with rfl | h
          · exact .inl rfl
          · exact .inr (List.mem_cons_of_mem _ h)
      · rcases List.mem_cons.1 h with rfl | h
        · exact .inr List.mem_cons_self
        · rcases ih h with h | h
          · exact .inl h
          · exact .inr (List.mem_cons_of_mem _ h)

/-- Writing one byte keeps the canonical form. -/
@[simp] theorem wf_write {m : List Host.Cell} (a : Nat) (v : Byte) (h : Memory.wf m = true) : Memory.wf (Memory.write m a v) = true := by
  induction m with
  | nil => simp only [Memory.write]; split <;> simp_all [Memory.wf]
  | cons d m ih =>
    obtain ⟨b, w⟩ := d
    have hb := wf_cons.1 h
    have hlow := wf_lower hb.2.2 hb.2.1
    simp only [Memory.write]
    split
    · split
      · exact h
      · rw [wf_cons]; simpa [*] using h
    · split
      · split
        · exact hb.2.2
        · subst_vars; exact wf_of_lower ‹_› hlow hb.2.2
      · refine wf_of_lower hb.1 (fun c hc => ?_) (ih hb.2.2)
        rcases write_mem hc with hc | hc
        · omega
        · exact hlow c hc

/-- Writing bytes keeps the canonical form. -/
@[simp] theorem wf_writes {m : List Host.Cell} (a : Nat) (vs : List Byte) (h : Memory.wf m = true) : Memory.wf (Memory.writes m a vs) = true := by
  induction vs generalizing m a with
  | nil => exact h
  | cons v vs ih => exact ih _ (wf_write a v h)

/-- Dropping cells keeps the canonical form. -/
@[simp] theorem wf_filter {m : List Host.Cell} (p : Host.Cell → Bool) (h : Memory.wf m = true) : Memory.wf (m.filter p) = true := by
  induction m with
  | nil => rfl
  | cons d m ih =>
    obtain ⟨b, w⟩ := d
    have hb := wf_cons.1 h
    have hlow := wf_lower hb.2.2 hb.2.1
    rw [List.filter_cons]
    split
    · exact wf_of_lower hb.1 (fun c hc => hlow c (List.mem_filter.1 hc).1) (ih hb.2.2)
    · exact ih hb.2.2

@[simp] theorem wf_clear {m : List Host.Cell} (a n : Nat) (h : Memory.wf m = true) : Memory.wf (Memory.clear m a n) = true :=
  wf_filter _ h

/-- An address that is not listed reads as the default. -/
theorem read_unlisted {m : List Host.Cell} {a : Nat} (h : ∀ c ∈ m, a ≠ c.1) : Memory.read m a = Memory.dflt := by
  induction m with
  | nil => rfl
  | cons d m ih =>
    obtain ⟨b, w⟩ := d
    have := h (b, w) List.mem_cons_self
    simp only [Memory.read]
    rw [if_neg this]
    exact ih fun c hc => h c (List.mem_cons_of_mem _ hc)

/-- A read after a write: the byte written at its own address, every other byte as before. -/
@[simp] theorem read_write {m : List Host.Cell} (a b : Nat) (v : Byte) (h : Memory.wf m = true) :
    Memory.read (Memory.write m a v) b = if b = a then v else Memory.read m b := by
  induction m with
  | nil => simp only [Memory.write]; split <;> split <;> simp_all [Memory.read]
  | cons d m ih =>
    obtain ⟨c, w⟩ := d
    have hb := wf_cons.1 h
    have hlow := wf_lower hb.2.2 hb.2.1
    have hun : ∀ x, (∀ y ∈ m, x ≠ y.1) → Memory.read m x = Memory.dflt := fun x hx => read_unlisted hx
    simp only [Memory.write]
    split
    · split
      · split
        · subst_vars
          rw [Memory.read, if_neg (by omega)]
          exact hun _ fun y hy e => by have := hlow y hy; omega
        · rfl
      · simp [Memory.read]
    · split
      · subst_vars
        split
        · split
          · subst_vars; exact hun _ fun y hy e => by have := hlow y hy; omega
          · simp [Memory.read, *]
        · simp only [Memory.read]; split <;> simp_all
      · simp only [Memory.read, ih hb.2.2]; split <;> split <;> simp_all

/-! ### Tables -/

@[simp] theorem find_set {α : Type} (m : SMap α) (k : Nat) (v : α) (j : Nat) : (m.set k v).find j = if k = j then some v else m.find j := by
  induction m with
  | nil => simp [SMap.set, SMap.find]
  | cons x m ih =>
    obtain ⟨i, w⟩ := x
    simp only [SMap.set]
    split
    · simp [SMap.find]
    · split
      · subst_vars; simp only [SMap.find]; split <;> rfl
      · simp only [SMap.find, ih]; split <;> simp_all

@[simp] theorem get_set {α : Type} (m : SMap α) (k : Nat) (v : α) (j : Nat) (d : α) : (m.set k v).get j d = if k = j then v else m.get j d := by
  simp only [SMap.get, find_set]; split <;> rfl

@[simp] theorem get_upd {α : Type} (m : SMap α) (k : Nat) (d0 : α) (f : α → α) (j : Nat) (d : α) :
    (m.upd k d0 f).get j d = if k = j then f (m.get k d0) else m.get j d := by simp [SMap.upd]

@[simp] theorem find_mapVals {α β : Type} (m : SMap α) (f : Nat → α → β) (j : Nat) : (m.mapVals f).find j = (m.find j).map (f j) := by
  induction m with
  | nil => rfl
  | cons x m ih =>
    obtain ⟨i, w⟩ := x
    have : SMap.mapVals ((i, w) :: m) f = (i, f i w) :: SMap.mapVals m f := rfl
    simp only [this, SMap.find, ih]; split <;> simp_all

end Sys2Proof.Machine
end

