-- ==== Sys2Proof/Laws/KeptBase.lean ====
section
/-! SUPPORT. What every command keeps of the machine, and how the small steps of a command keep it. -/

set_option Elab.async false

namespace Sys2Proof.Laws
open Sys2Proof Sys2Proof.Machine

/-- The record of a source is latched. -/
def RecLatched (m : SMap Cause) (n : Nat) : Prop := (m.get n {}).latched = true

/-- What a command may never break. -/
structure Kept (l : Bool) (s t : State) : Prop where
  queue : t.pending = s.pending
  store : Memory.wf s.store = true → Memory.wf t.store = true
  clock : s.now ≤ t.now
  key : ∀ k, s.otp.ownerKey = some k → t.otp.ownerKey = some k
  roll : s.otp.rollback ≤ t.otp.rollback
  variant : t.dev.variant = s.dev.variant
  stepping : t.dev.stepping = s.dev.stepping
  latch : l = true → ∀ n, RecLatched s.fcru.recs n → RecLatched t.fcru.recs n

@[simp] theorem Kept.self (l : Bool) (s : State) : Kept l s s :=
  ⟨rfl, id, Nat.le_refl _, fun _ h => h, Nat.le_refl _, rfl, rfl, fun _ _ h => h⟩

theorem Kept.trans {l : Bool} {s t u : State} (h : Kept l s t) (g : Kept l t u) : Kept l s u :=
  ⟨g.queue.trans h.queue, g.store ∘ h.store, h.clock.trans g.clock, fun k x => g.key k (h.key k x), h.roll.trans g.roll,
   g.variant.trans h.variant, g.stepping.trans h.stepping, fun x n y => g.latch x n (h.latch x n y)⟩

theorem Kept.of_fst {α : Type} {l : Bool} {s t : State} {p : State × α} {a : α} (e : p = (t, a)) (h : Kept l s p.1) : Kept l s t := by
  subst e; exact h

theorem Kept.of_snd {α : Type} {l : Bool} {s t : State} {p : α × State} {a : α} (e : p = (a, t)) (h : Kept l s p.2) : Kept l s t := by
  subst e; exact h

/-- A change of other fields. -/
@[simp] theorem Kept.upd {l : Bool} {s e : State} {dv tm ck cy cf gr ar ob po mo pts pd stn g gl pul host mbx pound fc srb tan cap gov jtag fr}
    (h : Kept l s e) (hv : dv.variant = e.dev.variant) (hs : dv.stepping = e.dev.stepping)
    (hl : ∀ n, RecLatched e.fcru.recs n → RecLatched fc.recs n) :
    Kept l s (State.mk e.pending e.now dv e.otp tm ck cy cf gr ar ob po mo pts pd stn g gl pul host mbx pound fc srb tan cap gov jtag e.store fr) :=
  ⟨h.queue, h.store, h.clock, h.key, h.roll, hv.trans h.variant, hs.trans h.stepping, fun x n y => hl n (h.latch x n y)⟩

/-- A change of the store that keeps its form. -/
@[simp] theorem Kept.updStore {l : Bool} {s e : State} {dv tm ck cy cf gr ar ob po mo pts pd stn g gl pul host mbx pound fc srb tan cap gov jtag st fr}
    (h : Kept l s e) (hv : dv.variant = e.dev.variant) (hs : dv.stepping = e.dev.stepping)
    (hl : ∀ n, RecLatched e.fcru.recs n → RecLatched fc.recs n)
    (hw : Memory.wf e.store = true → Memory.wf st = true) :
    Kept l s (State.mk e.pending e.now dv e.otp tm ck cy cf gr ar ob po mo pts pd stn g gl pul host mbx pound fc srb tan cap gov jtag st fr) :=
  ⟨h.queue, hw ∘ h.store, h.clock, h.key, h.roll, hv.trans h.variant, hs.trans h.stepping, fun x n y => hl n (h.latch x n y)⟩

@[simp] theorem latch_upd {m : SMap Cause} {k n : Nat} {d : Cause} {f : Cause → Cause} (hf : ∀ c : Cause, c.latched = true → (f c).latched = true)
    (h : RecLatched m n) : RecLatched (m.upd k d f) n := by
  unfold RecLatched at *
  rw [get_upd]; split
  · subst_vars
    refine hf _ ?_
    simp only [SMap.get] at *
    cases hm : m.find n <;> simp_all
  · exact h

@[simp] theorem latch_set {m : SMap Cause} {k n : Nat} {c : Cause} (hc : RecLatched m k → c.latched = true)
    (h : RecLatched m n) : RecLatched (m.set k c) n := by
  unfold RecLatched at *
  rw [get_set]; split
  · subst_vars; exact hc h
  · exact h

theorem Kept.foldl {α : Type} {l : Bool} {s e : State} (f : State → α → State) (xs : List α) (h : Kept l s e)
    (hf : ∀ x a, Kept l s x → Kept l s (f x a)) : Kept l s (xs.foldl f e) := by
  induction xs generalizing e with
  | nil => exact h
  | cons x xs ih => exact ih (hf e x h)

@[simp] theorem Kept.ite {l : Bool} {s a b : State} {c : Prop} [Decidable c] (ha : c → Kept l s a) (hb : ¬c → Kept l s b) :
    Kept l s (if c then a else b) := by split <;> simp [*]

/-- The same of every next state an outcome can be. -/
def KeptO (l : Bool) (s : State) (o : Host.Outcome State Fault Refusal) : Prop := ∀ t, o = .next t → Kept l s t

@[simp] theorem KeptO.next {l : Bool} {s t : State} : KeptO l s (.next t) ↔ Kept l s t := by simp [KeptO]
@[simp] theorem KeptO.ok {l : Bool} {s t : State} : KeptO l s (ok t) ↔ Kept l s t := by simp [KeptO, Machine.ok]
@[simp] theorem KeptO.fault {l : Bool} {s : State} {f : Fault} : KeptO l s (.fault f) := by simp [KeptO]
@[simp] theorem KeptO.unit {l : Bool} {s t : State} {c : Bool} (h : c = true → Kept l s t) : KeptO l s (Machine.unit c t) := by
  unfold Machine.unit; split <;> simp_all
@[simp] theorem KeptO.ite {l : Bool} {s : State} {a b : Host.Outcome State Fault Refusal} {c : Prop} [Decidable c]
    (ha : c → KeptO l s a) (hb : ¬c → KeptO l s b) : KeptO l s (if c then a else b) := by split <;> simp [*]

end Sys2Proof.Laws
end

