-- ==== Sys2Proof/Laws/KeptFabric.lean ====
section
/-! SUPPORT. What a command keeps, one lemma per operation: Ops, Params, Codec, Mail, Reset, CapTrig, Fcru, Bfp, Get, CapSample, Nodes, Graph, Points, Observer, ArmEngine. -/

set_option linter.all false
set_option Elab.async false

namespace Sys2Proof.Laws
open Sys2Proof Sys2Proof.Machine

theorem kept_ok {l : Bool} {s0 : State} (s : State) (h : Kept l s0 s) : KeptO l s0 (ok s) := by
  simp [ok, *]

theorem kept_unit {l : Bool} {s0 : State} (c : Bool) (s : State) (h : Kept l s0 s) : KeptO l s0 (unit c s) := by
  simp [unit, *]



@[simp] theorem kept_advance {l : Bool} {s0 : State} (n : ℕ) (s : State) (h : Kept l s0 s) : Kept l s0 (advance n s) := by
  unfold advance
  exact ⟨h.queue, h.store, le_trans h.clock (Nat.le_add_right _ _), h.key, h.roll, h.variant, h.stepping, h.latch⟩

@[simp] theorem kept_advanceTo {l : Bool} {s0 : State} (t : ℕ) (s : State) (h : Kept l s0 s) : Kept l s0 (advanceTo t s) := by
  simp [advanceTo, *]

@[simp] theorem kept_tick {l : Bool} {s0 : State} (s : State) (h : Kept l s0 s) : Kept l s0 (tick s) := by
  simp [tick, *]

@[simp] theorem kept_vector {l : Bool} {s0 : State} (v : ℕ) (s : State) (h : Kept l s0 s) : Kept l s0 (vector v s) := by
  unfold vector
  (repeat' split) <;> simp_all

@[simp] theorem kept_mset {l : Bool} {s0 : State} (n : ℕ) (f : Mbx → Mbx) (s : State) (h : Kept l s0 s) : Kept l s0 (mset n f s) := by
  simp [mset, *]

@[simp] theorem kept_intBit {l : Bool} {s0 : State} (n : ℕ) (b : ℕ) (s : State) (h : Kept l s0 s) : Kept l s0 (intBit n b s) := by
  unfold intBit
  dsimp only
  (repeat' split) <;> simp_all

@[simp] theorem kept_udpSend {l : Bool} {s0 : State} (b : Bind) (k : UdpKind) (st : Status) (mbx : ℕ) (sq : Word) (payload : List Byte) (s : State) (h : Kept l s0 s) : Kept l s0 (udpSend b k st mbx sq payload s) := by
  simp [udpSend, *]

@[simp] theorem kept_h2fEmpty {l : Bool} {s0 : State} (n : ℕ) (flushed : Bool) (s : State) (h : Kept l s0 s) : Kept l s0 (h2fEmpty n flushed s) := by
  unfold h2fEmpty
  (repeat' first | (extract_lets +onlyGivenNames x; have hx : Kept l s0 x := (by dsimp only [x]; (repeat' first | split | (refine Kept.foldl _ _ ?_ ?_ <;> intros)) <;> simp_all); clear_value x) | (extract_lets +onlyGivenNames x; subst x) | split | (refine Kept.foldl _ _ ?_ ?_ <;> intros)) <;> simp_all

@[simp] theorem kept_queueMsg {l : Bool} {s0 : State} (n : ℕ) (msg : Msg) (s : State) (h : Kept l s0 s) : Kept l s0 (queueMsg n msg s) := by
  simp [queueMsg, *]

@[simp] theorem kept_respond {l : Bool} {s0 : State} (n : ℕ) (tag : BitVec 16) (op : ℕ) (st : Status) (body : List Byte) (s : State) (h : Kept l s0 s) : Kept l s0 (respond n tag op st body s) := by
  simp [respond, *]

@[simp] theorem kept_dropResponse {l : Bool} {s0 : State} (n : ℕ) (s : State) (h : Kept l s0 s) : Kept l s0 (dropResponse n s) := by
  simp [dropResponse, *]

@[simp] theorem kept_respondLate {l : Bool} {s0 : State} (n : ℕ) (epoch : Word) (tag : BitVec 16) (op : ℕ) (st : Status) (body : List Byte) (s : State) (h : Kept l s0 s) : Kept l s0 (respondLate n epoch tag op st body s) := by
  simp [respondLate, *]

@[simp] theorem kept_respondParts {l : Bool} {s0 : State} (n : ℕ) (epoch : Word) (tag : BitVec 16) (op : ℕ) (bodies : List (List Byte)) (s : State) (h : Kept l s0 s) : Kept l s0 (respondParts n epoch tag op bodies s) := by
  unfold respondParts
  dsimp only
  (repeat' split) <;> simp_all

@[simp] theorem kept_eventTag {l : Bool} {s0 : State} (own : Option (ℕ × Word)) (tag : BitVec 16) (code : ℕ) (bit : ℕ) (body : List Byte) (s : State) (h : Kept l s0 s) : Kept l s0 (eventTag own tag code bit body s) := by
  unfold eventTag
  dsimp only
  (repeat' first | split | (refine Kept.foldl _ _ ?_ ?_ <;> intros)) <;> simp_all

@[simp] theorem kept_event {l : Bool} {s0 : State} (code : ℕ) (bit : ℕ) (body : List Byte) (s : State) (h : Kept l s0 s) : Kept l s0 (event code bit body s) := by
  simp [event, *]

@[simp] theorem kept_scheduledResult {l : Bool} {s0 : State} (w : Waiting) (st : Status) (cycle : CycleNo) (s : State) (h : Kept l s0 s) : Kept l s0 (scheduledResult w st cycle s) := by
  simp [scheduledResult, *]

@[simp] theorem kept_portChange {l : Bool} {s0 : State} (port : ℕ) (st : ℕ) (s : State) (h : Kept l s0 s) : Kept l s0 (portChange port st s) := by
  simp [portChange, *]

@[simp] theorem kept_scanDrop {l : Bool} {s0 : State} (lane : ℕ) (s : State) (h : Kept l s0 s) : Kept l s0 (scanDrop lane s) := by
  unfold scanDrop
  (repeat' split) <;> simp_all

@[simp] theorem kept_linkDown {l : Bool} {s0 : State} (p : ℕ) (s : State) (h : Kept l s0 s) : Kept l s0 (linkDown p s) := by
  unfold linkDown
  split
  · exact kept_scanDrop _ _ (kept_portChange _ _ _ (by simp [h]))
  · exact h

@[simp] theorem kept_endSession {l : Bool} {s0 : State} (n : ℕ) (lost : Bool) (s : State) (h : Kept l s0 s) : Kept l s0 (endSession n lost s) := by
  unfold endSession
  (repeat' first | (extract_lets +onlyGivenNames x; have hx : Kept l s0 x := (by dsimp only [x]; (repeat' first | split | (refine Kept.foldl _ _ ?_ ?_ <;> intros)) <;> simp_all); clear_value x) | (extract_lets +onlyGivenNames x; subst x) | split | (refine Kept.foldl _ _ ?_ ?_ <;> intros)) <;> simp_all

@[simp] theorem kept_senderEnd {l : Bool} {s0 : State} (n : ℕ) (lost : Bool) (s : State) (h : Kept l s0 s) : Kept l s0 (senderEnd n lost s) := by
  simp [senderEnd, *]

@[simp] theorem kept_senderReset {l : Bool} {s0 : State} (n : ℕ) (s : State) (h : Kept l s0 s) : Kept l s0 (senderReset n s) := by
  simp [senderReset, *]

@[simp] theorem kept_bindCleared {l : Bool} {s0 : State} (n : ℕ) (s : State) (h : Kept l s0 s) : Kept l s0 (bindCleared n s) := by
  simp [bindCleared, *]

@[simp] theorem kept_receiverResetOne {l : Bool} {s0 : State} (n : ℕ) (s : State) (h : Kept l s0 s) : Kept l s0 (receiverResetOne n s) := by
  unfold receiverResetOne
  exact kept_endSession _ _ _ (kept_bindCleared _ _ (kept_mset _ _ _ (Kept.ite (fun _ => kept_h2fEmpty _ _ _ h) fun _ => h)))

@[simp] theorem kept_receiverReset {l : Bool} {s0 : State} (s : State) (h : Kept l s0 s) : Kept l s0 (receiverReset s) := by
  unfold receiverReset
  exact Kept.foldl _ _ (Kept.upd h rfl rfl fun _ a => a) fun x a hx => kept_receiverResetOne _ _ hx

/-- A latched record stays latched through a warm reset (R380). -/
theorem recs_through_reset {m : SMap Cause} {n : Nat} (h : RecLatched m n) :
    RecLatched (m.mapVals (fun _ c => recThroughReset c)) n := by
  simp only [RecLatched, SMap.get, find_mapVals] at *
  cases hm : m.find n <;> simp_all [recThroughReset]

theorem kept_powerOnState {l : Bool} {s0 : State} (s : State) (h : Kept l s0 s) : Kept false s0 (powerOnState s) :=
  ⟨h.queue, fun _ => rfl, h.clock, h.key, h.roll, h.variant, h.stepping, by simp⟩


@[simp] theorem kept_warmState {l : Bool} {s0 : State} (s1 : State) (h : Kept l s0 s1) : Kept l s0 (warmState s1) := by
  unfold warmState
  extract_lets +onlyGivenNames x
  have g : Kept l s0 x := kept_receiverReset s1 h
  clear_value x
  exact ⟨g.queue, fun w => wf_filter _ (g.store w), g.clock, g.key, g.roll, g.variant, g.stepping,
    fun a n y => recs_through_reset (g.latch a n y)⟩

@[simp] theorem kept_level5State {l : Bool} {s0 : State} (s : State) (h : Kept l s0 s) : Kept l s0 (level5State s) := by
  unfold level5State
  extract_lets +onlyGivenNames x
  have g : Kept l s0 x := kept_warmState s h
  clear_value x
  exact ⟨g.queue, g.store, g.clock, g.key, g.roll, g.variant, g.stepping, g.latch⟩

@[simp] theorem kept_bootState {l : Bool} {s0 : State} (s : State) (h : Kept l s0 s) : Kept l s0 (bootState s) := by
  simp [bootState, *]

/-- A sample of a histogram or map keeps the store's form. -/
theorem wf_capBin (n : Nat) (c : CapCh) (v : Int) (x : Option Nat) (s : State) (h : Memory.wf s.store = true) :
    Memory.wf (capBin n c v x s).2 = true := by
  unfold capBin
  dsimp only
  (repeat' split) <;> first | exact h | exact wf_writes _ _ h

/-- A mark in a time record keeps the store's form. -/
theorem wf_capMark (n : Nat) (c : CapCh) (b : Nat) (t : Bool) (s : State) (h : Memory.wf s.store = true) :
    Memory.wf (capMark n c b t s) = true := by
  unfold capMark; dsimp only; split <;> simp_all


@[simp] theorem kept_capPut {l : Bool} {s0 : State} (n : ℕ) (c : CapCh) (hdr : Bool) (s : State) (h : Kept l s0 s) : Kept l s0 (capPut n c hdr s) := by
  unfold capPut
  (repeat' split) <;> simp_all

@[simp] theorem kept_trgFireOne {l : Bool} {s0 : State} (t : ℕ) (n : ℕ) (s : State) (h : Kept l s0 s) : Kept l s0 (trgFireOne t n s) := by
  unfold trgFireOne
  extract_lets +onlyGivenNames c live
  clear_value live
  dsimp only
  split
  · exact h
  · split
    · split
      · exact kept_capPut _ _ _ _ (Kept.updStore h rfl rfl (fun _ a => a)
          (fun w => wf_capMark _ _ _ _ _ (wf_capBin _ _ _ _ _ w)))
      · exact kept_capPut _ _ _ _ (Kept.updStore h rfl rfl (fun _ a => a) (fun w => wf_capMark _ _ _ _ _ w))
    · exact kept_capPut _ _ _ _ h

@[simp] theorem kept_trgFire {l : Bool} {s0 : State} (t : ℕ) (s : State) (h : Kept l s0 s) : Kept l s0 (trgFire t s) := by
  unfold trgFire
  refine Kept.foldl _ _ (by simp [*]) ?_
  intros
  simp [*]

@[simp] theorem kept_trgKind {l : Bool} {s0 : State} (kind : ℕ) (p : ℕ → Bool) (s : State) (h : Kept l s0 s) : Kept l s0 (trgKind kind p s) := by
  unfold trgKind
  refine Kept.foldl _ _ (by simp [*]) ?_
  intros
  simp [*]

@[simp] theorem kept_trgFault {l : Bool} {s0 : State} (src : ℕ) (cls : ℕ) (s : State) (h : Kept l s0 s) : Kept l s0 (trgFault src cls s) := by
  simp [trgFault, *]

@[simp] theorem kept_trgState {l : Bool} {s0 : State} (s : State) (h : Kept l s0 s) : Kept l s0 (trgState s) := by
  simp [trgState, *]

/-- The record an assertion leaves is latched. -/
theorem assertRec_latched (s : State) (src : Nat) (f : FaultInfo) (lvl : Nat) (esc block inj : Bool) (d : List Byte) :
    (assertRec s src f lvl esc block inj d).latched = true := by
  unfold assertRec
  dsimp only
  split <;> simp_all

@[simp] theorem kept_safetyEvent {l : Bool} {s0 : State} (cause : ℕ) (prof : ℕ) (k : ℕ) (value : ℤ) (e : ℤ) (s : State) (h : Kept l s0 s) : Kept l s0 (safetyEvent cause prof k value e s) := by
  simp [safetyEvent, *]

@[simp] theorem kept_srbGo {l : Bool} {s0 : State} (st : SrbState) (cause : ℕ) (k : ℕ) (value : ℤ) (e : ℤ) (s : State) (h : Kept l s0 s) : Kept l s0 (srbGo st cause k value e s) := by
  unfold srbGo
  dsimp only
  (repeat' first | split | (refine Kept.foldl _ _ ?_ ?_ <;> intros)) <;> simp_all

@[simp] theorem kept_srbStartRamp {l : Bool} {s0 : State} (s : State) (h : Kept l s0 s) : Kept l s0 (srbStartRamp s) := by
  simp [srbStartRamp, *]

@[simp] theorem kept_srbOnState {l : Bool} {s0 : State} (new : DevState) (s : State) (h : Kept l s0 s) : Kept l s0 (srbOnState new s) := by
  unfold srbOnState
  (repeat' split) <;> simp_all

@[simp] theorem kept_moveState {l : Bool} {s0 : State} (new : DevState) (s : State) (h : Kept l s0 s) : Kept l s0 (moveState new s) := by
  unfold moveState
  split
  · exact h
  · exact kept_srbOnState _ _ (kept_trgState _ (kept_event _ _ _ _ (kept_vector _ _ (Kept.upd h rfl rfl fun _ a => a))))

@[simp] theorem kept_setPhase {l : Bool} {s0 : State} (p : Phase) (s : State) (h : Kept l s0 s) : Kept l s0 (setPhase p s) := by
  unfold setPhase
  split
  · exact h
  · exact kept_event _ _ _ _ (kept_vector _ _ (Kept.upd h rfl rfl (fun _ a => a)))

@[simp] theorem kept_clear {l : Bool} {s0 : State} (src : ℕ) (s : State) (h : Kept l s0 s) : Kept l s0 (clear src s) := by
  unfold clear
  dsimp only
  split
  · exact Kept.upd h rfl rfl (fun n hn => latch_set (fun a => a) hn)
  · exact h

@[simp] theorem kept_portRelock {l : Bool} {s0 : State} (p : ℕ) (s : State) (h : Kept l s0 s) : Kept l s0 (portRelock p s) := by
  unfold portRelock
  dsimp only
  (repeat' split) <;> simp_all

@[simp] theorem kept_pulStop {l : Bool} {s0 : State} (s : State) (h : Kept l s0 s) : Kept l s0 (pulStop s) := by
  simp [pulStop, *]

@[simp] theorem kept_blockReset {l : Bool} {s0 : State} (d : BlockDomain) (s : State) (h : Kept l s0 s) : Kept l s0 (blockReset d s) := by
  unfold blockReset
  dsimp only
  (repeat' split) <;> simp_all

@[simp] theorem kept_react4 {l : Bool} {s0 : State} (block : Bool) (s : State) (h : Kept l s0 s) : Kept l s0 (react4 block s) := by
  unfold react4
  (repeat' first | (extract_lets +onlyGivenNames x; have hx : Kept l s0 x := (by dsimp only [x]; (repeat' first | split | (refine Kept.foldl _ _ ?_ ?_ <;> intros)) <;> simp_all); clear_value x) | (extract_lets +onlyGivenNames x; subst x) | split | (refine Kept.foldl _ _ ?_ ?_ <;> intros)) <;> simp_all

@[simp] theorem kept_reactSignal {l : Bool} {s0 : State} (src : ℕ) (f : FaultInfo) (lvl : ℕ) (s : State) (h : Kept l s0 s) : Kept l s0 (reactSignal src f lvl s) := by
  unfold reactSignal
  exact kept_event _ _ _ _ (Kept.ite (fun _ => kept_vector _ _ (kept_vector _ _ h)) fun _ => kept_vector _ _ h)

@[simp] theorem kept_reactTrap {l : Bool} {s0 : State} (src : ℕ) (s : State) (h : Kept l s0 s) : Kept l s0 (reactTrap src s) := by
  unfold reactTrap
  split <;> simp [*]

@[simp] theorem kept_reactDomain {l : Bool} {s0 : State} (src : ℕ) (s : State) (h : Kept l s0 s) : Kept l s0 (reactDomain src s) := by
  unfold reactDomain
  split <;> simp [*]

@[simp] theorem kept_reactLow {l : Bool} {s0 : State} (src : ℕ) (f : FaultInfo) (lvl : ℕ) (block : Bool) (s : State) (h : Kept l s0 s) : Kept l s0 (reactLow src f lvl block s) := by
  unfold reactLow
  dsimp only
  have h1 : Kept l s0 (if 1 ≤ lvl then reactSignal src f lvl s else s) := Kept.ite (fun _ => kept_reactSignal _ _ _ _ h) fun _ => h
  revert h1
  generalize (if 1 ≤ lvl then reactSignal src f lvl s else s) = a
  intro h1
  have h2 : Kept l s0 (if 2 ≤ lvl then reactTrap src a else a) := Kept.ite (fun _ => kept_reactTrap _ _ h1) fun _ => h1
  revert h2
  generalize (if 2 ≤ lvl then reactTrap src a else a) = b
  intro h2
  have h3 : Kept l s0 (if 3 ≤ lvl then reactDomain src b else b) := Kept.ite (fun _ => kept_reactDomain _ _ h2) fun _ => h2
  revert h3
  generalize (if 3 ≤ lvl then reactDomain src b else b) = c
  intro h3
  exact Kept.ite (fun _ => Kept.upd h3 rfl rfl fun _ a => a) fun _ => h3

@[simp] theorem kept_react {l : Bool} {s0 : State} (src : ℕ) (f : FaultInfo) (lvl : ℕ) (block : Bool) (s : State) (h : Kept l s0 s) : Kept l s0 (react src f lvl block s) := by
  unfold react
  dsimp only
  refine Kept.ite (fun _ => kept_level5State _ ?_) fun _ => Kept.ite (fun _ => kept_react4 _ _ ?_) fun _ => ?_
  all_goals
    refine kept_reactLow _ _ _ _ _ (Kept.upd h rfl rfl fun n a => ?_)
    dsimp only
    exact latch_upd (fun c (hc : c.latched = true) => show c.latched = true from hc) a

@[simp] theorem kept_logSource {l : Bool} {s0 : State} (src : ℕ) (f : FaultInfo) (injected : Bool) (detail : List Byte) (s : State) (h : Kept l s0 s) : Kept l s0 (logSource src f injected detail s) := by
  unfold logSource
  dsimp only
  refine Kept.upd h rfl rfl fun n a => latch_set (fun b => ?_) a
  split <;> exact assertRec_latched ..

@[simp] theorem kept_assertSource {l : Bool} {s0 : State} (src : ℕ) (f : FaultInfo) (injected : Bool) (detail : List Byte) (s : State) (h : Kept l s0 s) : Kept l s0 (assertSource src f injected detail s) := by
  unfold assertSource
  dsimp only
  exact Kept.ite (fun _ => kept_trgFault _ _ _ (kept_logSource _ _ _ _ _ h)) fun _ => kept_react _ _ _ _ _ (kept_trgFault _ _ _ (kept_logSource _ _ _ _ _ h))

@[simp] theorem kept_raise {l : Bool} {s0 : State} (src : ℕ) (detail : List Byte) (s : State) (h : Kept l s0 s) : Kept l s0 (raise src detail s) := by
  unfold raise
  (repeat' split) <;> simp_all

@[simp] theorem kept_srbFault {l : Bool} {s0 : State} (src : ℕ) (cause : ℕ) (k : ℕ) (value : ℤ) (e : ℤ) (s : State) (h : Kept l s0 s) : Kept l s0 (srbFault src cause k value e s) := by
  unfold srbFault
  (repeat' split) <;> simp_all

@[simp] theorem kept_levelSource {l : Bool} {s0 : State} (src : ℕ) (on : Bool) (detail : List Byte) (s : State) (h : Kept l s0 s) : Kept l s0 (levelSource src on detail s) := by
  simp [levelSource, *]

@[simp] theorem kept_judgeCtOffset {l : Bool} {s0 : State} (s : State) (h : Kept l s0 s) : Kept l s0 (judgeCtOffset s) := by
  unfold judgeCtOffset
  dsimp only
  (repeat' split) <;> simp_all


@[simp] theorem kept_setPt {l : Bool} {s0 : State} (p : ℕ) (xx : GetPt) (s : State) (h : Kept l s0 s) : Kept l s0 (setPt p xx s) := by
  simp [setPt, *]

@[simp] theorem kept_fastEdge {l : Bool} {s0 : State} (p : ℕ) (s : State) (h : Kept l s0 s) : Kept l s0 (fastEdge p s) := by
  unfold fastEdge
  dsimp only
  (repeat' split) <;> simp_all

@[simp] theorem kept_getClose {l : Bool} {s0 : State} (s : State) (h : Kept l s0 s) : Kept l s0 (getClose s) := by
  unfold getClose
  split
  · exact h
  · refine Kept.foldl _ _ (Kept.upd h rfl rfl fun _ a => a) fun x a hx => ?_
    dsimp only
    split <;> simp [*]

@[simp] theorem kept_takeEdge {l : Bool} {s0 : State} (i : ℕ) (t : ℕ) (s : State) (h : Kept l s0 s) : Kept l s0 (takeEdge i t s) := by
  unfold takeEdge
  extract_lets s1 g s2
  have h1 : Kept l s0 s1 := by dsimp only [s1]; (repeat' split) <;> simp [*]
  have h2 : Kept l s0 s2 := Kept.upd h1 rfl rfl fun _ a => a
  refine kept_clear _ _ (Kept.foldl _ _ h2 fun x a hx => ?_)
  split <;> simp [*]

theorem kept_execGeEdge {l : Bool} {s0 : State} (input : ℕ) (rising : Bool) (eu : ℕ) (s : State) (h : Kept l s0 s) : KeptO l s0 (execGeEdge input rising eu s) := by
  unfold execGeEdge
  (repeat' first | (extract_lets +onlyGivenNames x; have hx : Kept l s0 x := (by dsimp only [x]; (repeat' first | split | (refine Kept.foldl _ _ ?_ ?_ <;> intros)) <;> simp_all); clear_value x) | (extract_lets +onlyGivenNames x; subst x) | split | (refine Kept.foldl _ _ ?_ ?_ <;> intros)) <;> simp_all

theorem kept_execGetCoasting {l : Bool} {s0 : State} (pt : ℕ) (s : State) (h : Kept l s0 s) : KeptO l s0 (execGetCoasting pt s) := by
  unfold execGetCoasting
  refine KeptO.unit fun _ => ?_
  split
  · exact kept_getClose _ h
  · exact kept_setPt _ _ _ (kept_getClose _ h)

theorem kept_execGetStandstill {l : Bool} {s0 : State} (pt : ℕ) (s : State) (h : Kept l s0 s) : KeptO l s0 (execGetStandstill pt s) := by
  unfold execGetStandstill
  refine KeptO.unit fun _ => ?_
  split
  · exact kept_getClose _ h
  · exact kept_raise _ _ _ (kept_setPt _ _ _ (kept_getClose _ h))

@[simp] theorem kept_getFreeze {l : Bool} {s0 : State} (s : State) (h : Kept l s0 s) : Kept l s0 (getFreeze s) := by
  simp [getFreeze, *]

@[simp] theorem kept_getLaunch {l : Bool} {s0 : State} (s : State) (h : Kept l s0 s) : Kept l s0 (getLaunch s) := by
  unfold getLaunch
  dsimp only
  (repeat' first | split | (refine Kept.foldl _ _ ?_ ?_ <;> intros)) <;> simp_all

@[simp] theorem kept_trgWatch {l : Bool} {s0 : State} (kind : ℕ) (idx : ℕ) (el : ℕ) (v : ℤ) (s : State) (h : Kept l s0 s) : Kept l s0 (trgWatch kind idx el v s) := by
  unfold trgWatch
  dsimp only
  (repeat' first | split | (refine Kept.foldl _ _ ?_ ?_ <;> intros)) <;> simp_all

@[simp] theorem kept_capDrain {l : Bool} {s0 : State} (s : State) (h : Kept l s0 s) : Kept l s0 (capDrain s) := by
  simp [capDrain, *]

@[simp] theorem kept_capOverflow {l : Bool} {s0 : State} (n : ℕ) (s : State) (h : Kept l s0 s) : Kept l s0 (capOverflow n s) := by
  unfold capOverflow
  (repeat' first | (extract_lets +onlyGivenNames x; have hx : Kept l s0 x := (by dsimp only [x]; (repeat' first | split | (refine Kept.foldl _ _ ?_ ?_ <;> intros)) <;> simp_all); clear_value x) | (extract_lets +onlyGivenNames x; subst x) | split | (refine Kept.foldl _ _ ?_ ?_ <;> intros)) <;> simp_all

@[simp] theorem kept_capWrite {l : Bool} {s0 : State} (n : ℕ) (xx : CapVal) (s : State) (h : Kept l s0 s) : Kept l s0 (capWrite n xx s) := by
  unfold capWrite
  extract_lets +onlyGivenNames c fired col st wasArmed
  have hst : Memory.wf s.store = true → Memory.wf st = true := by
    intro w; unfold st; split
    · exact wf_writes _ _ w
    · exact w
  clear_value st c
  dsimp only
  have g : Kept l s0 { s with store := st } := Kept.updStore h rfl rfl (fun _ a => a) hst
  split
  · split
    · exact kept_capPut _ _ _ _ g
    · exact kept_capPut _ _ _ _ g
  · split
    · exact kept_capPut _ _ _ _ g
    · refine kept_capPut _ _ _ _ (Kept.updStore h rfl rfl (fun _ a => a) (fun w => ?_))
      split
      · exact wf_write _ _ (wf_capBin _ _ _ _ _ (hst w))
      · exact wf_capBin _ _ _ _ _ (hst w)
  · exact kept_capPut _ _ _ _ (Kept.updStore h rfl rfl (fun _ a => a) (fun w => wf_capBin _ _ _ _ _ (hst w)))
  · exact g

@[simp] theorem kept_capTake {l : Bool} {s0 : State} (n : ℕ) (xx : CapVal) (s : State) (h : Kept l s0 s) : Kept l s0 (capTake n xx s) := by
  unfold capTake
  (repeat' first | (extract_lets +onlyGivenNames x; have hx : Kept l s0 x := (by dsimp only [x]; (repeat' first | split | (refine Kept.foldl _ _ ?_ ?_ <;> intros)) <;> simp_all); clear_value x) | (extract_lets +onlyGivenNames x; subst x) | split | (refine Kept.foldl _ _ ?_ ?_ <;> intros)) <;> simp_all

@[simp] theorem kept_capFeed {l : Bool} {s0 : State} (kind : ℕ) (idx : ℕ) (el : ℕ) (xx : CapVal) (s : State) (h : Kept l s0 s) : Kept l s0 (capFeed kind idx el xx s) := by
  unfold capFeed
  refine Kept.foldl _ _ (by simp [*]) ?_
  intros
  simp [*]

@[simp] theorem kept_capGap {l : Bool} {s0 : State} (kind : ℕ) (idx : ℕ) (s : State) (h : Kept l s0 s) : Kept l s0 (capGap kind idx s) := by
  unfold capGap
  refine Kept.foldl _ _ (by simp [*]) ?_
  intros
  simp [*]

@[simp] theorem kept_capEdge {l : Bool} {s0 : State} (ch : ℕ) (ev : ℕ) (ti : ℕ) (eu : ℕ) (s : State) (h : Kept l s0 s) : Kept l s0 (capEdge ch ev ti eu s) := by
  unfold capEdge
  refine Kept.foldl _ _ (by simp [*]) ?_
  intros
  simp [*]


@[simp] theorem kept_withGraph {l : Bool} {s0 : State} (s : State) (g : Graph) (h : Kept l s0 s) : Kept l s0 (withGraph s g) := by
  simp [withGraph, *]

@[simp] theorem kept_graphStart {l : Bool} {s0 : State} (s : State) (h : Kept l s0 s) : Kept l s0 (graphStart s) := by
  simp [graphStart, *]

@[simp] theorem kept_graphObsDone {l : Bool} {s0 : State} (t : ℕ) (s : State) (h : Kept l s0 s) : Kept l s0 (graphObsDone t s) := by
  simp [graphObsDone, *]

@[simp] theorem kept_laneMismatch {l : Bool} {s0 : State} (ll : ℕ) (slice : ℕ) (s : State) (h : Kept l s0 s) : Kept l s0 (laneMismatch ll slice s) := by
  unfold laneMismatch
  (repeat' first | (extract_lets +onlyGivenNames x; have hx : Kept l s0 x := (by dsimp only [x]; (repeat' first | split | (refine Kept.foldl _ _ ?_ ?_ <;> intros)) <;> simp_all); clear_value x) | (extract_lets +onlyGivenNames x; subst x) | split | (refine Kept.foldl _ _ ?_ ?_ <;> intros)) <;> simp_all

theorem kept_execLaneStepComplete {l : Bool} {s0 : State} (lane : ℕ) (dur : ℕ) (residue : Option ℕ) (s : State) (h : Kept l s0 s) : KeptO l s0 (execLaneStepComplete lane dur residue s) := by
  unfold execLaneStepComplete
  (repeat' first | (extract_lets +onlyGivenNames x; have hx : Kept l s0 x := (by dsimp only [x]; (repeat' first | split | (refine Kept.foldl _ _ ?_ ?_ <;> intros)) <;> simp_all); clear_value x) | (extract_lets +onlyGivenNames x; subst x) | split | (refine Kept.foldl _ _ ?_ ?_ <;> intros)) <;> simp_all

@[simp] theorem kept_phaseNode {l : Bool} {s0 : State} (n : NodeDef) (out : Stage) (s : State) (h : Kept l s0 s) : Kept l s0 (phaseNode n out s) := by
  unfold phaseNode
  dsimp only
  (repeat' split) <;> simp_all

@[simp] theorem kept_nodeDone {l : Bool} {s0 : State} (ll : ℕ) (n : ℕ) (s : State) (h : Kept l s0 s) : Kept l s0 (nodeDone ll n s) := by
  unfold nodeDone
  (try first | refine KeptO.unit fun _ => ?_ | rw [KeptO.ok])
  (repeat' first | (extract_lets +onlyGivenNames x; have hx : Kept l s0 x := (by dsimp only [x]; (repeat' first | split | (refine Kept.foldl _ _ ?_ ?_ <;> intros)) <;> simp_all); clear_value x) | (extract_lets +onlyGivenNames x; subst x) | split | (refine Kept.foldl _ _ ?_ ?_ <;> intros))
  all_goals (first | (have hk := Kept.of_fst (l := l) (s := s0) (by assumption) (by simp [*]); simp [*]; done) | (have hk := Kept.of_snd (l := l) (s := s0) (by assumption) (by simp [*]); simp [*]; done) | simp [*])

theorem kept_execNodeOutputComplete {l : Bool} {s0 : State} (lane : ℕ) (dur : ℕ) (s : State) (h : Kept l s0 s) : KeptO l s0 (execNodeOutputComplete lane dur s) := by
  unfold execNodeOutputComplete
  (first | refine KeptO.unit fun _ => ?_ | rw [KeptO.ok])
  (repeat' first | (extract_lets +onlyGivenNames x; have hx : Kept l s0 x := (by dsimp only [x]; (repeat' first | split | (refine Kept.foldl _ _ ?_ ?_ <;> intros)) <;> simp_all); clear_value x) | (extract_lets +onlyGivenNames x; subst x) | split | (refine Kept.foldl _ _ ?_ ?_ <;> intros)) <;> simp [*]

@[simp] theorem kept_placeAtCutoff {l : Bool} {s0 : State} (s : State) (h : Kept l s0 s) : Kept l s0 (placeAtCutoff s) := by
  simp [placeAtCutoff, *]

@[simp] theorem kept_judgeMoves {l : Bool} {s0 : State} (s : State) (h : Kept l s0 s) : Kept l s0 (judgeMoves s) := by
  unfold judgeMoves
  dsimp only
  (repeat' split) <;> simp_all

@[simp] theorem kept_judgeBound {l : Bool} {s0 : State} (s : State) (h : Kept l s0 s) : Kept l s0 (judgeBound s) := by
  unfold judgeBound
  dsimp only
  (repeat' split) <;> simp_all

@[simp] theorem kept_buildSet {l : Bool} {s0 : State} (s : State) (h : Kept l s0 s) : Kept l s0 (buildSet s) := by
  unfold buildSet
  dsimp only
  (repeat' split) <;> simp_all

@[simp] theorem kept_writeObservables {l : Bool} {s0 : State} (missed : Bool) (s : State) (h : Kept l s0 s) : Kept l s0 (writeObservables missed s) := by
  simp [writeObservables, *]

@[simp] theorem kept_holdoffTick {l : Bool} {s0 : State} (s : State) (h : Kept l s0 s) : Kept l s0 (holdoffTick s) := by
  simp [holdoffTick, *]

@[simp] theorem kept_schedLaunch {l : Bool} {s0 : State} (s : State) (h : Kept l s0 s) : Kept l s0 (schedLaunch s) := by
  simp (maxDischargeDepth := 30) [schedLaunch, *]

@[simp] theorem kept_schedIdle {l : Bool} {s0 : State} (s : State) (h : Kept l s0 s) : Kept l s0 (schedIdle s) := by
  simp (maxDischargeDepth := 30) [schedIdle, *]

@[simp] theorem kept_schedMiss {l : Bool} {s0 : State} (s : State) (h : Kept l s0 s) : Kept l s0 (schedMiss s) := by
  simp [schedMiss, *]

@[simp] theorem kept_raiseSat {l : Bool} {s0 : State} (ns : List ℕ) (s : State) (h : Kept l s0 s) : Kept l s0 (raiseSat ns s) := by
  unfold raiseSat
  refine Kept.foldl _ _ (by simp [*]) ?_
  intros
  simp [*]

@[simp] theorem kept_raiseDiverge {l : Bool} {s0 : State} (s : State) (h : Kept l s0 s) : Kept l s0 (raiseDiverge s) := by
  unfold raiseDiverge
  dsimp only
  (repeat' split) <;> simp_all

@[simp] theorem kept_spFlags {l : Bool} {s0 : State} (s : State) (h : Kept l s0 s) : Kept l s0 (spFlags s) := by
  unfold spFlags
  dsimp only
  (repeat' first | split | (refine Kept.foldl _ _ ?_ ?_ <;> intros)) <;> simp_all

@[simp] theorem kept_commitNodes {l : Bool} {s0 : State} (s : State) (h : Kept l s0 s) : Kept l s0 (commitNodes s) := by
  simp (maxDischargeDepth := 30) [commitNodes, *]

@[simp] theorem kept_ptCheck {l : Bool} {s0 : State} (p : ℕ) (xx : Point) (s : State) (h : Kept l s0 s) : Kept l s0 (ptCheck p xx s) := by
  unfold ptCheck
  dsimp only
  (repeat' first | split | (refine Kept.foldl _ _ ?_ ?_ <;> intros)) <;> simp_all

@[simp] theorem kept_ptWrite {l : Bool} {s0 : State} (p : ℕ) (v : Word) (cycle : CycleNo) (tick : ℕ) (s : State) (h : Kept l s0 s) : Kept l s0 (ptWrite p v cycle tick s) := by
  unfold ptWrite
  dsimp only
  (repeat' split) <;> simp_all

@[simp] theorem kept_ptCount {l : Bool} {s0 : State} (p : ℕ) (n : ℕ) (cycle : CycleNo) (tick : ℕ) (s : State) (h : Kept l s0 s) : Kept l s0 (ptCount p n cycle tick s) := by
  simp [ptCount, *]

@[simp] theorem kept_ptInt {l : Bool} {s0 : State} (p : ℕ) (xx : ℤ) (cycle : CycleNo) (tick : ℕ) (s : State) (h : Kept l s0 s) : Kept l s0 (ptInt p xx cycle tick s) := by
  simp [ptInt, *]

@[simp] theorem kept_ptRelimit {l : Bool} {s0 : State} (s : State) (h : Kept l s0 s) : Kept l s0 (ptRelimit s) := by
  simp [ptRelimit, *]

theorem kept_execPointStale {l : Bool} {s0 : State} (pt : ℕ) (s : State) (h : Kept l s0 s) : KeptO l s0 (execPointStale pt s) := by
  unfold execPointStale
  dsimp only
  (repeat' split) <;> simp_all

@[simp] theorem kept_obsPoints {l : Bool} {s0 : State} (arm : ℕ) (ci : ℕ) (s : State) (h : Kept l s0 s) : Kept l s0 (obsPoints arm ci s) := by
  simp (maxDischargeDepth := 30) [obsPoints, *]

@[simp] theorem kept_currentFaults {l : Bool} {s0 : State} (arm : ℕ) (held : Bool) (s : State) (h : Kept l s0 s) : Kept l s0 (currentFaults arm held s) := by
  unfold currentFaults
  (repeat' split) <;> simp_all

@[simp] theorem kept_obsArm {l : Bool} {s0 : State} (s1 : State) (arm : ℕ) (s : State) (h : Kept l s0 s) : Kept l s0 (obsArm s1 arm s) := by
  unfold obsArm
  dsimp only
  refine Kept.foldl _ _ ?_ fun x m hx => ?_
  · refine kept_currentFaults _ _ _ ?_
    exact Kept.upd h rfl rfl fun _ a => a
  · refine kept_obsPoints _ _ _ ?_
    refine Kept.foldl _ _ ?_ fun y a hy => kept_raise _ _ _ hy
    refine Kept.foldl _ _ ?_ fun y a hy => kept_raise _ _ _ hy
    exact Kept.upd hx rfl rfl fun _ a => a

@[simp] theorem kept_writeImage {l : Bool} {s0 : State} (s : State) (h : Kept l s0 s) : Kept l s0 (writeImage s) := by
  simp [writeImage, *]

@[simp] theorem kept_obsUnseed {l : Bool} {s0 : State} (s : State) (h : Kept l s0 s) : Kept l s0 (obsUnseed s) := by
  simp [obsUnseed, *]

theorem kept_execObserverUpdateComplete {l : Bool} {s0 : State} (s : State) (h : Kept l s0 s) : KeptO l s0 (execObserverUpdateComplete s) := by
  unfold execObserverUpdateComplete
  split
  · simpa using h
  · have h1 : Kept l s0 ((armsUsed s).foldl (fun t a => obsArm s a t) s) := Kept.foldl _ _ h fun x a hx => kept_obsArm _ _ _ hx
    revert h1
    dsimp only
    generalize ((armsUsed s).foldl (fun t a => obsArm s a t) s) = s1
    intro h1
    rw [KeptO.ok]
    refine Kept.ite (fun _ => ?_) (fun _ => kept_graphObsDone _ _ ?_)
    all_goals refine kept_writeImage _ ?_
    all_goals exact Kept.upd h1 rfl rfl fun _ a => a

@[simp] theorem kept_settleAll {l : Bool} {s0 : State} (s : State) (h : Kept l s0 s) : Kept l s0 (settleAll s) := by
  unfold settleAll
  have h1 : Kept l s0 ((armsUsed s).foldl (fun (acc : State × CatFaults × List (Waiting × Status)) a =>
      let (x, f, r) := armSettle s a
      ({ acc.1 with arms := acc.1.arms.set a x }, acc.2.1 ++ f, acc.2.2 ++ r)) (s, [], [])).1 := by
    generalize armsUsed s = xs
    suffices ∀ acc : State × CatFaults × List (Waiting × Status), Kept l s0 acc.1 → Kept l s0 (xs.foldl (fun (acc : State × CatFaults × List (Waiting × Status)) a =>
      let (x, f, r) := armSettle s a
      ({ acc.1 with arms := acc.1.arms.set a x }, acc.2.1 ++ f, acc.2.2 ++ r)) acc).1 from this _ h
    induction xs with
    | nil => exact fun _ a => a
    | cons x xs ih => exact fun acc ha => ih _ (Kept.upd ha rfl rfl fun _ a => a)
  revert h1
  split
  rename_i heq
  intro h1
  rw [heq] at h1
  exact Kept.foldl _ _ (Kept.foldl _ _ h1 fun x a hx => kept_raise _ _ _ hx) fun x a hx => kept_scheduledResult _ _ _ _ hx

theorem kept_execArmEngineComplete {l : Bool} {s0 : State} (arm : ℕ) (s : State) (h : Kept l s0 s) : KeptO l s0 (execArmEngineComplete arm s) := by
  unfold execArmEngineComplete
  (repeat' split) <;> simp_all

@[simp] theorem kept_judgeSwitching {l : Bool} {s0 : State} (arm : ℕ) (s : State) (h : Kept l s0 s) : Kept l s0 (judgeSwitching arm s) := by
  unfold judgeSwitching
  dsimp only
  (repeat' split) <;> simp_all

@[simp] theorem kept_armPoints {l : Bool} {s0 : State} (arm : ℕ) (block : Bool) (s : State) (h : Kept l s0 s) : Kept l s0 (armPoints arm block s) := by
  unfold armPoints
  refine Kept.foldl _ _ (by simp [*]) ?_
  intros
  simp [*]

@[simp] theorem kept_armCommit {l : Bool} {s0 : State} (arm : ℕ) (s : State) (h : Kept l s0 s) : Kept l s0 (armCommit arm s) := by
  unfold armCommit
  (repeat' first | (extract_lets +onlyGivenNames x; have hx : Kept l s0 x := (by dsimp only [x]; (repeat' first | split | (refine Kept.foldl _ _ ?_ ?_ <;> intros)) <;> simp_all); clear_value x) | (extract_lets +onlyGivenNames x; subst x) | split | (refine Kept.foldl _ _ ?_ ?_ <;> intros)) <;> simp_all

@[simp] theorem kept_armCommitBlock {l : Bool} {s0 : State} (arm : ℕ) (s : State) (h : Kept l s0 s) : Kept l s0 (armCommitBlock arm s) := by
  simp [armCommitBlock, *]

end Sys2Proof.Laws
end

