-- ==== Sys2Proof/Laws/Fault.lean ====
section
/-! SUPPORT. What an assertion and a clearing of a fault source do. -/

set_option Elab.async false

namespace Sys2Proof.Laws
open Sys2Proof Sys2Proof.Machine

/-- An assertion latches its source's record, whatever the reaction. -/
theorem assertSource_latches (src : Nat) (f : FaultInfo) (inj : Bool) (d : List Byte) (s : State) :
    RecLatched (assertSource src f inj d s).fcru.recs src := by
  have h0 : RecLatched (logSource src f inj d s).fcru.recs src := by
    unfold logSource
    simp only [RecLatched, get_set, if_pos]
    split <;> exact assertRec_latched ..
  have h1 : RecLatched (trgFault src f.cls (logSource src f inj d s)).fcru.recs src :=
    (kept_trgFault (l := true) _ _ _ (.self true _)).latch rfl _ h0
  unfold assertSource
  dsimp only
  split
  · exact h1
  · exact (kept_react (l := true) _ _ _ _ _ (.self true _)).latch rfl _ h1

/-- A source that may assert is latched by its assertion. -/
theorem raise_latches {src : Nat} {f : FaultInfo} (d : List Byte) (s : State) (hf : faultInfo src = some f)
    (ha : faultAbsent s.dev.variant src = false) (hp : s.dev.porstN = true) (hr : s.dev.railHold = false)
    (hx : (rec? s src).active = false) : RecLatched (raise src d s).fcru.recs src := by
  unfold raise
  simp only [hf, ha, hp, hr, hx, Bool.and_false, Bool.not_true, Bool.or_false, Bool.false_eq_true, if_false]
  exact assertSource_latches ..

/-- A source that is clear asserts nothing. -/
@[simp] theorem clear_active (src : Nat) (s : State) : (rec? (clear src s) src).active = false := by
  unfold clear
  dsimp only
  split
  · simp [rec?]
  · exact eq_false_of_ne_true ‹_›

/-- A clearing changes the records alone. -/
theorem clear_rest (src : Nat) (s : State) : { clear src s with fcru := s.fcru } = s := by
  unfold clear
  dsimp only
  split <;> rfl

/-- A clearing of one source leaves the others. -/
theorem clear_other {src k : Nat} (s : State) (h : k ≠ src) : rec? (clear src s) k = rec? s k := by
  unfold clear
  dsimp only
  split
  · simp [rec?, Ne.symm h]
  · rfl

end Sys2Proof.Laws
end

