-- ==== Sys2Proof/Laws/KeptPorts.lean ====
section
/-! SUPPORT. What a command keeps, one lemma per operation: Basin, Frames, BasinRx, Governor, Boot, JtagPort, Srb, TimeClock, Roles, HostIf, Station. -/

set_option linter.all false
set_option Elab.async false

namespace Sys2Proof.Laws
open Sys2Proof Sys2Proof.Machine

@[simp] theorem kept_setPort {l : Bool} {s0 : State} (p : ℕ) (f : Port → Port) (s : State) (h : Kept l s0 s) : Kept l s0 (setPort p f s) := by
  simp [setPort, *]

@[simp] theorem kept_setMoor {l : Bool} {s0 : State} (ci : ℕ) (f : Moor → Moor) (s : State) (h : Kept l s0 s) : Kept l s0 (setMoor ci f s) := by
  simp [setMoor, *]

@[simp] theorem kept_relight {l : Bool} {s0 : State} (s : State) (h : Kept l s0 s) : Kept l s0 (relight s) := by
  simp [relight, *]

@[simp] theorem kept_pointNow {l : Bool} {s0 : State} (ci : ℕ) (k : ℕ) (v : ℤ) (s : State) (h : Kept l s0 s) : Kept l s0 (pointNow ci k v s) := by
  simp [pointNow, *]

@[simp] theorem kept_setPreset {l : Bool} {s0 : State} (ci : ℕ) (xx : Preset) (s : State) (h : Kept l s0 s) : Kept l s0 (setPreset ci xx s) := by
  unfold setPreset
  (repeat' split) <;> simp_all

@[simp] theorem kept_queueSvc {l : Bool} {s0 : State} (p : ℕ) (m : SvcMsg) (s : State) (h : Kept l s0 s) : Kept l s0 (queueSvc p m s) := by
  simp [queueSvc, *]

@[simp] theorem kept_queueAdmit {l : Bool} {s0 : State} (p : ℕ) (m : ℕ) (s : State) (h : Kept l s0 s) : Kept l s0 (queueAdmit p m s) := by
  simp [queueAdmit, *]

@[simp] theorem kept_queueRelease {l : Bool} {s0 : State} (p : ℕ) (m : ℕ) (s : State) (h : Kept l s0 s) : Kept l s0 (queueRelease p m s) := by
  simp [queueRelease, *]

@[simp] theorem kept_queueAssign {l : Bool} {s0 : State} (p : ℕ) (m : ℕ) (s : State) (h : Kept l s0 s) : Kept l s0 (queueAssign p m s) := by
  simp [queueAssign, *]

@[simp] theorem kept_queueRange {l : Bool} {s0 : State} (p : ℕ) (m : ℕ) (train : Bool) (s : State) (h : Kept l s0 s) : Kept l s0 (queueRange p m train s) := by
  simp [queueRange, *]

@[simp] theorem kept_queueDiscover {l : Bool} {s0 : State} (p : ℕ) (s : State) (h : Kept l s0 s) : Kept l s0 (queueDiscover p s) := by
  simp [queueDiscover, *]

@[simp] theorem kept_rangeDone {l : Bool} {s0 : State} (p : ℕ) (c : RangeCmd) (st : Status) (d : ℤ) (u : ℤ) (s : State) (h : Kept l s0 s) : Kept l s0 (rangeDone p c st d u s) := by
  simp [rangeDone, *]

@[simp] theorem kept_rangeCmdLost {l : Bool} {s0 : State} (p : ℕ) (m : ℕ) (s : State) (h : Kept l s0 s) : Kept l s0 (rangeCmdLost p m s) := by
  unfold rangeCmdLost
  (repeat' split) <;> simp_all

@[simp] theorem kept_moorGo {l : Bool} {s0 : State} (p : ℕ) (m : ℕ) (st : MoorState) (s : State) (h : Kept l s0 s) : Kept l s0 (moorGo p m st s) := by
  unfold moorGo
  dsimp only
  (repeat' split) <;> simp_all

@[simp] theorem kept_vacate {l : Bool} {s0 : State} (p : ℕ) (m : ℕ) (s : State) (h : Kept l s0 s) : Kept l s0 (vacate p m s) := by
  unfold vacate
  (repeat' first | (extract_lets +onlyGivenNames x; have hx : Kept l s0 x := (by dsimp only [x]; (repeat' first | split | (refine Kept.foldl _ _ ?_ ?_ <;> intros)) <;> simp_all); clear_value x) | (extract_lets +onlyGivenNames x; subst x) | split | (refine Kept.foldl _ _ ?_ ?_ <;> intros)) <;> simp_all

@[simp] theorem kept_lostRanging {l : Bool} {s0 : State} (p : ℕ) (m : ℕ) (s : State) (h : Kept l s0 s) : Kept l s0 (lostRanging p m s) := by
  unfold lostRanging
  (repeat' first | (extract_lets +onlyGivenNames x; have hx : Kept l s0 x := (by dsimp only [x]; (repeat' first | split | (refine Kept.foldl _ _ ?_ ?_ <;> intros)) <;> simp_all); clear_value x) | (extract_lets +onlyGivenNames x; subst x) | split | (refine Kept.foldl _ _ ?_ ?_ <;> intros)) <;> simp_all

@[simp] theorem kept_hwslArm {l : Bool} {s0 : State} (s : State) (h : Kept l s0 s) : Kept l s0 (hwslArm s) := by
  unfold hwslArm
  (repeat' first | (extract_lets +onlyGivenNames x; have hx : Kept l s0 x := (by dsimp only [x]; (repeat' first | split | (refine Kept.foldl _ _ ?_ ?_ <;> intros)) <;> simp_all); clear_value x) | (extract_lets +onlyGivenNames x; subst x) | split | (refine Kept.foldl _ _ ?_ ?_ <;> intros)) <;> simp_all

@[simp] theorem kept_enterReady {l : Bool} {s0 : State} (s : State) (h : Kept l s0 s) : Kept l s0 (enterReady s) := by
  simp (maxDischargeDepth := 30) [enterReady, *]

@[simp] theorem kept_judgeReady {l : Bool} {s0 : State} (s : State) (h : Kept l s0 s) : Kept l s0 (judgeReady s) := by
  simp [judgeReady, *]

@[simp] theorem kept_laneGo {l : Bool} {s0 : State} (p : ℕ) (ll : LaneState) (s : State) (h : Kept l s0 s) : Kept l s0 (laneGo p ll s) := by
  unfold laneGo
  (repeat' split) <;> simp_all

@[simp] theorem kept_rangeAll {l : Bool} {s0 : State} (p : ℕ) (s : State) (h : Kept l s0 s) : Kept l s0 (rangeAll p s) := by
  unfold rangeAll
  refine Kept.foldl _ _ (by simp [*]) ?_
  intros
  simp [*]

@[simp] theorem kept_toAcquire {l : Bool} {s0 : State} (p : ℕ) (s : State) (h : Kept l s0 s) : Kept l s0 (toAcquire p s) := by
  unfold toAcquire
  refine Kept.foldl _ _ (by simp [*]) ?_
  intros
  simp [*]

@[simp] theorem kept_rediscover {l : Bool} {s0 : State} (p : ℕ) (s : State) (h : Kept l s0 s) : Kept l s0 (rediscover p s) := by
  unfold rediscover
  exact kept_toAcquire _ _ (kept_setPort _ _ _ (Kept.foldl _ _ h fun x a hx => kept_vacate _ _ _ hx))

@[simp] theorem kept_restartPort {l : Bool} {s0 : State} (p : ℕ) (s : State) (h : Kept l s0 s) : Kept l s0 (restartPort p s) := by
  unfold restartPort
  exact kept_rediscover _ _ (kept_setPort _ _ _ h)

@[simp] theorem kept_stepFailed {l : Bool} {s0 : State} (p : ℕ) (s : State) (h : Kept l s0 s) : Kept l s0 (stepFailed p s) := by
  unfold stepFailed
  (try first | refine KeptO.unit fun _ => ?_ | rw [KeptO.ok])
  (repeat' first | (extract_lets +onlyGivenNames x; have hx : Kept l s0 x := (by dsimp only [x]; (repeat' first | split | (refine Kept.foldl _ _ ?_ ?_ <;> intros)) <;> simp_all); clear_value x) | (extract_lets +onlyGivenNames x; subst x) | split | (refine Kept.foldl _ _ ?_ ?_ <;> intros))
  all_goals (first | (have hk := Kept.of_fst (l := l) (s := s0) (by assumption) (by simp [*]); simp [*]; done) | (have hk := Kept.of_snd (l := l) (s := s0) (by assumption) (by simp [*]); simp [*]; done) | simp [*])

@[simp] theorem kept_assignAll {l : Bool} {s0 : State} (p : ℕ) (s : State) (h : Kept l s0 s) : Kept l s0 (assignAll p s) := by
  unfold assignAll
  dsimp only
  (repeat' first | split | (refine Kept.foldl _ _ ?_ ?_ <;> intros)) <;> simp_all

@[simp] theorem kept_judgePort {l : Bool} {s0 : State} (p : ℕ) (s : State) (h : Kept l s0 s) : Kept l s0 (judgePort p s) := by
  unfold judgePort
  dsimp only
  (repeat' split) <;> simp_all (maxDischargeDepth := 30)

@[simp] theorem kept_judgePorts {l : Bool} {s0 : State} (s : State) (h : Kept l s0 s) : Kept l s0 (judgePorts s) := by
  unfold judgePorts
  exact kept_judgeReady _ (Kept.foldl _ _ h fun x a hx => kept_judgePort _ _ hx)

@[simp] theorem kept_noteUp {l : Bool} {s0 : State} (p : ℕ) (m : ℕ) (du : ℤ) (s : State) (h : Kept l s0 s) : Kept l s0 (noteUp p m du s) := by
  unfold noteUp
  (repeat' first | (extract_lets +onlyGivenNames x; have hx : Kept l s0 x := (by dsimp only [x]; (repeat' first | split | (refine Kept.foldl _ _ ?_ ?_ <;> intros)) <;> simp_all); clear_value x) | (extract_lets +onlyGivenNames x; subst x) | split | (refine Kept.foldl _ _ ?_ ?_ <;> intros)) <;> simp_all

@[simp] theorem kept_applyRanging {l : Bool} {s0 : State} (p : ℕ) (m : ℕ) (dd : ℤ) (du : ℤ) (s : State) (h : Kept l s0 s) : Kept l s0 (applyRanging p m dd du s) := by
  unfold applyRanging
  (repeat' first | (extract_lets +onlyGivenNames x; have hx : Kept l s0 x := (by dsimp only [x]; (repeat' first | split | (refine Kept.foldl _ _ ?_ ?_ <;> intros)) <;> simp_all); clear_value x) | (extract_lets +onlyGivenNames x; subst x) | split | (refine Kept.foldl _ _ ?_ ?_ <;> intros)) <;> simp_all

@[simp] theorem kept_dropReq {l : Bool} {s0 : State} (p : ℕ) (tag : ℕ) (s : State) (h : Kept l s0 s) : Kept l s0 (dropReq p tag s) := by
  simp [dropReq, *]

@[simp] theorem kept_replyAccepted {l : Bool} {s0 : State} (p : ℕ) (m : ℕ) (q : Req) (pre : ℕ) (delim : ℕ) (s : State) (h : Kept l s0 s) : Kept l s0 (replyAccepted p m q pre delim s) := by
  unfold replyAccepted
  (repeat' first | (extract_lets +onlyGivenNames x; have hx : Kept l s0 x := (by dsimp only [x]; (repeat' first | split | (refine Kept.foldl _ _ ?_ ?_ <;> intros)) <;> simp_all); clear_value x) | (extract_lets +onlyGivenNames x; subst x) | split | (refine Kept.foldl _ _ ?_ ?_ <;> intros)) <;> simp_all

@[simp] theorem kept_countClamps {l : Bool} {s0 : State} (p : ℕ) (s : State) (h : Kept l s0 s) : Kept l s0 (countClamps p s) := by
  unfold countClamps
  refine Kept.foldl _ _ (by simp [*]) ?_
  intros
  simp [*]

@[simp] theorem kept_sendReq {l : Bool} {s0 : State} (p : ℕ) (q : Option Req) (acc : State × List SvcMsg) (h : Kept l s0 acc.1) : Kept l s0 (sendReq p q acc).1 := by
  unfold sendReq
  (repeat' split) <;> simp_all

@[simp] theorem kept_announce {l : Bool} {s0 : State} (p : ℕ) (s : State) (h : Kept l s0 s) : Kept l s0 (announce p s).1 := by
  unfold announce
  dsimp only
  (repeat' split) <;> simp_all

@[simp] theorem kept_sendQueued {l : Bool} {s0 : State} (p : ℕ) (left : ℕ) (a2 : List SvcMsg) (a3 : State × List SvcMsg) (h : Kept l s0 a3.1) : Kept l s0 (sendQueued p left a2 a3).1 := by
  induction a2 generalizing a3 with
  | nil => exact h
  | cons m ms ih =>
    simp only [sendQueued]
    split
    · exact h
    · split
      · exact ih _ h
      · split
        · exact ih _ h
        · exact ih _ (kept_sendReq _ _ _ (kept_setPort _ _ _ h))

@[simp] theorem kept_sendPolls {l : Bool} {s0 : State} (p : ℕ) (a1 : ℕ) (a2 : State × List SvcMsg) (h : Kept l s0 a2.1) : Kept l s0 (sendPolls p a1 a2).1 := by
  induction a1 generalizing a2 with
  | zero => exact h
  | succ n ih =>
    simp only [sendPolls]
    split
    · exact h
    · split
      · exact h
      · split
        · exact h
        · exact ih _ (kept_sendReq _ _ _ (kept_setPort _ _ _ h))

@[simp] theorem kept_serviceArea {l : Bool} {s0 : State} (p : ℕ) (s : State) (h : Kept l s0 s) : Kept l s0 (serviceArea p s).1 := by
  unfold serviceArea
  (try first | refine KeptO.unit fun _ => ?_ | rw [KeptO.ok])
  (repeat' first | (extract_lets +onlyGivenNames x; have hx : Kept l s0 x := (by dsimp only [x]; (repeat' first | split | (refine Kept.foldl _ _ ?_ ?_ <;> intros)) <;> simp_all); clear_value x) | (extract_lets +onlyGivenNames x; subst x) | split | (refine Kept.foldl _ _ ?_ ?_ <;> intros))
  all_goals (first | (have hk := Kept.of_fst (l := l) (s := s0) (by assumption) (by simp [*]); simp [*]; done) | (have hk := Kept.of_snd (l := l) (s := s0) (by assumption) (by simp [*]); simp [*]; done) | simp [*])

@[simp] theorem kept_launchFrame {l : Bool} {s0 : State} (p : ℕ) (ft : FType) (lead : ℕ) (cmds : List Word) (trims : List (BitVec 64)) (svc : List SvcMsg) (s : State) (h : Kept l s0 s) : Kept l s0 (launchFrame p ft lead cmds trims svc s) := by
  simp [launchFrame, *]

@[simp] theorem kept_sendWords {l : Bool} {s0 : State} (p : ℕ) (blk : Bool) (lead : ℕ) (s : State) (h : Kept l s0 s) : Kept l s0 (sendWords p blk lead s) := by
  simp (maxDischargeDepth := 30) [sendWords, *]

@[simp] theorem kept_sendService {l : Bool} {s0 : State} (p : ℕ) (s : State) (h : Kept l s0 s) : Kept l s0 (sendService p s) := by
  simp [sendService, *]

theorem kept_sendAll {l : Bool} {s0 : State} (f : Nat → State → State) (s : State) (h : Kept l s0 s)
    (hf : ∀ p x, Kept l s0 x → Kept l s0 (f p x)) : Kept l s0 (sendAll f s) := by
  unfold sendAll
  refine Kept.foldl _ _ h fun x a hx => ?_
  split
  · exact hf _ _ hx
  · exact hx



@[simp] theorem kept_pushFrame {l : Bool} {s0 : State} (blk : Bool) (s : State) (h : Kept l s0 s) : Kept l s0 (pushFrame blk s) := by
  simp [pushFrame, *]

@[simp] theorem kept_sendInhibit {l : Bool} {s0 : State} (p : ℕ) (s : State) (h : Kept l s0 s) : Kept l s0 (sendInhibit p s) := by
  unfold sendInhibit
  (repeat' split) <;> simp_all

theorem kept_execInhibitLineRise {l : Bool} {s0 : State} (p : ℕ) (s : State) (h : Kept l s0 s) : KeptO l s0 (execInhibitLineRise p s) := by
  unfold execInhibitLineRise
  (first | refine KeptO.unit fun _ => ?_ | rw [KeptO.ok])
  (repeat' first | (extract_lets +onlyGivenNames x; have hx : Kept l s0 x := (by dsimp only [x]; (repeat' first | split | (refine Kept.foldl _ _ ?_ ?_ <;> intros)) <;> simp_all); clear_value x) | (extract_lets +onlyGivenNames x; subst x) | split | (refine Kept.foldl _ _ ?_ ?_ <;> intros)) <;> simp [*]

theorem kept_execInhibitFrameRepeat {l : Bool} {s0 : State} (p : ℕ) (s : State) (h : Kept l s0 s) : KeptO l s0 (execInhibitFrameRepeat p s) := by
  unfold execInhibitFrameRepeat
  (repeat' split) <;> simp_all

@[simp] theorem kept_markCorrupt {l : Bool} {s0 : State} (ci : ℕ) (s : State) (h : Kept l s0 s) : Kept l s0 (markCorrupt ci s) := by
  simp [markCorrupt, *]

@[simp] theorem kept_countBits {l : Bool} {s0 : State} (ci : ℕ) (r : ReportWord) (s : State) (h : Kept l s0 s) : Kept l s0 (countBits ci r s) := by
  simp [countBits, *]

@[simp] theorem kept_acceptReport {l : Bool} {s0 : State} (p : ℕ) (m : ℕ) (r : ReportWord) (s : State) (h : Kept l s0 s) : Kept l s0 (acceptReport p m r s) := by
  unfold acceptReport
  (repeat' first | (extract_lets +onlyGivenNames x; have hx : Kept l s0 x := (by dsimp only [x]; (repeat' first | split | (refine Kept.foldl _ _ ?_ ?_ <;> intros)) <;> simp_all); clear_value x) | (extract_lets +onlyGivenNames x; subst x) | split | (refine Kept.foldl _ _ ?_ ?_ <;> intros)) <;> simp_all

@[simp] theorem kept_burstAccepted {l : Bool} {s0 : State} (p : ℕ) (m : ℕ) (off : ℤ) (burst : Burst) (signal : Bool) (b : BurstMeas) (s : State) (h : Kept l s0 s) : Kept l s0 (burstAccepted p m off burst signal b s) := by
  unfold burstAccepted
  (repeat' first | (extract_lets +onlyGivenNames x; have hx : Kept l s0 x := (by dsimp only [x]; (repeat' first | split | (refine Kept.foldl _ _ ?_ ?_ <;> intros)) <;> simp_all); clear_value x) | (extract_lets +onlyGivenNames x; subst x) | split | (refine Kept.foldl _ _ ?_ ?_ <;> intros)) <;> simp_all

theorem kept_execReportBurstReceived {l : Bool} {s0 : State} (p : ℕ) (m : ℕ) (off : ℤ) (delim : Option (BitVec 32)) (payload margin : List Bool) (signal : Bool) (meas : BurstMeas) (s : State) (h : Kept l s0 s) : KeptO l s0 (execReportBurstReceived p m off delim payload margin signal meas s) := by
  unfold execReportBurstReceived
  (repeat' first | (extract_lets +onlyGivenNames x; have hx : Kept l s0 x := (by dsimp only [x]; (repeat' first | split | (refine Kept.foldl _ _ ?_ ?_ <;> intros)) <;> simp_all); clear_value x) | (extract_lets +onlyGivenNames x; subst x) | split | (refine Kept.foldl _ _ ?_ ?_ <;> intros)) <;> simp_all

@[simp] theorem kept_discKnown {l : Bool} {s0 : State} (p : ℕ) (m : ℕ) (r : DiscReply) (q : Req) (delim : ℕ) (s : State) (h : Kept l s0 s) : Kept l s0 (discKnown p m r q delim s) := by
  simp (maxDischargeDepth := 30) [discKnown, *]

theorem kept_execDiscReplyReceived {l : Bool} {s0 : State} (p : ℕ) (b : Burst) (delimEnd : ℕ) (s : State) (h : Kept l s0 s) : KeptO l s0 (execDiscReplyReceived p b delimEnd s) := by
  unfold execDiscReplyReceived
  refine KeptO.unit fun _ => ?_
  dsimp only
  (repeat' split) <;> simp [*]

theorem kept_execRangeReplyReceived {l : Bool} {s0 : State} (p : ℕ) (delim : BitVec 32) (payload margin : List Bool) (bit phase : ℕ) (s : State) (h : Kept l s0 s) : KeptO l s0 (execRangeReplyReceived p delim payload margin bit phase s) := by
  unfold execRangeReplyReceived
  dsimp only
  refine KeptO.unit fun _ => ?_
  (repeat' split) <;> simp [*]

theorem kept_execStepAckReceived {l : Bool} {s0 : State} (p : ℕ) (delim : BitVec 32) (payload margin : List Bool) (bit phase : ℕ) (s : State) (h : Kept l s0 s) : KeptO l s0 (execStepAckReceived p delim payload margin bit phase s) := by
  unfold execStepAckReceived
  (first | refine KeptO.unit fun _ => ?_ | rw [KeptO.ok])
  (repeat' first | (extract_lets +onlyGivenNames x; have hx : Kept l s0 x := (by dsimp only [x]; (repeat' first | split | (refine Kept.foldl _ _ ?_ ?_ <;> intros)) <;> simp_all); clear_value x) | (extract_lets +onlyGivenNames x; subst x) | split | (refine Kept.foldl _ _ ?_ ?_ <;> intros)) <;> simp [*]

@[simp] theorem kept_writePage {l : Bool} {s0 : State} (ci : ℕ) (page : ℕ) (vals : List ℤ) (s : State) (h : Kept l s0 s) : Kept l s0 (writePage ci page vals s) := by
  unfold writePage
  (repeat' first | (extract_lets +onlyGivenNames x; have hx : Kept l s0 x := (by dsimp only [x]; (repeat' first | split | (refine Kept.foldl _ _ ?_ ?_ <;> intros)) <;> simp_all); clear_value x) | (extract_lets +onlyGivenNames x; subst x) | split | (refine Kept.foldl _ _ ?_ ?_ <;> intros)) <;> simp_all

theorem kept_execSvcDataReceived {l : Bool} {s0 : State} (p : ℕ) (delim : BitVec 32) (payload margin : List Bool) (t bit phase : ℕ) (s : State) (h : Kept l s0 s) : KeptO l s0 (execSvcDataReceived p delim payload margin t bit phase s) := by
  unfold execSvcDataReceived
  extract_lets b e s1
  have h1 : Kept l s0 s1 := kept_advanceTo _ _ h
  clear_value s1
  refine KeptO.unit fun _ => ?_
  (repeat' split) <;> simp [*]

theorem kept_execTrainingBurstAccepted {l : Bool} {s0 : State} (p : ℕ) (m : ℕ) (meas : BurstMeas) (s : State) (h : Kept l s0 s) : KeptO l s0 (execTrainingBurstAccepted p m meas s) := by
  simp (maxDischargeDepth := 30) [execTrainingBurstAccepted, *]

@[simp] theorem kept_unanswered {l : Bool} {s0 : State} (p : ℕ) (m : ℕ) (q : Req) (s : State) (h : Kept l s0 s) : Kept l s0 (unanswered p m q s) := by
  unfold unanswered
  (repeat' first | (extract_lets +onlyGivenNames x; have hx : Kept l s0 x := (by dsimp only [x]; (repeat' first | split | (refine Kept.foldl _ _ ?_ ?_ <;> intros)) <;> simp_all); clear_value x) | (extract_lets +onlyGivenNames x; subst x) | split | (refine Kept.foldl _ _ ?_ ?_ <;> intros)) <;> simp_all

theorem kept_execRequestUnanswered {l : Bool} {s0 : State} (p : ℕ) (tag : ℕ) (s : State) (h : Kept l s0 s) : KeptO l s0 (execRequestUnanswered p tag s) := by
  unfold execRequestUnanswered
  (first | refine KeptO.unit fun _ => ?_ | rw [KeptO.ok])
  (repeat' first | (extract_lets +onlyGivenNames x; have hx : Kept l s0 x := (by dsimp only [x]; (repeat' first | split | (refine Kept.foldl _ _ ?_ ?_ <;> intros)) <;> simp_all); clear_value x) | (extract_lets +onlyGivenNames x; subst x) | split | (refine Kept.foldl _ _ ?_ ?_ <;> intros)) <;> simp [*]

theorem kept_execRangeRefreshDue {l : Bool} {s0 : State} (p : ℕ) (m : ℕ) (s : State) (h : Kept l s0 s) : KeptO l s0 (execRangeRefreshDue p m s) := by
  unfold execRangeRefreshDue
  (repeat' split) <;> simp_all

theorem kept_execReadmissionDue {l : Bool} {s0 : State} (p : ℕ) (m : ℕ) (s : State) (h : Kept l s0 s) : KeptO l s0 (execReadmissionDue p m s) := by
  unfold execReadmissionDue
  (first | refine KeptO.unit fun _ => ?_ | rw [KeptO.ok])
  (repeat' first | (extract_lets +onlyGivenNames x; have hx : Kept l s0 x := (by dsimp only [x]; (repeat' first | split | (refine Kept.foldl _ _ ?_ ?_ <;> intros)) <;> simp_all); clear_value x) | (extract_lets +onlyGivenNames x; subst x) | split | (refine Kept.foldl _ _ ?_ ?_ <;> intros)) <;> simp [*]

theorem kept_execDiscoverDue {l : Bool} {s0 : State} (p : ℕ) (s : State) (h : Kept l s0 s) : KeptO l s0 (execDiscoverDue p s) := by
  unfold execDiscoverDue
  (repeat' split) <;> simp_all

theorem kept_execStepAckDeadline {l : Bool} {s0 : State} (p : ℕ) (s : State) (h : Kept l s0 s) : KeptO l s0 (execStepAckDeadline p s) := by
  unfold execStepAckDeadline
  (first | refine KeptO.unit fun _ => ?_ | rw [KeptO.ok])
  (repeat' first | (extract_lets +onlyGivenNames x; have hx : Kept l s0 x := (by dsimp only [x]; (repeat' first | split | (refine Kept.foldl _ _ ?_ ?_ <;> intros)) <;> simp_all); clear_value x) | (extract_lets +onlyGivenNames x; subst x) | split | (refine Kept.foldl _ _ ?_ ?_ <;> intros)) <;> simp [*]

theorem kept_execStepCycleStart {l : Bool} {s0 : State} (p : ℕ) (s : State) (h : Kept l s0 s) : KeptO l s0 (execStepCycleStart p s) := by
  unfold execStepCycleStart
  (first | refine KeptO.unit fun _ => ?_ | rw [KeptO.ok])
  (repeat' first | (extract_lets +onlyGivenNames x; have hx : Kept l s0 x := (by dsimp only [x]; (repeat' first | split | (refine Kept.foldl _ _ ?_ ?_ <;> intros)) <;> simp_all); clear_value x) | (extract_lets +onlyGivenNames x; subst x) | split | (refine Kept.foldl _ _ ?_ ?_ <;> intros)) <;> simp [*]

theorem kept_execStepGapElapsed {l : Bool} {s0 : State} (p : ℕ) (s : State) (h : Kept l s0 s) : KeptO l s0 (execStepGapElapsed p s) := by
  unfold execStepGapElapsed
  (repeat' first | (extract_lets +onlyGivenNames x; have hx : Kept l s0 x := (by dsimp only [x]; (repeat' first | split | (refine Kept.foldl _ _ ?_ ?_ <;> intros)) <;> simp_all (maxDischargeDepth := 30)); clear_value x) | (extract_lets +onlyGivenNames x; subst x) | split | (refine Kept.foldl _ _ ?_ ?_ <;> intros)) <;> simp_all (maxDischargeDepth := 30)

theorem kept_execStepLockTimeout {l : Bool} {s0 : State} (p : ℕ) (s : State) (h : Kept l s0 s) : KeptO l s0 (execStepLockTimeout p s) := by
  simp (maxDischargeDepth := 30) [execStepLockTimeout, *]

theorem kept_execTrainTimeout {l : Bool} {s0 : State} (p : ℕ) (s : State) (h : Kept l s0 s) : KeptO l s0 (execTrainTimeout p s) := by
  simp (maxDischargeDepth := 30) [execTrainTimeout, *]

theorem kept_execBasinLos {l : Bool} {s0 : State} (p : ℕ) (s : State) (h : Kept l s0 s) : KeptO l s0 (execBasinLos p s) := by
  unfold execBasinLos
  (first | refine KeptO.unit fun _ => ?_ | rw [KeptO.ok])
  (repeat' first | (extract_lets +onlyGivenNames x; have hx : Kept l s0 x := (by dsimp only [x]; (repeat' first | split | (refine Kept.foldl _ _ ?_ ?_ <;> intros)) <;> simp_all); clear_value x) | (extract_lets +onlyGivenNames x; subst x) | split | (refine Kept.foldl _ _ ?_ ?_ <;> intros)) <;> simp [*]

@[simp] theorem kept_portLol {l : Bool} {s0 : State} (p : ℕ) (s : State) (h : Kept l s0 s) : Kept l s0 (portLol p s) := by
  unfold portLol
  (repeat' split) <;> simp_all

theorem kept_execBasinLol {l : Bool} {s0 : State} (p : ℕ) (s : State) (h : Kept l s0 s) : KeptO l s0 (execBasinLol p s) := by
  simp [execBasinLol, *]

@[simp] theorem kept_bandMiss {l : Bool} {s0 : State} (k : ℕ) (s : State) (h : Kept l s0 s) : Kept l s0 (bandMiss k s) := by
  exact Kept.upd h rfl rfl fun _ a => a

theorem kept_execBasinRelockComplete {l : Bool} {s0 : State} (p : ℕ) (cacheMiss : Bool) (s : State) (h : Kept l s0 s) : KeptO l s0 (execBasinRelockComplete p cacheMiss s) := by
  unfold execBasinRelockComplete
  refine KeptO.unit fun _ => ?_
  split
  · exact h
  · extract_lets s1 dv s2 s3 s4
    have h1 : Kept l s0 s1 := by dsimp only [s1]; split <;> simp [*]
    have h2 : Kept l s0 s2 := Kept.upd h1 rfl rfl fun _ a => a
    have h3 : Kept l s0 s3 := kept_clear _ _ h2
    have h4 : Kept l s0 s4 := by dsimp only [s4]; simp [h3]
    clear_value s3 s4
    (repeat' split) <;> first | exact kept_toAcquire _ _ h3 | exact kept_laneGo _ _ _ h4 | exact kept_judgePort _ _ h4 | exact kept_judgePort _ _ (kept_rangeAll _ _ (kept_laneGo _ _ _ h4))

@[simp] theorem kept_govMove {l : Bool} {s0 : State} (d : ℤ) (s : State) (h : Kept l s0 s) : Kept l s0 (govMove d s) := by
  simp [govMove, *]

@[simp] theorem kept_govMiss {l : Bool} {s0 : State} (s : State) (h : Kept l s0 s) : Kept l s0 (govMiss s) := by
  simp [govMiss, *]

@[simp] theorem kept_govSlack {l : Bool} {s0 : State} (slack : ℤ) (s : State) (h : Kept l s0 s) : Kept l s0 (govSlack slack s) := by
  simp [govSlack, *]

@[simp] theorem kept_govCanary {l : Bool} {s0 : State} (c : SMap ℕ) (s : State) (h : Kept l s0 s) : Kept l s0 (govCanary c s) := by
  unfold govCanary
  (try first | refine KeptO.unit fun _ => ?_ | rw [KeptO.ok])
  (repeat' first | (extract_lets +onlyGivenNames x; have hx : Kept l s0 x := (by dsimp only [x]; (repeat' first | split | (refine Kept.foldl _ _ ?_ ?_ <;> intros)) <;> simp_all); clear_value x) | (extract_lets +onlyGivenNames x; subst x) | split | (refine Kept.foldl _ _ ?_ ?_ <;> intros))
  all_goals (first | (have hk := Kept.of_fst (l := l) (s := s0) (by assumption) (by simp [*]); simp [*]; done) | (have hk := Kept.of_snd (l := l) (s := s0) (by assumption) (by simp [*]); simp [*]; done) | simp [*])

theorem kept_execGovWindowEnd {l : Bool} {s0 : State} (s : State) (h : Kept l s0 s) : KeptO l s0 (execGovWindowEnd s) := by
  unfold execGovWindowEnd
  (repeat' first | (extract_lets +onlyGivenNames x; have hx : Kept l s0 x := (by dsimp only [x]; (repeat' first | split | (refine Kept.foldl _ _ ?_ ?_ <;> intros)) <;> simp_all); clear_value x) | (extract_lets +onlyGivenNames x; subst x) | split | (refine Kept.foldl _ _ ?_ ?_ <;> intros)) <;> simp_all

theorem kept_execGovRecoverHoldExpiry {l : Bool} {s0 : State} (s : State) (h : Kept l s0 s) : KeptO l s0 (execGovRecoverHoldExpiry s) := by
  simp [execGovRecoverHoldExpiry, *]

@[simp] theorem kept_avsFailed {l : Bool} {s0 : State} (s : State) (h : Kept l s0 s) : Kept l s0 (avsFailed s) := by
  unfold avsFailed
  (repeat' split) <;> simp_all

theorem kept_execAvsTransactionDone {l : Bool} {s0 : State} (r : AvsResult) (s : State) (h : Kept l s0 s) : KeptO l s0 (execAvsTransactionDone r s) := by
  unfold execAvsTransactionDone
  (repeat' split) <;> simp_all

theorem kept_execCoreVoltageOutOfRange {l : Bool} {s0 : State} (s : State) (h : Kept l s0 s) : KeptO l s0 (execCoreVoltageOutOfRange s) := by
  simp [execCoreVoltageOutOfRange, *]

theorem kept_execCoreVoltageRecovered {l : Bool} {s0 : State} (s : State) (h : Kept l s0 s) : KeptO l s0 (execCoreVoltageRecovered s) := by
  simp [execCoreVoltageRecovered, *]

@[simp] theorem kept_thermalSource {l : Bool} {s0 : State} (src : ℕ) (hi : ℤ) (lo : ℤ) (dies : List ℤ) (s : State) (h : Kept l s0 s) : Kept l s0 (thermalSource src hi lo dies s) := by
  unfold thermalSource
  (repeat' split) <;> simp_all

theorem kept_execThermalSample {l : Bool} {s0 : State} (dies : List ℤ) (s : State) (h : Kept l s0 s) : KeptO l s0 (execThermalSample dies s) := by
  simp (maxDischargeDepth := 30) [execThermalSample, *]

theorem kept_execPorstNAssert {l : Bool} {s0 : State} (s : State) (h : Kept l s0 s) : KeptO false s0 (execPorstNAssert s) := by
  unfold execPorstNAssert
  rw [KeptO.ok]
  exact kept_powerOnState _ h



theorem kept_execPorstNRelease {l : Bool} {s0 : State} (unitSel : Bool) (testMode : Bool) (s : State) (h : Kept l s0 s) : KeptO l s0 (execPorstNRelease unitSel testMode s) := by
  unfold execPorstNRelease
  dsimp only
  (repeat' split) <;> simp_all

theorem kept_execWarmRstNAssert {l : Bool} {s0 : State} (s : State) (h : Kept l s0 s) : KeptO l s0 (execWarmRstNAssert s) := by
  unfold execWarmRstNAssert
  (repeat' split) <;> simp_all

theorem kept_execWarmRstNRelease {l : Bool} {s0 : State} (s : State) (h : Kept l s0 s) : KeptO l s0 (execWarmRstNRelease s) := by
  unfold execWarmRstNRelease
  dsimp only
  (repeat' split) <;> simp_all

theorem kept_execRailMonitorTrip {s0 : State} (s : State) (h : Kept false s0 s) : KeptO false s0 (execRailMonitorTrip s) := by
  unfold execRailMonitorTrip
  split
  · rw [KeptO.ok]
    exact Kept.upd h rfl rfl fun _ a => a
  · have g := kept_powerOnState s h
    rw [KeptO.ok]
    exact Kept.upd g rfl rfl fun _ a => a



theorem kept_execRailMonitorRelease {l : Bool} {s0 : State} (s : State) (h : Kept l s0 s) : KeptO l s0 (execRailMonitorRelease s) := by
  unfold execRailMonitorRelease
  dsimp only
  (repeat' split) <;> simp_all

theorem kept_execPllCEInitialLock {l : Bool} {s0 : State} (s : State) (h : Kept l s0 s) : KeptO l s0 (execPllCEInitialLock s) := by
  simp [execPllCEInitialLock, *]

theorem kept_execResetCalibrationDone {l : Bool} {s0 : State} (txp : SMap ℕ) (rxp : SMap ℕ) (failed : List ℕ) (s : State) (h : Kept l s0 s) : KeptO l s0 (execResetCalibrationDone txp rxp failed s) := by
  unfold execResetCalibrationDone
  split
  · simpa using h
  · dsimp only
    rw [KeptO.ok]
    refine Kept.foldl _ _ ?_ fun x a hx => kept_raise _ _ _ hx
    exact Kept.upd h rfl rfl fun _ a => a

theorem kept_execBandSearchDone {l : Bool} {s0 : State} (s : State) (h : Kept l s0 s) : KeptO l s0 (execBandSearchDone s) := by
  simp [execBandSearchDone, *]

theorem kept_execBootRecordAuthenticated {l : Bool} {s0 : State} (rec : BootRec) (s : State) (h : Kept l s0 s) : KeptO l s0 (execBootRecordAuthenticated rec s) := by
  simp [execBootRecordAuthenticated, *]

@[simp] theorem kept_bootFail {l : Bool} {s0 : State} (noRecord : Bool) (s : State) (h : Kept l s0 s) : Kept l s0 (bootFail noRecord s) := by
  simp [bootFail, *]

@[simp] theorem kept_rollbackRaise {l : Bool} {s0 : State} (a : Option FwImage) (b : Option FwImage) (s : State) (h : Kept l s0 s) : Kept l s0 (rollbackRaise a b s) := by
  unfold rollbackRaise
  dsimp only
  have h1 : Kept l s0 { s with dev := { s.dev with idleSeen := true } } := Kept.upd h rfl rfl fun _ a => a
  split
  · split
    · exact ⟨h1.queue, h1.store, h1.clock, h1.key, le_trans h1.roll (Nat.le_max_left _ _), h1.variant, h1.stepping, h1.latch⟩
    · exact h1
  · exact h1

theorem kept_execBybexReady {l : Bool} {s0 : State} (slotA : Option FwImage) (slotB : Option FwImage) (railOrder : List ℕ) (s : State) (h : Kept l s0 s) : KeptO l s0 (execBybexReady slotA slotB railOrder s) := by
  unfold execBybexReady
  (repeat' first | (extract_lets +onlyGivenNames x; have hx : Kept l s0 x := (by dsimp only [x]; (repeat' first | split | (refine Kept.foldl _ _ ?_ ?_ <;> intros)) <;> simp_all); clear_value x) | (extract_lets +onlyGivenNames x; subst x) | split | (refine Kept.foldl _ _ ?_ ?_ <;> intros)) <;> simp_all

theorem kept_execBootAuthFail {l : Bool} {s0 : State} (noRecord : Bool) (s : State) (h : Kept l s0 s) : KeptO l s0 (execBootAuthFail noRecord s) := by
  simp [execBootAuthFail, *]

@[simp] theorem kept_jtagSelect {l : Bool} {s0 : State} (k : ℕ) (tdo : List Byte) (s : State) (h : Kept l s0 s) : Kept l s0 (jtagSelect k tdo s) := by
  simp [jtagSelect, *]

@[simp] theorem kept_jtagRefused {l : Bool} {s0 : State} (s : State) (h : Kept l s0 s) : Kept l s0 (jtagRefused s) := by
  simp [jtagRefused, *]

@[simp] theorem kept_jtagPins {l : Bool} {s0 : State} (k : ℕ) (float : Bool) (s : State) (h : Kept l s0 s) : Kept l s0 (jtagPins k float s) := by
  simp [jtagPins, *]

theorem kept_execJtagTrst {l : Bool} {s0 : State} (s : State) (h : Kept l s0 s) : KeptO l s0 (execJtagTrst s) := by
  simp [execJtagTrst, *]

theorem kept_execBypass {l : Bool} {s0 : State} (s : State) (h : Kept l s0 s) : KeptO l s0 (execBypass s) := by
  simp [execBypass, *]

theorem kept_execIdcode {l : Bool} {s0 : State} (s : State) (h : Kept l s0 s) : KeptO l s0 (execIdcode s) := by
  simp [execIdcode, *]

theorem kept_execSamplePreload {l : Bool} {s0 : State} (pins : List Bool) (s : State) (h : Kept l s0 s) : KeptO l s0 (execSamplePreload pins s) := by
  simp [execSamplePreload, *]

theorem kept_execExtest {l : Bool} {s0 : State} (s : State) (h : Kept l s0 s) : KeptO l s0 (execExtest s) := by
  simp [execExtest, *]

theorem kept_execExtestPulse {l : Bool} {s0 : State} (s : State) (h : Kept l s0 s) : KeptO l s0 (execExtestPulse s) := by
  simp [execExtestPulse, *]

theorem kept_execExtestTrain {l : Bool} {s0 : State} (s : State) (h : Kept l s0 s) : KeptO l s0 (execExtestTrain s) := by
  simp [execExtestTrain, *]

theorem kept_execClamp {l : Bool} {s0 : State} (s : State) (h : Kept l s0 s) : KeptO l s0 (execClamp s) := by
  simp [execClamp, *]

theorem kept_execHighz {l : Bool} {s0 : State} (s : State) (h : Kept l s0 s) : KeptO l s0 (execHighz s) := by
  simp [execHighz, *]

theorem kept_execDevkey {l : Bool} {s0 : State} (s : State) (h : Kept l s0 s) : KeptO l s0 (execDevkey s) := by
  simp [execDevkey, *]

theorem kept_execOtpProgram {l : Bool} {s0 : State} (digest : List Byte) (s : State) (h : Kept l s0 s) : KeptO l s0 (execOtpProgram digest s) := by
  unfold execOtpProgram
  extract_lets t
  have ht : Kept l s0 t := kept_jtagSelect _ _ _ h
  rw [KeptO.ok]
  split
  · rename_i hc
    refine ⟨ht.queue, ht.store, ht.clock, fun k hk => ?_, ht.roll, ht.variant, ht.stepping, ht.latch⟩
    have := h.key k hk
    simp [this] at hc
  · exact ht

theorem kept_execCoreDebug {l : Bool} {s0 : State} (s : State) (h : Kept l s0 s) : KeptO l s0 (execCoreDebug s) := by
  unfold execCoreDebug
  (repeat' split) <;> simp_all

@[simp] theorem kept_hwslTrip {l : Bool} {s0 : State} (cause : ℕ) (k : ℕ) (value : ℤ) (e : ℤ) (s : State) (h : Kept l s0 s) : Kept l s0 (hwslTrip cause k value e s) := by
  unfold hwslTrip
  (repeat' split) <;> simp_all

@[simp] theorem kept_hwslRelease {l : Bool} {s0 : State} (s : State) (h : Kept l s0 s) : Kept l s0 (hwslRelease s) := by
  simp [hwslRelease, *]

@[simp] theorem kept_setQs {l : Bool} {s0 : State} (k : ℕ) (q : SrbQ) (s : State) (h : Kept l s0 s) : Kept l s0 (setQs k q s) := by
  simp [setQs, *]

@[simp] theorem kept_i0FromMax {l : Bool} {s0 : State} (k : ℕ) (s : State) (h : Kept l s0 s) : Kept l s0 (i0FromMax k s) := by
  simp [i0FromMax, *]

@[simp] theorem kept_envelopeJudge {l : Bool} {s0 : State} (k : ℕ) (xx : ℤ) (c : CycleNo) (s : State) (h : Kept l s0 s) : Kept l s0 (envelopeJudge k xx c s) := by
  unfold envelopeJudge
  (repeat' first | (extract_lets +onlyGivenNames x; have hx : Kept l s0 x := (by dsimp only [x]; (repeat' first | split | (refine Kept.foldl _ _ ?_ ?_ <;> intros)) <;> simp_all); clear_value x) | (extract_lets +onlyGivenNames x; subst x) | split | (refine Kept.foldl _ _ ?_ ?_ <;> intros)) <;> simp_all

@[simp] theorem kept_pkStep {l : Bool} {s0 : State} (k : ℕ) (xx : ℤ) (s : State) (h : Kept l s0 s) : Kept l s0 (pkStep k xx s) := by
  simp [pkStep, *]

@[simp] theorem kept_rampComplete {l : Bool} {s0 : State} (s : State) (h : Kept l s0 s) : Kept l s0 (rampComplete s) := by
  simp [rampComplete, *]

@[simp] theorem kept_monitorClear {l : Bool} {s0 : State} (s : State) (h : Kept l s0 s) : Kept l s0 (monitorClear s) := by
  simp [monitorClear, *]

@[simp] theorem kept_gaugeCopy {l : Bool} {s0 : State} (r : Report) (s : State) (h : Kept l s0 s) : Kept l s0 (gaugeCopy r s) := by
  unfold gaugeCopy
  (repeat' first | (extract_lets +onlyGivenNames x; have hx : Kept l s0 x := (by dsimp only [x]; (repeat' first | split | (refine Kept.foldl _ _ ?_ ?_ <;> intros)) <;> simp_all); clear_value x) | (extract_lets +onlyGivenNames x; subst x) | split | (refine Kept.foldl _ _ ?_ ?_ <;> intros)) <;> simp_all

@[simp] theorem kept_gaugeMissing {l : Bool} {s0 : State} (s : State) (h : Kept l s0 s) : Kept l s0 (gaugeMissing s) := by
  unfold gaugeMissing
  (repeat' first | (extract_lets +onlyGivenNames x; have hx : Kept l s0 x := (by dsimp only [x]; (repeat' first | split | (refine Kept.foldl _ _ ?_ ?_ <;> intros)) <;> simp_all); clear_value x) | (extract_lets +onlyGivenNames x; subst x) | split | (refine Kept.foldl _ _ ?_ ?_ <;> intros)) <;> simp_all

theorem kept_execReportWordIngress {l : Bool} {s0 : State} (ci : ℕ) (s : State) (h : Kept l s0 s) : KeptO l s0 (execReportWordIngress ci s) := by
  unfold execReportWordIngress
  (repeat' first | (extract_lets +onlyGivenNames x; have hx : Kept l s0 x := (by dsimp only [x]; (repeat' first | split | (refine Kept.foldl _ _ ?_ ?_ <;> intros)) <;> simp_all); clear_value x) | (extract_lets +onlyGivenNames x; subst x) | split | (refine Kept.foldl _ _ ?_ ?_ <;> intros)) <;> simp_all

@[simp] theorem kept_srbRegister {l : Bool} {s0 : State} (r : SrbReq) (s : State) (h : Kept l s0 s) : Kept l s0 (srbRegister r s) := by
  unfold srbRegister
  (repeat' first | (extract_lets +onlyGivenNames x; have hx : Kept l s0 x := (by dsimp only [x]; (repeat' first | split | (refine Kept.foldl _ _ ?_ ?_ <;> intros)) <;> simp_all); clear_value x) | (extract_lets +onlyGivenNames x; subst x) | split | (refine Kept.foldl _ _ ?_ ?_ <;> intros)) <;> simp_all

@[simp] theorem kept_srbRelease {l : Bool} {s0 : State} (cause : ℕ) (s : State) (h : Kept l s0 s) : Kept l s0 (srbRelease cause s) := by
  unfold srbRelease
  (repeat' split) <;> simp_all

theorem kept_execSafeReqChange {l : Bool} {s0 : State} (a : Bool) (b : Bool) (t : ℕ) (s : State) (h : Kept l s0 s) : KeptO l s0 (execSafeReqChange a b t s) := by
  unfold execSafeReqChange
  (repeat' first | (extract_lets +onlyGivenNames x; have hx : Kept l s0 x := (by dsimp only [x]; (repeat' first | split | (refine Kept.foldl _ _ ?_ ?_ <;> intros)) <;> simp_all); clear_value x) | (extract_lets +onlyGivenNames x; subst x) | split | (refine Kept.foldl _ _ ?_ ?_ <;> intros)) <;> simp_all

theorem kept_execPinWindowExpiry {l : Bool} {s0 : State} (s : State) (h : Kept l s0 s) : KeptO l s0 (execPinWindowExpiry s) := by
  unfold execPinWindowExpiry
  (repeat' split) <;> simp_all

@[simp] theorem kept_judgeDegraded {l : Bool} {s0 : State} (s : State) (h : Kept l s0 s) : Kept l s0 (judgeDegraded s) := by
  simp [judgeDegraded, *]

@[simp] theorem kept_lanAlive {l : Bool} {s0 : State} (lan : ℕ) (sq : Word) (s : State) (h : Kept l s0 s) : Kept l s0 (lanAlive lan sq s) := by
  simp (maxDischargeDepth := 30) [lanAlive, *]

@[simp] theorem kept_telegramValid {l : Bool} {s0 : State} (lan : ℕ) (b : List Byte) (sq : Word) (s : State) (h : Kept l s0 s) : Kept l s0 (telegramValid lan b sq s) := by
  unfold telegramValid
  (repeat' first | (extract_lets +onlyGivenNames x; have hx : Kept l s0 x := (by dsimp only [x]; (repeat' first | split | (refine Kept.foldl _ _ ?_ ?_ <;> intros)) <;> simp_all); clear_value x) | (extract_lets +onlyGivenNames x; subst x) | split | (refine Kept.foldl _ _ ?_ ?_ <;> intros)) <;> simp_all

@[simp] theorem kept_telegramCopy {l : Bool} {s0 : State} (lan : ℕ) (b : List Byte) (s : State) (h : Kept l s0 s) : Kept l s0 (telegramCopy lan b s) := by
  unfold telegramCopy
  dsimp only
  (repeat' split) <;> simp_all (maxDischargeDepth := 30)

theorem kept_execSafetyTelegramCopy {l : Bool} {s0 : State} (lan : ℕ) (payload : List Byte) (t : ℕ) (s : State) (h : Kept l s0 s) : KeptO l s0 (execSafetyTelegramCopy lan payload t s) := by
  unfold execSafetyTelegramCopy
  (repeat' first | (extract_lets +onlyGivenNames x; have hx : Kept l s0 x := (by dsimp only [x]; (repeat' first | split | (refine Kept.foldl _ _ ?_ ?_ <;> intros)) <;> simp_all); clear_value x) | (extract_lets +onlyGivenNames x; subst x) | split | (refine Kept.foldl _ _ ?_ ?_ <;> intros)) <;> simp_all

theorem kept_execDiscWindowExpiry {l : Bool} {s0 : State} (lan : ℕ) (s : State) (h : Kept l s0 s) : KeptO l s0 (execDiscWindowExpiry lan s) := by
  unfold execDiscWindowExpiry
  (first | refine KeptO.unit fun _ => ?_ | rw [KeptO.ok])
  (repeat' first | (extract_lets +onlyGivenNames x; have hx : Kept l s0 x := (by dsimp only [x]; (repeat' first | split | (refine Kept.foldl _ _ ?_ ?_ <;> intros)) <;> simp_all); clear_value x) | (extract_lets +onlyGivenNames x; subst x) | split | (refine Kept.foldl _ _ ?_ ?_ <;> intros)) <;> simp [*]

theorem kept_execTeleTimeout {l : Bool} {s0 : State} (lan : ℕ) (s : State) (h : Kept l s0 s) : KeptO l s0 (execTeleTimeout lan s) := by
  unfold execTeleTimeout
  (first | refine KeptO.unit fun _ => ?_ | rw [KeptO.ok])
  (repeat' first | (extract_lets +onlyGivenNames x; have hx : Kept l s0 x := (by dsimp only [x]; (repeat' first | split | (refine Kept.foldl _ _ ?_ ?_ <;> intros)) <;> simp_all); clear_value x) | (extract_lets +onlyGivenNames x; subst x) | split | (refine Kept.foldl _ _ ?_ ?_ <;> intros)) <;> simp [*]

theorem kept_execSrbTimeoutExpiry {l : Bool} {s0 : State} (s : State) (h : Kept l s0 s) : KeptO l s0 (execSrbTimeoutExpiry s) := by
  unfold execSrbTimeoutExpiry
  (repeat' split) <;> simp_all

@[simp] theorem kept_smpFail {l : Bool} {s0 : State} (s : State) (h : Kept l s0 s) : Kept l s0 (smpFail s) := by
  unfold smpFail
  (repeat' first | (extract_lets +onlyGivenNames x; have hx : Kept l s0 x := (by dsimp only [x]; (repeat' first | split | (refine Kept.foldl _ _ ?_ ?_ <;> intros)) <;> simp_all); clear_value x) | (extract_lets +onlyGivenNames x; subst x) | split | (refine Kept.foldl _ _ ?_ ?_ <;> intros)) <;> simp_all

theorem kept_execSmpVerdict {l : Bool} {s0 : State} (cycle : CycleNo) (lockstepOk : Bool) (s : State) (h : Kept l s0 s) : KeptO l s0 (execSmpVerdict cycle lockstepOk s) := by
  unfold execSmpVerdict
  dsimp only
  (repeat' split) <;> simp_all

theorem kept_execSmpWatchdogExpiry {l : Bool} {s0 : State} (s : State) (h : Kept l s0 s) : KeptO l s0 (execSmpWatchdogExpiry s) := by
  simp [execSmpWatchdogExpiry, *]

theorem kept_execBlockOutReadbackFail {l : Bool} {s0 : State} (s : State) (h : Kept l s0 s) : KeptO l s0 (execBlockOutReadbackFail s) := by
  simp [execBlockOutReadbackFail, *]

theorem kept_execInhibitReadback {l : Bool} {s0 : State} (p : ℕ) (word : Option Word) (s : State) (h : Kept l s0 s) : KeptO l s0 (execInhibitReadback p word s) := by
  unfold execInhibitReadback
  (repeat' split) <;> simp_all

@[simp] theorem kept_safetyDigest {l : Bool} {s0 : State} (good : Bool) (s : State) (h : Kept l s0 s) : Kept l s0 (safetyDigest good s) := by
  simp [safetyDigest, *]

@[simp] theorem kept_telegramPath {l : Bool} {s0 : State} (old : Option ℕ) (new : Option ℕ) (s : State) (h : Kept l s0 s) : Kept l s0 (telegramPath old new s) := by
  unfold telegramPath
  split
  · exact kept_judgeDegraded _ (kept_clear _ _ (kept_srbRelease _ _ (Kept.upd h rfl rfl fun _ a => a)))
  · split
    · exact h
    · exact kept_srbRegister _ _ (kept_judgeDegraded _ (kept_clear _ _ (Kept.upd h rfl rfl fun _ a => a)))

@[simp] theorem kept_setDom {l : Bool} {s0 : State} (i : ℕ) (f : TimeDom → TimeDom) (s : State) (h : Kept l s0 s) : Kept l s0 (setDom i f s) := by
  simp [setDom, *]

@[simp] theorem kept_timeChange {l : Bool} {s0 : State} (auto : Bool) (s : State) (h : Kept l s0 s) : Kept l s0 (timeChange auto s) := by
  simp [timeChange, *]

@[simp] theorem kept_tdInvalid {l : Bool} {s0 : State} (i : ℕ) (s : State) (h : Kept l s0 s) : Kept l s0 (tdInvalid i s) := by
  unfold tdInvalid
  (repeat' first | (extract_lets +onlyGivenNames x; have hx : Kept l s0 x := (by dsimp only [x]; (repeat' first | split | (refine Kept.foldl _ _ ?_ ?_ <;> intros)) <;> simp_all); clear_value x) | (extract_lets +onlyGivenNames x; subst x) | split | (refine Kept.foldl _ _ ?_ ?_ <;> intros)) <;> simp_all

@[simp] theorem kept_tdValid {l : Bool} {s0 : State} (i : ℕ) (s : State) (h : Kept l s0 s) : Kept l s0 (tdValid i s) := by
  simp (maxDischargeDepth := 30) [tdValid, *]

@[simp] theorem kept_ctLeave {l : Bool} {s0 : State} (s : State) (h : Kept l s0 s) : Kept l s0 (ctLeave s) := by
  unfold ctLeave
  (repeat' split) <;> simp_all

@[simp] theorem kept_switchDomain {l : Bool} {s0 : State} (i : ℕ) (auto : Bool) (s : State) (h : Kept l s0 s) : Kept l s0 (switchDomain i auto s) := by
  simp (maxDischargeDepth := 30) [switchDomain, *]

@[simp] theorem kept_autoSwitch {l : Bool} {s0 : State} (s : State) (h : Kept l s0 s) : Kept l s0 (autoSwitch s) := by
  unfold autoSwitch
  dsimp only
  (repeat' split) <;> simp_all

theorem kept_execTdStep {l : Bool} {s0 : State} (td : ℕ) (delta : ℤ) (s : State) (h : Kept l s0 s) : KeptO l s0 (execTdStep td delta s) := by
  unfold execTdStep
  (repeat' first | (extract_lets +onlyGivenNames x; have hx : Kept l s0 x := (by dsimp only [x]; (repeat' first | split | (refine Kept.foldl _ _ ?_ ?_ <;> intros)) <;> simp_all); clear_value x) | (extract_lets +onlyGivenNames x; subst x) | split | (refine Kept.foldl _ _ ?_ ?_ <;> intros)) <;> simp_all

theorem kept_execIncWrite {l : Bool} {s0 : State} (td : ℕ) (val : ℕ) (s : State) (h : Kept l s0 s) : KeptO l s0 (execIncWrite td val s) := by
  simp [execIncWrite, *]

theorem kept_execCtSlewComplete {l : Bool} {s0 : State} (t : ℕ) (s : State) (h : Kept l s0 s) : KeptO l s0 (execCtSlewComplete t s) := by
  unfold execCtSlewComplete
  (repeat' first | (extract_lets +onlyGivenNames x; have hx : Kept l s0 x := (by dsimp only [x]; (repeat' first | split | (refine Kept.foldl _ _ ?_ ?_ <;> intros)) <;> simp_all); clear_value x) | (extract_lets +onlyGivenNames x; subst x) | split | (refine Kept.foldl _ _ ?_ ?_ <;> intros)) <;> simp_all

@[simp] theorem kept_ppsDomain {l : Bool} {s0 : State} (i : ℕ) (stamp : ℕ) (s : State) (h : Kept l s0 s) : Kept l s0 (ppsDomain i stamp s) := by
  unfold ppsDomain
  (repeat' first | (extract_lets +onlyGivenNames x; have hx : Kept l s0 x := (by dsimp only [x]; (repeat' first | split | (refine Kept.foldl _ _ ?_ ?_ <;> intros)) <;> simp_all); clear_value x) | (extract_lets +onlyGivenNames x; subst x) | split | (refine Kept.foldl _ _ ?_ ?_ <;> intros)) <;> simp_all

theorem kept_execPpsInEdge {l : Bool} {s0 : State} (t : ℕ) (frac : ℕ) (s : State) (h : Kept l s0 s) : KeptO l s0 (execPpsInEdge t frac s) := by
  unfold execPpsInEdge
  (repeat' first | (extract_lets +onlyGivenNames x; have hx : Kept l s0 x := (by dsimp only [x]; (repeat' first | split | (refine Kept.foldl _ _ ?_ ?_ <;> intros)) <;> simp_all); clear_value x) | (extract_lets +onlyGivenNames x; subst x) | split | (refine Kept.foldl _ _ ?_ ?_ <;> intros)) <;> simp_all

theorem kept_execPpsInTimeout {l : Bool} {s0 : State} (td : ℕ) (s : State) (h : Kept l s0 s) : KeptO l s0 (execPpsInTimeout td s) := by
  unfold execPpsInTimeout
  (repeat' split) <;> simp_all

theorem kept_execPpsOutEdge {l : Bool} {s0 : State} (level : Bool) (s : State) (h : Kept l s0 s) : KeptO l s0 (execPpsOutEdge level s) := by
  unfold execPpsOutEdge
  rw [KeptO.ok]
  (repeat' split) <;> first | exact h | exact Kept.upd h rfl rfl fun _ a => a

@[simp] theorem kept_tdOffset {l : Bool} {s0 : State} (i : ℕ) (off : ℚ) (s : State) (h : Kept l s0 s) : Kept l s0 (tdOffset i off s) := by
  unfold tdOffset
  dsimp only
  (repeat' split) <;> simp_all

@[simp] theorem kept_judgeSync {l : Bool} {s0 : State} (s : State) (h : Kept l s0 s) : Kept l s0 (judgeSync s) := by
  unfold judgeSync
  dsimp only
  (repeat' first | split | (refine Kept.foldl _ _ ?_ ?_ <;> intros)) <;> simp_all

@[simp] theorem kept_tcForward {l : Bool} {s0 : State} (p : ℕ) (m : PtpMsg) (gain : ℕ → ℤ) (s : State) (h : Kept l s0 s) : Kept l s0 (tcForward p m gain s) := by
  unfold tcForward
  split
  · exact h
  · exact Kept.upd h rfl rfl fun _ a => a

@[simp] theorem kept_evStamp {l : Bool} {s0 : State} (p : ℕ) (out : Bool) (kind : PtpKind) (s : State) (h : Kept l s0 s) : Kept l s0 (evStamp p out kind s) := by
  exact Kept.upd h rfl rfl fun _ a => a

@[simp] theorem kept_bmca {l : Bool} {s0 : State} (i : ℕ) (s : State) (h : Kept l s0 s) : Kept l s0 (bmca i s) := by
  unfold bmca
  extract_lets best own st slave moved s1
  have h1 : Kept l s0 s1 := kept_setDom _ _ _ h
  clear_value s1
  (repeat' split) <;> simp [*]

@[simp] theorem kept_tcUnmatched {l : Bool} {s0 : State} (b : Bool) (s : State) (h : Kept l s0 s) : Kept l s0 (tcUnmatched b s) := by
  unfold tcUnmatched
  split
  · exact Kept.upd h rfl rfl fun _ a => a
  · exact h

@[simp] theorem kept_ptpSend {l : Bool} {s0 : State} (p : ℕ) (m : PtpOut) (s : State) (h : Kept l s0 s) : Kept l s0 (ptpSend p m s) := by
  exact Kept.upd h rfl rfl fun _ a => a

@[simp] theorem kept_pdelayAnswer {l : Bool} {s0 : State} (p : ℕ) (m : PtpMsg) (s : State) (h : Kept l s0 s) : Kept l s0 (pdelayAnswer p m s) := by
  unfold pdelayAnswer
  extract_lets d i t2 t3 r e s1
  have h1 : Kept l s0 s1 := Kept.upd (kept_evStamp _ _ _ _ h) rfl rfl fun _ a => a
  clear_value s1
  split <;> simp [*]

@[simp] theorem kept_pdelayResp {l : Bool} {s0 : State} (p : ℕ) (m : PtpMsg) (s : State) (h : Kept l s0 s) : Kept l s0 (pdelayResp p m s) := by
  unfold pdelayResp
  (repeat' split) <;> first | exact h | exact Kept.upd h rfl rfl fun _ a => a

@[simp] theorem kept_pdelayFollow {l : Bool} {s0 : State} (p : ℕ) (m : PtpMsg) (s : State) (h : Kept l s0 s) : Kept l s0 (pdelayFollow p m s) := by
  unfold pdelayFollow
  (repeat' split) <;> first | exact h | exact Kept.upd h rfl rfl fun _ a => a

@[simp] theorem kept_ptpAnnounce {l : Bool} {s0 : State} (p : ℕ) (m : PtpMsg) (s : State) (h : Kept l s0 s) : Kept l s0 (ptpAnnounce p m s) := by
  unfold ptpAnnounce
  split
  · exact h
  · extract_lets a old take
    refine kept_bmca _ _ ?_
    split
    · exact kept_setDom _ _ _ h
    · exact h

@[simp] theorem kept_ptpSync {l : Bool} {s0 : State} (p : ℕ) (m : PtpMsg) (s : State) (h : Kept l s0 s) : Kept l s0 (ptpSync p m s) := by
  unfold ptpSync
  extract_lets known gains w s1 s2
  have h1 : Kept l s0 s1 := kept_tcUnmatched _ _ (kept_tcForward _ _ _ _ h)
  have h2 : Kept l s0 s2 := Kept.upd h1 rfl rfl fun _ a => a
  clear_value s2
  split
  · exact Kept.upd h2 rfl rfl fun _ a => a
  · (repeat' split) <;> simp [*]

@[simp] theorem kept_ptpFollow {l : Bool} {s0 : State} (p : ℕ) (m : PtpMsg) (s : State) (h : Kept l s0 s) : Kept l s0 (ptpFollow p m s) := by
  unfold ptpFollow
  split
  · exact kept_tcUnmatched _ _ (kept_tcForward _ _ _ _ h)
  · rename_i x _
    extract_lets tm s1
    have h1 : Kept l s0 s1 := kept_tcForward _ _ _ _ (Kept.upd h rfl rfl fun _ a => a)
    clear_value s1
    (repeat' split) <;> simp [*]

@[simp] theorem kept_ptpReceive {l : Bool} {s0 : State} (p : ℕ) (m : PtpMsg) (s : State) (h : Kept l s0 s) : Kept l s0 (ptpReceive p m s) := by
  unfold ptpReceive
  split
  case h_1 => exact Kept.upd h rfl rfl fun _ a => a
  case h_2 => exact Kept.upd h rfl rfl fun _ a => a
  all_goals simp [*]

@[simp] theorem kept_ptpInterval {l : Bool} {s0 : State} (td : ℕ) (p : ℕ) (kind : PtpKind) (s : State) (h : Kept l s0 s) : Kept l s0 (ptpInterval td p kind s) := by
  unfold ptpInterval
  extract_lets q m t tm s1 tm2 s2 s3
  have h1 : Kept l s0 s1 := Kept.upd h rfl rfl fun _ a => a
  clear_value s1
  split
  · exact kept_ptpSend _ _ _ (kept_evStamp _ _ _ _ (Kept.upd h1 rfl rfl fun _ a => a))
  · exact kept_ptpSend _ _ _ h1
  · have h3 : Kept l s0 s3 := kept_evStamp _ _ _ _ h1
    clear_value s3
    split <;> simp [*]

theorem kept_execPtpIntervalSend {l : Bool} {s0 : State} (td : ℕ) (p : ℕ) (kind : PtpKind) (s : State) (h : Kept l s0 s) : KeptO l s0 (execPtpIntervalSend td p kind s) := by
  unfold execPtpIntervalSend
  extract_lets s1 on may
  have h1 : Kept l s0 s1 := kept_judgeSync _ h
  clear_value s1 may
  refine KeptO.unit fun _ => ?_
  split
  · exact kept_ptpInterval _ _ _ _ h1
  · exact h1

theorem kept_execAnnounceReceiptTimeout {l : Bool} {s0 : State} (td : ℕ) (s : State) (h : Kept l s0 s) : KeptO l s0 (execAnnounceReceiptTimeout td s) := by
  unfold execAnnounceReceiptTimeout
  refine KeptO.unit fun _ => ?_
  split
  · exact kept_bmca _ _ (kept_setDom _ _ _ h)
  · exact kept_bmca _ _ (kept_tdInvalid _ _ (kept_setDom _ _ _ h))

@[simp] theorem kept_setLock {l : Bool} {s0 : State} (p : Pll) (v : Bool) (s : State) (h : Kept l s0 s) : Kept l s0 (setLock p v s) := by
  simp [setLock, *]

@[simp] theorem kept_timebaseLost {l : Bool} {s0 : State} (s : State) (h : Kept l s0 s) : Kept l s0 (timebaseLost s) := by
  simp (maxDischargeDepth := 30) [timebaseLost, *]

@[simp] theorem kept_stationDrop {l : Bool} {s0 : State} (s : State) (h : Kept l s0 s) : Kept l s0 (stationDrop s) := by
  unfold stationDrop
  (try first | refine KeptO.unit fun _ => ?_ | rw [KeptO.ok])
  (repeat' first | (extract_lets +onlyGivenNames x; have hx : Kept l s0 x := (by dsimp only [x]; (repeat' first | split | (refine Kept.foldl _ _ ?_ ?_ <;> intros)) <;> simp_all); clear_value x) | (extract_lets +onlyGivenNames x; subst x) | split | (refine Kept.foldl _ _ ?_ ?_ <;> intros))
  all_goals (first | (have hk := Kept.of_fst (l := l) (s := s0) (by assumption) (by simp [*]); simp [*]; done) | (have hk := Kept.of_snd (l := l) (s := s0) (by assumption) (by simp [*]); simp [*]; done) | simp [*])

@[simp] theorem kept_pllLost {l : Bool} {s0 : State} (p : Pll) (s : State) (h : Kept l s0 s) : Kept l s0 (pllLost p s) := by
  unfold pllLost
  extract_lets drives twin s1 s2
  have h1 : Kept l s0 s1 := kept_setLock _ _ _ h
  have h2 : Kept l s0 s2 := kept_raise _ _ _ h1
  clear_value s1 s2
  split
  · exact kept_timebaseLost _ h1
  · split
    · split
      · exact Kept.upd h2 rfl rfl fun _ a => a
      · exact h2
    · split
      · exact Kept.upd h2 rfl rfl fun _ a => a
      · exact h2
    · exact Kept.foldl _ _ h2 fun x a hx => kept_portLol _ _ hx
    · exact kept_stationDrop _ h2
    · exact Kept.foldl _ _ (Kept.upd h2 rfl rfl fun _ a => a) fun x a hx => kept_senderReset _ _ hx

theorem kept_execPllLossOfLock {l : Bool} {s0 : State} (pll : Pll) (s : State) (h : Kept l s0 s) : KeptO l s0 (execPllLossOfLock pll s) := by
  simp [execPllLossOfLock, *]

theorem kept_execPllRelock {l : Bool} {s0 : State} (pll : Pll) (cacheMiss : Bool) (s : State) (h : Kept l s0 s) : KeptO l s0 (execPllRelock pll cacheMiss s) := by
  unfold execPllRelock
  (repeat' first | (extract_lets +onlyGivenNames x; have hx : Kept l s0 x := (by dsimp only [x]; (repeat' first | split | (refine Kept.foldl _ _ ?_ ?_ <;> intros)) <;> simp_all); clear_value x) | (extract_lets +onlyGivenNames x; subst x) | split | (refine Kept.foldl _ _ ?_ ?_ <;> intros)) <;> simp_all

theorem kept_execSafetyOscTimebaseCheck {l : Bool} {s0 : State} (ppm : ℤ) (s : State) (h : Kept l s0 s) : KeptO l s0 (execSafetyOscTimebaseCheck ppm s) := by
  simp [execSafetyOscTimebaseCheck, *]

@[simp] theorem kept_startHoldOff {l : Bool} {s0 : State} (s : State) (h : Kept l s0 s) : Kept l s0 (startHoldOff s) := by
  simp [startHoldOff, *]

@[simp] theorem kept_setRole {l : Bool} {s0 : State} (r : Role) (s : State) (h : Kept l s0 s) : Kept l s0 (setRole r s) := by
  unfold setRole
  (repeat' first | (extract_lets +onlyGivenNames x; have hx : Kept l s0 x := (by dsimp only [x]; (repeat' first | split | (refine Kept.foldl _ _ ?_ ?_ <;> intros)) <;> simp_all); clear_value x) | (extract_lets +onlyGivenNames x; subst x) | split | (refine Kept.foldl _ _ ?_ ?_ <;> intros)) <;> simp_all

@[simp] theorem kept_raiseEpoch {l : Bool} {s0 : State} (s : State) (h : Kept l s0 s) : Kept l s0 (raiseEpoch s) := by
  simp [raiseEpoch, *]

@[simp] theorem kept_takePorts {l : Bool} {s0 : State} (s : State) (h : Kept l s0 s) : Kept l s0 (takePorts s) := by
  unfold takePorts
  refine Kept.foldl _ _ (by simp [*]) ?_
  intros
  (repeat' split) <;> simp_all

@[simp] theorem kept_takePubs {l : Bool} {s0 : State} (s : State) (h : Kept l s0 s) : Kept l s0 (takePubs s) := by
  simp [takePubs, *]

@[simp] theorem kept_takePhase {l : Bool} {s0 : State} (s : State) (h : Kept l s0 s) : Kept l s0 (takePhase s) := by
  unfold takePhase
  (repeat' split) <;> simp_all

@[simp] theorem kept_becomeActive {l : Bool} {s0 : State} (silence : Bool) (takeover : Bool) (s : State) (h : Kept l s0 s) : Kept l s0 (becomeActive silence takeover s) := by
  simp (maxDischargeDepth := 30) [becomeActive, *]

@[simp] theorem kept_toResync {l : Bool} {s0 : State} (s : State) (h : Kept l s0 s) : Kept l s0 (toResync s) := by
  simp [toResync, *]

@[simp] theorem kept_toStandby {l : Bool} {s0 : State} (s : State) (h : Kept l s0 s) : Kept l s0 (toStandby s) := by
  unfold toStandby
  dsimp only
  (repeat' split) <;> simp_all

@[simp] theorem kept_sendRecord {l : Bool} {s0 : State} (launched : Bool) (missed : Bool) (s : State) (h : Kept l s0 s) : Kept l s0 (sendRecord launched missed s) := by
  simp [sendRecord, *]

@[simp] theorem kept_adoptState {l : Bool} {s0 : State} (new : DevState) (s : State) (h : Kept l s0 s) : Kept l s0 (adoptState new s) := by
  unfold adoptState
  (repeat' split) <;> simp_all

@[simp] theorem kept_followLane {l : Bool} {s0 : State} (p : ℕ) (ll : LaneState) (g : Gen) (c : CycleNo) (sc : Option CycleNo) (s : State) (h : Kept l s0 s) : Kept l s0 (followLane p ll g c sc s) := by
  unfold followLane
  (repeat' first | (extract_lets +onlyGivenNames x; have hx : Kept l s0 x := (by dsimp only [x]; (repeat' first | split | (refine Kept.foldl _ _ ?_ ?_ <;> intros)) <;> simp_all); clear_value x) | (extract_lets +onlyGivenNames x; subst x) | split | (refine Kept.foldl _ _ ?_ ?_ <;> intros)) <;> simp_all

@[simp] theorem kept_applyValues {l : Bool} {s0 : State} (r : MirrorRec) (s : State) (h : Kept l s0 s) : Kept l s0 (applyValues r s) := by
  unfold applyValues
  (try first | refine KeptO.unit fun _ => ?_ | rw [KeptO.ok])
  (repeat' first | (extract_lets +onlyGivenNames x; have hx : Kept l s0 x := (by dsimp only [x]; (repeat' first | split | (refine Kept.foldl _ _ ?_ ?_ <;> intros)) <;> simp_all); clear_value x) | (extract_lets +onlyGivenNames x; subst x) | split | (refine Kept.foldl _ _ ?_ ?_ <;> intros))
  all_goals (first | (have hk := Kept.of_fst (l := l) (s := s0) (by assumption) (by simp [*]); simp [*]; done) | (have hk := Kept.of_snd (l := l) (s := s0) (by assumption) (by simp [*]); simp [*]; done) | simp [*])

@[simp] theorem kept_settleFrame {l : Bool} {s0 : State} (launched : Bool) (s : State) (h : Kept l s0 s) : Kept l s0 (settleFrame launched s) := by
  unfold settleFrame
  (repeat' split) <;> simp_all

@[simp] theorem kept_refresh {l : Bool} {s0 : State} (good : Bool) (s : State) (h : Kept l s0 s) : Kept l s0 (refresh good s) := by
  unfold refresh
  (repeat' first | (extract_lets +onlyGivenNames x; have hx : Kept l s0 x := (by dsimp only [x]; (repeat' first | split | (refine Kept.foldl _ _ ?_ ?_ <;> intros)) <;> simp_all); clear_value x) | (extract_lets +onlyGivenNames x; subst x) | split | (refine Kept.foldl _ _ ?_ ?_ <;> intros)) <;> simp_all

@[simp] theorem kept_followerCutoff {l : Bool} {s0 : State} (s : State) (h : Kept l s0 s) : Kept l s0 (followerCutoff s) := by
  unfold followerCutoff
  (repeat' first | (extract_lets +onlyGivenNames x; have hx : Kept l s0 x := (by dsimp only [x]; (repeat' first | split | (refine Kept.foldl _ _ ?_ ?_ <;> intros)) <;> simp_all); clear_value x) | (extract_lets +onlyGivenNames x; subst x) | split | (refine Kept.foldl _ _ ?_ ?_ <;> intros)) <;> simp_all

@[simp] theorem kept_pathJudge {l : Bool} {s0 : State} (heard : Bool) (n : ℕ) (src : ℕ) (s : State) (h : Kept l s0 s) : Kept l s0 (pathJudge heard n src s).2 := by
  unfold pathJudge
  (repeat' split) <;> simp_all

@[simp] theorem kept_towpaths {l : Bool} {s0 : State} (a : Bool) (b : Bool) (s : State) (h : Kept l s0 s) : Kept l s0 (towpaths a b s) := by
  simp (maxDischargeDepth := 30) [towpaths, *]

@[simp] theorem kept_silenceJudge {l : Bool} {s0 : State} (idle : Bool) (s : State) (h : Kept l s0 s) : Kept l s0 (silenceJudge idle s) := by
  unfold silenceJudge
  dsimp only
  (repeat' split) <;> simp_all

@[simp] theorem kept_splitJudge {l : Bool} {s0 : State} (s : State) (h : Kept l s0 s) : Kept l s0 (splitJudge s) := by
  unfold splitJudge
  dsimp only
  (repeat' split) <;> simp_all

@[simp] theorem kept_revert {l : Bool} {s0 : State} (s : State) (h : Kept l s0 s) : Kept l s0 (revert s) := by
  simp [revert, *]

@[simp] theorem kept_tandemCutoff {l : Bool} {s0 : State} (s : State) (h : Kept l s0 s) : Kept l s0 (tandemCutoff s) := by
  unfold tandemCutoff
  (repeat' first | (extract_lets +onlyGivenNames x; have hx : Kept l s0 x := (by dsimp only [x]; (repeat' first | split | (refine Kept.foldl _ _ ?_ ?_ <;> intros)) <;> simp_all); clear_value x) | (extract_lets +onlyGivenNames x; subst x) | split | (refine Kept.foldl _ _ ?_ ?_ <;> intros)) <;> simp_all

@[simp] theorem kept_coreAwake {l : Bool} {s0 : State} (core : ℕ) (on : Bool) (s : State) (h : Kept l s0 s) : Kept l s0 (coreAwake core on s) := by
  unfold coreAwake
  refine Kept.foldl _ _ (by simp [*]) ?_
  intros
  simp [*]

@[simp] theorem kept_mbxReject {l : Bool} {s0 : State} (n : ℕ) (reason : ℕ) (s : State) (h : Kept l s0 s) : Kept l s0 (mbxReject n reason s) := by
  simp [mbxReject, *]

@[simp] theorem kept_aerUnsupported {l : Bool} {s0 : State} (bar : ℕ) (off : ℕ) (s : State) (h : Kept l s0 s) : Kept l s0 (aerUnsupported bar off s) := by
  exact Kept.upd h rfl rfl fun _ a => a

@[simp] theorem kept_mbxFull {l : Bool} {s0 : State} (n : ℕ) (off : ℕ) (s : State) (h : Kept l s0 s) : Kept l s0 (mbxFull n off s) := by
  simp [mbxFull, *]

@[simp] theorem kept_h2fPost {l : Bool} {s0 : State} (n : ℕ) (len : ℕ) (s : State) (h : Kept l s0 s) : Kept l s0 (h2fPost n len s) := by
  simp [h2fPost, *]

@[simp] theorem kept_doorbell {l : Bool} {s0 : State} (n : ℕ) (len : ℕ) (s : State) (h : Kept l s0 s) : Kept l s0 (doorbell n len s) := by
  unfold doorbell
  (repeat' split) <;> simp_all

@[simp] theorem kept_nextPart {l : Bool} {s0 : State} (n : ℕ) (s : State) (h : Kept l s0 s) : Kept l s0 (nextPart n s) := by
  unfold nextPart
  (repeat' split) <;> simp_all

@[simp] theorem kept_f2hAck {l : Bool} {s0 : State} (n : ℕ) (s : State) (h : Kept l s0 s) : Kept l s0 (f2hAck n s) := by
  unfold f2hAck
  dsimp only
  (repeat' split) <;> simp_all

theorem kept_execH2fPayloadWrite {l : Bool} {s0 : State} (mbx : ℕ) (off : ℕ) (bytes : List Byte) (s : State) (h : Kept l s0 s) : KeptO l s0 (execH2fPayloadWrite mbx off bytes s) := by
  unfold execH2fPayloadWrite
  (repeat' split) <;> simp_all

theorem kept_execH2fDoorbell {l : Bool} {s0 : State} (mbx : ℕ) (len : ℕ) (s : State) (h : Kept l s0 s) : KeptO l s0 (execH2fDoorbell mbx len s) := by
  unfold execH2fDoorbell
  (repeat' split) <;> simp_all

theorem kept_execH2fTake {l : Bool} {s0 : State} (mbx : ℕ) (s : State) (h : Kept l s0 s) : KeptO l s0 (execH2fTake mbx s) := by
  simp (maxDischargeDepth := 30) [execH2fTake, *]

theorem kept_execCoreIdleGate {l : Bool} {s0 : State} (core : ℕ) (s : State) (h : Kept l s0 s) : KeptO l s0 (execCoreIdleGate core s) := by
  unfold execCoreIdleGate
  dsimp only
  (repeat' split) <;> simp_all

theorem kept_execF2hRelease {l : Bool} {s0 : State} (mbx : ℕ) (s : State) (h : Kept l s0 s) : KeptO l s0 (execF2hRelease mbx s) := by
  unfold execF2hRelease
  (repeat' split) <;> simp_all

theorem kept_execF2hMessageEnter {l : Bool} {s0 : State} (mbx : ℕ) (s : State) (h : Kept l s0 s) : KeptO l s0 (execF2hMessageEnter mbx s) := by
  unfold execF2hMessageEnter
  (first | refine KeptO.unit fun _ => ?_ | rw [KeptO.ok])
  (repeat' first | (extract_lets +onlyGivenNames x; have hx : Kept l s0 x := (by dsimp only [x]; (repeat' first | split | (refine Kept.foldl _ _ ?_ ?_ <;> intros)) <;> simp_all); clear_value x) | (extract_lets +onlyGivenNames x; subst x) | split | (refine Kept.foldl _ _ ?_ ?_ <;> intros)) <;> simp [*]

theorem kept_execMbxReset {l : Bool} {s0 : State} (mbx : ℕ) (val : ℕ) (s : State) (h : Kept l s0 s) : KeptO l s0 (execMbxReset mbx val s) := by
  unfold execMbxReset
  (repeat' split) <;> simp_all

theorem kept_execPcieLinkReset {l : Bool} {s0 : State} (perst : Bool) (flr : Bool) (s : State) (h : Kept l s0 s) : KeptO l s0 (execPcieLinkReset perst flr s) := by
  unfold execPcieLinkReset
  have h1 : Kept l s0 ((List.range 8).foldl (fun s n => senderReset n s) s) := Kept.foldl _ _ h fun x a hx => kept_senderReset _ _ hx
  dsimp only
  rw [KeptO.ok]
  split
  · exact Kept.foldl _ _ (Kept.upd h1 rfl rfl fun _ a => a) fun x a hx => kept_mset _ _ _ hx
  · exact Kept.upd h1 rfl rfl fun _ a => a

@[simp] theorem kept_mpcRestart {l : Bool} {s0 : State} (s : State) (h : Kept l s0 s) : Kept l s0 (mpcRestart s) := by
  unfold mpcRestart
  (repeat' split) <;> simp_all

theorem kept_execMpcReceiverReset {l : Bool} {s0 : State} (s : State) (h : Kept l s0 s) : KeptO l s0 (execMpcReceiverReset s) := by
  simp [execMpcReceiverReset, *]

theorem kept_execMpcRestartComplete {l : Bool} {s0 : State} (s : State) (h : Kept l s0 s) : KeptO l s0 (execMpcRestartComplete s) := by
  simp [execMpcRestartComplete, *]

theorem kept_execPciePerstNRelease {l : Bool} {s0 : State} (s : State) (h : Kept l s0 s) : KeptO l s0 (execPciePerstNRelease s) := by
  simp [execPciePerstNRelease, *]

theorem kept_execPcieConfigReady {l : Bool} {s0 : State} (s : State) (h : Kept l s0 s) : KeptO l s0 (execPcieConfigReady s) := by
  simp [execPcieConfigReady, *]

theorem kept_execMsixVectorSend {l : Bool} {s0 : State} (v : ℕ) (s : State) (h : Kept l s0 s) : KeptO l s0 (execMsixVectorSend v s) := by
  unfold execMsixVectorSend
  dsimp only
  (repeat' split) <;> simp_all

@[simp] theorem kept_snapTrigger {l : Bool} {s0 : State} (s : State) (h : Kept l s0 s) : Kept l s0 (snapTrigger s) := by
  unfold snapTrigger
  (repeat' first | (extract_lets +onlyGivenNames x; have hx : Kept l s0 x := (by dsimp only [x]; (repeat' first | split | (refine Kept.foldl _ _ ?_ ?_ <;> intros)) <;> simp_all); clear_value x) | (extract_lets +onlyGivenNames x; subst x) | split | (refine Kept.foldl _ _ ?_ ?_ <;> intros)) <;> simp_all

theorem kept_execSnapTrigger {l : Bool} {s0 : State} (t : ℕ) (s : State) (h : Kept l s0 s) : KeptO l s0 (execSnapTrigger t s) := by
  unfold execSnapTrigger
  dsimp only
  (repeat' split) <;> simp_all

@[simp] theorem kept_setHold {l : Bool} {s0 : State} (on : Bool) (s : State) (h : Kept l s0 s) : Kept l s0 (setHold on s) := by
  simp [setHold, *]

theorem kept_execObserverImageHold {l : Bool} {s0 : State} (on : Bool) (s : State) (h : Kept l s0 s) : KeptO l s0 (execObserverImageHold on s) := by
  simp [execObserverImageHold, *]

theorem kept_execHoldTimeoutRelease {l : Bool} {s0 : State} (s : State) (h : Kept l s0 s) : KeptO l s0 (execHoldTimeoutRelease s) := by
  unfold execHoldTimeoutRelease
  (repeat' split) <;> simp_all

@[simp] theorem kept_keyWord {l : Bool} {s0 : State} (val : Word) (s : State) (h : Kept l s0 s) : Kept l s0 (keyWord val s) := by
  unfold keyWord
  dsimp only
  (repeat' split) <;> simp_all

@[simp] theorem kept_emergKey {l : Bool} {s0 : State} (spi : Bool) (val : Word) (s : State) (h : Kept l s0 s) : Kept l s0 (emergKey spi val s) := by
  simp [emergKey, *]

@[simp] theorem kept_emergIgnored {l : Bool} {s0 : State} (s : State) (h : Kept l s0 s) : Kept l s0 (emergIgnored s) := by
  simp [emergIgnored, *]

@[simp] theorem kept_disarm {l : Bool} {s0 : State} (spi : Bool) (s : State) (h : Kept l s0 s) : Kept l s0 (disarm spi s) := by
  simp [disarm, *]

@[simp] theorem kept_hostBlockAct {l : Bool} {s0 : State} (s : State) (h : Kept l s0 s) : Kept l s0 (hostBlockAct s) := by
  simp [hostBlockAct, *]

@[simp] theorem kept_emergCtrl {l : Bool} {s0 : State} (spi : Bool) (val : ℕ) (s : State) (h : Kept l s0 s) : Kept l s0 (emergCtrl spi val s) := by
  unfold emergCtrl
  (repeat' split) <;> simp_all

theorem kept_execEmergKey {l : Bool} {s0 : State} (spi : Bool) (val : Word) (s : State) (h : Kept l s0 s) : KeptO l s0 (execEmergKey spi val s) := by
  simp [execEmergKey, *]

theorem kept_execEmergArmExpire {l : Bool} {s0 : State} (spi : Bool) (s : State) (h : Kept l s0 s) : KeptO l s0 (execEmergArmExpire spi s) := by
  simp [execEmergArmExpire, *]

theorem kept_execHostBlock {l : Bool} {s0 : State} (spi : Bool) (s : State) (h : Kept l s0 s) : KeptO l s0 (execHostBlock spi s) := by
  simp [execHostBlock, *]

theorem kept_execMpcRestart {l : Bool} {s0 : State} (spi : Bool) (s : State) (h : Kept l s0 s) : KeptO l s0 (execMpcRestart spi s) := by
  simp [execMpcRestart, *]

theorem kept_execWarmReset {l : Bool} {s0 : State} (spi : Bool) (s : State) (h : Kept l s0 s) : KeptO l s0 (execWarmReset spi s) := by
  simp [execWarmReset, *]

theorem kept_execEmergCtrlIgnored {l : Bool} {s0 : State} (spi : Bool) (s : State) (h : Kept l s0 s) : KeptO l s0 (execEmergCtrlIgnored spi s) := by
  simp [execEmergCtrlIgnored, *]

@[simp] theorem kept_identityWrite {l : Bool} {s0 : State} (off : ℕ) (v : Word) (s : State) (h : Kept l s0 s) : Kept l s0 (identityWrite off v s) := by
  unfold identityWrite
  (repeat' split) <;> simp_all

@[simp] theorem kept_mbxWrite {l : Bool} {s0 : State} (n : ℕ) (off : ℕ) (v : Word) (s : State) (h : Kept l s0 s) : Kept l s0 (mbxWrite n off v s) := by
  unfold mbxWrite
  (repeat' split) <;> simp_all

@[simp] theorem kept_emergWrite {l : Bool} {s0 : State} (spi : Bool) (off : ℕ) (v : Word) (s : State) (h : Kept l s0 s) : Kept l s0 (emergWrite spi off v s) := by
  unfold emergWrite
  (repeat' split) <;> simp_all

@[simp] theorem kept_regWrite {l : Bool} {s0 : State} (spi : Bool) (off : ℕ) (v : Word) (s : State) (h : Kept l s0 s) : Kept l s0 (regWrite spi off v s) := by
  unfold regWrite
  dsimp only
  (repeat' split) <;> simp_all

@[simp] theorem kept_msixWrite {l : Bool} {s0 : State} (off : ℕ) (v : Word) (s : State) (h : Kept l s0 s) : Kept l s0 (msixWrite off v s) := by
  unfold msixWrite
  (repeat' split) <;> first | exact h | exact Kept.upd h rfl rfl fun _ a => a

theorem kept_execRegisterWrite {l : Bool} {s0 : State} (target : ℕ × ℕ) (val : Word) (s : State) (h : Kept l s0 s) : KeptO l s0 (execRegisterWrite target val s) := by
  unfold execRegisterWrite
  dsimp only
  rw [KeptO.ok]
  (repeat' split) <;> simp [*]

@[simp] theorem kept_spiSend {l : Bool} {s0 : State} (bs : List Byte) (s : State) (h : Kept l s0 s) : Kept l s0 (spiSend bs s) := by
  simp [spiSend, *]

theorem kept_execSpiStatus {l : Bool} {s0 : State} (s : State) (h : Kept l s0 s) : KeptO l s0 (execSpiStatus s) := by
  unfold execSpiStatus
  (repeat' split) <;> simp_all

theorem kept_execSpiRegRead {l : Bool} {s0 : State} (off : ℕ) (count : ℕ) (s : State) (h : Kept l s0 s) : KeptO l s0 (execSpiRegRead off count s) := by
  unfold execSpiRegRead
  dsimp only
  (repeat' split) <;> simp_all

theorem kept_execSpiRegWrite {l : Bool} {s0 : State} (off : ℕ) (val : Word) (crc : BitVec 16) (s : State) (h : Kept l s0 s) : KeptO l s0 (execSpiRegWrite off val crc s) := by
  unfold execSpiRegWrite
  (repeat' split) <;> simp [*] <;> (repeat' split) <;> simp [*]

theorem kept_execSpiH2fWrite {l : Bool} {s0 : State} (len : ℕ) (payload : List Byte) (crc : BitVec 16) (s : State) (h : Kept l s0 s) : KeptO l s0 (execSpiH2fWrite len payload crc s) := by
  simp (maxDischargeDepth := 30) [execSpiH2fWrite, *]

theorem kept_execSpiF2hRead {l : Bool} {s0 : State} (s : State) (h : Kept l s0 s) : KeptO l s0 (execSpiF2hRead s) := by
  simp [execSpiF2hRead, *]

theorem kept_execSpiF2hAck {l : Bool} {s0 : State} (s : State) (h : Kept l s0 s) : KeptO l s0 (execSpiF2hAck s) := by
  unfold execSpiF2hAck
  (repeat' split) <;> simp_all

theorem kept_execSpiSessionEnd {l : Bool} {s0 : State} (s : State) (h : Kept l s0 s) : KeptO l s0 (execSpiSessionEnd s) := by
  unfold execSpiSessionEnd
  (repeat' split) <;> simp_all

theorem kept_execSpiSessionIdleTimeout {l : Bool} {s0 : State} (s : State) (h : Kept l s0 s) : KeptO l s0 (execSpiSessionIdleTimeout s) := by
  simp [execSpiSessionIdleTimeout, *]

@[simp] theorem kept_setStp {l : Bool} {s0 : State} (p : ℕ) (f : StPort → StPort) (s : State) (h : Kept l s0 s) : Kept l s0 (setStp p f s) := by
  simp [setStp, *]

@[simp] theorem kept_stDiscard {l : Bool} {s0 : State} (p : ℕ) (s : State) (h : Kept l s0 s) : Kept l s0 (stDiscard p s) := by
  simp [stDiscard, *]

@[simp] theorem kept_maskSend {l : Bool} {s0 : State} (mask : ℕ) (dst : BitVec 48) (tag : ℕ → Option (BitVec 16)) (et : ℕ) (body : TxBody) (s : State) (h : Kept l s0 s) : Kept l s0 (maskSend mask dst tag et body s) := by
  exact Kept.foldl _ _ h fun x a hx => Kept.upd hx rfl rfl fun _ a => a

@[simp] theorem kept_dupEnter {l : Bool} {s0 : State} (q : ℕ) (src : ℕ) (sq : ℕ) (s : State) (h : Kept l s0 s) : Kept l s0 (dupEnter q src sq s) := by
  simp [dupEnter, *]

@[simp] theorem kept_prpTrailer {l : Bool} {s0 : State} (p : ℕ) (f : StFrame) (s : State) (h : Kept l s0 s) : Kept l s0 (prpTrailer p f s).2 := by
  unfold prpTrailer
  dsimp only
  (repeat' split) <;> simp_all

@[simp] theorem kept_svSet {l : Bool} {s0 : State} (k : ℕ) (xx : Sv) (s : State) (h : Kept l s0 s) : Kept l s0 (svSet k xx s) := by
  simp [svSet, *]

@[simp] theorem kept_svAsdu {l : Bool} {s0 : State} (k : ℕ) (d : SvDef) (a : Asdu) (s : State) (h : Kept l s0 s) : Kept l s0 (svAsdu k d a s) := by
  unfold svAsdu
  dsimp only
  split
  · split
    · exact h
    · exact kept_raise _ _ _ (kept_svSet _ _ _ h)
  · exact kept_svSet _ _ _ (Kept.upd h rfl rfl fun _ a => a)

@[simp] theorem kept_svFrame {l : Bool} {s0 : State} (p : ℕ) (dst : BitVec 48) (appid : ℕ) (asdus : List Asdu) (s : State) (h : Kept l s0 s) : Kept l s0 (svFrame p dst appid asdus s) := by
  unfold svFrame
  split
  · exact kept_stDiscard _ _ h
  · exact Kept.foldl _ _ h fun x a hx => Kept.foldl _ _ hx fun y b hy => kept_svAsdu _ _ _ _ hy

@[simp] theorem kept_setInput {l : Bool} {s0 : State} (k : ℕ) (xs : List ℚ) (s : State) (h : Kept l s0 s) : Kept l s0 (setInput k xs s) := by
  simp [setInput, *]

@[simp] theorem kept_svCutoff {l : Bool} {s0 : State} (k : ℕ) (d : SvDef) (s : State) (h : Kept l s0 s) : Kept l s0 (svCutoff k d s) := by
  unfold svCutoff
  (repeat' first | (extract_lets +onlyGivenNames x; have hx : Kept l s0 x := (by dsimp only [x]; (repeat' first | split | (refine Kept.foldl _ _ ?_ ?_ <;> intros)) <;> simp_all); clear_value x) | (extract_lets +onlyGivenNames x; subst x) | split | (refine Kept.foldl _ _ ?_ ?_ <;> intros)) <;> simp_all

@[simp] theorem kept_svAll {l : Bool} {s0 : State} (s : State) (h : Kept l s0 s) : Kept l s0 (svAll s) := by
  unfold svAll
  (repeat' first | (extract_lets +onlyGivenNames x; have hx : Kept l s0 x := (by dsimp only [x]; (repeat' first | split | (refine Kept.foldl _ _ ?_ ?_ <;> intros)) <;> simp_all); clear_value x) | (extract_lets +onlyGivenNames x; subst x) | split | (refine Kept.foldl _ _ ?_ ?_ <;> intros)) <;> simp_all

@[simp] theorem kept_subSet {l : Bool} {s0 : State} (k : ℕ) (xx : GooseSub) (s : State) (h : Kept l s0 s) : Kept l s0 (subSet k xx s) := by
  simp [subSet, *]

@[simp] theorem kept_gooseClear {l : Bool} {s0 : State} (s : State) (h : Kept l s0 s) : Kept l s0 (gooseClear s) := by
  simp [gooseClear, *]

@[simp] theorem kept_gooseMatch {l : Bool} {s0 : State} (k : ℕ) (d : GooseSubDef) (g : GooseMsg) (s : State) (h : Kept l s0 s) : Kept l s0 (gooseMatch k d g s) := by
  unfold gooseMatch
  dsimp only
  (repeat' split) <;> simp_all

@[simp] theorem kept_pubHeard {l : Bool} {s0 : State} (k : ℕ) (g : GooseMsg) (s : State) (h : Kept l s0 s) : Kept l s0 (pubHeard k g s) := by
  exact Kept.upd h rfl rfl fun _ a => a

@[simp] theorem kept_gooseReceive {l : Bool} {s0 : State} (p : ℕ) (dst : BitVec 48) (g : GooseMsg) (s : State) (h : Kept l s0 s) : Kept l s0 (gooseReceive p dst g s) := by
  unfold gooseReceive
  dsimp only
  split
  · exact kept_stDiscard _ _ h
  · exact Kept.foldl _ _ (Kept.foldl _ _ h fun x a hx => kept_pubHeard _ _ _ hx) fun x a hx => kept_gooseMatch _ _ _ _ hx

theorem kept_execGooseTimeout {l : Bool} {s0 : State} (sub : ℕ) (s : State) (h : Kept l s0 s) : KeptO l s0 (execGooseTimeout sub s) := by
  unfold execGooseTimeout
  (first | refine KeptO.unit fun _ => ?_ | rw [KeptO.ok])
  (repeat' first | (extract_lets +onlyGivenNames x; have hx : Kept l s0 x := (by dsimp only [x]; (repeat' first | split | (refine Kept.foldl _ _ ?_ ?_ <;> intros)) <;> simp_all); clear_value x) | (extract_lets +onlyGivenNames x; subst x) | split | (refine Kept.foldl _ _ ?_ ?_ <;> intros)) <;> simp [*]

@[simp] theorem kept_gooseCutoff {l : Bool} {s0 : State} (k : ℕ) (d : GooseSubDef) (s : State) (h : Kept l s0 s) : Kept l s0 (gooseCutoff k d s) := by
  unfold gooseCutoff
  (repeat' first | (extract_lets +onlyGivenNames x; have hx : Kept l s0 x := (by dsimp only [x]; (repeat' first | split | (refine Kept.foldl _ _ ?_ ?_ <;> intros)) <;> simp_all); clear_value x) | (extract_lets +onlyGivenNames x; subst x) | split | (refine Kept.foldl _ _ ?_ ?_ <;> intros)) <;> simp_all

@[simp] theorem kept_gooseAll {l : Bool} {s0 : State} (s : State) (h : Kept l s0 s) : Kept l s0 (gooseAll s) := by
  unfold gooseAll
  refine Kept.foldl _ _ (by simp [*]) ?_
  intros
  simp [*]

@[simp] theorem kept_setPub {l : Bool} {s0 : State} (k : ℕ) (xx : GoosePub) (s : State) (h : Kept l s0 s) : Kept l s0 (setPub k xx s) := by
  simp [setPub, *]

@[simp] theorem kept_pubSend {l : Bool} {s0 : State} (k : ℕ) (d : GoosePubDef) (x : GoosePub) (s : State) (h : Kept l s0 s) : Kept l s0 (pubSend k d x s) := by
  exact kept_maskSend _ _ _ _ _ _ (kept_setPub _ _ _ h)

@[simp] theorem kept_pubLaunch {l : Bool} {s0 : State} (k : ℕ) (d : GoosePubDef) (s : State) (h : Kept l s0 s) : Kept l s0 (pubLaunch k d s) := by
  unfold pubLaunch
  dsimp only
  (repeat' split) <;> simp_all

@[simp] theorem kept_publish {l : Bool} {s0 : State} (s : State) (h : Kept l s0 s) : Kept l s0 (publish s) := by
  unfold publish
  refine Kept.foldl _ _ (by simp [*]) ?_
  intros
  simp [*]

theorem kept_execGooseRetransmit {l : Bool} {s0 : State} (pub : ℕ) (s : State) (h : Kept l s0 s) : KeptO l s0 (execGooseRetransmit pub s) := by
  unfold execGooseRetransmit
  (first | refine KeptO.unit fun _ => ?_ | rw [KeptO.ok])
  (repeat' first | (extract_lets +onlyGivenNames x; have hx : Kept l s0 x := (by dsimp only [x]; (repeat' first | split | (refine Kept.foldl _ _ ?_ ?_ <;> intros)) <;> simp_all); clear_value x) | (extract_lets +onlyGivenNames x; subst x) | split | (refine Kept.foldl _ _ ?_ ?_ <;> intros)) <;> simp [*]

@[simp] theorem kept_udpReject {l : Bool} {s0 : State} (p : ℕ) (d : Datagram) (st : Status) (s : State) (h : Kept l s0 s) : Kept l s0 (udpReject p d st s) := by
  simp [udpReject, *]

@[simp] theorem kept_udpOpen {l : Bool} {s0 : State} (p : ℕ) (d : Datagram) (s : State) (h : Kept l s0 s) : Kept l s0 (udpOpen p d s) := by
  unfold udpOpen
  (repeat' first | (extract_lets +onlyGivenNames x; have hx : Kept l s0 x := (by dsimp only [x]; (repeat' first | split | (refine Kept.foldl _ _ ?_ ?_ <;> intros)) <;> simp_all); clear_value x) | (extract_lets +onlyGivenNames x; subst x) | split | (refine Kept.foldl _ _ ?_ ?_ <;> intros)) <;> simp_all

@[simp] theorem kept_udpData {l : Bool} {s0 : State} (p : ℕ) (n : ℕ) (b : Bind) (d : Datagram) (s : State) (h : Kept l s0 s) : Kept l s0 (udpData p n b d s) := by
  simp (maxDischargeDepth := 30) [udpData, *]

@[simp] theorem kept_unbind {l : Bool} {s0 : State} (n : ℕ) (s : State) (h : Kept l s0 s) : Kept l s0 (unbind n s) := by
  simp [unbind, *]

@[simp] theorem kept_udpLost {l : Bool} {s0 : State} (n : ℕ) (b : Bind) (s : State) (h : Kept l s0 s) : Kept l s0 (udpLost n b s) := by
  unfold udpLost
  (repeat' first | (extract_lets +onlyGivenNames x; have hx : Kept l s0 x := (by dsimp only [x]; (repeat' first | split | (refine Kept.foldl _ _ ?_ ?_ <;> intros)) <;> simp_all); clear_value x) | (extract_lets +onlyGivenNames x; subst x) | split | (refine Kept.foldl _ _ ?_ ?_ <;> intros)) <;> simp_all

@[simp] theorem kept_udpReceive {l : Bool} {s0 : State} (p : ℕ) (d : Datagram) (s : State) (h : Kept l s0 s) : Kept l s0 (udpReceive p d s) := by
  unfold udpReceive
  (repeat' first | (extract_lets +onlyGivenNames x; have hx : Kept l s0 x := (by dsimp only [x]; (repeat' first | split | (refine Kept.foldl _ _ ?_ ?_ <;> intros)) <;> simp_all); clear_value x) | (extract_lets +onlyGivenNames x; subst x) | split | (refine Kept.foldl _ _ ?_ ?_ <;> intros)) <;> simp_all

theorem kept_execF2hDataResend {l : Bool} {s0 : State} (mbx : ℕ) (s : State) (h : Kept l s0 s) : KeptO l s0 (execF2hDataResend mbx s) := by
  unfold execF2hDataResend
  (first | refine KeptO.unit fun _ => ?_ | rw [KeptO.ok])
  (repeat' first | (extract_lets +onlyGivenNames x; have hx : Kept l s0 x := (by dsimp only [x]; (repeat' first | split | (refine Kept.foldl _ _ ?_ ?_ <;> intros)) <;> simp_all); clear_value x) | (extract_lets +onlyGivenNames x; subst x) | split | (refine Kept.foldl _ _ ?_ ?_ <;> intros)) <;> simp [*]

theorem kept_execUdpSessionTimeout {l : Bool} {s0 : State} (mbx : ℕ) (s : State) (h : Kept l s0 s) : KeptO l s0 (execUdpSessionTimeout mbx s) := by
  unfold execUdpSessionTimeout
  (repeat' split) <;> simp_all

@[simp] theorem kept_rateTake {l : Bool} {s0 : State} (p : ℕ) (k : ℕ) (s : State) (h : Kept l s0 s) : Kept l s0 (rateTake p k s).2 := by
  unfold rateTake
  dsimp only
  (repeat' split) <;> simp_all

@[simp] theorem kept_portDoes {l : Bool} {s0 : State} (p : ℕ) (f : ℕ) (act : State → State) (s : State) (h : Kept l s0 s) (hact : ∀ x, Kept l s0 x → Kept l s0 (act x)) : Kept l s0 (portDoes p f act s) := by
  simp [portDoes, *]

@[simp] theorem kept_toMpc {l : Bool} {s0 : State} (p : ℕ) (k : ℕ) (act : State → State) (s : State) (h : Kept l s0 s) (hact : ∀ x, Kept l s0 x → Kept l s0 (act x)) : Kept l s0 (toMpc p k act s) := by
  unfold toMpc
  dsimp only
  (repeat' split) <;> simp_all

@[simp] theorem kept_answerOn {l : Bool} {s0 : State} (p : ℕ) (dst : BitVec 48) (et : ℕ) (body : TxBody) (s : State) (h : Kept l s0 s) : Kept l s0 (answerOn p dst et body s) := by
  exact kept_setStp _ _ _ (Kept.upd h rfl rfl fun _ a => a)

@[simp] theorem kept_classify {l : Bool} {s0 : State} (p : ℕ) (f : StFrame) (s : State) (h : Kept l s0 s) : Kept l s0 (classify p f s) := by
  unfold classify
  split
  · split
    · split
      · exact kept_telegramCopy _ _ _ (Kept.upd h rfl rfl fun _ a => a)
      · exact kept_stDiscard _ _ h
    · exact kept_stDiscard _ _ h
  · split
    · exact kept_portDoes _ _ _ _ h fun x hx => kept_svFrame _ _ _ _ _ hx
    · exact kept_portDoes _ _ _ _ h fun x hx => kept_gooseReceive _ _ _ _ hx
    · refine kept_portDoes _ _ _ _ h fun x hx => ?_
      split
      · exact kept_ptpReceive _ _ _ hx
      · exact kept_stDiscard _ _ hx
    · split
      · refine kept_toMpc _ _ _ _ h fun x hx => ?_
        split
        · exact kept_udpReceive _ _ _ hx
        · exact kept_stDiscard _ _ hx
      · exact kept_stDiscard _ _ h
    · split
      · exact kept_toMpc _ _ _ _ h fun x hx => kept_answerOn _ _ _ _ _ hx
      · exact kept_stDiscard _ _ h
    · split
      · exact kept_toMpc _ _ _ _ h fun x hx => kept_answerOn _ _ _ _ _ hx
      · exact kept_stDiscard _ _ h
    · split
      · exact h
      · exact kept_stDiscard _ _ h
    · exact kept_stDiscard _ _ h

theorem kept_execStationFrameReceived {l : Bool} {s0 : State} (p : ℕ) (f : StFrame) (t : ℕ) (s : State) (h : Kept l s0 s) : KeptO l s0 (execStationFrameReceived p f t s) := by
  unfold execStationFrameReceived
  extract_lets s1 s2 s3
  have h1 : Kept l s0 s1 := kept_advanceTo _ _ h
  have h2 : Kept l s0 s2 := kept_setStp _ _ _ h1
  have h3 : Kept l s0 s3 := by dsimp only [s3]; split <;> simp [*]
  clear_value s1 s2 s3
  refine KeptO.unit fun _ => ?_
  split
  · exact h1
  split
  · exact kept_setStp _ _ _ h1
  split
  · exact kept_setStp _ _ _ h1
  split
  · exact kept_setStp _ _ _ h1
  split
  · exact h1
  split
  · exact kept_setStp _ _ _ h1
  split
  · exact h3
  split
  rename_i pass s4 e
  have h4 : Kept l s0 s4 := Kept.of_snd e (kept_prpTrailer _ _ _ h3)
  split
  · exact kept_classify _ _ _ h4
  · exact h4

theorem kept_execPrpSupervisionSend {l : Bool} {s0 : State} (pair : ℕ) (s : State) (h : Kept l s0 s) : KeptO l s0 (execPrpSupervisionSend pair s) := by
  unfold execPrpSupervisionSend
  (first | refine KeptO.unit fun _ => ?_ | rw [KeptO.ok])
  (repeat' first | (extract_lets +onlyGivenNames x; have hx : Kept l s0 x := (by dsimp only [x]; (repeat' first | split | (refine Kept.foldl _ _ ?_ ?_ <;> intros)) <;> simp_all); clear_value x) | (extract_lets +onlyGivenNames x; subst x) | split | (refine Kept.foldl _ _ ?_ ?_ <;> intros)) <;> simp [*]

theorem kept_execPrpLanSilent {l : Bool} {s0 : State} (pair : ℕ) (lan : ℕ) (s : State) (h : Kept l s0 s) : KeptO l s0 (execPrpLanSilent pair lan s) := by
  unfold execPrpLanSilent
  (repeat' split) <;> simp_all

@[simp] theorem kept_portDown {l : Bool} {s0 : State} (p : ℕ) (s : State) (h : Kept l s0 s) : Kept l s0 (portDown p s) := by
  unfold portDown
  (repeat' split) <;> simp_all

theorem kept_execStationLinkDown {l : Bool} {s0 : State} (p : ℕ) (s : State) (h : Kept l s0 s) : KeptO l s0 (execStationLinkDown p s) := by
  simp [execStationLinkDown, *]

theorem kept_execStationLinkUp {l : Bool} {s0 : State} (p : ℕ) (s : State) (h : Kept l s0 s) : KeptO l s0 (execStationLinkUp p s) := by
  simp (maxDischargeDepth := 30) [execStationLinkUp, *]

@[simp] theorem kept_remode {l : Bool} {s0 : State} (old : ℕ → ℤ) (s : State) (h : Kept l s0 s) : Kept l s0 (remode old s) := by
  unfold remode
  refine Kept.foldl _ _ (by simp [*]) ?_
  intros
  (repeat' split) <;> simp_all

end Sys2Proof.Laws
end

