-- ==== Sys2Proof/Laws/KeptCycle.lean ====
section
/-! SUPPORT. What a command keeps, one lemma per operation: Pulse, Apply, Cycle, Check, Lock. -/

set_option linter.all false
set_option Elab.async false

namespace Sys2Proof.Laws
open Sys2Proof Sys2Proof.Machine

@[simp] theorem kept_setPch {l : Bool} {s0 : State} (c : ℕ) (xx : Pch) (s : State) (h : Kept l s0 s) : Kept l s0 (setPch c xx s) := by
  simp [setPch, *]

@[simp] theorem kept_pulStore {l : Bool} {s0 : State} (c : ℕ) (t : ℕ) (ti : ℕ) (old : Pch) (new : Pch) (evs : List ℕ) (s : State) (h : Kept l s0 s) : Kept l s0 (pulStore c t ti old new evs s) := by
  unfold pulStore
  refine Kept.foldl _ _ (by simp [*]) ?_
  intros
  simp [*]

@[simp] theorem kept_pulEval {l : Bool} {s0 : State} (c : ℕ) (t : ℕ) (ti : ℕ) (old : Pch) (new : Pch) (evs : List ℕ) (s : State) (h : Kept l s0 s) : Kept l s0 (pulEval c t ti old new evs s) := by
  simp [pulEval, *]

@[simp] theorem kept_clampFault {l : Bool} {s0 : State} (c : ℕ) (old : Pch) (new : Pch) (s : State) (h : Kept l s0 s) : Kept l s0 (clampFault c old new s) := by
  simp [clampFault, *]

@[simp] theorem kept_shadowWrite {l : Bool} {s0 : State} (c : ℕ) (s : State) (h : Kept l s0 s) : Kept l s0 (shadowWrite c s) := by
  unfold shadowWrite
  dsimp only
  (repeat' split) <;> simp_all

@[simp] theorem kept_maskWrite {l : Bool} {s0 : State} (s : State) (h : Kept l s0 s) : Kept l s0 (maskWrite s) := by
  simp [maskWrite, *]

@[simp] theorem kept_pulLaunch {l : Bool} {s0 : State} (s : State) (h : Kept l s0 s) : Kept l s0 (pulLaunch s) := by
  unfold pulLaunch
  exact kept_maskWrite _ (Kept.foldl _ _ h fun x a hx => kept_shadowWrite _ _ hx)

@[simp] theorem kept_maskEvent {l : Bool} {s0 : State} (kind : ℕ) (c : ℕ) (t : ℕ) (s : State) (h : Kept l s0 s) : Kept l s0 (maskEvent kind c t s) := by
  unfold maskEvent
  dsimp only
  (repeat' first | split | (refine Kept.foldl _ _ ?_ ?_ <;> intros)) <;> simp_all

@[simp] theorem kept_periodEnd {l : Bool} {s0 : State} (c : ℕ) (xx : Pch) (s : State) (h : Kept l s0 s) : Kept l s0 (periodEnd c xx s).2 := by
  unfold periodEnd
  (repeat' split) <;> simp_all

@[simp] theorem kept_tripOne {l : Bool} {s0 : State} (ti : ℕ) (t : ℕ) (c : ℕ) (s : State) (h : Kept l s0 s) : Kept l s0 (tripOne ti t c s) := by
  unfold tripOne
  (repeat' first | (extract_lets +onlyGivenNames x; have hx : Kept l s0 x := (by dsimp only [x]; (repeat' first | split | (refine Kept.foldl _ _ ?_ ?_ <;> intros)) <;> simp_all); clear_value x) | (extract_lets +onlyGivenNames x; subst x) | split | (refine Kept.foldl _ _ ?_ ?_ <;> intros)) <;> simp_all

@[simp] theorem kept_tripAgain {l : Bool} {s0 : State} (c : ℕ) (t : ℕ) (s : State) (h : Kept l s0 s) : Kept l s0 (tripAgain c t s) := by
  exact Kept.foldl _ _ h fun x a hx => kept_tripOne _ _ _ _ hx

@[simp] theorem kept_startPeriod {l : Bool} {s0 : State} (c : ℕ) (t : ℕ) (k : ℕ) (s : State) (h : Kept l s0 s) : Kept l s0 (startPeriod c t k s) := by
  unfold startPeriod
  extract_lets x0
  split
  rename_i x s1 e
  have h1 : Kept l s0 s1 := by
    split at e
    · exact Kept.of_snd e (kept_periodEnd _ _ _ h)
    · exact Kept.of_snd e h
  clear e
  extract_lets x1 y s2 s3 pl s4 s5 z
  have h3 : Kept l s0 s3 := kept_pulStore _ _ _ _ _ _ _ (kept_clampFault _ _ _ _ h1)
  have h4 : Kept l s0 s4 := by
    dsimp only [s4]; split
    · exact Kept.upd h3 rfl rfl fun _ a => a
    · exact h3
  exact kept_pulEval _ _ _ _ _ _ _ (kept_tripAgain _ _ _ (kept_maskEvent _ _ _ _ h4))

theorem kept_execPeriodStart {l : Bool} {s0 : State} (ch : ℕ) (eu : ℕ) (s : State) (h : Kept l s0 s) : KeptO l s0 (execPeriodStart ch eu s) := by
  unfold execPeriodStart
  (first | refine KeptO.unit fun _ => ?_ | rw [KeptO.ok])
  (repeat' first | (extract_lets +onlyGivenNames x; have hx : Kept l s0 x := (by dsimp only [x]; (repeat' first | split | (refine Kept.foldl _ _ ?_ ?_ <;> intros)) <;> simp_all); clear_value x) | (extract_lets +onlyGivenNames x; subst x) | split | (refine Kept.foldl _ _ ?_ ?_ <;> intros)) <;> simp [*]

theorem kept_execPulseEdgePosition {l : Bool} {s0 : State} (ch : ℕ) (eu : ℕ) (s : State) (h : Kept l s0 s) : KeptO l s0 (execPulseEdgePosition ch eu s) := by
  unfold execPulseEdgePosition
  (repeat' first | (extract_lets +onlyGivenNames x; have hx : Kept l s0 x := (by dsimp only [x]; (repeat' first | split | (refine Kept.foldl _ _ ?_ ?_ <;> intros)) <;> simp_all); clear_value x) | (extract_lets +onlyGivenNames x; subst x) | split | (refine Kept.foldl _ _ ?_ ?_ <;> intros)) <;> simp_all

@[simp] theorem kept_syncAt {l : Bool} {s0 : State} (c : ℕ) (t : ℕ) (s : State) (h : Kept l s0 s) : Kept l s0 (syncAt c t s) := by
  unfold syncAt
  (try first | refine KeptO.unit fun _ => ?_ | rw [KeptO.ok])
  (repeat' first | (extract_lets +onlyGivenNames x; have hx : Kept l s0 x := (by dsimp only [x]; (repeat' first | split | (refine Kept.foldl _ _ ?_ ?_ <;> intros)) <;> simp_all); clear_value x) | (extract_lets +onlyGivenNames x; subst x) | split | (refine Kept.foldl _ _ ?_ ?_ <;> intros))
  all_goals (first | (have hk := Kept.of_fst (l := l) (s := s0) (by assumption) (by simp [*]); simp [*]; done) | (have hk := Kept.of_snd (l := l) (s := s0) (by assumption) (by simp [*]); simp [*]; done) | simp [*])

theorem kept_execSyncEvent {l : Bool} {s0 : State} (ch : ℕ) (eu : ℕ) (s : State) (h : Kept l s0 s) : KeptO l s0 (execSyncEvent ch eu s) := by
  unfold execSyncEvent
  (first | refine KeptO.unit fun _ => ?_ | rw [KeptO.ok])
  (repeat' first | (extract_lets +onlyGivenNames x; have hx : Kept l s0 x := (by dsimp only [x]; (repeat' first | split | (refine Kept.foldl _ _ ?_ ?_ <;> intros)) <;> simp_all); clear_value x) | (extract_lets +onlyGivenNames x; subst x) | split | (refine Kept.foldl _ _ ?_ ?_ <;> intros)) <;> simp [*]

theorem kept_execSyncInEdge {l : Bool} {s0 : State} (eu : ℕ) (s : State) (h : Kept l s0 s) : KeptO l s0 (execSyncInEdge eu s) := by
  unfold execSyncInEdge
  (first | refine KeptO.unit fun _ => ?_ | rw [KeptO.ok])
  (repeat' first | (extract_lets +onlyGivenNames x; have hx : Kept l s0 x := (by dsimp only [x]; (repeat' first | split | (refine Kept.foldl _ _ ?_ ?_ <;> intros)) <;> simp_all); clear_value x) | (extract_lets +onlyGivenNames x; subst x) | split | (refine Kept.foldl _ _ ?_ ?_ <;> intros)) <;> simp [*]

theorem kept_execSyncLoss {l : Bool} {s0 : State} (ch : ℕ) (s : State) (h : Kept l s0 s) : KeptO l s0 (execSyncLoss ch s) := by
  unfold execSyncLoss
  (first | refine KeptO.unit fun _ => ?_ | rw [KeptO.ok])
  (repeat' first | (extract_lets +onlyGivenNames x; have hx : Kept l s0 x := (by dsimp only [x]; (repeat' first | split | (refine Kept.foldl _ _ ?_ ?_ <;> intros)) <;> simp_all); clear_value x) | (extract_lets +onlyGivenNames x; subst x) | split | (refine Kept.foldl _ _ ?_ ?_ <;> intros)) <;> simp [*]

theorem kept_execTripQualified {l : Bool} {s0 : State} (ti : ℕ) (seen : TripSeen) (s : State) (h : Kept l s0 s) : KeptO l s0 (execTripQualified ti seen s) := by
  unfold execTripQualified
  (first | refine KeptO.unit fun _ => ?_ | rw [KeptO.ok])
  (repeat' first | (extract_lets +onlyGivenNames x; have hx : Kept l s0 x := (by dsimp only [x]; (repeat' first | split | (refine Kept.foldl _ _ ?_ ?_ <;> intros)) <;> simp_all); clear_value x) | (extract_lets +onlyGivenNames x; subst x) | split | (refine Kept.foldl _ _ ?_ ?_ <;> intros)) <;> simp [*]

@[simp] theorem kept_stopChan {l : Bool} {s0 : State} (c : ℕ) (t : ℕ) (s : State) (h : Kept l s0 s) : Kept l s0 (stopChan c t s) := by
  unfold stopChan
  dsimp only
  (repeat' split) <;> simp_all

@[simp] theorem kept_startChan {l : Bool} {s0 : State} (c : ℕ) (t : ℕ) (s : State) (h : Kept l s0 s) : Kept l s0 (startChan c t s) := by
  unfold startChan
  dsimp only
  (repeat' split) <;> simp_all

@[simp] theorem kept_pulCycle {l : Bool} {s0 : State} (fresh : Bool) (s : State) (h : Kept l s0 s) : Kept l s0 (pulCycle fresh s) := by
  unfold pulCycle
  (try first | refine KeptO.unit fun _ => ?_ | rw [KeptO.ok])
  (repeat' first | (extract_lets +onlyGivenNames x; have hx : Kept l s0 x := (by dsimp only [x]; (repeat' first | split | (refine Kept.foldl _ _ ?_ ?_ <;> intros)) <;> simp_all); clear_value x) | (extract_lets +onlyGivenNames x; subst x) | split | (refine Kept.foldl _ _ ?_ ?_ <;> intros))
  all_goals (first | (have hk := Kept.of_fst (l := l) (s := s0) (by assumption) (by simp [*]); simp [*]; done) | (have hk := Kept.of_snd (l := l) (s := s0) (by assumption) (by simp [*]); simp [*]; done) | simp [*])

@[simp] theorem kept_pulCutoff {l : Bool} {s0 : State} (s : State) (h : Kept l s0 s) : Kept l s0 (pulCutoff s) := by
  unfold pulCutoff
  dsimp only
  (repeat' first | split | (refine Kept.foldl _ _ ?_ ?_ <;> intros)) <;> simp_all

@[simp] theorem kept_applyDeblock {l : Bool} {s0 : State} (s : State) (h : Kept l s0 s) : Kept l s0 (applyDeblock s).1 := by
  unfold applyDeblock
  (repeat' split) <;> simp_all (maxDischargeDepth := 30)

@[simp] theorem kept_applyBlockClear {l : Bool} {s0 : State} (s : State) (h : Kept l s0 s) : Kept l s0 (applyBlockClear s).1 := by
  unfold applyBlockClear
  (repeat' split) <;> simp_all

@[simp] theorem kept_applyPhase {l : Bool} {s0 : State} (p : ℕ) (s : State) (h : Kept l s0 s) : Kept l s0 (applyPhase p s).1 := by
  unfold applyPhase
  (repeat' split) <;> simp_all

@[simp] theorem kept_applyDomain {l : Bool} {s0 : State} (i : ℕ) (s : State) (h : Kept l s0 s) : Kept l s0 (applyDomain i s).1 := by
  unfold applyDomain
  (repeat' split) <;> simp_all

@[simp] theorem kept_applySetpoint {l : Bool} {s0 : State} (slot : ℕ) (ws : List ElemWord) (s : State) (h : Kept l s0 s) : Kept l s0 (applySetpoint slot ws s).1 := by
  unfold applySetpoint
  (repeat' split) <;> simp_all

@[simp] theorem kept_applyExclude {l : Bool} {s0 : State} (ci : ℕ) (s : State) (h : Kept l s0 s) : Kept l s0 (applyExclude ci s).1 := by
  unfold applyExclude
  (repeat' split) <;> simp_all

@[simp] theorem kept_applyFlags {l : Bool} {s0 : State} (first : ℕ) (count : ℕ) (s : State) (h : Kept l s0 s) : Kept l s0 (applyFlags first count s) := by
  simp [applyFlags, *]

@[simp] theorem kept_applyStats {l : Bool} {s0 : State} (s : State) (h : Kept l s0 s) : Kept l s0 (applyStats s) := by
  simp [applyStats, *]

@[simp] theorem kept_applyMinMax {l : Bool} {s0 : State} (first : ℕ) (count : ℕ) (s : State) (h : Kept l s0 s) : Kept l s0 (applyMinMax first count s) := by
  simp [applyMinMax, *]

@[simp] theorem kept_applyPulse {l : Bool} {s0 : State} (mask : ℕ) (s : State) (h : Kept l s0 s) : Kept l s0 (applyPulse mask s) := by
  simp [applyPulse, *]

@[simp] theorem kept_applyCmd {l : Bool} {s0 : State} (w : Waiting) (s : State) (h : Kept l s0 s) : Kept l s0 (applyCmd w s).1 := by
  unfold applyCmd
  (repeat' split) <;> simp_all

@[simp] theorem kept_countApplied {l : Bool} {s0 : State} (op : ℕ) (s : State) (h : Kept l s0 s) : Kept l s0 (countApplied op s) := by
  simp [countApplied, *]

theorem kept_execScheduledCommandApply {l : Bool} {s0 : State} (s : State) (h : Kept l s0 s) : KeptO l s0 (execScheduledCommandApply s) := by
  unfold execScheduledCommandApply
  rw [KeptO.ok]
  split
  · split
    rename_i t st e
    have ht : Kept l s0 t := Kept.of_fst e (kept_applyCmd _ _ (Kept.upd h rfl rfl fun _ a => a))
    clear e
    split
    · refine kept_scheduledResult _ _ _ _ ?_
      split
      · exact kept_countApplied _ _ ht
      · exact ht
    · exact kept_countApplied _ _ ht
  · exact h

@[simp] theorem kept_boundaryLevel4 {l : Bool} {s0 : State} (s : State) (h : Kept l s0 s) : Kept l s0 (boundaryLevel4 s) := by
  unfold boundaryLevel4
  (repeat' first | (extract_lets +onlyGivenNames x; have hx : Kept l s0 x := (by dsimp only [x]; (repeat' first | split | (refine Kept.foldl _ _ ?_ ?_ <;> intros)) <;> simp_all); clear_value x) | (extract_lets +onlyGivenNames x; subst x) | split | (refine Kept.foldl _ _ ?_ ?_ <;> intros)) <;> simp_all

@[simp] theorem kept_boundaryBlock {l : Bool} {s0 : State} (s : State) (h : Kept l s0 s) : Kept l s0 (boundaryBlock s) := by
  unfold boundaryBlock
  dsimp only
  (repeat' split) <;> simp_all

@[simp] theorem kept_boundarySrb {l : Bool} {s0 : State} (s : State) (h : Kept l s0 s) : Kept l s0 (boundarySrb s) := by
  unfold boundarySrb
  (repeat' split) <;> simp_all

@[simp] theorem kept_boundaryPhase {l : Bool} {s0 : State} (s : State) (h : Kept l s0 s) : Kept l s0 (boundaryPhase s) := by
  unfold boundaryPhase
  (repeat' first | (extract_lets +onlyGivenNames x; have hx : Kept l s0 x := (by dsimp only [x]; (repeat' first | split | (refine Kept.foldl _ _ ?_ ?_ <;> intros)) <;> simp_all); clear_value x) | (extract_lets +onlyGivenNames x; subst x) | split | (refine Kept.foldl _ _ ?_ ?_ <;> intros)) <;> simp_all

@[simp] theorem kept_imageSwap {l : Bool} {s0 : State} (s : State) (h : Kept l s0 s) : Kept l s0 (imageSwap s) := by
  simp [imageSwap, *]

@[simp] theorem kept_freshCycle {l : Bool} {s0 : State} (n : CycleNo) (s : State) (h : Kept l s0 s) : Kept l s0 (freshCycle n s) := by
  simp [freshCycle, *]

@[simp] theorem kept_handoverStart {l : Bool} {s0 : State} (s : State) (h : Kept l s0 s) : Kept l s0 (handoverStart s) := by
  unfold handoverStart
  (repeat' split) <;> simp_all

@[simp] theorem kept_beginCycle {l : Bool} {s0 : State} (n : CycleNo) (s : State) (h : Kept l s0 s) : Kept l s0 (beginCycle n s) := by
  simp (maxDischargeDepth := 30) [beginCycle, *]

theorem kept_execCycleStart {l : Bool} {s0 : State} (t : ℕ) (s : State) (h : Kept l s0 s) : KeptO l s0 (execCycleStart t s) := by
  unfold execCycleStart
  dsimp only
  (repeat' split) <;> simp_all

theorem kept_execCycleBaseReached {l : Bool} {s0 : State} (t : ℕ) (s : State) (h : Kept l s0 s) : KeptO l s0 (execCycleBaseReached t s) := by
  unfold execCycleBaseReached
  (repeat' first | (extract_lets +onlyGivenNames x; have hx : Kept l s0 x := (by dsimp only [x]; (repeat' first | split | (refine Kept.foldl _ _ ?_ ?_ <;> intros)) <;> simp_all); clear_value x) | (extract_lets +onlyGivenNames x; subst x) | split | (refine Kept.foldl _ _ ?_ ?_ <;> intros)) <;> simp_all

@[simp] theorem kept_takeReports {l : Bool} {s0 : State} (s : State) (h : Kept l s0 s) : Kept l s0 (takeReports s) := by
  simp [takeReports, *]

@[simp] theorem kept_reportPoints {l : Bool} {s0 : State} (s : State) (r : Report) (h : Kept l s0 s) : Kept l s0 (reportPoints s r) := by
  unfold reportPoints
  (repeat' first | (extract_lets +onlyGivenNames x; have hx : Kept l s0 x := (by dsimp only [x]; (repeat' first | split | (refine Kept.foldl _ _ ?_ ?_ <;> intros)) <;> simp_all); clear_value x) | (extract_lets +onlyGivenNames x; subst x) | split | (refine Kept.foldl _ _ ?_ ?_ <;> intros)) <;> simp_all

@[simp] theorem kept_moorCutoff {l : Bool} {s0 : State} (ci : ℕ) (s : State) (h : Kept l s0 s) : Kept l s0 (moorCutoff ci s) := by
  unfold moorCutoff
  (repeat' split) <;> simp_all (maxDischargeDepth := 30)

@[simp] theorem kept_gaugeGaps {l : Bool} {s0 : State} (cis : List ℕ) (s : State) (h : Kept l s0 s) : Kept l s0 (gaugeGaps cis s) := by
  unfold gaugeGaps
  refine Kept.foldl _ _ (by simp [*]) ?_
  intros
  simp [*]

@[simp] theorem kept_setInputI {l : Bool} {s0 : State} (k : ℕ) (xs : List ℤ) (s : State) (h : Kept l s0 s) : Kept l s0 (setInputI k xs s) := by
  simp [setInputI, *]

@[simp] theorem kept_freezeInputs {l : Bool} {s0 : State} (s : State) (h : Kept l s0 s) : Kept l s0 (freezeInputs s) := by
  unfold freezeInputs
  extract_lets s1 s2 s3 s4
  have h1 : Kept l s0 s1 := kept_getClose _ h
  have h2 : Kept l s0 s2 := Kept.foldl _ _ h1 fun x a hx => kept_setInputI _ _ _ hx
  have h3 : Kept l s0 s3 := kept_pulCutoff _ (kept_gooseAll _ (kept_svAll _ (kept_getFreeze _ h2)))
  have h4 : Kept l s0 s4 := Kept.foldl _ _ h3 fun x a hx => kept_setInputI _ _ _ hx
  exact kept_setInputI _ _ _ (kept_setInputI _ _ _ h4)

@[simp] theorem kept_cutoff {l : Bool} {s0 : State} (s : State) (h : Kept l s0 s) : Kept l s0 (cutoff s) := by
  unfold cutoff
  extract_lets cy s1 cis s2 s3 s4 s5
  have h1 : Kept l s0 s1 := kept_takeReports _ (Kept.upd h rfl rfl fun _ a => a)
  have h2 : Kept l s0 s2 := Kept.foldl _ _ h1 fun x a hx => kept_moorCutoff _ _ hx
  have h3 : Kept l s0 s3 := kept_gaugeGaps _ _ (Kept.foldl _ _ h2 fun x a hx => kept_reportPoints _ _ hx)
  have h4 : Kept l s0 s4 := kept_tandemCutoff _ (kept_gaugeMissing _ (kept_settleAll _ (kept_freezeInputs _ h3)))
  have h5 : Kept l s0 s5 := kept_placeAtCutoff _ h4
  split
  · exact kept_graphStart _ h5
  · exact kept_withGraph _ _ h5

theorem kept_execMeasurementCutoff {l : Bool} {s0 : State} (t : ℕ) (s : State) (h : Kept l s0 s) : KeptO l s0 (execMeasurementCutoff t s) := by
  unfold execMeasurementCutoff
  dsimp only
  (repeat' split) <;> simp_all

theorem kept_execPackReady {l : Bool} {s0 : State} (p : ℕ) (packed : ℕ) (canary : SMap ℕ) (s : State) (h : Kept l s0 s) : KeptO l s0 (execPackReady p packed canary s) := by
  unfold execPackReady
  (first | refine KeptO.unit fun _ => ?_ | rw [KeptO.ok])
  (repeat' first | (extract_lets +onlyGivenNames x; have hx : Kept l s0 x := (by dsimp only [x]; (repeat' first | split | (refine Kept.foldl _ _ ?_ ?_ <;> intros)) <;> simp_all); clear_value x) | (extract_lets +onlyGivenNames x; subst x) | split | (refine Kept.foldl _ _ ?_ ?_ <;> intros)) <;> simp [*]

@[simp] theorem kept_fabricPoint {l : Bool} {s0 : State} (p : ℕ) (m : PointMap) (s : State) (h : Kept l s0 s) : Kept l s0 (fabricPoint p m s) := by
  unfold fabricPoint
  (repeat' split) <;> simp_all

@[simp] theorem kept_fabricPoints {l : Bool} {s0 : State} (s : State) (h : Kept l s0 s) : Kept l s0 (fabricPoints s) := by
  unfold fabricPoints
  (repeat' first | (extract_lets +onlyGivenNames x; have hx : Kept l s0 x := (by dsimp only [x]; (repeat' first | split | (refine Kept.foldl _ _ ?_ ?_ <;> intros)) <;> simp_all); clear_value x) | (extract_lets +onlyGivenNames x; subst x) | split | (refine Kept.foldl _ _ ?_ ?_ <;> intros)) <;> simp_all

@[simp] theorem kept_captureNodes {l : Bool} {s0 : State} (s : State) (h : Kept l s0 s) : Kept l s0 (captureNodes s) := by
  unfold captureNodes
  (repeat' first | (extract_lets +onlyGivenNames x; have hx : Kept l s0 x := (by dsimp only [x]; (repeat' first | split | (refine Kept.foldl _ _ ?_ ?_ <;> intros)) <;> simp_all); clear_value x) | (extract_lets +onlyGivenNames x; subst x) | split | (refine Kept.foldl _ _ ?_ ?_ <;> intros)) <;> simp_all

@[simp] theorem kept_publishAll {l : Bool} {s0 : State} (s : State) (h : Kept l s0 s) : Kept l s0 (publishAll s) := by
  simp (maxDischargeDepth := 30) [publishAll, *]

@[simp] theorem kept_closeCycle {l : Bool} {s0 : State} (launched : Bool) (missed : Bool) (s : State) (h : Kept l s0 s) : Kept l s0 (closeCycle launched missed s) := by
  simp [closeCycle, *]

@[simp] theorem kept_commitAll {l : Bool} {s0 : State} (block : Bool) (s : State) (h : Kept l s0 s) : Kept l s0 (commitAll block s) := by
  unfold commitAll
  have h1 : Kept l s0 (commitNodes s) := kept_commitNodes _ h
  dsimp only
  refine kept_publishAll _ (Kept.upd (kept_schedLaunch _ (Kept.foldl _ _ h1 fun x a hx => ?_)) rfl rfl fun _ a => a)
  split
  · exact kept_armCommitBlock _ _ hx
  · exact kept_armCommit _ _ hx

@[simp] theorem kept_launch {l : Bool} {s0 : State} (s : State) (h : Kept l s0 s) : Kept l s0 (launch s) := by
  unfold launch
  extract_lets lead out s1 s2 dv
  have h1 : Kept l s0 s1 := kept_pushFrame _ _ (kept_sendAll _ _ h fun p x hx => kept_sendWords _ _ _ _ hx)
  have h2 : Kept l s0 s2 := kept_govSlack _ _ (kept_commitAll _ _ h1)
  clear_value s2
  exact kept_closeCycle _ _ _ (kept_sendRecord _ _ _ (Kept.upd h2 rfl rfl fun _ a => a))

theorem kept_execLaunchTick {l : Bool} {s0 : State} (t : ℕ) (s : State) (h : Kept l s0 s) : KeptO l s0 (execLaunchTick t s) := by
  simp (maxDischargeDepth := 30) [execLaunchTick, *]

@[simp] theorem kept_discardAll {l : Bool} {s0 : State} (s : State) (h : Kept l s0 s) : Kept l s0 (discardAll s) := by
  unfold discardAll
  (repeat' first | (extract_lets +onlyGivenNames x; have hx : Kept l s0 x := (by dsimp only [x]; (repeat' first | split | (refine Kept.foldl _ _ ?_ ?_ <;> intros)) <;> simp_all); clear_value x) | (extract_lets +onlyGivenNames x; subst x) | split | (refine Kept.foldl _ _ ?_ ?_ <;> intros)) <;> simp_all

@[simp] theorem kept_launchBlock {l : Bool} {s0 : State} (s : State) (h : Kept l s0 s) : Kept l s0 (launchBlock s) := by
  unfold launchBlock
  extract_lets out dn part s1 tn s2 dv
  have h1 : Kept l s0 s1 := kept_pushFrame _ _ (kept_sendAll _ _ h fun p x hx => kept_sendWords _ _ _ _ hx)
  have h2 : Kept l s0 s2 := by
    dsimp only [s2]
    split
    · exact kept_commitAll _ _ h1
    · split
      · exact kept_discardAll _ h1
      · exact kept_getLaunch _ (kept_publish _ (kept_schedIdle _ (Kept.upd h1 rfl rfl fun _ a => a)))
  clear_value s2
  exact kept_closeCycle _ _ _ (kept_sendRecord _ _ _ (Kept.upd h2 rfl rfl fun _ a => a))

@[simp] theorem kept_missCycle {l : Bool} {s0 : State} (s : State) (h : Kept l s0 s) : Kept l s0 (missCycle s) := by
  unfold missCycle
  have h1 : Kept l s0 (govMiss (raise 1 (be 6 s.cyc.n.toNat) (discardAll (sendAll (fun p => sendService p) s)))) :=
    kept_govMiss _ (kept_raise _ _ _ (kept_discardAll _ (kept_sendAll _ _ h fun p x hx => kept_sendService _ _ hx)))
  revert h1
  generalize (govMiss (raise 1 (be 6 s.cyc.n.toNat) (discardAll (sendAll (fun p => sendService p) s)))) = x
  intro h1
  have hy : Kept l s0 ((nodes x).foldl (fun s n => capGap 1 n.node s) x) := Kept.foldl _ _ h1 fun x a hx => kept_capGap _ _ _ hx
  revert hy
  dsimp only
  generalize ((nodes x).foldl (fun s n => capGap 1 n.node s) x) = y
  intro hy
  refine kept_closeCycle _ _ _ (kept_sendRecord _ _ _ ?_)
  split
  · exact Kept.upd hy rfl rfl fun _ a => a
  · exact hy

theorem kept_execFrameDeadline {l : Bool} {s0 : State} (t : ℕ) (s : State) (h : Kept l s0 s) : KeptO l s0 (execFrameDeadline t s) := by
  simp (maxDischargeDepth := 30) [execFrameDeadline, *]


@[simp] theorem kept_bankWrite {l : Bool} {s0 : State} (s : State) (h : Kept l s0 s) : Kept l s0 (bankWrite s) := by
  unfold bankWrite
  (repeat' split) <;> simp_all

@[simp] theorem kept_bankRestore {l : Bool} {s0 : State} (s : State) (h : Kept l s0 s) : Kept l s0 (bankRestore s) := by
  simp [bankRestore, *]

@[simp] theorem kept_commitFails {l : Bool} {s0 : State} (w : Waiting) (st : Status) (s : State) (h : Kept l s0 s) : Kept l s0 (commitFails w st s) := by
  simp (maxDischargeDepth := 30) [commitFails, *]

@[simp] theorem kept_commitDone {l : Bool} {s0 : State} (w : Waiting) (cycle : CycleNo) (s : State) (h : Kept l s0 s) : Kept l s0 (commitDone w cycle s) := by
  simp [commitDone, *]

@[simp] theorem kept_flipStaged {l : Bool} {s0 : State} (c : Cand) (s : State) (h : Kept l s0 s) : Kept l s0 (flipStaged c s) := by
  unfold flipStaged
  extract_lets ck cf s1
  have h1 : Kept l s0 s1 := Kept.upd h rfl rfl fun _ a => a
  clear_value s1
  exact kept_bankRestore _ (Kept.upd h1 rfl rfl fun _ a => a)

@[simp] theorem kept_applyStaged {l : Bool} {s0 : State} (c : Cand) (s : State) (h : Kept l s0 s) : Kept l s0 (applyStaged c s) := by
  unfold applyStaged
  extract_lets moved s1 ids s2 gr s3 gb s4
  have h1 : Kept l s0 s1 := kept_flipStaged _ _ h
  have h2 : Kept l s0 s2 := by
    dsimp only [s2]; split
    · exact kept_ptRelimit _ h1
    · exact h1
  have h3 : Kept l s0 s3 := by
    dsimp only [s3]; split
    · exact h2
    · exact Kept.upd h2 rfl rfl fun _ a => a
  have h4 : Kept l s0 s4 := kept_withGraph _ _ h3
  clear_value s4
  split
  · exact kept_withGraph _ _ h4
  · exact h4

theorem kept_execLockThrough {l : Bool} {s0 : State} (digestOk : Bool) (s : State) (h : Kept l s0 s) : KeptO l s0 (execLockThrough digestOk s) := by
  unfold execLockThrough
  (repeat' split) <;> simp_all (maxDischargeDepth := 30)

@[simp] theorem kept_dropWaiting {l : Bool} {s0 : State} (s : State) (h : Kept l s0 s) : Kept l s0 (dropWaiting s) := by
  unfold dropWaiting
  refine Kept.foldl _ _ (by simp [*]) ?_
  intros
  simp [*]

@[simp] theorem kept_capStopAll {l : Bool} {s0 : State} (s : State) (h : Kept l s0 s) : Kept l s0 (capStopAll s) := by
  unfold capStopAll
  dsimp only
  (repeat' first | split | (refine Kept.foldl _ _ ?_ ?_ <;> intros)) <;> simp_all

@[simp] theorem kept_platePort {l : Bool} {s0 : State} (old : Plate) (p : ℕ) (s : State) (h : Kept l s0 s) : Kept l s0 (platePort old p s) := by
  unfold platePort
  have gone : ∀ (ms : List Nat) (y : State), Kept l s0 y →
      Kept l s0 (ms.foldl (fun s m => setMoor (ciOf p m) (fun x => { x with preset := {} }) (vacate p m s)) y) :=
    fun ms y hy => Kept.foldl _ _ hy fun x a hx => kept_setMoor _ _ _ (kept_vacate _ _ _ hx)
  extract_lets +onlyGivenNames was oldPar same wasNamed u gn v
  have hu : Kept l s0 u := by
    unfold u; split
    · split
      · exact kept_setPort _ _ _ h
      · exact kept_rangeCmdLost _ _ _ h
    · exact h
  have hv : Kept l s0 v := kept_setPort _ _ _ hu
  clear_value u v
  split
  · exact kept_laneGo _ _ _ (kept_setPort _ _ _ (gone _ _ hv))
  · extract_lets +onlyGivenNames w x y gen
    have hw : Kept l s0 w := gone _ _ hv
    have hx : Kept l s0 x := by
      refine Kept.foldl _ _ hw fun z m hz => ?_
      dsimp only
      refine kept_setMoor _ _ _ ?_
      split
      · exact kept_moorGo _ _ _ _ hz
      · exact hz
    have hy : Kept l s0 y := kept_setPort _ _ _ hx
    clear_value w x y
    split
    · exact kept_toAcquire _ _ (kept_setPort _ _ _ hy)
    · split
      · exact kept_restartPort _ _ hy
      · split
        · exact kept_assignAll _ _ hy
        · exact hy

@[simp] theorem kept_restartPtp {l : Bool} {s0 : State} (old : SMap ℤ) (s : State) (h : Kept l s0 s) : Kept l s0 (restartPtp old s) := by
  unfold restartPtp
  refine Kept.foldl _ _ (Kept.upd h rfl rfl fun _ a => a) fun x a hx => ?_
  split
  · exact kept_bmca _ _ (kept_setDom _ _ _ hx)
  · exact hx

@[simp] theorem kept_storePlate {l : Bool} {s0 : State} (img : List Byte) (s : State) (h : Kept l s0 s) : Kept l s0 (storePlate img s) := by
  unfold storePlate
  (repeat' split) <;> simp_all (maxDischargeDepth := 30)

@[simp] theorem kept_plateResets {l : Bool} {s0 : State} (pl : Plate) (s : State) (h : Kept l s0 s) : Kept l s0 (plateResets pl s) := by
  simp [plateResets, *]

@[simp] theorem kept_lockPlate {l : Bool} {s0 : State} (pl : Plate) (img : List Byte) (digestOk : Bool) (inst : Option ℕ) (base : Option ℕ) (s : State) (h : Kept l s0 s) : Kept l s0 (lockPlate pl img digestOk inst base s) := by
  unfold lockPlate
  (repeat' first | (extract_lets +onlyGivenNames x; have hx : Kept l s0 x := (by dsimp only [x]; (repeat' first | split | (refine Kept.foldl _ _ ?_ ?_ <;> intros)) <;> simp_all (maxDischargeDepth := 30)); clear_value x) | (extract_lets +onlyGivenNames x; subst x) | split | (refine Kept.foldl _ _ ?_ ?_ <;> intros)) <;> simp_all (maxDischargeDepth := 30)

theorem kept_execWholePlateLockThrough {l : Bool} {s0 : State} (t : ℕ) (digestOk : Bool) (s : State) (h : Kept l s0 s) : KeptO l s0 (execWholePlateLockThrough t digestOk s) := by
  unfold execWholePlateLockThrough
  (repeat' first | (extract_lets +onlyGivenNames x; have hx : Kept l s0 x := (by dsimp only [x]; (repeat' first | split | (refine Kept.foldl _ _ ?_ ?_ <;> intros)) <;> simp_all); clear_value x) | (extract_lets +onlyGivenNames x; subst x) | split | (refine Kept.foldl _ _ ?_ ?_ <;> intros)) <;> simp_all

theorem kept_execIdlePlateLockThrough {l : Bool} {s0 : State} (t : ℕ) (digestOk : Bool) (s : State) (h : Kept l s0 s) : KeptO l s0 (execIdlePlateLockThrough t digestOk s) := by
  unfold execIdlePlateLockThrough
  (repeat' first | (extract_lets +onlyGivenNames x; have hx : Kept l s0 x := (by dsimp only [x]; (repeat' first | split | (refine Kept.foldl _ _ ?_ ?_ <;> intros)) <;> simp_all); clear_value x) | (extract_lets +onlyGivenNames x; subst x) | split | (refine Kept.foldl _ _ ?_ ?_ <;> intros)) <;> simp_all

end Sys2Proof.Laws
end

