-- ==== Sys2Proof/Laws/KeptCommands.lean ====
section
/-! SUPPORT. What a command keeps, one lemma per operation: BcsBase, Device, Staging, Operate, Faults, Tandem, Capture. -/

set_option linter.all false
set_option Elab.async false

namespace Sys2Proof.Laws
open Sys2Proof Sys2Proof.Machine

/-- A change made only when a check answers OK, and another when it does not. -/
@[simp] theorem kept_onOk {l : Bool} {s0 a : State} {f : Status → State} (e : Status) (h : Kept l s0 a) (hf : ∀ x, Kept l s0 (f x)) :
    Kept l s0 (onOk e a f) := by
  unfold onOk; cases e
  · exact h
  all_goals exact hf _

/-- The same of the state an answer comes with. -/
@[simp] theorem kept_onOkPair {l : Bool} {s0 : State} {β : Type} {a : State × β} {f : Status → State × β} (e : Status) (h : Kept l s0 a.1)
    (hf : ∀ x, Kept l s0 (f x).1) : Kept l s0 (onOk e a f).1 := by
  unfold onOk; cases e
  · exact h
  all_goals exact hf _

@[simp] theorem kept_ghostDone {l : Bool} {s0 : State} (hd : BcsHdr) (s : State) (h : Kept l s0 s) : Kept l s0 (ghostDone hd s) := by
  simp [ghostDone, *]

@[simp] theorem kept_answer {l : Bool} {s0 : State} (hd : BcsHdr) (op : ℕ) (st : Status) (body : List Byte) (s : State) (h : Kept l s0 s) : Kept l s0 (answer hd op st body s) := by
  unfold answer
  (repeat' split) <;> simp_all

@[simp] theorem kept_reject {l : Bool} {s0 : State} (hd : BcsHdr) (c : BcsCmd) (st : Status) (s : State) (h : Kept l s0 s) : Kept l s0 (reject hd c st s) := by
  simp [reject, *]

@[simp] theorem kept_bcsRun {l : Bool} {s0 : State} (hd : BcsHdr) (c : BcsCmd) (s : State) (act : State → State) (h : Kept l s0 s) (hact : ∀ x, Kept l s0 x → Kept l s0 (act x)) : KeptO l s0 (bcsRun hd c s act) := by
  unfold bcsRun
  exact KeptO.unit fun _ => Kept.ite (fun _ => h) fun _ => kept_onOk _ (hact _ h) fun e => kept_reject _ _ _ _ h

@[simp] theorem kept_emptyPound {l : Bool} {s0 : State} (s : State) (h : Kept l s0 s) : Kept l s0 (emptyPound s) := by
  simp [emptyPound, *]

@[simp] theorem kept_abortStage {l : Bool} {s0 : State} (s : State) (h : Kept l s0 s) : Kept l s0 (abortStage s).1 := by
  unfold abortStage
  (repeat' split) <;> simp_all

@[simp] theorem kept_abortRange {l : Bool} {s0 : State} (p : ℕ) (s : State) (h : Kept l s0 s) : Kept l s0 (abortRange p s).1 := by
  unfold abortRange
  (repeat' split) <;> simp_all

@[simp] theorem kept_abortNotice {l : Bool} {s0 : State} (op : ℕ) (p : ℕ) (s1 : State) (st : Status) (s : State) (h : Kept l s0 s) : Kept l s0 (abortNotice op p s1 st s) := by
  unfold abortNotice
  (repeat' split) <;> simp_all

@[simp] theorem kept_acceptCommit {l : Bool} {s0 : State} (w : Waiting) (whole : Bool) (s : State) (h : Kept l s0 s) : Kept l s0 (acceptCommit w whole s) := by
  unfold acceptCommit
  (repeat' split) <;> simp_all

@[simp] theorem kept_accept {l : Bool} {s0 : State} (w : Waiting) (s : State) (h : Kept l s0 s) : Kept l s0 (accept w s).1 := by
  unfold accept
  dsimp only
  generalize acceptCheck s w.cycle 800 = e2
  generalize acceptCheck s w.cycle 0 = e1
  split
  · split
    · dsimp only
      exact kept_acceptCommit _ _ _ h
    · exact kept_onOkPair _ (by dsimp only; exact kept_acceptCommit _ _ _ h) fun x => h
  · refine kept_onOkPair _ ?_ fun x => h
    split
    · exact h
    · exact Kept.upd h rfl rfl fun _ a => a
  · split
    · exact h
    · exact kept_restartPort _ _ h
  · exact kept_abortStage _ h
  · exact kept_setPort _ _ _ h
  · split
    · exact h
    · exact kept_queueRange _ _ _ _ (kept_setPort _ _ _ h)
  · split
    · exact h
    · exact kept_abortRange _ _ h
  · exact kept_onOkPair _ (Kept.upd h rfl rfl fun _ a => a) fun x => h

@[simp] theorem kept_countNow {l : Bool} {s0 : State} (w : Waiting) (st : Status) (s : State) (h : Kept l s0 s) : Kept l s0 (countNow w st s) := by
  simp [countNow, *]

@[simp] theorem kept_sendTransfer {l : Bool} {s0 : State} (hd : BcsHdr) (w : Waiting) (s : State) (h : Kept l s0 s) : Kept l s0 (sendTransfer hd w s) := by
  simp [sendTransfer, *]

@[simp] theorem kept_classA {l : Bool} {s0 : State} (hd : BcsHdr) (w : Waiting) (s : State) (h : Kept l s0 s) : Kept l s0 (classA hd w s) := by
  simp (maxDischargeDepth := 30) [classA, *]

@[simp] theorem kept_whenA {l : Bool} {s0 : State} (hd : BcsHdr) (c : BcsCmd) (w : When) (args : List ℤ) (pre : State → Status) (s : State) (h : Kept l s0 s) : Kept l s0 (whenA hd c w args pre s) := by
  unfold whenA
  dsimp only
  refine Kept.ite (fun _ => kept_reject _ _ _ _ h) fun _ => kept_onOk _ (kept_onOk _ (kept_classA _ _ _ h) fun x => ?_) fun x => ?_
  · exact kept_reject _ _ _ _ h
  · exact kept_reject _ _ _ _ h

@[simp] theorem kept_whenL {l : Bool} {s0 : State} (hd : BcsHdr) (c : BcsCmd) (w : When) (args : List ℤ) (pre : State → Status) (s : State) (h : Kept l s0 s) : Kept l s0 (whenL hd c w args pre s) := by
  unfold whenL
  dsimp only
  refine Kept.ite (fun _ => kept_reject _ _ _ _ h) fun _ => kept_onOk _ (kept_answer _ _ _ _ _ (kept_accept _ _ h)) fun x => ?_
  exact kept_reject _ _ _ _ h

@[simp] theorem kept_challenge {l : Bool} {s0 : State} (hd : BcsHdr) (s : State) (h : Kept l s0 s) : Kept l s0 (challenge hd s) := by
  simp (maxDischargeDepth := 30) [challenge, *]

theorem kept_execSessionChallenge {l : Bool} {s0 : State} (hd : BcsHdr) (s : State) (h : Kept l s0 s) : KeptO l s0 (execSessionChallenge hd s) := by
  unfold execSessionChallenge
  (repeat' split) <;> simp_all

theorem kept_execNonceExpiry {l : Bool} {s0 : State} (mbx : ℕ) (s : State) (h : Kept l s0 s) : KeptO l s0 (execNonceExpiry mbx s) := by
  simp [execNonceExpiry, *]

theorem kept_execAuthLockoutExpiry {l : Bool} {s0 : State} (mbx : ℕ) (s : State) (h : Kept l s0 s) : KeptO l s0 (execAuthLockoutExpiry mbx s) := by
  simp [execAuthLockoutExpiry, *]

@[simp] theorem kept_authFails {l : Bool} {s0 : State} (hd : BcsHdr) (s : State) (h : Kept l s0 s) : Kept l s0 (authFails hd s) := by
  unfold authFails
  (repeat' first | (extract_lets +onlyGivenNames x; have hx : Kept l s0 x := (by dsimp only [x]; (repeat' first | split | (refine Kept.foldl _ _ ?_ ?_ <;> intros)) <;> simp_all); clear_value x) | (extract_lets +onlyGivenNames x; subst x) | split | (refine Kept.foldl _ _ ?_ ?_ <;> intros)) <;> simp_all

@[simp] theorem kept_openSession {l : Bool} {s0 : State} (hd : BcsHdr) (r : SessRole) (c : Credential) (mask : Word) (s : State) (h : Kept l s0 s) : Kept l s0 (openSession hd r c mask s) := by
  simp [openSession, *]

theorem kept_execSessionOpen {l : Bool} {s0 : State} (hd : BcsHdr) (role : ℕ) (credId : Word) (eventMask : Word) (authTag : List Byte) (s : State) (h : Kept l s0 s) : KeptO l s0 (execSessionOpen hd role credId eventMask authTag s) := by
  unfold execSessionOpen
  (repeat' split) <;> simp_all

theorem kept_execSessionClose {l : Bool} {s0 : State} (hd : BcsHdr) (s : State) (h : Kept l s0 s) : KeptO l s0 (execSessionClose hd s) := by
  unfold execSessionClose
  (first | refine kept_bcsRun _ _ _ _ h ?_ | refine kept_runF _ _ _ _ _ h ?_)
  intro y hy
  dsimp only
  (repeat' first | (extract_lets +onlyGivenNames x; have hx : Kept l s0 x := (by dsimp only [x]; (repeat' first | split | (refine Kept.foldl _ _ ?_ ?_ <;> intros)) <;> simp_all (maxDischargeDepth := 30)); clear_value x) | (extract_lets +onlyGivenNames x; subst x) | split | (refine Kept.foldl _ _ ?_ ?_ <;> intros)) <;> simp (maxDischargeDepth := 30) [*]

theorem kept_execEventMaskSet {l : Bool} {s0 : State} (hd : BcsHdr) (mask : Word) (s : State) (h : Kept l s0 s) : KeptO l s0 (execEventMaskSet hd mask s) := by
  unfold execEventMaskSet
  first | refine kept_bcsRun _ _ _ _ h fun y hy => ?_ | refine kept_runF _ _ _ _ _ h fun y hy => ?_
  try dsimp only
  (repeat' split) <;> simp (maxDischargeDepth := 30) [hy]

theorem kept_execDeviceStatus {l : Bool} {s0 : State} (hd : BcsHdr) (s : State) (h : Kept l s0 s) : KeptO l s0 (execDeviceStatus hd s) := by
  unfold execDeviceStatus
  first | refine kept_bcsRun _ _ _ _ h fun y hy => ?_ | refine kept_runF _ _ _ _ _ h fun y hy => ?_
  try dsimp only
  (repeat' split) <;> simp (maxDischargeDepth := 30) [hy]

theorem kept_execDeblock {l : Bool} {s0 : State} (hd : BcsHdr) (w : When) (s : State) (h : Kept l s0 s) : KeptO l s0 (execDeblock hd w s) := by
  unfold execDeblock
  first | refine kept_bcsRun _ _ _ _ h fun y hy => ?_ | refine kept_runF _ _ _ _ _ h fun y hy => ?_
  try dsimp only
  (repeat' split) <;> simp (maxDischargeDepth := 30) [hy]

@[simp] theorem kept_runF {l : Bool} {s0 : State} (hd : BcsHdr) (c : BcsCmd) (args : List ℤ) (act : State → State) (s : State) (h : Kept l s0 s) (hact : ∀ x, Kept l s0 x → Kept l s0 (act x)) : KeptO l s0 (runF hd c args act s) := by
  unfold runF
  (repeat' split) <;> simp_all

@[simp] theorem kept_doBlock {l : Bool} {s0 : State} (s : State) (h : Kept l s0 s) : Kept l s0 (doBlock s) := by
  simp [doBlock, *]

theorem kept_execBlock {l : Bool} {s0 : State} (hd : BcsHdr) (s : State) (h : Kept l s0 s) : KeptO l s0 (execBlock hd s) := by
  unfold execBlock
  (first | refine KeptO.unit fun _ => ?_ | rw [KeptO.ok])
  (repeat' first | (extract_lets +onlyGivenNames x; have hx : Kept l s0 x := (by dsimp only [x]; (repeat' first | split | (refine Kept.foldl _ _ ?_ ?_ <;> intros)) <;> simp_all); clear_value x) | (extract_lets +onlyGivenNames x; subst x) | split | (refine Kept.foldl _ _ ?_ ?_ <;> intros)) <;> simp [*]

theorem kept_execBlockClear {l : Bool} {s0 : State} (hd : BcsHdr) (w : When) (s : State) (h : Kept l s0 s) : KeptO l s0 (execBlockClear hd w s) := by
  unfold execBlockClear
  first | refine kept_bcsRun _ _ _ _ h fun y hy => ?_ | refine kept_runF _ _ _ _ _ h fun y hy => ?_
  try dsimp only
  (repeat' split) <;> simp (maxDischargeDepth := 30) [hy]

theorem kept_execPhaseSet {l : Bool} {s0 : State} (hd : BcsHdr) (w : When) (phase : ℕ) (s : State) (h : Kept l s0 s) : KeptO l s0 (execPhaseSet hd w phase s) := by
  unfold execPhaseSet
  first | refine kept_bcsRun _ _ _ _ h fun y hy => ?_ | refine kept_runF _ _ _ _ _ h fun y hy => ?_
  try dsimp only
  (repeat' split) <;> simp (maxDischargeDepth := 30) [hy]

@[simp] theorem kept_doSrbRequest {l : Bool} {s0 : State} (mbx : ℕ) (epoch : Word) (profile : ℕ) (s : State) (h : Kept l s0 s) : Kept l s0 (doSrbRequest mbx epoch profile s) := by
  simp [doSrbRequest, *]

theorem kept_execSrbRequest {l : Bool} {s0 : State} (hd : BcsHdr) (profile : ℕ) (s : State) (h : Kept l s0 s) : KeptO l s0 (execSrbRequest hd profile s) := by
  unfold execSrbRequest
  (first | refine KeptO.unit fun _ => ?_ | rw [KeptO.ok])
  (repeat' first | (extract_lets +onlyGivenNames x; have hx : Kept l s0 x := (by dsimp only [x]; (repeat' first | split | (refine Kept.foldl _ _ ?_ ?_ <;> intros)) <;> simp_all); clear_value x) | (extract_lets +onlyGivenNames x; subst x) | split | (refine Kept.foldl _ _ ?_ ?_ <;> intros)) <;> simp [*]

@[simp] theorem kept_srbWithdrawn {l : Bool} {s0 : State} (own : ℕ × Word) (s : State) (h : Kept l s0 s) : Kept l s0 (srbWithdrawn own s) := by
  exact kept_safetyEvent _ _ _ _ _ _ (Kept.upd h rfl rfl fun _ a => a)

@[simp] theorem kept_doWithdraw {l : Bool} {s0 : State} (mbx : ℕ) (epoch : Word) (s : State) (h : Kept l s0 s) : Kept l s0 (doWithdraw mbx epoch s).1 := by
  unfold doWithdraw
  dsimp only
  split
  · exact kept_srbWithdrawn _ _ h
  · split
    · exact Kept.upd h rfl rfl fun _ a => a
    · exact h

theorem kept_execSrbWithdraw {l : Bool} {s0 : State} (hd : BcsHdr) (s : State) (h : Kept l s0 s) : KeptO l s0 (execSrbWithdraw hd s) := by
  unfold execSrbWithdraw
  (first | refine kept_bcsRun _ _ _ _ h ?_ | refine kept_runF _ _ _ _ _ h ?_)
  intro y hy
  dsimp only
  (repeat' first | (extract_lets +onlyGivenNames x; have hx : Kept l s0 x := (by dsimp only [x]; (repeat' first | split | (refine Kept.foldl _ _ ?_ ?_ <;> intros)) <;> simp_all); clear_value x) | (extract_lets +onlyGivenNames x; subst x) | split | (refine Kept.foldl _ _ ?_ ?_ <;> intros)) <;> simp [*]

theorem kept_execTimeDomainSelect {l : Bool} {s0 : State} (hd : BcsHdr) (w : When) (td : ℕ) (s : State) (h : Kept l s0 s) : KeptO l s0 (execTimeDomainSelect hd w td s) := by
  unfold execTimeDomainSelect
  first | refine kept_bcsRun _ _ _ _ h fun y hy => ?_ | refine kept_runF _ _ _ _ _ h fun y hy => ?_
  try dsimp only
  (repeat' split) <;> simp (maxDischargeDepth := 30) [hy]

theorem kept_execTimeSet {l : Bool} {s0 : State} (hd : BcsHdr) (td : ℕ) (seconds : ℕ) (s : State) (h : Kept l s0 s) : KeptO l s0 (execTimeSet hd td seconds s) := by
  unfold execTimeSet
  first | refine kept_bcsRun _ _ _ _ h fun y hy => ?_ | refine kept_runF _ _ _ _ _ h fun y hy => ?_
  try dsimp only
  (repeat' split) <;> simp (maxDischargeDepth := 30) [hy]

theorem kept_execBasinRestart {l : Bool} {s0 : State} (hd : BcsHdr) (basin : ℕ) (s : State) (h : Kept l s0 s) : KeptO l s0 (execBasinRestart hd basin s) := by
  unfold execBasinRestart
  first | refine kept_bcsRun _ _ _ _ h fun y hy => ?_ | refine kept_runF _ _ _ _ _ h fun y hy => ?_
  try dsimp only
  (repeat' split) <;> simp (maxDischargeDepth := 30) [hy]

@[simp] theorem kept_opcodeUnknown {l : Bool} {s0 : State} (hd : BcsHdr) (opcode : ℕ) (s : State) (h : Kept l s0 s) : Kept l s0 (opcodeUnknown hd opcode s) := by
  unfold opcodeUnknown
  (repeat' split) <;> simp_all

theorem kept_execUnknownOpcode {l : Bool} {s0 : State} (hd : BcsHdr) (opcode : ℕ) (s : State) (h : Kept l s0 s) : KeptO l s0 (execUnknownOpcode hd opcode s) := by
  unfold execUnknownOpcode
  (repeat' split) <;> simp_all

theorem kept_execPlateLoadBegin {l : Bool} {s0 : State} (hd : BcsHdr) (size : ℕ) (digest : List Byte) (s : State) (h : Kept l s0 s) : KeptO l s0 (execPlateLoadBegin hd size digest s) := by
  unfold execPlateLoadBegin
  (first | refine kept_bcsRun _ _ _ _ h ?_ | refine kept_runF _ _ _ _ _ h ?_)
  intro y hy
  dsimp only
  (repeat' first | (extract_lets +onlyGivenNames x; have hx : Kept l s0 x := (by dsimp only [x]; (repeat' first | split | (refine Kept.foldl _ _ ?_ ?_ <;> intros)) <;> simp_all (maxDischargeDepth := 30)); clear_value x) | (extract_lets +onlyGivenNames x; subst x) | split | (refine Kept.foldl _ _ ?_ ?_ <;> intros)) <;> simp (maxDischargeDepth := 30) [*]

theorem kept_execPlateLoadData {l : Bool} {s0 : State} (hd : BcsHdr) (off : ℕ) (data : List Byte) (s : State) (h : Kept l s0 s) : KeptO l s0 (execPlateLoadData hd off data s) := by
  unfold execPlateLoadData
  (first | refine kept_bcsRun _ _ _ _ h ?_ | refine kept_runF _ _ _ _ _ h ?_)
  intro y hy
  dsimp only
  (repeat' first | (extract_lets +onlyGivenNames x; have hx : Kept l s0 x := (by dsimp only [x]; (repeat' first | split | (refine Kept.foldl _ _ ?_ ?_ <;> intros)) <;> simp_all (maxDischargeDepth := 30)); clear_value x) | (extract_lets +onlyGivenNames x; subst x) | split | (refine Kept.foldl _ _ ?_ ?_ <;> intros)) <;> simp (maxDischargeDepth := 30) [*]

theorem kept_execPlateLoadEnd {l : Bool} {s0 : State} (hd : BcsHdr) (content : Plate) (s : State) (h : Kept l s0 s) : KeptO l s0 (execPlateLoadEnd hd content s) := by
  unfold execPlateLoadEnd
  (first | refine kept_bcsRun _ _ _ _ h ?_ | refine kept_runF _ _ _ _ _ h ?_)
  intro y hy
  dsimp only
  (repeat' first | (extract_lets +onlyGivenNames x; have hx : Kept l s0 x := (by dsimp only [x]; (repeat' first | split | (refine Kept.foldl _ _ ?_ ?_ <;> intros)) <;> simp_all (maxDischargeDepth := 30)); clear_value x) | (extract_lets +onlyGivenNames x; subst x) | split | (refine Kept.foldl _ _ ?_ ?_ <;> intros)) <;> simp (maxDischargeDepth := 30) [*]

theorem kept_execStageSet {l : Bool} {s0 : State} (hd : BcsHdr) (entries : List (ℕ × ℤ)) (s : State) (h : Kept l s0 s) : KeptO l s0 (execStageSet hd entries s) := by
  unfold execStageSet
  refine kept_bcsRun _ _ _ _ h fun y hy => ?_
  dsimp only
  refine Kept.ite (fun _ => kept_reject _ _ _ _ hy) fun _ => Kept.ite (fun _ => kept_reject _ _ _ _ hy) fun _ =>
    kept_onOk _ (Kept.ite (fun _ => kept_reject _ _ _ _ hy) fun _ => kept_answer _ _ _ _ _ ?_) fun e => kept_reject _ _ _ _ hy
  exact Kept.upd hy rfl rfl fun _ a => a

theorem kept_execStageCheck {l : Bool} {s0 : State} (hd : BcsHdr) (s : State) (h : Kept l s0 s) : KeptO l s0 (execStageCheck hd s) := by
  unfold execStageCheck
  (first | refine kept_bcsRun _ _ _ _ h ?_ | refine kept_runF _ _ _ _ _ h ?_)
  intro y hy
  dsimp only
  (repeat' first | (extract_lets +onlyGivenNames x; have hx : Kept l s0 x := (by dsimp only [x]; (repeat' first | split | (refine Kept.foldl _ _ ?_ ?_ <;> intros)) <;> simp_all (maxDischargeDepth := 30)); clear_value x) | (extract_lets +onlyGivenNames x; subst x) | split | (refine Kept.foldl _ _ ?_ ?_ <;> intros)) <;> simp (maxDischargeDepth := 30) [*]

@[simp] theorem kept_checkDone {l : Bool} {s0 : State} (m : ℕ) (epoch : Word) (tag : BitVec 16) (s : State) (h : Kept l s0 s) : Kept l s0 (checkDone m epoch tag s) := by
  unfold checkDone
  (repeat' split) <;> simp_all

theorem kept_execStageCheckComplete {l : Bool} {s0 : State} (s : State) (h : Kept l s0 s) : KeptO l s0 (execStageCheckComplete s) := by
  unfold execStageCheckComplete
  (repeat' split) <;> simp_all

theorem kept_execStageCountersign {l : Bool} {s0 : State} (hd : BcsHdr) (digest : List Byte) (s : State) (h : Kept l s0 s) : KeptO l s0 (execStageCountersign hd digest s) := by
  unfold execStageCountersign
  (first | refine kept_bcsRun _ _ _ _ h ?_ | refine kept_runF _ _ _ _ _ h ?_)
  intro y hy
  dsimp only
  (repeat' first | (extract_lets +onlyGivenNames x; have hx : Kept l s0 x := (by dsimp only [x]; (repeat' first | split | (refine Kept.foldl _ _ ?_ ?_ <;> intros)) <;> simp_all (maxDischargeDepth := 30)); clear_value x) | (extract_lets +onlyGivenNames x; subst x) | split | (refine Kept.foldl _ _ ?_ ?_ <;> intros)) <;> simp (maxDischargeDepth := 30) [*]

theorem kept_execStageCommit {l : Bool} {s0 : State} (hd : BcsHdr) (w : When) (digest : List Byte) (s : State) (h : Kept l s0 s) : KeptO l s0 (execStageCommit hd w digest s) := by
  unfold execStageCommit
  refine kept_bcsRun _ _ _ _ h fun y hy => ?_
  dsimp only
  refine Kept.ite (fun _ => kept_reject _ _ _ _ hy) fun _ => Kept.ite (fun _ => kept_reject _ _ _ _ hy) fun _ =>
    Kept.ite (fun _ => kept_reject _ _ _ _ hy) fun _ =>
    kept_onOk _ (kept_onOk _ (kept_classA _ _ _ hy) fun e => ?_) fun e => ?_
  · exact kept_reject _ _ _ _ hy
  · exact kept_reject _ _ _ _ hy

theorem kept_execStageAbort {l : Bool} {s0 : State} (hd : BcsHdr) (s : State) (h : Kept l s0 s) : KeptO l s0 (execStageAbort hd s) := by
  unfold execStageAbort
  split
  · rw [KeptO.ok]; exact kept_reject _ _ _ _ h
  · exact kept_bcsRun _ _ _ _ h fun y hy => kept_classA _ _ _ hy

theorem kept_execStageRead {l : Bool} {s0 : State} (hd : BcsHdr) (first : ℕ) (s : State) (h : Kept l s0 s) : KeptO l s0 (execStageRead hd first s) := by
  unfold execStageRead
  (first | refine kept_bcsRun _ _ _ _ h ?_ | refine kept_runF _ _ _ _ _ h ?_)
  intro y hy
  dsimp only
  (repeat' first | (extract_lets +onlyGivenNames x; have hx : Kept l s0 x := (by dsimp only [x]; (repeat' first | split | (refine Kept.foldl _ _ ?_ ?_ <;> intros)) <;> simp_all (maxDischargeDepth := 30)); clear_value x) | (extract_lets +onlyGivenNames x; subst x) | split | (refine Kept.foldl _ _ ?_ ?_ <;> intros)) <;> simp (maxDischargeDepth := 30) [*]

theorem kept_execParamGet {l : Bool} {s0 : State} (hd : BcsHdr) (ids : List ℕ) (s : State) (h : Kept l s0 s) : KeptO l s0 (execParamGet hd ids s) := by
  unfold execParamGet
  first | refine kept_bcsRun _ _ _ _ h fun y hy => ?_ | refine kept_runF _ _ _ _ _ h fun y hy => ?_
  try dsimp only
  (repeat' split) <;> simp (maxDischargeDepth := 30) [hy]

theorem kept_execSetpointSet {l : Bool} {s0 : State} (hd : BcsHdr) (w : When) (slot : ℕ) (elems : List ElemWord) (s : State) (h : Kept l s0 s) : KeptO l s0 (execSetpointSet hd w slot elems s) := by
  unfold execSetpointSet
  refine kept_bcsRun _ _ _ _ h fun y hy => ?_
  dsimp only
  refine Kept.ite (fun _ => kept_reject _ _ _ _ hy) fun _ => Kept.ite (fun _ => kept_reject _ _ _ _ hy) fun _ =>
    kept_onOk _ (kept_onOk _ (kept_classA _ _ _ hy) fun e => ?_) fun e => ?_
  · exact kept_reject _ _ _ _ hy
  · exact kept_reject _ _ _ _ hy

theorem kept_execSetpointGet {l : Bool} {s0 : State} (hd : BcsHdr) (slot : ℕ) (s : State) (h : Kept l s0 s) : KeptO l s0 (execSetpointGet hd slot s) := by
  unfold execSetpointGet
  refine kept_bcsRun _ _ _ _ h fun y hy => ?_
  split
  · exact kept_reject _ _ _ _ hy
  · split
    · exact kept_reject _ _ _ _ hy
    · exact kept_answer _ _ _ _ _ hy

theorem kept_execCellExclude {l : Bool} {s0 : State} (hd : BcsHdr) (w : When) (ci : ℕ) (s : State) (h : Kept l s0 s) : KeptO l s0 (execCellExclude hd w ci s) := by
  unfold execCellExclude
  first | refine kept_bcsRun _ _ _ _ h fun y hy => ?_ | refine kept_runF _ _ _ _ _ h fun y hy => ?_
  try dsimp only
  (repeat' split) <;> simp (maxDischargeDepth := 30) [hy]

theorem kept_execCellRestore {l : Bool} {s0 : State} (hd : BcsHdr) (w : When) (ci : ℕ) (s : State) (h : Kept l s0 s) : KeptO l s0 (execCellRestore hd w ci s) := by
  unfold execCellRestore
  first | refine kept_bcsRun _ _ _ _ h fun y hy => ?_ | refine kept_runF _ _ _ _ _ h fun y hy => ?_
  try dsimp only
  (repeat' split) <;> simp (maxDischargeDepth := 30) [hy]

theorem kept_execCellBypassClose {l : Bool} {s0 : State} (hd : BcsHdr) (ci : ℕ) (confirm : ℕ) (s : State) (h : Kept l s0 s) : KeptO l s0 (execCellBypassClose hd ci confirm s) := by
  unfold execCellBypassClose
  first | refine kept_bcsRun _ _ _ _ h fun y hy => ?_ | refine kept_runF _ _ _ _ _ h fun y hy => ?_
  try dsimp only
  (repeat' split) <;> simp (maxDischargeDepth := 30) [hy]

theorem kept_execMooringRange {l : Bool} {s0 : State} (hd : BcsHdr) (basin : ℕ) (mooring : ℕ) (s : State) (h : Kept l s0 s) : KeptO l s0 (execMooringRange hd basin mooring s) := by
  unfold execMooringRange
  first | refine kept_bcsRun _ _ _ _ h fun y hy => ?_ | refine kept_runF _ _ _ _ _ h fun y hy => ?_
  try dsimp only
  (repeat' split) <;> simp (maxDischargeDepth := 30) [hy]

theorem kept_execMooringRangeAbort {l : Bool} {s0 : State} (hd : BcsHdr) (basin : ℕ) (s : State) (h : Kept l s0 s) : KeptO l s0 (execMooringRangeAbort hd basin s) := by
  unfold execMooringRangeAbort
  first | refine kept_bcsRun _ _ _ _ h fun y hy => ?_ | refine kept_runF _ _ _ _ _ h fun y hy => ?_
  try dsimp only
  (repeat' split) <;> simp (maxDischargeDepth := 30) [hy]

theorem kept_execPresetRead {l : Bool} {s0 : State} (hd : BcsHdr) (basin : ℕ) (first : ℕ) (count : ℕ) (s : State) (h : Kept l s0 s) : KeptO l s0 (execPresetRead hd basin first count s) := by
  unfold execPresetRead
  first | refine kept_bcsRun _ _ _ _ h fun y hy => ?_ | refine kept_runF _ _ _ _ _ h fun y hy => ?_
  try dsimp only
  (repeat' split) <;> simp (maxDischargeDepth := 30) [hy]

theorem kept_execNodeFlagsClear {l : Bool} {s0 : State} (hd : BcsHdr) (w : When) (first : ℕ) (count : ℕ) (s : State) (h : Kept l s0 s) : KeptO l s0 (execNodeFlagsClear hd w first count s) := by
  unfold execNodeFlagsClear
  first | refine kept_bcsRun _ _ _ _ h fun y hy => ?_ | refine kept_runF _ _ _ _ _ h fun y hy => ?_
  try dsimp only
  (repeat' split) <;> simp (maxDischargeDepth := 30) [hy]

theorem kept_execSchedStatsClear {l : Bool} {s0 : State} (hd : BcsHdr) (w : When) (s : State) (h : Kept l s0 s) : KeptO l s0 (execSchedStatsClear hd w s) := by
  unfold execSchedStatsClear
  first | refine kept_bcsRun _ _ _ _ h fun y hy => ?_ | refine kept_runF _ _ _ _ _ h fun y hy => ?_
  try dsimp only
  (repeat' split) <;> simp (maxDischargeDepth := 30) [hy]

theorem kept_execPointMinmaxClear {l : Bool} {s0 : State} (hd : BcsHdr) (w : When) (first : ℕ) (count : ℕ) (s : State) (h : Kept l s0 s) : KeptO l s0 (execPointMinmaxClear hd w first count s) := by
  unfold execPointMinmaxClear
  first | refine kept_bcsRun _ _ _ _ h fun y hy => ?_ | refine kept_runF _ _ _ _ _ h fun y hy => ?_
  try dsimp only
  (repeat' split) <;> simp (maxDischargeDepth := 30) [hy]

theorem kept_execPulseStatus {l : Bool} {s0 : State} (hd : BcsHdr) (s : State) (h : Kept l s0 s) : KeptO l s0 (execPulseStatus hd s) := by
  unfold execPulseStatus
  first | refine kept_bcsRun _ _ _ _ h fun y hy => ?_ | refine kept_runF _ _ _ _ _ h fun y hy => ?_
  try dsimp only
  (repeat' split) <;> simp (maxDischargeDepth := 30) [hy]

theorem kept_execPulseFlagsClear {l : Bool} {s0 : State} (hd : BcsHdr) (w : When) (mask : ℕ) (s : State) (h : Kept l s0 s) : KeptO l s0 (execPulseFlagsClear hd w mask s) := by
  unfold execPulseFlagsClear
  first | refine kept_bcsRun _ _ _ _ h fun y hy => ?_ | refine kept_runF _ _ _ _ _ h fun y hy => ?_
  try dsimp only
  (repeat' split) <;> simp (maxDischargeDepth := 30) [hy]

theorem kept_execClockStatus {l : Bool} {s0 : State} (hd : BcsHdr) (s : State) (h : Kept l s0 s) : KeptO l s0 (execClockStatus hd s) := by
  unfold execClockStatus
  first | refine kept_bcsRun _ _ _ _ h fun y hy => ?_ | refine kept_runF _ _ _ _ _ h fun y hy => ?_
  try dsimp only
  (repeat' split) <;> simp (maxDischargeDepth := 30) [hy]

theorem kept_execEyeScan {l : Bool} {s0 : State} (hd : BcsHdr) (lane : ℕ) (dwell : ℕ) (s : State) (h : Kept l s0 s) : KeptO l s0 (execEyeScan hd lane dwell s) := by
  unfold execEyeScan
  (first | refine kept_bcsRun _ _ _ _ h ?_ | refine kept_runF _ _ _ _ _ h ?_)
  intro y hy
  dsimp only
  (repeat' first | (extract_lets +onlyGivenNames x; have hx : Kept l s0 x := (by dsimp only [x]; (repeat' first | split | (refine Kept.foldl _ _ ?_ ?_ <;> intros)) <;> simp_all (maxDischargeDepth := 30)); clear_value x) | (extract_lets +onlyGivenNames x; subst x) | split | (refine Kept.foldl _ _ ?_ ?_ <;> intros)) <;> simp (maxDischargeDepth := 30) [*]

theorem kept_execEyeScanComplete {l : Bool} {s0 : State} (counts : List ℕ) (s : State) (h : Kept l s0 s) : KeptO l s0 (execEyeScanComplete counts s) := by
  unfold execEyeScanComplete
  (repeat' split) <;> simp_all

theorem kept_execEyeScanAbort {l : Bool} {s0 : State} (hd : BcsHdr) (s : State) (h : Kept l s0 s) : KeptO l s0 (execEyeScanAbort hd s) := by
  unfold execEyeScanAbort
  (first | refine kept_bcsRun _ _ _ _ h ?_ | refine kept_runF _ _ _ _ _ h ?_)
  intro y hy
  dsimp only
  (repeat' first | (extract_lets +onlyGivenNames x; have hx : Kept l s0 x := (by dsimp only [x]; (repeat' first | split | (refine Kept.foldl _ _ ?_ ?_ <;> intros)) <;> simp_all (maxDischargeDepth := 30)); clear_value x) | (extract_lets +onlyGivenNames x; subst x) | split | (refine Kept.foldl _ _ ?_ ?_ <;> intros)) <;> simp (maxDischargeDepth := 30) [*]

theorem kept_execTrapEntry {l : Bool} {s0 : State} (source : ℕ) (s : State) (h : Kept l s0 s) : KeptO l s0 (execTrapEntry source s) := by
  unfold execTrapEntry
  (repeat' split) <;> simp_all (maxDischargeDepth := 30)

theorem kept_execLevelSourceClear {l : Bool} {s0 : State} (source : ℕ) (s : State) (h : Kept l s0 s) : KeptO l s0 (execLevelSourceClear source s) := by
  unfold execLevelSourceClear
  (repeat' split) <;> simp_all

theorem kept_execFaultRead {l : Bool} {s0 : State} (hd : BcsHdr) (source : ℕ) (s : State) (h : Kept l s0 s) : KeptO l s0 (execFaultRead hd source s) := by
  unfold execFaultRead
  refine kept_bcsRun _ _ _ _ h fun y hy => ?_
  dsimp only
  split
  · exact kept_reject _ _ _ _ hy
  · split
    · exact kept_reject _ _ _ _ hy
    · refine kept_answer _ _ _ _ _ ?_
      split
      · exact hy
      · exact Kept.upd hy rfl rfl fun n a => latch_set (fun b => b) a

theorem kept_execFaultAck {s0 : State} (hd : BcsHdr) (source : Nat) (lastSeq : Word) (s : State) (h : Kept false s0 s) :
    KeptO false s0 (execFaultAck hd source lastSeq s) := by
  unfold execFaultAck
  refine kept_bcsRun _ _ _ _ h fun y hy => ?_
  refine Kept.ite (fun _ => kept_reject _ _ _ _ hy) fun _ => kept_onOk _ (kept_answer _ _ _ _ _ ?_) fun e => kept_reject _ _ _ _ hy
  exact ⟨hy.queue, hy.store, hy.clock, hy.key, hy.roll, hy.variant, hy.stepping, by simp⟩


theorem kept_execInjectKey {l : Bool} {s0 : State} (val : Word) (t : ℕ) (s : State) (h : Kept l s0 s) : KeptO l s0 (execInjectKey val t s) := by
  unfold execInjectKey
  dsimp only
  (repeat' split) <;> simp_all

@[simp] theorem kept_injectOnce {l : Bool} {s0 : State} (src : ℕ) (f : FaultInfo) (s : State) (h : Kept l s0 s) : Kept l s0 (injectOnce src f s) := by
  unfold injectOnce
  dsimp only
  (repeat' split) <;> simp_all

theorem kept_execFaultInject {l : Bool} {s0 : State} (hd : BcsHdr) (source : ℕ) (s : State) (h : Kept l s0 s) : KeptO l s0 (execFaultInject hd source s) := by
  unfold execFaultInject
  split
  · refine kept_bcsRun _ _ _ _ h fun y hy => ?_
    split
    · exact kept_reject _ _ _ _ hy
    · split
      · exact kept_injectOnce _ _ _ (kept_answer _ _ _ _ _ hy)
      · exact kept_reject _ _ _ _ hy
  · refine KeptO.unit fun _ => ?_
    split
    · exact h
    · exact kept_opcodeUnknown _ _ _ h

@[simp] theorem kept_flagPoint {l : Bool} {s0 : State} (addr : ℕ) (s : State) (h : Kept l s0 s) : Kept l s0 (flagPoint addr s) := by
  simp [flagPoint, *]

@[simp] theorem kept_flagCapture {l : Bool} {s0 : State} (addr : ℕ) (s : State) (h : Kept l s0 s) : Kept l s0 (flagCapture addr s) := by
  unfold flagCapture
  refine Kept.foldl _ _ (by simp [*]) ?_
  intros
  simp [*]

theorem kept_execSramEccError {l : Bool} {s0 : State} (addr : ℕ) (corrected : Bool) (onComputeDie : Bool) (s : State) (h : Kept l s0 s) : KeptO l s0 (execSramEccError addr corrected onComputeDie s) := by
  unfold execSramEccError
  (repeat' split) <;> simp_all

@[simp] theorem kept_pairWith {l : Bool} {s0 : State} (r : MirrorRec) (s : State) (h : Kept l s0 s) : Kept l s0 (pairWith r s) := by
  unfold pairWith
  (repeat' split) <;> simp_all

@[simp] theorem kept_requestHeard {l : Bool} {s0 : State} (s : State) (h : Kept l s0 s) : Kept l s0 (requestHeard s) := by
  simp [requestHeard, *]

@[simp] theorem kept_twinPhase {l : Bool} {s0 : State} (e : ℤ) (s : State) (h : Kept l s0 s) : Kept l s0 (twinPhase e s) := by
  simp [twinPhase, *]

@[simp] theorem kept_judgeTandemTime {l : Bool} {s0 : State} (s : State) (h : Kept l s0 s) : Kept l s0 (judgeTandemTime s) := by
  simp [judgeTandemTime, *]

@[simp] theorem kept_recordNow {l : Bool} {s0 : State} (r : MirrorRec) (s : State) (h : Kept l s0 s) : Kept l s0 (recordNow r s) := by
  unfold recordNow
  (repeat' first | (extract_lets +onlyGivenNames x; have hx : Kept l s0 x := (by dsimp only [x]; (repeat' first | split | (refine Kept.foldl _ _ ?_ ?_ <;> intros)) <;> simp_all); clear_value x) | (extract_lets +onlyGivenNames x; subst x) | split | (refine Kept.foldl _ _ ?_ ?_ <;> intros)) <;> simp_all

@[simp] theorem kept_requesterYields {l : Bool} {s0 : State} (r : MirrorRec) (s : State) (h : Kept l s0 s) : Kept l s0 (requesterYields r s) := by
  simp (maxDischargeDepth := 30) [requesterYields, *]

@[simp] theorem kept_noteRecord {l : Bool} {s0 : State} (r : MirrorRec) (s : State) (h : Kept l s0 s) : Kept l s0 (noteRecord r s) := by
  simp [noteRecord, *]

theorem kept_execTandemRecordReceived {l : Bool} {s0 : State} (r : MirrorRec) (t : ℕ) (s : State) (h : Kept l s0 s) : KeptO l s0 (execTandemRecordReceived r t s) := by
  simp (maxDischargeDepth := 30) [execTandemRecordReceived, *]

theorem kept_execBeaconSend {l : Bool} {s0 : State} (s : State) (h : Kept l s0 s) : KeptO l s0 (execBeaconSend s) := by
  simp [execBeaconSend, *]

theorem kept_execBeaconIntervalJudge {l : Bool} {s0 : State} (s : State) (h : Kept l s0 s) : KeptO l s0 (execBeaconIntervalJudge s) := by
  unfold execBeaconIntervalJudge
  (repeat' first | (extract_lets +onlyGivenNames x; have hx : Kept l s0 x := (by dsimp only [x]; (repeat' first | split | (refine Kept.foldl _ _ ?_ ?_ <;> intros)) <;> simp_all); clear_value x) | (extract_lets +onlyGivenNames x; subst x) | split | (refine Kept.foldl _ _ ?_ ?_ <;> intros)) <;> simp_all

theorem kept_execHbRxEdge {l : Bool} {s0 : State} (t : ℕ) (frac : ℕ) (s : State) (h : Kept l s0 s) : KeptO l s0 (execHbRxEdge t frac s) := by
  simp (maxDischargeDepth := 30) [execHbRxEdge, *]

theorem kept_execTakeoverRequestReceived {l : Bool} {s0 : State} (s : State) (h : Kept l s0 s) : KeptO l s0 (execTakeoverRequestReceived s) := by
  simp [execTakeoverRequestReceived, *]

theorem kept_execTakeoverWithholdEnd {l : Bool} {s0 : State} (s : State) (h : Kept l s0 s) : KeptO l s0 (execTakeoverWithholdEnd s) := by
  unfold execTakeoverWithholdEnd
  (repeat' split) <;> simp_all

theorem kept_execBecomeActive {l : Bool} {s0 : State} (s : State) (h : Kept l s0 s) : KeptO l s0 (execBecomeActive s) := by
  unfold execBecomeActive
  (repeat' split) <;> simp_all

theorem kept_execSoloWaitExpiry {l : Bool} {s0 : State} (s : State) (h : Kept l s0 s) : KeptO l s0 (execSoloWaitExpiry s) := by
  simp [execSoloWaitExpiry, *]

theorem kept_execHoldOffExpiry {l : Bool} {s0 : State} (s : State) (h : Kept l s0 s) : KeptO l s0 (execHoldOffExpiry s) := by
  unfold execHoldOffExpiry
  dsimp only
  (repeat' split) <;> simp_all

theorem kept_execTp1LinkLoss {l : Bool} {s0 : State} (s : State) (h : Kept l s0 s) : KeptO l s0 (execTp1LinkLoss s) := by
  simp (maxDischargeDepth := 30) [execTp1LinkLoss, *]

theorem kept_execTandemLinkUp {l : Bool} {s0 : State} (lane : ℕ) (s : State) (h : Kept l s0 s) : KeptO l s0 (execTandemLinkUp lane s) := by
  simp (maxDischargeDepth := 30) [execTandemLinkUp, *]

@[simp] theorem kept_takeContent {l : Bool} {s0 : State} (tr : Transfer) (s : State) (h : Kept l s0 s) : Kept l s0 (takeContent tr s) := by
  simp [takeContent, *]

@[simp] theorem kept_confirm {l : Bool} {s0 : State} (tr : Transfer) (st : Status) (s : State) (h : Kept l s0 s) : Kept l s0 (confirm tr st s) := by
  simp [confirm, *]

@[simp] theorem kept_followA {l : Bool} {s0 : State} (tr : Transfer) (s : State) (h : Kept l s0 s) : Kept l s0 (followA tr s) := by
  unfold followA
  extract_lets w
  clear_value w
  split
  · split
    · exact Kept.upd h rfl rfl fun _ a => a
    · split
      · exact kept_confirm _ _ _ h
      · have g := kept_accept w _ (kept_takeContent tr _ h)
        split
        · rename_i heq
          rw [heq] at g
          exact kept_confirm _ _ _ (Kept.upd g rfl rfl fun _ a => a)
        · exact kept_confirm _ _ _ h
  · have g := kept_accept w _ h
    split
    · rename_i heq
      rw [heq] at g
      exact kept_confirm _ _ _ (kept_countNow _ _ _ g)
    · rename_i heq
      rw [heq] at g
      split
      · exact kept_abortNotice _ _ _ _ _ (kept_confirm _ _ _ g)
      · exact kept_confirm _ _ _ h

@[simp] theorem kept_forwarded {l : Bool} {s0 : State} (tr : Transfer) (s : State) (h : Kept l s0 s) : Kept l s0 (forwarded tr s) := by
  unfold forwarded
  dsimp only
  (repeat' split) <;> simp_all

theorem kept_execClassATransferReceived {l : Bool} {s0 : State} (tr : Transfer) (s : State) (h : Kept l s0 s) : KeptO l s0 (execClassATransferReceived tr s) := by
  unfold execClassATransferReceived
  (repeat' split) <;> simp_all

@[simp] theorem kept_agreeBase {l : Bool} {s0 : State} (xx : XferWait) (alone : Bool) (s : State) (h : Kept l s0 s) : Kept l s0 (agreeBase xx alone s) := by
  simp [agreeBase, *]

@[simp] theorem kept_settleA {l : Bool} {s0 : State} (xx : XferWait) (alone : Bool) (s : State) (h : Kept l s0 s) : Kept l s0 (settleA xx alone s) := by
  simp (maxDischargeDepth := 30) [settleA, *]

@[simp] theorem kept_settleF {l : Bool} {s0 : State} (xx : XferWait) (st : Status) (s : State) (h : Kept l s0 s) : Kept l s0 (settleF xx st s) := by
  simp [settleF, *]

theorem kept_execTransferConfirmReceived {l : Bool} {s0 : State} (seq : BitVec 16) (status : Status) (s : State) (h : Kept l s0 s) : KeptO l s0 (execTransferConfirmReceived seq status s) := by
  unfold execTransferConfirmReceived
  (repeat' split) <;> simp_all

theorem kept_execTransferConfirmTimeout {l : Bool} {s0 : State} (s : State) (h : Kept l s0 s) : KeptO l s0 (execTransferConfirmTimeout s) := by
  unfold execTransferConfirmTimeout
  (repeat' first | (extract_lets +onlyGivenNames x; have hx : Kept l s0 x := (by dsimp only [x]; (repeat' first | split | (refine Kept.foldl _ _ ?_ ?_ <;> intros)) <;> simp_all); clear_value x) | (extract_lets +onlyGivenNames x; subst x) | split | (refine Kept.foldl _ _ ?_ ?_ <;> intros)) <;> simp_all

theorem kept_execTandemSwitch {l : Bool} {s0 : State} (hd : BcsHdr) (w : When) (s : State) (h : Kept l s0 s) : KeptO l s0 (execTandemSwitch hd w s) := by
  unfold execTandemSwitch
  first | refine kept_bcsRun _ _ _ _ h fun y hy => ?_ | refine kept_runF _ _ _ _ _ h fun y hy => ?_
  try dsimp only
  (repeat' split) <;> simp (maxDischargeDepth := 30) [hy]

theorem kept_execHandoverCycle {l : Bool} {s0 : State} (s : State) (h : Kept l s0 s) : KeptO l s0 (execHandoverCycle s) := by
  unfold execHandoverCycle
  (repeat' split) <;> simp_all

@[simp] theorem kept_handoverReport {l : Bool} {s0 : State} (st : Status) (c : CycleNo) (s : State) (h : Kept l s0 s) : Kept l s0 (handoverReport st c s) := by
  unfold handoverReport
  (repeat' split) <;> simp_all

theorem kept_execHandoverResult {l : Bool} {s0 : State} (twinActive : Bool) (s : State) (h : Kept l s0 s) : KeptO l s0 (execHandoverResult twinActive s) := by
  simp (maxDischargeDepth := 30) [execHandoverResult, *]

theorem kept_execTandemStatus {l : Bool} {s0 : State} (hd : BcsHdr) (s : State) (h : Kept l s0 s) : KeptO l s0 (execTandemStatus hd s) := by
  unfold execTandemStatus
  first | refine kept_bcsRun _ _ _ _ h fun y hy => ?_ | refine kept_runF _ _ _ _ _ h fun y hy => ?_
  try dsimp only
  (repeat' split) <;> simp (maxDischargeDepth := 30) [hy]

@[simp] theorem kept_armChannel {l : Bool} {s0 : State} (hd : BcsHdr) (cap : ℕ) (a : CapArm) (s : State) (h : Kept l s0 s) : Kept l s0 (armChannel hd cap a s) := by
  unfold armChannel
  (repeat' split) <;> simp_all (maxDischargeDepth := 30)

theorem kept_execCaptureArm {l : Bool} {s0 : State} (hd : BcsHdr) (cap : ℕ) (a : CapArm) (s : State) (h : Kept l s0 s) : KeptO l s0 (execCaptureArm hd cap a s) := by
  unfold execCaptureArm
  refine kept_bcsRun _ _ _ _ h fun y hy => ?_
  exact kept_onOk _ (kept_answer _ _ _ _ _ (kept_armChannel _ _ _ _ hy)) fun e => kept_reject _ _ _ _ hy

@[simp] theorem kept_capDoneEvent {l : Bool} {s0 : State} (cap : ℕ) (st : Status) (s : State) (h : Kept l s0 s) : Kept l s0 (capDoneEvent cap st s) := by
  simp [capDoneEvent, *]

theorem kept_execCaptureAbort {l : Bool} {s0 : State} (hd : BcsHdr) (cap : ℕ) (s : State) (h : Kept l s0 s) : KeptO l s0 (execCaptureAbort hd cap s) := by
  unfold execCaptureAbort
  (first | refine kept_bcsRun _ _ _ _ h ?_ | refine kept_runF _ _ _ _ _ h ?_)
  intro y hy
  dsimp only
  (repeat' first | (extract_lets +onlyGivenNames x; have hx : Kept l s0 x := (by dsimp only [x]; (repeat' first | split | (refine Kept.foldl _ _ ?_ ?_ <;> intros)) <;> simp_all (maxDischargeDepth := 30)); clear_value x) | (extract_lets +onlyGivenNames x; subst x) | split | (refine Kept.foldl _ _ ?_ ?_ <;> intros)) <;> simp (maxDischargeDepth := 30) [*]

theorem kept_execCaptureStatus {l : Bool} {s0 : State} (hd : BcsHdr) (cap : ℕ) (s : State) (h : Kept l s0 s) : KeptO l s0 (execCaptureStatus hd cap s) := by
  unfold execCaptureStatus
  (first | refine kept_bcsRun _ _ _ _ h ?_ | refine kept_runF _ _ _ _ _ h ?_)
  intro y hy
  dsimp only
  (repeat' first | (extract_lets +onlyGivenNames x; have hx : Kept l s0 x := (by dsimp only [x]; (repeat' first | split | (refine Kept.foldl _ _ ?_ ?_ <;> intros)) <;> simp_all (maxDischargeDepth := 30)); clear_value x) | (extract_lets +onlyGivenNames x; subst x) | split | (refine Kept.foldl _ _ ?_ ?_ <;> intros)) <;> simp (maxDischargeDepth := 30) [*]

theorem kept_execTriggerFire {l : Bool} {s0 : State} (trg : ℕ) (t : ℕ) (s : State) (h : Kept l s0 s) : KeptO l s0 (execTriggerFire trg t s) := by
  unfold execTriggerFire
  (repeat' first | (extract_lets +onlyGivenNames x; have hx : Kept l s0 x := (by dsimp only [x]; (repeat' first | split | (refine Kept.foldl _ _ ?_ ?_ <;> intros)) <;> simp_all); clear_value x) | (extract_lets +onlyGivenNames x; subst x) | split | (refine Kept.foldl _ _ ?_ ?_ <;> intros)) <;> simp_all

theorem kept_execCaptureDone {l : Bool} {s0 : State} (cap : ℕ) (s : State) (h : Kept l s0 s) : KeptO l s0 (execCaptureDone cap s) := by
  unfold execCaptureDone
  (first | refine KeptO.unit fun _ => ?_ | rw [KeptO.ok])
  (repeat' first | (extract_lets +onlyGivenNames x; have hx : Kept l s0 x := (by dsimp only [x]; (repeat' first | split | (refine Kept.foldl _ _ ?_ ?_ <;> intros)) <;> simp_all); clear_value x) | (extract_lets +onlyGivenNames x; subst x) | split | (refine Kept.foldl _ _ ?_ ?_ <;> intros)) <;> simp [*]

end Sys2Proof.Laws
end

