-- ==== Sys2Proof/Laws/Kept.lean ====
section
/-! SUPPORT. What every command keeps, of whole commands and of a step. -/

set_option Elab.async false

namespace Sys2Proof.Laws
open Sys2Proof Sys2Proof.Machine

/-- The commands after which a latched record may stand unlatched: power-on reset in its two forms, and the acknowledgement. -/
def keepsLatches : Instr → Bool
  | .porstNAssert .. | .railMonitorTrip .. | .faultAck .. => false
  | _ => true

/-- What any command keeps: the queue, the form of the store, the clock's direction, the one-time memory, the silicon, and,
but for three commands, what is latched. -/
theorem exec_kept (c : Instr) (s : State) : KeptO (keepsLatches c) s (exec c s) := by
  cases c with
  | porstNAssert => exact kept_execPorstNAssert s (.self false _)
  | porstNRelease unitSel testMode => exact kept_execPorstNRelease unitSel testMode s (.self _ _)
  | warmRstNAssert => exact kept_execWarmRstNAssert s (.self _ _)
  | warmRstNRelease => exact kept_execWarmRstNRelease s (.self _ _)
  | railMonitorTrip => exact kept_execRailMonitorTrip s (.self false _)
  | pllCEInitialLock => exact kept_execPllCEInitialLock s (.self _ _)
  | resetCalibrationDone txp rxp failed => exact kept_execResetCalibrationDone txp rxp failed s (.self _ _)
  | bandSearchDone => exact kept_execBandSearchDone s (.self _ _)
  | bootRecordAuthenticated rec => exact kept_execBootRecordAuthenticated rec s (.self _ _)
  | bybexReady slotA slotB railOrder => exact kept_execBybexReady slotA slotB railOrder s (.self _ _)
  | bootAuthFail noRecord => exact kept_execBootAuthFail noRecord s (.self _ _)
  | cycleStart t => exact kept_execCycleStart t s (.self _ _)
  | scheduledCommandApply => exact kept_execScheduledCommandApply s (.self _ _)
  | lockThrough digestOk => exact kept_execLockThrough digestOk s (.self _ _)
  | wholePlateLockThrough t digestOk => exact kept_execWholePlateLockThrough t digestOk s (.self _ _)
  | idlePlateLockThrough t digestOk => exact kept_execIdlePlateLockThrough t digestOk s (.self _ _)
  | cycleBaseReached t => exact kept_execCycleBaseReached t s (.self _ _)
  | reportWordIngress ci => exact kept_execReportWordIngress ci s (.self _ _)
  | reportBurstReceived p m off delim payload margin signal meas => exact kept_execReportBurstReceived p m off delim payload margin signal meas s (.self _ _)
  | measurementCutoff t => exact kept_execMeasurementCutoff t s (.self _ _)
  | observerUpdateComplete => exact kept_execObserverUpdateComplete s (.self _ _)
  | laneStepComplete lane dur residue => exact kept_execLaneStepComplete lane dur residue s (.self _ _)
  | nodeOutputComplete lane dur => exact kept_execNodeOutputComplete lane dur s (.self _ _)
  | armEngineComplete arm => exact kept_execArmEngineComplete arm s (.self _ _)
  | packReady p packed canary => exact kept_execPackReady p packed canary s (.self _ _)
  | launchTick t => exact kept_execLaunchTick t s (.self _ _)
  | frameDeadline t => exact kept_execFrameDeadline t s (.self _ _)
  | inhibitLineRise p => exact kept_execInhibitLineRise p s (.self _ _)
  | inhibitFrameRepeat p => exact kept_execInhibitFrameRepeat p s (.self _ _)
  | inhibitReadback p word => exact kept_execInhibitReadback p word s (.self _ _)
  | discReplyReceived p b delimEnd => exact kept_execDiscReplyReceived p b delimEnd s (.self _ _)
  | rangeReplyReceived p delim payload margin bit phase => exact kept_execRangeReplyReceived p delim payload margin bit phase s (.self _ _)
  | stepAckReceived p delim payload margin bit phase => exact kept_execStepAckReceived p delim payload margin bit phase s (.self _ _)
  | svcDataReceived p delim payload margin t bit phase => exact kept_execSvcDataReceived p delim payload margin t bit phase s (.self _ _)
  | trainingBurstAccepted p m meas => exact kept_execTrainingBurstAccepted p m meas s (.self _ _)
  | requestUnanswered p tag => exact kept_execRequestUnanswered p tag s (.self _ _)
  | rangeRefreshDue p m => exact kept_execRangeRefreshDue p m s (.self _ _)
  | readmissionDue p m => exact kept_execReadmissionDue p m s (.self _ _)
  | discoverDue p => exact kept_execDiscoverDue p s (.self _ _)
  | stepAckDeadline p => exact kept_execStepAckDeadline p s (.self _ _)
  | stepCycleStart p => exact kept_execStepCycleStart p s (.self _ _)
  | stepGapElapsed p => exact kept_execStepGapElapsed p s (.self _ _)
  | stepLockTimeout p => exact kept_execStepLockTimeout p s (.self _ _)
  | trainTimeout p => exact kept_execTrainTimeout p s (.self _ _)
  | basinLos p => exact kept_execBasinLos p s (.self _ _)
  | basinLol p => exact kept_execBasinLol p s (.self _ _)
  | basinRelockComplete p cacheMiss => exact kept_execBasinRelockComplete p cacheMiss s (.self _ _)
  | pllLossOfLock pll => exact kept_execPllLossOfLock pll s (.self _ _)
  | pllRelock pll cacheMiss => exact kept_execPllRelock pll cacheMiss s (.self _ _)
  | safetyOscTimebaseCheck ppm => exact kept_execSafetyOscTimebaseCheck ppm s (.self _ _)
  | stationFrameReceived p f t => exact kept_execStationFrameReceived p f t s (.self _ _)
  | gooseTimeout sub => exact kept_execGooseTimeout sub s (.self _ _)
  | gooseRetransmit pub => exact kept_execGooseRetransmit pub s (.self _ _)
  | prpSupervisionSend pair => exact kept_execPrpSupervisionSend pair s (.self _ _)
  | prpLanSilent pair lan => exact kept_execPrpLanSilent pair lan s (.self _ _)
  | stationLinkDown p => exact kept_execStationLinkDown p s (.self _ _)
  | announceReceiptTimeout td => exact kept_execAnnounceReceiptTimeout td s (.self _ _)
  | tdStep td delta => exact kept_execTdStep td delta s (.self _ _)
  | incWrite td val => exact kept_execIncWrite td val s (.self _ _)
  | ctSlewComplete t => exact kept_execCtSlewComplete t s (.self _ _)
  | ppsInEdge t frac => exact kept_execPpsInEdge t frac s (.self _ _)
  | ppsInTimeout td => exact kept_execPpsInTimeout td s (.self _ _)
  | ppsOutEdge level => exact kept_execPpsOutEdge level s (.self _ _)
  | geEdge input rising eu => exact kept_execGeEdge input rising eu s (.self _ _)
  | getCoasting pt => exact kept_execGetCoasting pt s (.self _ _)
  | getStandstill pt => exact kept_execGetStandstill pt s (.self _ _)
  | periodStart ch eu => exact kept_execPeriodStart ch eu s (.self _ _)
  | pulseEdgePosition ch eu => exact kept_execPulseEdgePosition ch eu s (.self _ _)
  | tripQualified ti seen => exact kept_execTripQualified ti seen s (.self _ _)
  | syncEvent ch eu => exact kept_execSyncEvent ch eu s (.self _ _)
  | syncInEdge eu => exact kept_execSyncInEdge eu s (.self _ _)
  | syncLoss ch => exact kept_execSyncLoss ch s (.self _ _)
  | h2fPayloadWrite mbx off bytes => exact kept_execH2fPayloadWrite mbx off bytes s (.self _ _)
  | h2fDoorbell mbx len => exact kept_execH2fDoorbell mbx len s (.self _ _)
  | h2fTake mbx => exact kept_execH2fTake mbx s (.self _ _)
  | coreIdleGate core => exact kept_execCoreIdleGate core s (.self _ _)
  | f2hRelease mbx => exact kept_execF2hRelease mbx s (.self _ _)
  | f2hMessageEnter mbx => exact kept_execF2hMessageEnter mbx s (.self _ _)
  | mbxReset mbx val => exact kept_execMbxReset mbx val s (.self _ _)
  | pcieLinkReset perst flr => exact kept_execPcieLinkReset perst flr s (.self _ _)
  | mpcReceiverReset => exact kept_execMpcReceiverReset s (.self _ _)
  | msixVectorSend v => exact kept_execMsixVectorSend v s (.self _ _)
  | registerWrite target val => exact kept_execRegisterWrite target val s (.self _ _)
  | observerImageHold on => exact kept_execObserverImageHold on s (.self _ _)
  | holdTimeoutRelease => exact kept_execHoldTimeoutRelease s (.self _ _)
  | snapTrigger t => exact kept_execSnapTrigger t s (.self _ _)
  | emergKey spi val => exact kept_execEmergKey spi val s (.self _ _)
  | emergArmExpire spi => exact kept_execEmergArmExpire spi s (.self _ _)
  | hostBlock spi => exact kept_execHostBlock spi s (.self _ _)
  | mpcRestart spi => exact kept_execMpcRestart spi s (.self _ _)
  | warmReset spi => exact kept_execWarmReset spi s (.self _ _)
  | emergCtrlIgnored spi => exact kept_execEmergCtrlIgnored spi s (.self _ _)
  | injectKey val t => exact kept_execInjectKey val t s (.self _ _)
  | spiStatus => exact kept_execSpiStatus s (.self _ _)
  | spiRegRead off count => exact kept_execSpiRegRead off count s (.self _ _)
  | spiRegWrite off val crc => exact kept_execSpiRegWrite off val crc s (.self _ _)
  | spiH2fWrite len payload crc => exact kept_execSpiH2fWrite len payload crc s (.self _ _)
  | spiF2hRead => exact kept_execSpiF2hRead s (.self _ _)
  | spiF2hAck => exact kept_execSpiF2hAck s (.self _ _)
  | spiSessionEnd => exact kept_execSpiSessionEnd s (.self _ _)
  | spiSessionIdleTimeout => exact kept_execSpiSessionIdleTimeout s (.self _ _)
  | f2hDataResend mbx => exact kept_execF2hDataResend mbx s (.self _ _)
  | udpSessionTimeout mbx => exact kept_execUdpSessionTimeout mbx s (.self _ _)
  | sessionChallenge h => exact kept_execSessionChallenge h s (.self _ _)
  | nonceExpiry mbx => exact kept_execNonceExpiry mbx s (.self _ _)
  | authLockoutExpiry mbx => exact kept_execAuthLockoutExpiry mbx s (.self _ _)
  | sessionOpen h role credId eventMask authTag => exact kept_execSessionOpen h role credId eventMask authTag s (.self _ _)
  | sessionClose h => exact kept_execSessionClose h s (.self _ _)
  | eventMaskSet h mask => exact kept_execEventMaskSet h mask s (.self _ _)
  | deviceStatus h => exact kept_execDeviceStatus h s (.self _ _)
  | deblock h w => exact kept_execDeblock h w s (.self _ _)
  | block h => exact kept_execBlock h s (.self _ _)
  | blockClear h w => exact kept_execBlockClear h w s (.self _ _)
  | phaseSet h w phase => exact kept_execPhaseSet h w phase s (.self _ _)
  | srbRequest h profile => exact kept_execSrbRequest h profile s (.self _ _)
  | srbWithdraw h => exact kept_execSrbWithdraw h s (.self _ _)
  | timeDomainSelect h w td => exact kept_execTimeDomainSelect h w td s (.self _ _)
  | timeSet h td seconds => exact kept_execTimeSet h td seconds s (.self _ _)
  | basinRestart h basin => exact kept_execBasinRestart h basin s (.self _ _)
  | plateLoadBegin h size digest => exact kept_execPlateLoadBegin h size digest s (.self _ _)
  | plateLoadData h off data => exact kept_execPlateLoadData h off data s (.self _ _)
  | plateLoadEnd h content => exact kept_execPlateLoadEnd h content s (.self _ _)
  | stageSet h entries => exact kept_execStageSet h entries s (.self _ _)
  | stageCheck h => exact kept_execStageCheck h s (.self _ _)
  | stageCheckComplete => exact kept_execStageCheckComplete s (.self _ _)
  | stageCountersign h digest => exact kept_execStageCountersign h digest s (.self _ _)
  | stageCommit h w digest => exact kept_execStageCommit h w digest s (.self _ _)
  | stageAbort h => exact kept_execStageAbort h s (.self _ _)
  | stageRead h first => exact kept_execStageRead h first s (.self _ _)
  | paramGet h ids => exact kept_execParamGet h ids s (.self _ _)
  | setpointSet h w slot elems => exact kept_execSetpointSet h w slot elems s (.self _ _)
  | setpointGet h slot => exact kept_execSetpointGet h slot s (.self _ _)
  | cellExclude h w ci => exact kept_execCellExclude h w ci s (.self _ _)
  | cellRestore h w ci => exact kept_execCellRestore h w ci s (.self _ _)
  | cellBypassClose h ci confirm => exact kept_execCellBypassClose h ci confirm s (.self _ _)
  | mooringRange h basin mooring => exact kept_execMooringRange h basin mooring s (.self _ _)
  | mooringRangeAbort h basin => exact kept_execMooringRangeAbort h basin s (.self _ _)
  | presetRead h basin first count => exact kept_execPresetRead h basin first count s (.self _ _)
  | nodeFlagsClear h w first count => exact kept_execNodeFlagsClear h w first count s (.self _ _)
  | schedStatsClear h w => exact kept_execSchedStatsClear h w s (.self _ _)
  | pointMinmaxClear h w first count => exact kept_execPointMinmaxClear h w first count s (.self _ _)
  | pulseStatus h => exact kept_execPulseStatus h s (.self _ _)
  | pulseFlagsClear h w mask => exact kept_execPulseFlagsClear h w mask s (.self _ _)
  | clockStatus h => exact kept_execClockStatus h s (.self _ _)
  | eyeScan h lane dwell => exact kept_execEyeScan h lane dwell s (.self _ _)
  | eyeScanComplete counts => exact kept_execEyeScanComplete counts s (.self _ _)
  | eyeScanAbort h => exact kept_execEyeScanAbort h s (.self _ _)
  | faultRead h source => exact kept_execFaultRead h source s (.self _ _)
  | faultAck h source lastSeq => exact kept_execFaultAck h source lastSeq s (.self false _)
  | faultInject h source => exact kept_execFaultInject h source s (.self _ _)
  | captureArm h cap a => exact kept_execCaptureArm h cap a s (.self _ _)
  | captureAbort h cap => exact kept_execCaptureAbort h cap s (.self _ _)
  | captureStatus h cap => exact kept_execCaptureStatus h cap s (.self _ _)
  | tandemStatus h => exact kept_execTandemStatus h s (.self _ _)
  | tandemSwitch h w => exact kept_execTandemSwitch h w s (.self _ _)
  | unknownOpcode h opcode => exact kept_execUnknownOpcode h opcode s (.self _ _)
  | trapEntry source => exact kept_execTrapEntry source s (.self _ _)
  | levelSourceClear source => exact kept_execLevelSourceClear source s (.self _ _)
  | sramEccError addr corrected onComputeDie => exact kept_execSramEccError addr corrected onComputeDie s (.self _ _)
  | pointStale pt => exact kept_execPointStale pt s (.self _ _)
  | safeReqChange a b t => exact kept_execSafeReqChange a b t s (.self _ _)
  | pinWindowExpiry => exact kept_execPinWindowExpiry s (.self _ _)
  | safetyTelegramCopy lan payload t => exact kept_execSafetyTelegramCopy lan payload t s (.self _ _)
  | discWindowExpiry lan => exact kept_execDiscWindowExpiry lan s (.self _ _)
  | teleTimeout lan => exact kept_execTeleTimeout lan s (.self _ _)
  | srbTimeoutExpiry => exact kept_execSrbTimeoutExpiry s (.self _ _)
  | smpVerdict cycle lockstepOk => exact kept_execSmpVerdict cycle lockstepOk s (.self _ _)
  | smpWatchdogExpiry => exact kept_execSmpWatchdogExpiry s (.self _ _)
  | blockOutReadbackFail => exact kept_execBlockOutReadbackFail s (.self _ _)
  | tandemRecordReceived r t => exact kept_execTandemRecordReceived r t s (.self _ _)
  | beaconSend => exact kept_execBeaconSend s (.self _ _)
  | beaconIntervalJudge => exact kept_execBeaconIntervalJudge s (.self _ _)
  | hbRxEdge t frac => exact kept_execHbRxEdge t frac s (.self _ _)
  | takeoverRequestReceived => exact kept_execTakeoverRequestReceived s (.self _ _)
  | takeoverWithholdEnd => exact kept_execTakeoverWithholdEnd s (.self _ _)
  | becomeActive => exact kept_execBecomeActive s (.self _ _)
  | tp1LinkLoss => exact kept_execTp1LinkLoss s (.self _ _)
  | classATransferReceived tr => exact kept_execClassATransferReceived tr s (.self _ _)
  | transferConfirmTimeout => exact kept_execTransferConfirmTimeout s (.self _ _)
  | handoverCycle => exact kept_execHandoverCycle s (.self _ _)
  | handoverResult twinActive => exact kept_execHandoverResult twinActive s (.self _ _)
  | soloWaitExpiry => exact kept_execSoloWaitExpiry s (.self _ _)
  | holdOffExpiry => exact kept_execHoldOffExpiry s (.self _ _)
  | triggerFire trg t => exact kept_execTriggerFire trg t s (.self _ _)
  | captureDone cap => exact kept_execCaptureDone cap s (.self _ _)
  | govWindowEnd => exact kept_execGovWindowEnd s (.self _ _)
  | govRecoverHoldExpiry => exact kept_execGovRecoverHoldExpiry s (.self _ _)
  | avsTransactionDone r => exact kept_execAvsTransactionDone r s (.self _ _)
  | coreVoltageOutOfRange => exact kept_execCoreVoltageOutOfRange s (.self _ _)
  | thermalSample dies => exact kept_execThermalSample dies s (.self _ _)
  | jtagTrst => exact kept_execJtagTrst s (.self _ _)
  | bypass => exact kept_execBypass s (.self _ _)
  | idcode => exact kept_execIdcode s (.self _ _)
  | samplePreload pins => exact kept_execSamplePreload pins s (.self _ _)
  | extest => exact kept_execExtest s (.self _ _)
  | extestPulse => exact kept_execExtestPulse s (.self _ _)
  | extestTrain => exact kept_execExtestTrain s (.self _ _)
  | clamp => exact kept_execClamp s (.self _ _)
  | highz => exact kept_execHighz s (.self _ _)
  | devkey => exact kept_execDevkey s (.self _ _)
  | otpProgram digest => exact kept_execOtpProgram digest s (.self _ _)
  | coreDebug => exact kept_execCoreDebug s (.self _ _)
  | railMonitorRelease => exact kept_execRailMonitorRelease s (.self _ _)
  | stationLinkUp p => exact kept_execStationLinkUp p s (.self _ _)
  | tandemLinkUp lane => exact kept_execTandemLinkUp lane s (.self _ _)
  | ptpIntervalSend td p kind => exact kept_execPtpIntervalSend td p kind s (.self _ _)
  | transferConfirmReceived seq status => exact kept_execTransferConfirmReceived seq status s (.self _ _)
  | mpcRestartComplete => exact kept_execMpcRestartComplete s (.self _ _)
  | coreVoltageRecovered => exact kept_execCoreVoltageRecovered s (.self _ _)
  | pciePerstNRelease => exact kept_execPciePerstNRelease s (.self _ _)
  | pcieConfigReady => exact kept_execPcieConfigReady s (.self _ _)

/-- What the idle tick keeps. -/
theorem idle_kept (s t : State) (hq : s.pending = []) (h : step s = .next t) : Kept true s t := by
  simp only [step, hq, Host.Outcome.next.injEq] at h
  subst h
  exact kept_tick s (.self _ _)

/-- The same of a step with the command in front. -/
theorem step_kept (c : Instr) (rest : List Instr) (s t : State) (h : step { s with pending := c :: rest } = .next t) :
    Kept (keepsLatches c) { s with pending := rest } t := exec_kept c _ t h

end Sys2Proof.Laws
end

