-- ==== Sys2Proof/WellFormed.lean ====
section
/-! DEFINITION. Well-formed commands: every operand that names a port, mailbox, lane, channel or other unit lies
in the range of the larger variant (R1, R314, R370). A field of a message that a host sends may hold any value:
the command set answers it with a status. -/

namespace Sys2Proof

/-- A command whose operands name units that some variant of the part has. -/
def Instr.wf (i : Instr) : Bool :=
  match i with
  | .porstNAssert => true
  | .porstNRelease _ _ => true
  | .warmRstNAssert => true
  | .warmRstNRelease => true
  | .railMonitorTrip => true
  | .pllCEInitialLock => true
  | .resetCalibrationDone _ _ _ => true
  | .bandSearchDone => true
  | .bootRecordAuthenticated _ => true
  | .bybexReady _ _ _ => true
  | .bootAuthFail _ => true
  | .cycleStart _ => true
  | .scheduledCommandApply => true
  | .lockThrough _ => true
  | .wholePlateLockThrough _ _ => true
  | .idlePlateLockThrough _ _ => true
  | .cycleBaseReached _ => true
  | .reportWordIngress ci => decide (ci < 8192)
  | .reportBurstReceived p m _ _ _ _ _ _ => decide (p < 32) && decide (m < 256)
  | .measurementCutoff _ => true
  | .observerUpdateComplete => true
  | .laneStepComplete lane _ _ => decide (lane < 64)
  | .nodeOutputComplete lane _ => decide (lane < 64)
  | .armEngineComplete arm => decide (arm < 12)
  | .packReady p _ _ => decide (p < 32)
  | .launchTick _ => true
  | .frameDeadline _ => true
  | .inhibitLineRise p => decide (p < 32)
  | .inhibitFrameRepeat p => decide (p < 32)
  | .inhibitReadback p _ => decide (p < 32)
  | .discReplyReceived p _ _ => decide (p < 32)
  | .rangeReplyReceived p _ _ _ _ _ => decide (p < 32)
  | .stepAckReceived p _ _ _ _ _ => decide (p < 32)
  | .svcDataReceived p _ _ _ _ _ _ => decide (p < 32)
  | .trainingBurstAccepted p m _ => decide (p < 32) && decide (m < 256)
  | .requestUnanswered p tag => decide (p < 32) && decide (tag < 256)
  | .rangeRefreshDue p m => decide (p < 32) && decide (m < 256)
  | .readmissionDue p m => decide (p < 32) && decide (m < 256)
  | .discoverDue p => decide (p < 32)
  | .stepAckDeadline p => decide (p < 32)
  | .stepCycleStart p => decide (p < 32)
  | .stepGapElapsed p => decide (p < 32)
  | .stepLockTimeout p => decide (p < 32)
  | .trainTimeout p => decide (p < 32)
  | .basinLos p => decide (p < 32)
  | .basinLol p => decide (p < 32)
  | .basinRelockComplete p _ => decide (p < 32)
  | .pllLossOfLock _ => true
  | .pllRelock _ _ => true
  | .safetyOscTimebaseCheck _ => true
  | .stationFrameReceived p _ _ => decide (p < 8)
  | .gooseTimeout _ => true
  | .gooseRetransmit _ => true
  | .prpSupervisionSend pair => decide (pair < 2)
  | .prpLanSilent pair lan => decide (pair < 2) && decide (lan < 2)
  | .stationLinkDown p => decide (p < 8)
  | .announceReceiptTimeout td => decide (td < 2)
  | .tdStep td _ => decide (td < 2)
  | .incWrite td _ => decide (td < 2)
  | .ctSlewComplete _ => true
  | .ppsInEdge _ _ => true
  | .ppsInTimeout td => decide (td < 2)
  | .ppsOutEdge _ => true
  | .geEdge input _ _ => decide (input < 6)
  | .getCoasting pt => decide (pt < 2)
  | .getStandstill pt => decide (pt < 2)
  | .periodStart ch _ => decide (ch < 12)
  | .pulseEdgePosition ch _ => decide (ch < 12)
  | .tripQualified ti _ => decide (ti < 16)
  | .syncEvent ch _ => decide (ch < 12)
  | .syncInEdge _ => true
  | .syncLoss ch => decide (ch < 12)
  | .h2fPayloadWrite mbx _ _ => decide (mbx < 16)
  | .h2fDoorbell mbx _ => decide (mbx < 16)
  | .h2fTake mbx => decide (mbx < 16)
  | .coreIdleGate core => decide (core < 4)
  | .f2hRelease mbx => decide (mbx < 16)
  | .f2hMessageEnter mbx => decide (mbx < 16)
  | .mbxReset mbx _ => decide (mbx < 16)
  | .pcieLinkReset _ _ => true
  | .mpcReceiverReset => true
  | .msixVectorSend v => decide (v < 32)
  | .registerWrite _ _ => true
  | .observerImageHold _ => true
  | .holdTimeoutRelease => true
  | .snapTrigger _ => true
  | .emergKey _ _ => true
  | .emergArmExpire _ => true
  | .hostBlock _ => true
  | .mpcRestart _ => true
  | .warmReset _ => true
  | .emergCtrlIgnored _ => true
  | .injectKey _ _ => true
  | .spiStatus => true
  | .spiRegRead _ _ => true
  | .spiRegWrite _ _ _ => true
  | .spiH2fWrite _ _ _ => true
  | .spiF2hRead => true
  | .spiF2hAck => true
  | .spiSessionEnd => true
  | .spiSessionIdleTimeout => true
  | .f2hDataResend mbx => decide (mbx < 16)
  | .udpSessionTimeout mbx => decide (mbx < 16)
  | .sessionChallenge h => decide (h.mbx < 16)
  | .nonceExpiry mbx => decide (mbx < 16)
  | .authLockoutExpiry mbx => decide (mbx < 16)
  | .sessionOpen h _ _ _ _ => decide (h.mbx < 16)
  | .sessionClose h => decide (h.mbx < 16)
  | .eventMaskSet h _ => decide (h.mbx < 16)
  | .deviceStatus h => decide (h.mbx < 16)
  | .deblock h _ => decide (h.mbx < 16)
  | .block h => decide (h.mbx < 16)
  | .blockClear h _ => decide (h.mbx < 16)
  | .phaseSet h _ _ => decide (h.mbx < 16)
  | .srbRequest h _ => decide (h.mbx < 16)
  | .srbWithdraw h => decide (h.mbx < 16)
  | .timeDomainSelect h _ _ => decide (h.mbx < 16)
  | .timeSet h _ _ => decide (h.mbx < 16)
  | .basinRestart h _ => decide (h.mbx < 16)
  | .plateLoadBegin h _ digest => decide (h.mbx < 16) && decide (digest.length = 32)
  | .plateLoadData h _ _ => decide (h.mbx < 16)
  | .plateLoadEnd h _ => decide (h.mbx < 16)
  | .stageSet h _ => decide (h.mbx < 16)
  | .stageCheck h => decide (h.mbx < 16)
  | .stageCheckComplete => true
  | .stageCountersign h digest => decide (h.mbx < 16) && decide (digest.length = 32)
  | .stageCommit h _ digest => decide (h.mbx < 16) && decide (digest.length = 32)
  | .stageAbort h => decide (h.mbx < 16)
  | .stageRead h _ => decide (h.mbx < 16)
  | .paramGet h _ => decide (h.mbx < 16)
  | .setpointSet h _ _ _ => decide (h.mbx < 16)
  | .setpointGet h _ => decide (h.mbx < 16)
  | .cellExclude h _ _ => decide (h.mbx < 16)
  | .cellRestore h _ _ => decide (h.mbx < 16)
  | .cellBypassClose h _ _ => decide (h.mbx < 16)
  | .mooringRange h _ _ => decide (h.mbx < 16)
  | .mooringRangeAbort h _ => decide (h.mbx < 16)
  | .presetRead h _ _ _ => decide (h.mbx < 16)
  | .nodeFlagsClear h _ _ _ => decide (h.mbx < 16)
  | .schedStatsClear h _ => decide (h.mbx < 16)
  | .pointMinmaxClear h _ _ _ => decide (h.mbx < 16)
  | .pulseStatus h => decide (h.mbx < 16)
  | .pulseFlagsClear h _ _ => decide (h.mbx < 16)
  | .clockStatus h => decide (h.mbx < 16)
  | .eyeScan h _ _ => decide (h.mbx < 16)
  | .eyeScanComplete _ => true
  | .eyeScanAbort h => decide (h.mbx < 16)
  | .faultRead h _ => decide (h.mbx < 16)
  | .faultAck h _ _ => decide (h.mbx < 16)
  | .faultInject h _ => decide (h.mbx < 16)
  | .captureArm h _ _ => decide (h.mbx < 16)
  | .captureAbort h _ => decide (h.mbx < 16)
  | .captureStatus h _ => decide (h.mbx < 16)
  | .tandemStatus h => decide (h.mbx < 16)
  | .tandemSwitch h _ => decide (h.mbx < 16)
  | .unknownOpcode h _ => decide (h.mbx < 16)
  | .trapEntry source => decide (source < 512)
  | .levelSourceClear source => decide (source < 512)
  | .sramEccError _ _ _ => true
  | .pointStale pt => decide (pt < 1048576)
  | .safeReqChange _ _ _ => true
  | .pinWindowExpiry => true
  | .safetyTelegramCopy lan _ _ => decide (lan < 2)
  | .discWindowExpiry lan => decide (lan < 2)
  | .teleTimeout lan => decide (lan < 2)
  | .srbTimeoutExpiry => true
  | .smpVerdict _ _ => true
  | .smpWatchdogExpiry => true
  | .blockOutReadbackFail => true
  | .tandemRecordReceived _ _ => true
  | .beaconSend => true
  | .beaconIntervalJudge => true
  | .hbRxEdge _ _ => true
  | .takeoverRequestReceived => true
  | .takeoverWithholdEnd => true
  | .becomeActive => true
  | .tp1LinkLoss => true
  | .classATransferReceived _ => true
  | .transferConfirmTimeout => true
  | .handoverCycle => true
  | .handoverResult _ => true
  | .soloWaitExpiry => true
  | .holdOffExpiry => true
  | .triggerFire trg _ => decide (trg < 8)
  | .captureDone cap => decide (cap < 16)
  | .govWindowEnd => true
  | .govRecoverHoldExpiry => true
  | .avsTransactionDone _ => true
  | .coreVoltageOutOfRange => true
  | .thermalSample dies => decide (dies.length = 4)
  | .jtagTrst => true
  | .bypass => true
  | .idcode => true
  | .samplePreload _ => true
  | .extest => true
  | .extestPulse => true
  | .extestTrain => true
  | .clamp => true
  | .highz => true
  | .devkey => true
  | .otpProgram digest => decide (digest.length = 32)
  | .coreDebug => true
  | .railMonitorRelease => true
  | .stationLinkUp p => decide (p < 8)
  | .tandemLinkUp lane => decide (lane < 2)
  | .ptpIntervalSend td p _ => decide (td < 2) && decide (p < 8)
  | .transferConfirmReceived _ _ => true
  | .mpcRestartComplete => true
  | .coreVoltageRecovered => true
  | .pciePerstNRelease => true
  | .pcieConfigReady => true

end Sys2Proof
end

