-- ==== Sys2Proof/Laws/PerInstr.lean ====
section
/-! SUPPORT. A statement about the syntax of every command, one lemma for each constructor: a well-formed command of
the command set names one of the sixteen mailboxes (R314). -/

set_option Elab.async false
set_option linter.all false

namespace Sys2Proof.Laws

/-- A well-formed command with a row of the command set names one of the sixteen mailboxes. -/
def Named.Statement (i : Instr) : Prop := ∀ h c, Machine.bcsRow i = some (h, c) → i.wf = true → h.mbx < 16

theorem Named.porstNAssert : Named.Statement .porstNAssert := by
  intro h r hr hw; simp_all [Machine.bcsRow, Instr.wf]
theorem Named.porstNRelease : ∀ a b, Named.Statement (.porstNRelease a b) := by
  intro a b h r hr hw; simp_all [Machine.bcsRow, Instr.wf]
theorem Named.warmRstNAssert : Named.Statement .warmRstNAssert := by
  intro h r hr hw; simp_all [Machine.bcsRow, Instr.wf]
theorem Named.warmRstNRelease : Named.Statement .warmRstNRelease := by
  intro h r hr hw; simp_all [Machine.bcsRow, Instr.wf]
theorem Named.railMonitorTrip : Named.Statement .railMonitorTrip := by
  intro h r hr hw; simp_all [Machine.bcsRow, Instr.wf]
theorem Named.pllCEInitialLock : Named.Statement .pllCEInitialLock := by
  intro h r hr hw; simp_all [Machine.bcsRow, Instr.wf]
theorem Named.resetCalibrationDone : ∀ a b c, Named.Statement (.resetCalibrationDone a b c) := by
  intro a b c h r hr hw; simp_all [Machine.bcsRow, Instr.wf]
theorem Named.bandSearchDone : Named.Statement .bandSearchDone := by
  intro h r hr hw; simp_all [Machine.bcsRow, Instr.wf]
theorem Named.bootRecordAuthenticated : ∀ a, Named.Statement (.bootRecordAuthenticated a) := by
  intro a h r hr hw; simp_all [Machine.bcsRow, Instr.wf]
theorem Named.bybexReady : ∀ a b c, Named.Statement (.bybexReady a b c) := by
  intro a b c h r hr hw; simp_all [Machine.bcsRow, Instr.wf]
theorem Named.bootAuthFail : ∀ a, Named.Statement (.bootAuthFail a) := by
  intro a h r hr hw; simp_all [Machine.bcsRow, Instr.wf]
theorem Named.cycleStart : ∀ a, Named.Statement (.cycleStart a) := by
  intro a h r hr hw; simp_all [Machine.bcsRow, Instr.wf]
theorem Named.scheduledCommandApply : Named.Statement .scheduledCommandApply := by
  intro h r hr hw; simp_all [Machine.bcsRow, Instr.wf]
theorem Named.lockThrough : ∀ a, Named.Statement (.lockThrough a) := by
  intro a h r hr hw; simp_all [Machine.bcsRow, Instr.wf]
theorem Named.wholePlateLockThrough : ∀ a b, Named.Statement (.wholePlateLockThrough a b) := by
  intro a b h r hr hw; simp_all [Machine.bcsRow, Instr.wf]
theorem Named.idlePlateLockThrough : ∀ a b, Named.Statement (.idlePlateLockThrough a b) := by
  intro a b h r hr hw; simp_all [Machine.bcsRow, Instr.wf]
theorem Named.cycleBaseReached : ∀ a, Named.Statement (.cycleBaseReached a) := by
  intro a h r hr hw; simp_all [Machine.bcsRow, Instr.wf]
theorem Named.reportWordIngress : ∀ a, Named.Statement (.reportWordIngress a) := by
  intro a h r hr hw; simp_all [Machine.bcsRow, Instr.wf]
theorem Named.reportBurstReceived : ∀ a b c d e f g i, Named.Statement (.reportBurstReceived a b c d e f g i) := by
  intro a b c d e f g i h r hr hw; simp_all [Machine.bcsRow, Instr.wf]
theorem Named.measurementCutoff : ∀ a, Named.Statement (.measurementCutoff a) := by
  intro a h r hr hw; simp_all [Machine.bcsRow, Instr.wf]
theorem Named.observerUpdateComplete : Named.Statement .observerUpdateComplete := by
  intro h r hr hw; simp_all [Machine.bcsRow, Instr.wf]
theorem Named.laneStepComplete : ∀ a b c, Named.Statement (.laneStepComplete a b c) := by
  intro a b c h r hr hw; simp_all [Machine.bcsRow, Instr.wf]
theorem Named.nodeOutputComplete : ∀ a b, Named.Statement (.nodeOutputComplete a b) := by
  intro a b h r hr hw; simp_all [Machine.bcsRow, Instr.wf]
theorem Named.armEngineComplete : ∀ a, Named.Statement (.armEngineComplete a) := by
  intro a h r hr hw; simp_all [Machine.bcsRow, Instr.wf]
theorem Named.packReady : ∀ a b c, Named.Statement (.packReady a b c) := by
  intro a b c h r hr hw; simp_all [Machine.bcsRow, Instr.wf]
theorem Named.launchTick : ∀ a, Named.Statement (.launchTick a) := by
  intro a h r hr hw; simp_all [Machine.bcsRow, Instr.wf]
theorem Named.frameDeadline : ∀ a, Named.Statement (.frameDeadline a) := by
  intro a h r hr hw; simp_all [Machine.bcsRow, Instr.wf]
theorem Named.inhibitLineRise : ∀ a, Named.Statement (.inhibitLineRise a) := by
  intro a h r hr hw; simp_all [Machine.bcsRow, Instr.wf]
theorem Named.inhibitFrameRepeat : ∀ a, Named.Statement (.inhibitFrameRepeat a) := by
  intro a h r hr hw; simp_all [Machine.bcsRow, Instr.wf]
theorem Named.inhibitReadback : ∀ a b, Named.Statement (.inhibitReadback a b) := by
  intro a b h r hr hw; simp_all [Machine.bcsRow, Instr.wf]
theorem Named.discReplyReceived : ∀ a b c, Named.Statement (.discReplyReceived a b c) := by
  intro a b c h r hr hw; simp_all [Machine.bcsRow, Instr.wf]
theorem Named.rangeReplyReceived : ∀ a b c d e f, Named.Statement (.rangeReplyReceived a b c d e f) := by
  intro a b c d e f h r hr hw; simp_all [Machine.bcsRow, Instr.wf]
theorem Named.stepAckReceived : ∀ a b c d e f, Named.Statement (.stepAckReceived a b c d e f) := by
  intro a b c d e f h r hr hw; simp_all [Machine.bcsRow, Instr.wf]
theorem Named.svcDataReceived : ∀ a b c d e f g, Named.Statement (.svcDataReceived a b c d e f g) := by
  intro a b c d e f g h r hr hw; simp_all [Machine.bcsRow, Instr.wf]
theorem Named.trainingBurstAccepted : ∀ a b c, Named.Statement (.trainingBurstAccepted a b c) := by
  intro a b c h r hr hw; simp_all [Machine.bcsRow, Instr.wf]
theorem Named.requestUnanswered : ∀ a b, Named.Statement (.requestUnanswered a b) := by
  intro a b h r hr hw; simp_all [Machine.bcsRow, Instr.wf]
theorem Named.rangeRefreshDue : ∀ a b, Named.Statement (.rangeRefreshDue a b) := by
  intro a b h r hr hw; simp_all [Machine.bcsRow, Instr.wf]
theorem Named.readmissionDue : ∀ a b, Named.Statement (.readmissionDue a b) := by
  intro a b h r hr hw; simp_all [Machine.bcsRow, Instr.wf]
theorem Named.discoverDue : ∀ a, Named.Statement (.discoverDue a) := by
  intro a h r hr hw; simp_all [Machine.bcsRow, Instr.wf]
theorem Named.stepAckDeadline : ∀ a, Named.Statement (.stepAckDeadline a) := by
  intro a h r hr hw; simp_all [Machine.bcsRow, Instr.wf]
theorem Named.stepCycleStart : ∀ a, Named.Statement (.stepCycleStart a) := by
  intro a h r hr hw; simp_all [Machine.bcsRow, Instr.wf]
theorem Named.stepGapElapsed : ∀ a, Named.Statement (.stepGapElapsed a) := by
  intro a h r hr hw; simp_all [Machine.bcsRow, Instr.wf]
theorem Named.stepLockTimeout : ∀ a, Named.Statement (.stepLockTimeout a) := by
  intro a h r hr hw; simp_all [Machine.bcsRow, Instr.wf]
theorem Named.trainTimeout : ∀ a, Named.Statement (.trainTimeout a) := by
  intro a h r hr hw; simp_all [Machine.bcsRow, Instr.wf]
theorem Named.basinLos : ∀ a, Named.Statement (.basinLos a) := by
  intro a h r hr hw; simp_all [Machine.bcsRow, Instr.wf]
theorem Named.basinLol : ∀ a, Named.Statement (.basinLol a) := by
  intro a h r hr hw; simp_all [Machine.bcsRow, Instr.wf]
theorem Named.basinRelockComplete : ∀ a b, Named.Statement (.basinRelockComplete a b) := by
  intro a b h r hr hw; simp_all [Machine.bcsRow, Instr.wf]
theorem Named.pllLossOfLock : ∀ a, Named.Statement (.pllLossOfLock a) := by
  intro a h r hr hw; simp_all [Machine.bcsRow, Instr.wf]
theorem Named.pllRelock : ∀ a b, Named.Statement (.pllRelock a b) := by
  intro a b h r hr hw; simp_all [Machine.bcsRow, Instr.wf]
theorem Named.safetyOscTimebaseCheck : ∀ a, Named.Statement (.safetyOscTimebaseCheck a) := by
  intro a h r hr hw; simp_all [Machine.bcsRow, Instr.wf]
theorem Named.stationFrameReceived : ∀ a b c, Named.Statement (.stationFrameReceived a b c) := by
  intro a b c h r hr hw; simp_all [Machine.bcsRow, Instr.wf]
theorem Named.gooseTimeout : ∀ a, Named.Statement (.gooseTimeout a) := by
  intro a h r hr hw; simp_all [Machine.bcsRow, Instr.wf]
theorem Named.gooseRetransmit : ∀ a, Named.Statement (.gooseRetransmit a) := by
  intro a h r hr hw; simp_all [Machine.bcsRow, Instr.wf]
theorem Named.prpSupervisionSend : ∀ a, Named.Statement (.prpSupervisionSend a) := by
  intro a h r hr hw; simp_all [Machine.bcsRow, Instr.wf]
theorem Named.prpLanSilent : ∀ a b, Named.Statement (.prpLanSilent a b) := by
  intro a b h r hr hw; simp_all [Machine.bcsRow, Instr.wf]
theorem Named.stationLinkDown : ∀ a, Named.Statement (.stationLinkDown a) := by
  intro a h r hr hw; simp_all [Machine.bcsRow, Instr.wf]
theorem Named.announceReceiptTimeout : ∀ a, Named.Statement (.announceReceiptTimeout a) := by
  intro a h r hr hw; simp_all [Machine.bcsRow, Instr.wf]
theorem Named.tdStep : ∀ a b, Named.Statement (.tdStep a b) := by
  intro a b h r hr hw; simp_all [Machine.bcsRow, Instr.wf]
theorem Named.incWrite : ∀ a b, Named.Statement (.incWrite a b) := by
  intro a b h r hr hw; simp_all [Machine.bcsRow, Instr.wf]
theorem Named.ctSlewComplete : ∀ a, Named.Statement (.ctSlewComplete a) := by
  intro a h r hr hw; simp_all [Machine.bcsRow, Instr.wf]
theorem Named.ppsInEdge : ∀ a b, Named.Statement (.ppsInEdge a b) := by
  intro a b h r hr hw; simp_all [Machine.bcsRow, Instr.wf]
theorem Named.ppsInTimeout : ∀ a, Named.Statement (.ppsInTimeout a) := by
  intro a h r hr hw; simp_all [Machine.bcsRow, Instr.wf]
theorem Named.ppsOutEdge : ∀ a, Named.Statement (.ppsOutEdge a) := by
  intro a h r hr hw; simp_all [Machine.bcsRow, Instr.wf]
theorem Named.geEdge : ∀ a b c, Named.Statement (.geEdge a b c) := by
  intro a b c h r hr hw; simp_all [Machine.bcsRow, Instr.wf]
theorem Named.getCoasting : ∀ a, Named.Statement (.getCoasting a) := by
  intro a h r hr hw; simp_all [Machine.bcsRow, Instr.wf]
theorem Named.getStandstill : ∀ a, Named.Statement (.getStandstill a) := by
  intro a h r hr hw; simp_all [Machine.bcsRow, Instr.wf]
theorem Named.periodStart : ∀ a b, Named.Statement (.periodStart a b) := by
  intro a b h r hr hw; simp_all [Machine.bcsRow, Instr.wf]
theorem Named.pulseEdgePosition : ∀ a b, Named.Statement (.pulseEdgePosition a b) := by
  intro a b h r hr hw; simp_all [Machine.bcsRow, Instr.wf]
theorem Named.tripQualified : ∀ a b, Named.Statement (.tripQualified a b) := by
  intro a b h r hr hw; simp_all [Machine.bcsRow, Instr.wf]
theorem Named.syncEvent : ∀ a b, Named.Statement (.syncEvent a b) := by
  intro a b h r hr hw; simp_all [Machine.bcsRow, Instr.wf]
theorem Named.syncInEdge : ∀ a, Named.Statement (.syncInEdge a) := by
  intro a h r hr hw; simp_all [Machine.bcsRow, Instr.wf]
theorem Named.syncLoss : ∀ a, Named.Statement (.syncLoss a) := by
  intro a h r hr hw; simp_all [Machine.bcsRow, Instr.wf]
theorem Named.h2fPayloadWrite : ∀ a b c, Named.Statement (.h2fPayloadWrite a b c) := by
  intro a b c h r hr hw; simp_all [Machine.bcsRow, Instr.wf]
theorem Named.h2fDoorbell : ∀ a b, Named.Statement (.h2fDoorbell a b) := by
  intro a b h r hr hw; simp_all [Machine.bcsRow, Instr.wf]
theorem Named.h2fTake : ∀ a, Named.Statement (.h2fTake a) := by
  intro a h r hr hw; simp_all [Machine.bcsRow, Instr.wf]
theorem Named.coreIdleGate : ∀ a, Named.Statement (.coreIdleGate a) := by
  intro a h r hr hw; simp_all [Machine.bcsRow, Instr.wf]
theorem Named.f2hRelease : ∀ a, Named.Statement (.f2hRelease a) := by
  intro a h r hr hw; simp_all [Machine.bcsRow, Instr.wf]
theorem Named.f2hMessageEnter : ∀ a, Named.Statement (.f2hMessageEnter a) := by
  intro a h r hr hw; simp_all [Machine.bcsRow, Instr.wf]
theorem Named.mbxReset : ∀ a b, Named.Statement (.mbxReset a b) := by
  intro a b h r hr hw; simp_all [Machine.bcsRow, Instr.wf]
theorem Named.pcieLinkReset : ∀ a b, Named.Statement (.pcieLinkReset a b) := by
  intro a b h r hr hw; simp_all [Machine.bcsRow, Instr.wf]
theorem Named.mpcReceiverReset : Named.Statement .mpcReceiverReset := by
  intro h r hr hw; simp_all [Machine.bcsRow, Instr.wf]
theorem Named.msixVectorSend : ∀ a, Named.Statement (.msixVectorSend a) := by
  intro a h r hr hw; simp_all [Machine.bcsRow, Instr.wf]
theorem Named.registerWrite : ∀ a b, Named.Statement (.registerWrite a b) := by
  intro a b h r hr hw; simp_all [Machine.bcsRow, Instr.wf]
theorem Named.observerImageHold : ∀ a, Named.Statement (.observerImageHold a) := by
  intro a h r hr hw; simp_all [Machine.bcsRow, Instr.wf]
theorem Named.holdTimeoutRelease : Named.Statement .holdTimeoutRelease := by
  intro h r hr hw; simp_all [Machine.bcsRow, Instr.wf]
theorem Named.snapTrigger : ∀ a, Named.Statement (.snapTrigger a) := by
  intro a h r hr hw; simp_all [Machine.bcsRow, Instr.wf]
theorem Named.emergKey : ∀ a b, Named.Statement (.emergKey a b) := by
  intro a b h r hr hw; simp_all [Machine.bcsRow, Instr.wf]
theorem Named.emergArmExpire : ∀ a, Named.Statement (.emergArmExpire a) := by
  intro a h r hr hw; simp_all [Machine.bcsRow, Instr.wf]
theorem Named.hostBlock : ∀ a, Named.Statement (.hostBlock a) := by
  intro a h r hr hw; simp_all [Machine.bcsRow, Instr.wf]
theorem Named.mpcRestart : ∀ a, Named.Statement (.mpcRestart a) := by
  intro a h r hr hw; simp_all [Machine.bcsRow, Instr.wf]
theorem Named.warmReset : ∀ a, Named.Statement (.warmReset a) := by
  intro a h r hr hw; simp_all [Machine.bcsRow, Instr.wf]
theorem Named.emergCtrlIgnored : ∀ a, Named.Statement (.emergCtrlIgnored a) := by
  intro a h r hr hw; simp_all [Machine.bcsRow, Instr.wf]
theorem Named.injectKey : ∀ a b, Named.Statement (.injectKey a b) := by
  intro a b h r hr hw; simp_all [Machine.bcsRow, Instr.wf]
theorem Named.spiStatus : Named.Statement .spiStatus := by
  intro h r hr hw; simp_all [Machine.bcsRow, Instr.wf]
theorem Named.spiRegRead : ∀ a b, Named.Statement (.spiRegRead a b) := by
  intro a b h r hr hw; simp_all [Machine.bcsRow, Instr.wf]
theorem Named.spiRegWrite : ∀ a b c, Named.Statement (.spiRegWrite a b c) := by
  intro a b c h r hr hw; simp_all [Machine.bcsRow, Instr.wf]
theorem Named.spiH2fWrite : ∀ a b c, Named.Statement (.spiH2fWrite a b c) := by
  intro a b c h r hr hw; simp_all [Machine.bcsRow, Instr.wf]
theorem Named.spiF2hRead : Named.Statement .spiF2hRead := by
  intro h r hr hw; simp_all [Machine.bcsRow, Instr.wf]
theorem Named.spiF2hAck : Named.Statement .spiF2hAck := by
  intro h r hr hw; simp_all [Machine.bcsRow, Instr.wf]
theorem Named.spiSessionEnd : Named.Statement .spiSessionEnd := by
  intro h r hr hw; simp_all [Machine.bcsRow, Instr.wf]
theorem Named.spiSessionIdleTimeout : Named.Statement .spiSessionIdleTimeout := by
  intro h r hr hw; simp_all [Machine.bcsRow, Instr.wf]
theorem Named.f2hDataResend : ∀ a, Named.Statement (.f2hDataResend a) := by
  intro a h r hr hw; simp_all [Machine.bcsRow, Instr.wf]
theorem Named.udpSessionTimeout : ∀ a, Named.Statement (.udpSessionTimeout a) := by
  intro a h r hr hw; simp_all [Machine.bcsRow, Instr.wf]
theorem Named.sessionChallenge : ∀ a, Named.Statement (.sessionChallenge a) := by
  intro a h r hr hw; simp_all [Machine.bcsRow, Instr.wf]
theorem Named.nonceExpiry : ∀ a, Named.Statement (.nonceExpiry a) := by
  intro a h r hr hw; simp_all [Machine.bcsRow, Instr.wf]
theorem Named.authLockoutExpiry : ∀ a, Named.Statement (.authLockoutExpiry a) := by
  intro a h r hr hw; simp_all [Machine.bcsRow, Instr.wf]
theorem Named.sessionOpen : ∀ a b c d e, Named.Statement (.sessionOpen a b c d e) := by
  intro a b c d e h r hr hw; simp_all [Machine.bcsRow, Instr.wf]
theorem Named.sessionClose : ∀ a, Named.Statement (.sessionClose a) := by
  intro a h r hr hw; simp_all [Machine.bcsRow, Instr.wf]
theorem Named.eventMaskSet : ∀ a b, Named.Statement (.eventMaskSet a b) := by
  intro a b h r hr hw; simp_all [Machine.bcsRow, Instr.wf]
theorem Named.deviceStatus : ∀ a, Named.Statement (.deviceStatus a) := by
  intro a h r hr hw; simp_all [Machine.bcsRow, Instr.wf]
theorem Named.deblock : ∀ a b, Named.Statement (.deblock a b) := by
  intro a b h r hr hw; simp_all [Machine.bcsRow, Instr.wf]
theorem Named.block : ∀ a, Named.Statement (.block a) := by
  intro a h r hr hw; simp_all [Machine.bcsRow, Instr.wf]
theorem Named.blockClear : ∀ a b, Named.Statement (.blockClear a b) := by
  intro a b h r hr hw; simp_all [Machine.bcsRow, Instr.wf]
theorem Named.phaseSet : ∀ a b c, Named.Statement (.phaseSet a b c) := by
  intro a b c h r hr hw; simp_all [Machine.bcsRow, Instr.wf]
theorem Named.srbRequest : ∀ a b, Named.Statement (.srbRequest a b) := by
  intro a b h r hr hw; simp_all [Machine.bcsRow, Instr.wf]
theorem Named.srbWithdraw : ∀ a, Named.Statement (.srbWithdraw a) := by
  intro a h r hr hw; simp_all [Machine.bcsRow, Instr.wf]
theorem Named.timeDomainSelect : ∀ a b c, Named.Statement (.timeDomainSelect a b c) := by
  intro a b c h r hr hw; simp_all [Machine.bcsRow, Instr.wf]
theorem Named.timeSet : ∀ a b c, Named.Statement (.timeSet a b c) := by
  intro a b c h r hr hw; simp_all [Machine.bcsRow, Instr.wf]
theorem Named.basinRestart : ∀ a b, Named.Statement (.basinRestart a b) := by
  intro a b h r hr hw; simp_all [Machine.bcsRow, Instr.wf]
theorem Named.plateLoadBegin : ∀ a b c, Named.Statement (.plateLoadBegin a b c) := by
  intro a b c h r hr hw; simp_all [Machine.bcsRow, Instr.wf]
theorem Named.plateLoadData : ∀ a b c, Named.Statement (.plateLoadData a b c) := by
  intro a b c h r hr hw; simp_all [Machine.bcsRow, Instr.wf]
theorem Named.plateLoadEnd : ∀ a b, Named.Statement (.plateLoadEnd a b) := by
  intro a b h r hr hw; simp_all [Machine.bcsRow, Instr.wf]
theorem Named.stageSet : ∀ a b, Named.Statement (.stageSet a b) := by
  intro a b h r hr hw; simp_all [Machine.bcsRow, Instr.wf]
theorem Named.stageCheck : ∀ a, Named.Statement (.stageCheck a) := by
  intro a h r hr hw; simp_all [Machine.bcsRow, Instr.wf]
theorem Named.stageCheckComplete : Named.Statement .stageCheckComplete := by
  intro h r hr hw; simp_all [Machine.bcsRow, Instr.wf]
theorem Named.stageCountersign : ∀ a b, Named.Statement (.stageCountersign a b) := by
  intro a b h r hr hw; simp_all [Machine.bcsRow, Instr.wf]
theorem Named.stageCommit : ∀ a b c, Named.Statement (.stageCommit a b c) := by
  intro a b c h r hr hw; simp_all [Machine.bcsRow, Instr.wf]
theorem Named.stageAbort : ∀ a, Named.Statement (.stageAbort a) := by
  intro a h r hr hw; simp_all [Machine.bcsRow, Instr.wf]
theorem Named.stageRead : ∀ a b, Named.Statement (.stageRead a b) := by
  intro a b h r hr hw; simp_all [Machine.bcsRow, Instr.wf]
theorem Named.paramGet : ∀ a b, Named.Statement (.paramGet a b) := by
  intro a b h r hr hw; simp_all [Machine.bcsRow, Instr.wf]
theorem Named.setpointSet : ∀ a b c d, Named.Statement (.setpointSet a b c d) := by
  intro a b c d h r hr hw; simp_all [Machine.bcsRow, Instr.wf]
theorem Named.setpointGet : ∀ a b, Named.Statement (.setpointGet a b) := by
  intro a b h r hr hw; simp_all [Machine.bcsRow, Instr.wf]
theorem Named.cellExclude : ∀ a b c, Named.Statement (.cellExclude a b c) := by
  intro a b c h r hr hw; simp_all [Machine.bcsRow, Instr.wf]
theorem Named.cellRestore : ∀ a b c, Named.Statement (.cellRestore a b c) := by
  intro a b c h r hr hw; simp_all [Machine.bcsRow, Instr.wf]
theorem Named.cellBypassClose : ∀ a b c, Named.Statement (.cellBypassClose a b c) := by
  intro a b c h r hr hw; simp_all [Machine.bcsRow, Instr.wf]
theorem Named.mooringRange : ∀ a b c, Named.Statement (.mooringRange a b c) := by
  intro a b c h r hr hw; simp_all [Machine.bcsRow, Instr.wf]
theorem Named.mooringRangeAbort : ∀ a b, Named.Statement (.mooringRangeAbort a b) := by
  intro a b h r hr hw; simp_all [Machine.bcsRow, Instr.wf]
theorem Named.presetRead : ∀ a b c d, Named.Statement (.presetRead a b c d) := by
  intro a b c d h r hr hw; simp_all [Machine.bcsRow, Instr.wf]
theorem Named.nodeFlagsClear : ∀ a b c d, Named.Statement (.nodeFlagsClear a b c d) := by
  intro a b c d h r hr hw; simp_all [Machine.bcsRow, Instr.wf]
theorem Named.schedStatsClear : ∀ a b, Named.Statement (.schedStatsClear a b) := by
  intro a b h r hr hw; simp_all [Machine.bcsRow, Instr.wf]
theorem Named.pointMinmaxClear : ∀ a b c d, Named.Statement (.pointMinmaxClear a b c d) := by
  intro a b c d h r hr hw; simp_all [Machine.bcsRow, Instr.wf]
theorem Named.pulseStatus : ∀ a, Named.Statement (.pulseStatus a) := by
  intro a h r hr hw; simp_all [Machine.bcsRow, Instr.wf]
theorem Named.pulseFlagsClear : ∀ a b c, Named.Statement (.pulseFlagsClear a b c) := by
  intro a b c h r hr hw; simp_all [Machine.bcsRow, Instr.wf]
theorem Named.clockStatus : ∀ a, Named.Statement (.clockStatus a) := by
  intro a h r hr hw; simp_all [Machine.bcsRow, Instr.wf]
theorem Named.eyeScan : ∀ a b c, Named.Statement (.eyeScan a b c) := by
  intro a b c h r hr hw; simp_all [Machine.bcsRow, Instr.wf]
theorem Named.eyeScanComplete : ∀ a, Named.Statement (.eyeScanComplete a) := by
  intro a h r hr hw; simp_all [Machine.bcsRow, Instr.wf]
theorem Named.eyeScanAbort : ∀ a, Named.Statement (.eyeScanAbort a) := by
  intro a h r hr hw; simp_all [Machine.bcsRow, Instr.wf]
theorem Named.faultRead : ∀ a b, Named.Statement (.faultRead a b) := by
  intro a b h r hr hw; simp_all [Machine.bcsRow, Instr.wf]
theorem Named.faultAck : ∀ a b c, Named.Statement (.faultAck a b c) := by
  intro a b c h r hr hw; simp_all [Machine.bcsRow, Instr.wf]
theorem Named.faultInject : ∀ a b, Named.Statement (.faultInject a b) := by
  intro a b h r hr hw; simp_all [Machine.bcsRow, Instr.wf]
theorem Named.captureArm : ∀ a b c, Named.Statement (.captureArm a b c) := by
  intro a b c h r hr hw; simp_all [Machine.bcsRow, Instr.wf]
theorem Named.captureAbort : ∀ a b, Named.Statement (.captureAbort a b) := by
  intro a b h r hr hw; simp_all [Machine.bcsRow, Instr.wf]
theorem Named.captureStatus : ∀ a b, Named.Statement (.captureStatus a b) := by
  intro a b h r hr hw; simp_all [Machine.bcsRow, Instr.wf]
theorem Named.tandemStatus : ∀ a, Named.Statement (.tandemStatus a) := by
  intro a h r hr hw; simp_all [Machine.bcsRow, Instr.wf]
theorem Named.tandemSwitch : ∀ a b, Named.Statement (.tandemSwitch a b) := by
  intro a b h r hr hw; simp_all [Machine.bcsRow, Instr.wf]
theorem Named.unknownOpcode : ∀ a b, Named.Statement (.unknownOpcode a b) := by
  intro a b h r hr hw; simp_all [Machine.bcsRow, Instr.wf]
theorem Named.trapEntry : ∀ a, Named.Statement (.trapEntry a) := by
  intro a h r hr hw; simp_all [Machine.bcsRow, Instr.wf]
theorem Named.levelSourceClear : ∀ a, Named.Statement (.levelSourceClear a) := by
  intro a h r hr hw; simp_all [Machine.bcsRow, Instr.wf]
theorem Named.sramEccError : ∀ a b c, Named.Statement (.sramEccError a b c) := by
  intro a b c h r hr hw; simp_all [Machine.bcsRow, Instr.wf]
theorem Named.pointStale : ∀ a, Named.Statement (.pointStale a) := by
  intro a h r hr hw; simp_all [Machine.bcsRow, Instr.wf]
theorem Named.safeReqChange : ∀ a b c, Named.Statement (.safeReqChange a b c) := by
  intro a b c h r hr hw; simp_all [Machine.bcsRow, Instr.wf]
theorem Named.pinWindowExpiry : Named.Statement .pinWindowExpiry := by
  intro h r hr hw; simp_all [Machine.bcsRow, Instr.wf]
theorem Named.safetyTelegramCopy : ∀ a b c, Named.Statement (.safetyTelegramCopy a b c) := by
  intro a b c h r hr hw; simp_all [Machine.bcsRow, Instr.wf]
theorem Named.discWindowExpiry : ∀ a, Named.Statement (.discWindowExpiry a) := by
  intro a h r hr hw; simp_all [Machine.bcsRow, Instr.wf]
theorem Named.teleTimeout : ∀ a, Named.Statement (.teleTimeout a) := by
  intro a h r hr hw; simp_all [Machine.bcsRow, Instr.wf]
theorem Named.srbTimeoutExpiry : Named.Statement .srbTimeoutExpiry := by
  intro h r hr hw; simp_all [Machine.bcsRow, Instr.wf]
theorem Named.smpVerdict : ∀ a b, Named.Statement (.smpVerdict a b) := by
  intro a b h r hr hw; simp_all [Machine.bcsRow, Instr.wf]
theorem Named.smpWatchdogExpiry : Named.Statement .smpWatchdogExpiry := by
  intro h r hr hw; simp_all [Machine.bcsRow, Instr.wf]
theorem Named.blockOutReadbackFail : Named.Statement .blockOutReadbackFail := by
  intro h r hr hw; simp_all [Machine.bcsRow, Instr.wf]
theorem Named.tandemRecordReceived : ∀ a b, Named.Statement (.tandemRecordReceived a b) := by
  intro a b h r hr hw; simp_all [Machine.bcsRow, Instr.wf]
theorem Named.beaconSend : Named.Statement .beaconSend := by
  intro h r hr hw; simp_all [Machine.bcsRow, Instr.wf]
theorem Named.beaconIntervalJudge : Named.Statement .beaconIntervalJudge := by
  intro h r hr hw; simp_all [Machine.bcsRow, Instr.wf]
theorem Named.hbRxEdge : ∀ a b, Named.Statement (.hbRxEdge a b) := by
  intro a b h r hr hw; simp_all [Machine.bcsRow, Instr.wf]
theorem Named.takeoverRequestReceived : Named.Statement .takeoverRequestReceived := by
  intro h r hr hw; simp_all [Machine.bcsRow, Instr.wf]
theorem Named.takeoverWithholdEnd : Named.Statement .takeoverWithholdEnd := by
  intro h r hr hw; simp_all [Machine.bcsRow, Instr.wf]
theorem Named.becomeActive : Named.Statement .becomeActive := by
  intro h r hr hw; simp_all [Machine.bcsRow, Instr.wf]
theorem Named.tp1LinkLoss : Named.Statement .tp1LinkLoss := by
  intro h r hr hw; simp_all [Machine.bcsRow, Instr.wf]
theorem Named.classATransferReceived : ∀ a, Named.Statement (.classATransferReceived a) := by
  intro a h r hr hw; simp_all [Machine.bcsRow, Instr.wf]
theorem Named.transferConfirmTimeout : Named.Statement .transferConfirmTimeout := by
  intro h r hr hw; simp_all [Machine.bcsRow, Instr.wf]
theorem Named.handoverCycle : Named.Statement .handoverCycle := by
  intro h r hr hw; simp_all [Machine.bcsRow, Instr.wf]
theorem Named.handoverResult : ∀ a, Named.Statement (.handoverResult a) := by
  intro a h r hr hw; simp_all [Machine.bcsRow, Instr.wf]
theorem Named.soloWaitExpiry : Named.Statement .soloWaitExpiry := by
  intro h r hr hw; simp_all [Machine.bcsRow, Instr.wf]
theorem Named.holdOffExpiry : Named.Statement .holdOffExpiry := by
  intro h r hr hw; simp_all [Machine.bcsRow, Instr.wf]
theorem Named.triggerFire : ∀ a b, Named.Statement (.triggerFire a b) := by
  intro a b h r hr hw; simp_all [Machine.bcsRow, Instr.wf]
theorem Named.captureDone : ∀ a, Named.Statement (.captureDone a) := by
  intro a h r hr hw; simp_all [Machine.bcsRow, Instr.wf]
theorem Named.govWindowEnd : Named.Statement .govWindowEnd := by
  intro h r hr hw; simp_all [Machine.bcsRow, Instr.wf]
theorem Named.govRecoverHoldExpiry : Named.Statement .govRecoverHoldExpiry := by
  intro h r hr hw; simp_all [Machine.bcsRow, Instr.wf]
theorem Named.avsTransactionDone : ∀ a, Named.Statement (.avsTransactionDone a) := by
  intro a h r hr hw; simp_all [Machine.bcsRow, Instr.wf]
theorem Named.coreVoltageOutOfRange : Named.Statement .coreVoltageOutOfRange := by
  intro h r hr hw; simp_all [Machine.bcsRow, Instr.wf]
theorem Named.thermalSample : ∀ a, Named.Statement (.thermalSample a) := by
  intro a h r hr hw; simp_all [Machine.bcsRow, Instr.wf]
theorem Named.jtagTrst : Named.Statement .jtagTrst := by
  intro h r hr hw; simp_all [Machine.bcsRow, Instr.wf]
theorem Named.bypass : Named.Statement .bypass := by
  intro h r hr hw; simp_all [Machine.bcsRow, Instr.wf]
theorem Named.idcode : Named.Statement .idcode := by
  intro h r hr hw; simp_all [Machine.bcsRow, Instr.wf]
theorem Named.samplePreload : ∀ a, Named.Statement (.samplePreload a) := by
  intro a h r hr hw; simp_all [Machine.bcsRow, Instr.wf]
theorem Named.extest : Named.Statement .extest := by
  intro h r hr hw; simp_all [Machine.bcsRow, Instr.wf]
theorem Named.extestPulse : Named.Statement .extestPulse := by
  intro h r hr hw; simp_all [Machine.bcsRow, Instr.wf]
theorem Named.extestTrain : Named.Statement .extestTrain := by
  intro h r hr hw; simp_all [Machine.bcsRow, Instr.wf]
theorem Named.clamp : Named.Statement .clamp := by
  intro h r hr hw; simp_all [Machine.bcsRow, Instr.wf]
theorem Named.highz : Named.Statement .highz := by
  intro h r hr hw; simp_all [Machine.bcsRow, Instr.wf]
theorem Named.devkey : Named.Statement .devkey := by
  intro h r hr hw; simp_all [Machine.bcsRow, Instr.wf]
theorem Named.otpProgram : ∀ a, Named.Statement (.otpProgram a) := by
  intro a h r hr hw; simp_all [Machine.bcsRow, Instr.wf]
theorem Named.coreDebug : Named.Statement .coreDebug := by
  intro h r hr hw; simp_all [Machine.bcsRow, Instr.wf]
theorem Named.railMonitorRelease : Named.Statement .railMonitorRelease := by
  intro h r hr hw; simp_all [Machine.bcsRow, Instr.wf]
theorem Named.stationLinkUp : ∀ a, Named.Statement (.stationLinkUp a) := by
  intro a h r hr hw; simp_all [Machine.bcsRow, Instr.wf]
theorem Named.tandemLinkUp : ∀ a, Named.Statement (.tandemLinkUp a) := by
  intro a h r hr hw; simp_all [Machine.bcsRow, Instr.wf]
theorem Named.ptpIntervalSend : ∀ a b c, Named.Statement (.ptpIntervalSend a b c) := by
  intro a b c h r hr hw; simp_all [Machine.bcsRow, Instr.wf]
theorem Named.transferConfirmReceived : ∀ a b, Named.Statement (.transferConfirmReceived a b) := by
  intro a b h r hr hw; simp_all [Machine.bcsRow, Instr.wf]
theorem Named.mpcRestartComplete : Named.Statement .mpcRestartComplete := by
  intro h r hr hw; simp_all [Machine.bcsRow, Instr.wf]
theorem Named.coreVoltageRecovered : Named.Statement .coreVoltageRecovered := by
  intro h r hr hw; simp_all [Machine.bcsRow, Instr.wf]
theorem Named.pciePerstNRelease : Named.Statement .pciePerstNRelease := by
  intro h r hr hw; simp_all [Machine.bcsRow, Instr.wf]
theorem Named.pcieConfigReady : Named.Statement .pcieConfigReady := by
  intro h r hr hw; simp_all [Machine.bcsRow, Instr.wf]

end Sys2Proof.Laws
end

