-- ==== Sys2Proof/Laws/State.lean ====
section
/-! SUPPORT. One lemma for each field and update: what the setters of the machine read back, and what they leave. -/

set_option Elab.async false

namespace Sys2Proof.Machine

/-! ### What is read after a write -/

@[simp] theorem mget_mset (n : Nat) (f : Mbx → Mbx) (s : State) (k : Nat) : mget (mset n f s) k = if n = k then f (mget s n) else mget s k := by
  simp [mget, mset]

@[simp] theorem port_setPort (p : Nat) (f : Port → Port) (s : State) (k : Nat) : port (setPort p f s) k = if p = k then f (port s p) else port s k := by
  simp [port, setPort]

@[simp] theorem moor_setMoor (ci : Nat) (f : Moor → Moor) (s : State) (k : Nat) : moor (setMoor ci f s) k = if ci = k then f (moor s ci) else moor s k := by
  simp [moor, setMoor]

@[simp] theorem getPt_setPt (p : Nat) (x : GetPt) (s : State) (k : Nat) : getPt (setPt p x s) k = if p = k then x else getPt s k := by
  simp [getPt, setPt]

/-- A fold of changes to the mailboxes changes nothing else. -/
theorem foldl_onlyMail {α : Type} (f : State → α → State) (xs : List α) (s : State) (hf : ∀ x a, { f x a with mbx := x.mbx } = x) :
    { xs.foldl f s with mbx := s.mbx } = s := by
  induction xs generalizing s with
  | nil => rfl
  | cons x xs ih => exact (congrArg (fun u : State => { u with mbx := s.mbx }) (ih (f s x))).trans (hf s x)

/-! ### Setters -/

@[simp] theorem mset_pending (n : Nat) (f : Mbx → Mbx) (s : State) : (mset n f s).pending = s.pending := rfl
@[simp] theorem mset_now (n : Nat) (f : Mbx → Mbx) (s : State) : (mset n f s).now = s.now := rfl
@[simp] theorem mset_dev (n : Nat) (f : Mbx → Mbx) (s : State) : (mset n f s).dev = s.dev := rfl
@[simp] theorem mset_otp (n : Nat) (f : Mbx → Mbx) (s : State) : (mset n f s).otp = s.otp := rfl
@[simp] theorem mset_time (n : Nat) (f : Mbx → Mbx) (s : State) : (mset n f s).time = s.time := rfl
@[simp] theorem mset_clk (n : Nat) (f : Mbx → Mbx) (s : State) : (mset n f s).clk = s.clk := rfl
@[simp] theorem mset_cyc (n : Nat) (f : Mbx → Mbx) (s : State) : (mset n f s).cyc = s.cyc := rfl
@[simp] theorem mset_cfg (n : Nat) (f : Mbx → Mbx) (s : State) : (mset n f s).cfg = s.cfg := rfl
@[simp] theorem mset_graph (n : Nat) (f : Mbx → Mbx) (s : State) : (mset n f s).graph = s.graph := rfl
@[simp] theorem mset_arms (n : Nat) (f : Mbx → Mbx) (s : State) : (mset n f s).arms = s.arms := rfl
@[simp] theorem mset_obs (n : Nat) (f : Mbx → Mbx) (s : State) : (mset n f s).obs = s.obs := rfl
@[simp] theorem mset_ports (n : Nat) (f : Mbx → Mbx) (s : State) : (mset n f s).ports = s.ports := rfl
@[simp] theorem mset_moors (n : Nat) (f : Mbx → Mbx) (s : State) : (mset n f s).moors = s.moors := rfl
@[simp] theorem mset_points (n : Nat) (f : Mbx → Mbx) (s : State) : (mset n f s).points = s.points := rfl
@[simp] theorem mset_ptDiscards (n : Nat) (f : Mbx → Mbx) (s : State) : (mset n f s).ptDiscards = s.ptDiscards := rfl
@[simp] theorem mset_stn (n : Nat) (f : Mbx → Mbx) (s : State) : (mset n f s).stn = s.stn := rfl
@[simp] theorem mset_get (n : Nat) (f : Mbx → Mbx) (s : State) : (mset n f s).get = s.get := rfl
@[simp] theorem mset_getLast (n : Nat) (f : Mbx → Mbx) (s : State) : (mset n f s).getLast = s.getLast := rfl
@[simp] theorem mset_pul (n : Nat) (f : Mbx → Mbx) (s : State) : (mset n f s).pul = s.pul := rfl
@[simp] theorem mset_host (n : Nat) (f : Mbx → Mbx) (s : State) : (mset n f s).host = s.host := rfl
@[simp] theorem mset_pound (n : Nat) (f : Mbx → Mbx) (s : State) : (mset n f s).pound = s.pound := rfl
@[simp] theorem mset_fcru (n : Nat) (f : Mbx → Mbx) (s : State) : (mset n f s).fcru = s.fcru := rfl
@[simp] theorem mset_srb (n : Nat) (f : Mbx → Mbx) (s : State) : (mset n f s).srb = s.srb := rfl
@[simp] theorem mset_tan (n : Nat) (f : Mbx → Mbx) (s : State) : (mset n f s).tan = s.tan := rfl
@[simp] theorem mset_cap (n : Nat) (f : Mbx → Mbx) (s : State) : (mset n f s).cap = s.cap := rfl
@[simp] theorem mset_gov (n : Nat) (f : Mbx → Mbx) (s : State) : (mset n f s).gov = s.gov := rfl
@[simp] theorem mset_jtag (n : Nat) (f : Mbx → Mbx) (s : State) : (mset n f s).jtag = s.jtag := rfl
@[simp] theorem mset_store (n : Nat) (f : Mbx → Mbx) (s : State) : (mset n f s).store = s.store := rfl
@[simp] theorem mset_free (n : Nat) (f : Mbx → Mbx) (s : State) : (mset n f s).free = s.free := rfl

@[simp] theorem setPort_pending (p : Nat) (f : Port → Port) (s : State) : (setPort p f s).pending = s.pending := rfl
@[simp] theorem setPort_now (p : Nat) (f : Port → Port) (s : State) : (setPort p f s).now = s.now := rfl
@[simp] theorem setPort_dev (p : Nat) (f : Port → Port) (s : State) : (setPort p f s).dev = s.dev := rfl
@[simp] theorem setPort_otp (p : Nat) (f : Port → Port) (s : State) : (setPort p f s).otp = s.otp := rfl
@[simp] theorem setPort_time (p : Nat) (f : Port → Port) (s : State) : (setPort p f s).time = s.time := rfl
@[simp] theorem setPort_clk (p : Nat) (f : Port → Port) (s : State) : (setPort p f s).clk = s.clk := rfl
@[simp] theorem setPort_cyc (p : Nat) (f : Port → Port) (s : State) : (setPort p f s).cyc = s.cyc := rfl
@[simp] theorem setPort_cfg (p : Nat) (f : Port → Port) (s : State) : (setPort p f s).cfg = s.cfg := rfl
@[simp] theorem setPort_graph (p : Nat) (f : Port → Port) (s : State) : (setPort p f s).graph = s.graph := rfl
@[simp] theorem setPort_arms (p : Nat) (f : Port → Port) (s : State) : (setPort p f s).arms = s.arms := rfl
@[simp] theorem setPort_obs (p : Nat) (f : Port → Port) (s : State) : (setPort p f s).obs = s.obs := rfl
@[simp] theorem setPort_moors (p : Nat) (f : Port → Port) (s : State) : (setPort p f s).moors = s.moors := rfl
@[simp] theorem setPort_points (p : Nat) (f : Port → Port) (s : State) : (setPort p f s).points = s.points := rfl
@[simp] theorem setPort_ptDiscards (p : Nat) (f : Port → Port) (s : State) : (setPort p f s).ptDiscards = s.ptDiscards := rfl
@[simp] theorem setPort_stn (p : Nat) (f : Port → Port) (s : State) : (setPort p f s).stn = s.stn := rfl
@[simp] theorem setPort_get (p : Nat) (f : Port → Port) (s : State) : (setPort p f s).get = s.get := rfl
@[simp] theorem setPort_getLast (p : Nat) (f : Port → Port) (s : State) : (setPort p f s).getLast = s.getLast := rfl
@[simp] theorem setPort_pul (p : Nat) (f : Port → Port) (s : State) : (setPort p f s).pul = s.pul := rfl
@[simp] theorem setPort_host (p : Nat) (f : Port → Port) (s : State) : (setPort p f s).host = s.host := rfl
@[simp] theorem setPort_mbx (p : Nat) (f : Port → Port) (s : State) : (setPort p f s).mbx = s.mbx := rfl
@[simp] theorem setPort_pound (p : Nat) (f : Port → Port) (s : State) : (setPort p f s).pound = s.pound := rfl
@[simp] theorem setPort_fcru (p : Nat) (f : Port → Port) (s : State) : (setPort p f s).fcru = s.fcru := rfl
@[simp] theorem setPort_srb (p : Nat) (f : Port → Port) (s : State) : (setPort p f s).srb = s.srb := rfl
@[simp] theorem setPort_tan (p : Nat) (f : Port → Port) (s : State) : (setPort p f s).tan = s.tan := rfl
@[simp] theorem setPort_cap (p : Nat) (f : Port → Port) (s : State) : (setPort p f s).cap = s.cap := rfl
@[simp] theorem setPort_gov (p : Nat) (f : Port → Port) (s : State) : (setPort p f s).gov = s.gov := rfl
@[simp] theorem setPort_jtag (p : Nat) (f : Port → Port) (s : State) : (setPort p f s).jtag = s.jtag := rfl
@[simp] theorem setPort_store (p : Nat) (f : Port → Port) (s : State) : (setPort p f s).store = s.store := rfl
@[simp] theorem setPort_free (p : Nat) (f : Port → Port) (s : State) : (setPort p f s).free = s.free := rfl

@[simp] theorem setMoor_pending (ci : Nat) (f : Moor → Moor) (s : State) : (setMoor ci f s).pending = s.pending := rfl
@[simp] theorem setMoor_now (ci : Nat) (f : Moor → Moor) (s : State) : (setMoor ci f s).now = s.now := rfl
@[simp] theorem setMoor_dev (ci : Nat) (f : Moor → Moor) (s : State) : (setMoor ci f s).dev = s.dev := rfl
@[simp] theorem setMoor_otp (ci : Nat) (f : Moor → Moor) (s : State) : (setMoor ci f s).otp = s.otp := rfl
@[simp] theorem setMoor_time (ci : Nat) (f : Moor → Moor) (s : State) : (setMoor ci f s).time = s.time := rfl
@[simp] theorem setMoor_clk (ci : Nat) (f : Moor → Moor) (s : State) : (setMoor ci f s).clk = s.clk := rfl
@[simp] theorem setMoor_cyc (ci : Nat) (f : Moor → Moor) (s : State) : (setMoor ci f s).cyc = s.cyc := rfl
@[simp] theorem setMoor_cfg (ci : Nat) (f : Moor → Moor) (s : State) : (setMoor ci f s).cfg = s.cfg := rfl
@[simp] theorem setMoor_graph (ci : Nat) (f : Moor → Moor) (s : State) : (setMoor ci f s).graph = s.graph := rfl
@[simp] theorem setMoor_arms (ci : Nat) (f : Moor → Moor) (s : State) : (setMoor ci f s).arms = s.arms := rfl
@[simp] theorem setMoor_obs (ci : Nat) (f : Moor → Moor) (s : State) : (setMoor ci f s).obs = s.obs := rfl
@[simp] theorem setMoor_ports (ci : Nat) (f : Moor → Moor) (s : State) : (setMoor ci f s).ports = s.ports := rfl
@[simp] theorem setMoor_points (ci : Nat) (f : Moor → Moor) (s : State) : (setMoor ci f s).points = s.points := rfl
@[simp] theorem setMoor_ptDiscards (ci : Nat) (f : Moor → Moor) (s : State) : (setMoor ci f s).ptDiscards = s.ptDiscards := rfl
@[simp] theorem setMoor_stn (ci : Nat) (f : Moor → Moor) (s : State) : (setMoor ci f s).stn = s.stn := rfl
@[simp] theorem setMoor_get (ci : Nat) (f : Moor → Moor) (s : State) : (setMoor ci f s).get = s.get := rfl
@[simp] theorem setMoor_getLast (ci : Nat) (f : Moor → Moor) (s : State) : (setMoor ci f s).getLast = s.getLast := rfl
@[simp] theorem setMoor_pul (ci : Nat) (f : Moor → Moor) (s : State) : (setMoor ci f s).pul = s.pul := rfl
@[simp] theorem setMoor_host (ci : Nat) (f : Moor → Moor) (s : State) : (setMoor ci f s).host = s.host := rfl
@[simp] theorem setMoor_mbx (ci : Nat) (f : Moor → Moor) (s : State) : (setMoor ci f s).mbx = s.mbx := rfl
@[simp] theorem setMoor_pound (ci : Nat) (f : Moor → Moor) (s : State) : (setMoor ci f s).pound = s.pound := rfl
@[simp] theorem setMoor_fcru (ci : Nat) (f : Moor → Moor) (s : State) : (setMoor ci f s).fcru = s.fcru := rfl
@[simp] theorem setMoor_srb (ci : Nat) (f : Moor → Moor) (s : State) : (setMoor ci f s).srb = s.srb := rfl
@[simp] theorem setMoor_tan (ci : Nat) (f : Moor → Moor) (s : State) : (setMoor ci f s).tan = s.tan := rfl
@[simp] theorem setMoor_cap (ci : Nat) (f : Moor → Moor) (s : State) : (setMoor ci f s).cap = s.cap := rfl
@[simp] theorem setMoor_gov (ci : Nat) (f : Moor → Moor) (s : State) : (setMoor ci f s).gov = s.gov := rfl
@[simp] theorem setMoor_jtag (ci : Nat) (f : Moor → Moor) (s : State) : (setMoor ci f s).jtag = s.jtag := rfl
@[simp] theorem setMoor_store (ci : Nat) (f : Moor → Moor) (s : State) : (setMoor ci f s).store = s.store := rfl
@[simp] theorem setMoor_free (ci : Nat) (f : Moor → Moor) (s : State) : (setMoor ci f s).free = s.free := rfl

@[simp] theorem setPt_pending (p : Nat) (x : GetPt) (s : State) : (setPt p x s).pending = s.pending := rfl
@[simp] theorem setPt_now (p : Nat) (x : GetPt) (s : State) : (setPt p x s).now = s.now := rfl
@[simp] theorem setPt_dev (p : Nat) (x : GetPt) (s : State) : (setPt p x s).dev = s.dev := rfl
@[simp] theorem setPt_otp (p : Nat) (x : GetPt) (s : State) : (setPt p x s).otp = s.otp := rfl
@[simp] theorem setPt_time (p : Nat) (x : GetPt) (s : State) : (setPt p x s).time = s.time := rfl
@[simp] theorem setPt_clk (p : Nat) (x : GetPt) (s : State) : (setPt p x s).clk = s.clk := rfl
@[simp] theorem setPt_cyc (p : Nat) (x : GetPt) (s : State) : (setPt p x s).cyc = s.cyc := rfl
@[simp] theorem setPt_cfg (p : Nat) (x : GetPt) (s : State) : (setPt p x s).cfg = s.cfg := rfl
@[simp] theorem setPt_graph (p : Nat) (x : GetPt) (s : State) : (setPt p x s).graph = s.graph := rfl
@[simp] theorem setPt_arms (p : Nat) (x : GetPt) (s : State) : (setPt p x s).arms = s.arms := rfl
@[simp] theorem setPt_obs (p : Nat) (x : GetPt) (s : State) : (setPt p x s).obs = s.obs := rfl
@[simp] theorem setPt_ports (p : Nat) (x : GetPt) (s : State) : (setPt p x s).ports = s.ports := rfl
@[simp] theorem setPt_moors (p : Nat) (x : GetPt) (s : State) : (setPt p x s).moors = s.moors := rfl
@[simp] theorem setPt_points (p : Nat) (x : GetPt) (s : State) : (setPt p x s).points = s.points := rfl
@[simp] theorem setPt_ptDiscards (p : Nat) (x : GetPt) (s : State) : (setPt p x s).ptDiscards = s.ptDiscards := rfl
@[simp] theorem setPt_stn (p : Nat) (x : GetPt) (s : State) : (setPt p x s).stn = s.stn := rfl
@[simp] theorem setPt_getLast (p : Nat) (x : GetPt) (s : State) : (setPt p x s).getLast = s.getLast := rfl
@[simp] theorem setPt_pul (p : Nat) (x : GetPt) (s : State) : (setPt p x s).pul = s.pul := rfl
@[simp] theorem setPt_host (p : Nat) (x : GetPt) (s : State) : (setPt p x s).host = s.host := rfl
@[simp] theorem setPt_mbx (p : Nat) (x : GetPt) (s : State) : (setPt p x s).mbx = s.mbx := rfl
@[simp] theorem setPt_pound (p : Nat) (x : GetPt) (s : State) : (setPt p x s).pound = s.pound := rfl
@[simp] theorem setPt_fcru (p : Nat) (x : GetPt) (s : State) : (setPt p x s).fcru = s.fcru := rfl
@[simp] theorem setPt_srb (p : Nat) (x : GetPt) (s : State) : (setPt p x s).srb = s.srb := rfl
@[simp] theorem setPt_tan (p : Nat) (x : GetPt) (s : State) : (setPt p x s).tan = s.tan := rfl
@[simp] theorem setPt_cap (p : Nat) (x : GetPt) (s : State) : (setPt p x s).cap = s.cap := rfl
@[simp] theorem setPt_gov (p : Nat) (x : GetPt) (s : State) : (setPt p x s).gov = s.gov := rfl
@[simp] theorem setPt_jtag (p : Nat) (x : GetPt) (s : State) : (setPt p x s).jtag = s.jtag := rfl
@[simp] theorem setPt_store (p : Nat) (x : GetPt) (s : State) : (setPt p x s).store = s.store := rfl
@[simp] theorem setPt_free (p : Nat) (x : GetPt) (s : State) : (setPt p x s).free = s.free := rfl

@[simp] theorem setDom_pending (i : Nat) (f : TimeDom → TimeDom) (s : State) : (setDom i f s).pending = s.pending := rfl
@[simp] theorem setDom_now (i : Nat) (f : TimeDom → TimeDom) (s : State) : (setDom i f s).now = s.now := rfl
@[simp] theorem setDom_dev (i : Nat) (f : TimeDom → TimeDom) (s : State) : (setDom i f s).dev = s.dev := rfl
@[simp] theorem setDom_otp (i : Nat) (f : TimeDom → TimeDom) (s : State) : (setDom i f s).otp = s.otp := rfl
@[simp] theorem setDom_clk (i : Nat) (f : TimeDom → TimeDom) (s : State) : (setDom i f s).clk = s.clk := rfl
@[simp] theorem setDom_cyc (i : Nat) (f : TimeDom → TimeDom) (s : State) : (setDom i f s).cyc = s.cyc := rfl
@[simp] theorem setDom_cfg (i : Nat) (f : TimeDom → TimeDom) (s : State) : (setDom i f s).cfg = s.cfg := rfl
@[simp] theorem setDom_graph (i : Nat) (f : TimeDom → TimeDom) (s : State) : (setDom i f s).graph = s.graph := rfl
@[simp] theorem setDom_arms (i : Nat) (f : TimeDom → TimeDom) (s : State) : (setDom i f s).arms = s.arms := rfl
@[simp] theorem setDom_obs (i : Nat) (f : TimeDom → TimeDom) (s : State) : (setDom i f s).obs = s.obs := rfl
@[simp] theorem setDom_ports (i : Nat) (f : TimeDom → TimeDom) (s : State) : (setDom i f s).ports = s.ports := rfl
@[simp] theorem setDom_moors (i : Nat) (f : TimeDom → TimeDom) (s : State) : (setDom i f s).moors = s.moors := rfl
@[simp] theorem setDom_points (i : Nat) (f : TimeDom → TimeDom) (s : State) : (setDom i f s).points = s.points := rfl
@[simp] theorem setDom_ptDiscards (i : Nat) (f : TimeDom → TimeDom) (s : State) : (setDom i f s).ptDiscards = s.ptDiscards := rfl
@[simp] theorem setDom_stn (i : Nat) (f : TimeDom → TimeDom) (s : State) : (setDom i f s).stn = s.stn := rfl
@[simp] theorem setDom_get (i : Nat) (f : TimeDom → TimeDom) (s : State) : (setDom i f s).get = s.get := rfl
@[simp] theorem setDom_getLast (i : Nat) (f : TimeDom → TimeDom) (s : State) : (setDom i f s).getLast = s.getLast := rfl
@[simp] theorem setDom_pul (i : Nat) (f : TimeDom → TimeDom) (s : State) : (setDom i f s).pul = s.pul := rfl
@[simp] theorem setDom_host (i : Nat) (f : TimeDom → TimeDom) (s : State) : (setDom i f s).host = s.host := rfl
@[simp] theorem setDom_mbx (i : Nat) (f : TimeDom → TimeDom) (s : State) : (setDom i f s).mbx = s.mbx := rfl
@[simp] theorem setDom_pound (i : Nat) (f : TimeDom → TimeDom) (s : State) : (setDom i f s).pound = s.pound := rfl
@[simp] theorem setDom_fcru (i : Nat) (f : TimeDom → TimeDom) (s : State) : (setDom i f s).fcru = s.fcru := rfl
@[simp] theorem setDom_srb (i : Nat) (f : TimeDom → TimeDom) (s : State) : (setDom i f s).srb = s.srb := rfl
@[simp] theorem setDom_tan (i : Nat) (f : TimeDom → TimeDom) (s : State) : (setDom i f s).tan = s.tan := rfl
@[simp] theorem setDom_cap (i : Nat) (f : TimeDom → TimeDom) (s : State) : (setDom i f s).cap = s.cap := rfl
@[simp] theorem setDom_gov (i : Nat) (f : TimeDom → TimeDom) (s : State) : (setDom i f s).gov = s.gov := rfl
@[simp] theorem setDom_jtag (i : Nat) (f : TimeDom → TimeDom) (s : State) : (setDom i f s).jtag = s.jtag := rfl
@[simp] theorem setDom_store (i : Nat) (f : TimeDom → TimeDom) (s : State) : (setDom i f s).store = s.store := rfl
@[simp] theorem setDom_free (i : Nat) (f : TimeDom → TimeDom) (s : State) : (setDom i f s).free = s.free := rfl

@[simp] theorem udpSend_pending (b : Bind) (k : UdpKind) (st : Status) (n : Nat) (sq : Word) (bs : List Byte) (s : State) : (udpSend b k st n sq bs s).pending = s.pending := rfl
@[simp] theorem udpSend_now (b : Bind) (k : UdpKind) (st : Status) (n : Nat) (sq : Word) (bs : List Byte) (s : State) : (udpSend b k st n sq bs s).now = s.now := rfl
@[simp] theorem udpSend_dev (b : Bind) (k : UdpKind) (st : Status) (n : Nat) (sq : Word) (bs : List Byte) (s : State) : (udpSend b k st n sq bs s).dev = s.dev := rfl
@[simp] theorem udpSend_otp (b : Bind) (k : UdpKind) (st : Status) (n : Nat) (sq : Word) (bs : List Byte) (s : State) : (udpSend b k st n sq bs s).otp = s.otp := rfl
@[simp] theorem udpSend_time (b : Bind) (k : UdpKind) (st : Status) (n : Nat) (sq : Word) (bs : List Byte) (s : State) : (udpSend b k st n sq bs s).time = s.time := rfl
@[simp] theorem udpSend_clk (b : Bind) (k : UdpKind) (st : Status) (n : Nat) (sq : Word) (bs : List Byte) (s : State) : (udpSend b k st n sq bs s).clk = s.clk := rfl
@[simp] theorem udpSend_cyc (b : Bind) (k : UdpKind) (st : Status) (n : Nat) (sq : Word) (bs : List Byte) (s : State) : (udpSend b k st n sq bs s).cyc = s.cyc := rfl
@[simp] theorem udpSend_cfg (b : Bind) (k : UdpKind) (st : Status) (n : Nat) (sq : Word) (bs : List Byte) (s : State) : (udpSend b k st n sq bs s).cfg = s.cfg := rfl
@[simp] theorem udpSend_graph (b : Bind) (k : UdpKind) (st : Status) (n : Nat) (sq : Word) (bs : List Byte) (s : State) : (udpSend b k st n sq bs s).graph = s.graph := rfl
@[simp] theorem udpSend_arms (b : Bind) (k : UdpKind) (st : Status) (n : Nat) (sq : Word) (bs : List Byte) (s : State) : (udpSend b k st n sq bs s).arms = s.arms := rfl
@[simp] theorem udpSend_obs (b : Bind) (k : UdpKind) (st : Status) (n : Nat) (sq : Word) (bs : List Byte) (s : State) : (udpSend b k st n sq bs s).obs = s.obs := rfl
@[simp] theorem udpSend_ports (b : Bind) (k : UdpKind) (st : Status) (n : Nat) (sq : Word) (bs : List Byte) (s : State) : (udpSend b k st n sq bs s).ports = s.ports := rfl
@[simp] theorem udpSend_moors (b : Bind) (k : UdpKind) (st : Status) (n : Nat) (sq : Word) (bs : List Byte) (s : State) : (udpSend b k st n sq bs s).moors = s.moors := rfl
@[simp] theorem udpSend_points (b : Bind) (k : UdpKind) (st : Status) (n : Nat) (sq : Word) (bs : List Byte) (s : State) : (udpSend b k st n sq bs s).points = s.points := rfl
@[simp] theorem udpSend_ptDiscards (b : Bind) (k : UdpKind) (st : Status) (n : Nat) (sq : Word) (bs : List Byte) (s : State) : (udpSend b k st n sq bs s).ptDiscards = s.ptDiscards := rfl
@[simp] theorem udpSend_get (b : Bind) (k : UdpKind) (st : Status) (n : Nat) (sq : Word) (bs : List Byte) (s : State) : (udpSend b k st n sq bs s).get = s.get := rfl
@[simp] theorem udpSend_getLast (b : Bind) (k : UdpKind) (st : Status) (n : Nat) (sq : Word) (bs : List Byte) (s : State) : (udpSend b k st n sq bs s).getLast = s.getLast := rfl
@[simp] theorem udpSend_pul (b : Bind) (k : UdpKind) (st : Status) (n : Nat) (sq : Word) (bs : List Byte) (s : State) : (udpSend b k st n sq bs s).pul = s.pul := rfl
@[simp] theorem udpSend_host (b : Bind) (k : UdpKind) (st : Status) (n : Nat) (sq : Word) (bs : List Byte) (s : State) : (udpSend b k st n sq bs s).host = s.host := rfl
@[simp] theorem udpSend_mbx (b : Bind) (k : UdpKind) (st : Status) (n : Nat) (sq : Word) (bs : List Byte) (s : State) : (udpSend b k st n sq bs s).mbx = s.mbx := rfl
@[simp] theorem udpSend_pound (b : Bind) (k : UdpKind) (st : Status) (n : Nat) (sq : Word) (bs : List Byte) (s : State) : (udpSend b k st n sq bs s).pound = s.pound := rfl
@[simp] theorem udpSend_fcru (b : Bind) (k : UdpKind) (st : Status) (n : Nat) (sq : Word) (bs : List Byte) (s : State) : (udpSend b k st n sq bs s).fcru = s.fcru := rfl
@[simp] theorem udpSend_srb (b : Bind) (k : UdpKind) (st : Status) (n : Nat) (sq : Word) (bs : List Byte) (s : State) : (udpSend b k st n sq bs s).srb = s.srb := rfl
@[simp] theorem udpSend_tan (b : Bind) (k : UdpKind) (st : Status) (n : Nat) (sq : Word) (bs : List Byte) (s : State) : (udpSend b k st n sq bs s).tan = s.tan := rfl
@[simp] theorem udpSend_cap (b : Bind) (k : UdpKind) (st : Status) (n : Nat) (sq : Word) (bs : List Byte) (s : State) : (udpSend b k st n sq bs s).cap = s.cap := rfl
@[simp] theorem udpSend_gov (b : Bind) (k : UdpKind) (st : Status) (n : Nat) (sq : Word) (bs : List Byte) (s : State) : (udpSend b k st n sq bs s).gov = s.gov := rfl
@[simp] theorem udpSend_jtag (b : Bind) (k : UdpKind) (st : Status) (n : Nat) (sq : Word) (bs : List Byte) (s : State) : (udpSend b k st n sq bs s).jtag = s.jtag := rfl
@[simp] theorem udpSend_store (b : Bind) (k : UdpKind) (st : Status) (n : Nat) (sq : Word) (bs : List Byte) (s : State) : (udpSend b k st n sq bs s).store = s.store := rfl
@[simp] theorem udpSend_free (b : Bind) (k : UdpKind) (st : Status) (n : Nat) (sq : Word) (bs : List Byte) (s : State) : (udpSend b k st n sq bs s).free = s.free := rfl

@[simp] theorem queueMsg_pending (n : Nat) (m : Msg) (s : State) : (queueMsg n m s).pending = s.pending := rfl
@[simp] theorem queueMsg_now (n : Nat) (m : Msg) (s : State) : (queueMsg n m s).now = s.now := rfl
@[simp] theorem queueMsg_dev (n : Nat) (m : Msg) (s : State) : (queueMsg n m s).dev = s.dev := rfl
@[simp] theorem queueMsg_otp (n : Nat) (m : Msg) (s : State) : (queueMsg n m s).otp = s.otp := rfl
@[simp] theorem queueMsg_time (n : Nat) (m : Msg) (s : State) : (queueMsg n m s).time = s.time := rfl
@[simp] theorem queueMsg_clk (n : Nat) (m : Msg) (s : State) : (queueMsg n m s).clk = s.clk := rfl
@[simp] theorem queueMsg_cyc (n : Nat) (m : Msg) (s : State) : (queueMsg n m s).cyc = s.cyc := rfl
@[simp] theorem queueMsg_cfg (n : Nat) (m : Msg) (s : State) : (queueMsg n m s).cfg = s.cfg := rfl
@[simp] theorem queueMsg_graph (n : Nat) (m : Msg) (s : State) : (queueMsg n m s).graph = s.graph := rfl
@[simp] theorem queueMsg_arms (n : Nat) (m : Msg) (s : State) : (queueMsg n m s).arms = s.arms := rfl
@[simp] theorem queueMsg_obs (n : Nat) (m : Msg) (s : State) : (queueMsg n m s).obs = s.obs := rfl
@[simp] theorem queueMsg_ports (n : Nat) (m : Msg) (s : State) : (queueMsg n m s).ports = s.ports := rfl
@[simp] theorem queueMsg_moors (n : Nat) (m : Msg) (s : State) : (queueMsg n m s).moors = s.moors := rfl
@[simp] theorem queueMsg_points (n : Nat) (m : Msg) (s : State) : (queueMsg n m s).points = s.points := rfl
@[simp] theorem queueMsg_ptDiscards (n : Nat) (m : Msg) (s : State) : (queueMsg n m s).ptDiscards = s.ptDiscards := rfl
@[simp] theorem queueMsg_stn (n : Nat) (m : Msg) (s : State) : (queueMsg n m s).stn = s.stn := rfl
@[simp] theorem queueMsg_get (n : Nat) (m : Msg) (s : State) : (queueMsg n m s).get = s.get := rfl
@[simp] theorem queueMsg_getLast (n : Nat) (m : Msg) (s : State) : (queueMsg n m s).getLast = s.getLast := rfl
@[simp] theorem queueMsg_pul (n : Nat) (m : Msg) (s : State) : (queueMsg n m s).pul = s.pul := rfl
@[simp] theorem queueMsg_host (n : Nat) (m : Msg) (s : State) : (queueMsg n m s).host = s.host := rfl
@[simp] theorem queueMsg_pound (n : Nat) (m : Msg) (s : State) : (queueMsg n m s).pound = s.pound := rfl
@[simp] theorem queueMsg_fcru (n : Nat) (m : Msg) (s : State) : (queueMsg n m s).fcru = s.fcru := rfl
@[simp] theorem queueMsg_srb (n : Nat) (m : Msg) (s : State) : (queueMsg n m s).srb = s.srb := rfl
@[simp] theorem queueMsg_tan (n : Nat) (m : Msg) (s : State) : (queueMsg n m s).tan = s.tan := rfl
@[simp] theorem queueMsg_cap (n : Nat) (m : Msg) (s : State) : (queueMsg n m s).cap = s.cap := rfl
@[simp] theorem queueMsg_gov (n : Nat) (m : Msg) (s : State) : (queueMsg n m s).gov = s.gov := rfl
@[simp] theorem queueMsg_jtag (n : Nat) (m : Msg) (s : State) : (queueMsg n m s).jtag = s.jtag := rfl
@[simp] theorem queueMsg_store (n : Nat) (m : Msg) (s : State) : (queueMsg n m s).store = s.store := rfl
@[simp] theorem queueMsg_free (n : Nat) (m : Msg) (s : State) : (queueMsg n m s).free = s.free := rfl

@[simp] theorem respond_pending (n : Nat) (tag : BitVec 16) (op : Nat) (st : Status) (body : List Byte) (s : State) : (respond n tag op st body s).pending = s.pending := rfl
@[simp] theorem respond_now (n : Nat) (tag : BitVec 16) (op : Nat) (st : Status) (body : List Byte) (s : State) : (respond n tag op st body s).now = s.now := rfl
@[simp] theorem respond_dev (n : Nat) (tag : BitVec 16) (op : Nat) (st : Status) (body : List Byte) (s : State) : (respond n tag op st body s).dev = s.dev := rfl
@[simp] theorem respond_otp (n : Nat) (tag : BitVec 16) (op : Nat) (st : Status) (body : List Byte) (s : State) : (respond n tag op st body s).otp = s.otp := rfl
@[simp] theorem respond_time (n : Nat) (tag : BitVec 16) (op : Nat) (st : Status) (body : List Byte) (s : State) : (respond n tag op st body s).time = s.time := rfl
@[simp] theorem respond_clk (n : Nat) (tag : BitVec 16) (op : Nat) (st : Status) (body : List Byte) (s : State) : (respond n tag op st body s).clk = s.clk := rfl
@[simp] theorem respond_cyc (n : Nat) (tag : BitVec 16) (op : Nat) (st : Status) (body : List Byte) (s : State) : (respond n tag op st body s).cyc = s.cyc := rfl
@[simp] theorem respond_cfg (n : Nat) (tag : BitVec 16) (op : Nat) (st : Status) (body : List Byte) (s : State) : (respond n tag op st body s).cfg = s.cfg := rfl
@[simp] theorem respond_graph (n : Nat) (tag : BitVec 16) (op : Nat) (st : Status) (body : List Byte) (s : State) : (respond n tag op st body s).graph = s.graph := rfl
@[simp] theorem respond_arms (n : Nat) (tag : BitVec 16) (op : Nat) (st : Status) (body : List Byte) (s : State) : (respond n tag op st body s).arms = s.arms := rfl
@[simp] theorem respond_obs (n : Nat) (tag : BitVec 16) (op : Nat) (st : Status) (body : List Byte) (s : State) : (respond n tag op st body s).obs = s.obs := rfl
@[simp] theorem respond_ports (n : Nat) (tag : BitVec 16) (op : Nat) (st : Status) (body : List Byte) (s : State) : (respond n tag op st body s).ports = s.ports := rfl
@[simp] theorem respond_moors (n : Nat) (tag : BitVec 16) (op : Nat) (st : Status) (body : List Byte) (s : State) : (respond n tag op st body s).moors = s.moors := rfl
@[simp] theorem respond_points (n : Nat) (tag : BitVec 16) (op : Nat) (st : Status) (body : List Byte) (s : State) : (respond n tag op st body s).points = s.points := rfl
@[simp] theorem respond_ptDiscards (n : Nat) (tag : BitVec 16) (op : Nat) (st : Status) (body : List Byte) (s : State) : (respond n tag op st body s).ptDiscards = s.ptDiscards := rfl
@[simp] theorem respond_stn (n : Nat) (tag : BitVec 16) (op : Nat) (st : Status) (body : List Byte) (s : State) : (respond n tag op st body s).stn = s.stn := rfl
@[simp] theorem respond_get (n : Nat) (tag : BitVec 16) (op : Nat) (st : Status) (body : List Byte) (s : State) : (respond n tag op st body s).get = s.get := rfl
@[simp] theorem respond_getLast (n : Nat) (tag : BitVec 16) (op : Nat) (st : Status) (body : List Byte) (s : State) : (respond n tag op st body s).getLast = s.getLast := rfl
@[simp] theorem respond_pul (n : Nat) (tag : BitVec 16) (op : Nat) (st : Status) (body : List Byte) (s : State) : (respond n tag op st body s).pul = s.pul := rfl
@[simp] theorem respond_host (n : Nat) (tag : BitVec 16) (op : Nat) (st : Status) (body : List Byte) (s : State) : (respond n tag op st body s).host = s.host := rfl
@[simp] theorem respond_pound (n : Nat) (tag : BitVec 16) (op : Nat) (st : Status) (body : List Byte) (s : State) : (respond n tag op st body s).pound = s.pound := rfl
@[simp] theorem respond_fcru (n : Nat) (tag : BitVec 16) (op : Nat) (st : Status) (body : List Byte) (s : State) : (respond n tag op st body s).fcru = s.fcru := rfl
@[simp] theorem respond_srb (n : Nat) (tag : BitVec 16) (op : Nat) (st : Status) (body : List Byte) (s : State) : (respond n tag op st body s).srb = s.srb := rfl
@[simp] theorem respond_tan (n : Nat) (tag : BitVec 16) (op : Nat) (st : Status) (body : List Byte) (s : State) : (respond n tag op st body s).tan = s.tan := rfl
@[simp] theorem respond_cap (n : Nat) (tag : BitVec 16) (op : Nat) (st : Status) (body : List Byte) (s : State) : (respond n tag op st body s).cap = s.cap := rfl
@[simp] theorem respond_gov (n : Nat) (tag : BitVec 16) (op : Nat) (st : Status) (body : List Byte) (s : State) : (respond n tag op st body s).gov = s.gov := rfl
@[simp] theorem respond_jtag (n : Nat) (tag : BitVec 16) (op : Nat) (st : Status) (body : List Byte) (s : State) : (respond n tag op st body s).jtag = s.jtag := rfl
@[simp] theorem respond_store (n : Nat) (tag : BitVec 16) (op : Nat) (st : Status) (body : List Byte) (s : State) : (respond n tag op st body s).store = s.store := rfl
@[simp] theorem respond_free (n : Nat) (tag : BitVec 16) (op : Nat) (st : Status) (body : List Byte) (s : State) : (respond n tag op st body s).free = s.free := rfl

@[simp] theorem dropResponse_pending (n : Nat) (s : State) : (dropResponse n s).pending = s.pending := rfl
@[simp] theorem dropResponse_now (n : Nat) (s : State) : (dropResponse n s).now = s.now := rfl
@[simp] theorem dropResponse_dev (n : Nat) (s : State) : (dropResponse n s).dev = s.dev := rfl
@[simp] theorem dropResponse_otp (n : Nat) (s : State) : (dropResponse n s).otp = s.otp := rfl
@[simp] theorem dropResponse_time (n : Nat) (s : State) : (dropResponse n s).time = s.time := rfl
@[simp] theorem dropResponse_clk (n : Nat) (s : State) : (dropResponse n s).clk = s.clk := rfl
@[simp] theorem dropResponse_cyc (n : Nat) (s : State) : (dropResponse n s).cyc = s.cyc := rfl
@[simp] theorem dropResponse_cfg (n : Nat) (s : State) : (dropResponse n s).cfg = s.cfg := rfl
@[simp] theorem dropResponse_graph (n : Nat) (s : State) : (dropResponse n s).graph = s.graph := rfl
@[simp] theorem dropResponse_arms (n : Nat) (s : State) : (dropResponse n s).arms = s.arms := rfl
@[simp] theorem dropResponse_obs (n : Nat) (s : State) : (dropResponse n s).obs = s.obs := rfl
@[simp] theorem dropResponse_ports (n : Nat) (s : State) : (dropResponse n s).ports = s.ports := rfl
@[simp] theorem dropResponse_moors (n : Nat) (s : State) : (dropResponse n s).moors = s.moors := rfl
@[simp] theorem dropResponse_points (n : Nat) (s : State) : (dropResponse n s).points = s.points := rfl
@[simp] theorem dropResponse_ptDiscards (n : Nat) (s : State) : (dropResponse n s).ptDiscards = s.ptDiscards := rfl
@[simp] theorem dropResponse_stn (n : Nat) (s : State) : (dropResponse n s).stn = s.stn := rfl
@[simp] theorem dropResponse_get (n : Nat) (s : State) : (dropResponse n s).get = s.get := rfl
@[simp] theorem dropResponse_getLast (n : Nat) (s : State) : (dropResponse n s).getLast = s.getLast := rfl
@[simp] theorem dropResponse_pul (n : Nat) (s : State) : (dropResponse n s).pul = s.pul := rfl
@[simp] theorem dropResponse_host (n : Nat) (s : State) : (dropResponse n s).host = s.host := rfl
@[simp] theorem dropResponse_pound (n : Nat) (s : State) : (dropResponse n s).pound = s.pound := rfl
@[simp] theorem dropResponse_fcru (n : Nat) (s : State) : (dropResponse n s).fcru = s.fcru := rfl
@[simp] theorem dropResponse_srb (n : Nat) (s : State) : (dropResponse n s).srb = s.srb := rfl
@[simp] theorem dropResponse_tan (n : Nat) (s : State) : (dropResponse n s).tan = s.tan := rfl
@[simp] theorem dropResponse_cap (n : Nat) (s : State) : (dropResponse n s).cap = s.cap := rfl
@[simp] theorem dropResponse_gov (n : Nat) (s : State) : (dropResponse n s).gov = s.gov := rfl
@[simp] theorem dropResponse_jtag (n : Nat) (s : State) : (dropResponse n s).jtag = s.jtag := rfl
@[simp] theorem dropResponse_store (n : Nat) (s : State) : (dropResponse n s).store = s.store := rfl
@[simp] theorem dropResponse_free (n : Nat) (s : State) : (dropResponse n s).free = s.free := rfl

@[simp] theorem advance_pending (n : Nat) (s : State) : (advance n s).pending = s.pending := rfl
@[simp] theorem advance_dev (n : Nat) (s : State) : (advance n s).dev = s.dev := rfl
@[simp] theorem advance_otp (n : Nat) (s : State) : (advance n s).otp = s.otp := rfl
@[simp] theorem advance_clk (n : Nat) (s : State) : (advance n s).clk = s.clk := rfl
@[simp] theorem advance_cyc (n : Nat) (s : State) : (advance n s).cyc = s.cyc := rfl
@[simp] theorem advance_cfg (n : Nat) (s : State) : (advance n s).cfg = s.cfg := rfl
@[simp] theorem advance_graph (n : Nat) (s : State) : (advance n s).graph = s.graph := rfl
@[simp] theorem advance_arms (n : Nat) (s : State) : (advance n s).arms = s.arms := rfl
@[simp] theorem advance_obs (n : Nat) (s : State) : (advance n s).obs = s.obs := rfl
@[simp] theorem advance_ports (n : Nat) (s : State) : (advance n s).ports = s.ports := rfl
@[simp] theorem advance_moors (n : Nat) (s : State) : (advance n s).moors = s.moors := rfl
@[simp] theorem advance_points (n : Nat) (s : State) : (advance n s).points = s.points := rfl
@[simp] theorem advance_ptDiscards (n : Nat) (s : State) : (advance n s).ptDiscards = s.ptDiscards := rfl
@[simp] theorem advance_stn (n : Nat) (s : State) : (advance n s).stn = s.stn := rfl
@[simp] theorem advance_get (n : Nat) (s : State) : (advance n s).get = s.get := rfl
@[simp] theorem advance_getLast (n : Nat) (s : State) : (advance n s).getLast = s.getLast := rfl
@[simp] theorem advance_pul (n : Nat) (s : State) : (advance n s).pul = s.pul := rfl
@[simp] theorem advance_host (n : Nat) (s : State) : (advance n s).host = s.host := rfl
@[simp] theorem advance_mbx (n : Nat) (s : State) : (advance n s).mbx = s.mbx := rfl
@[simp] theorem advance_pound (n : Nat) (s : State) : (advance n s).pound = s.pound := rfl
@[simp] theorem advance_fcru (n : Nat) (s : State) : (advance n s).fcru = s.fcru := rfl
@[simp] theorem advance_srb (n : Nat) (s : State) : (advance n s).srb = s.srb := rfl
@[simp] theorem advance_tan (n : Nat) (s : State) : (advance n s).tan = s.tan := rfl
@[simp] theorem advance_cap (n : Nat) (s : State) : (advance n s).cap = s.cap := rfl
@[simp] theorem advance_gov (n : Nat) (s : State) : (advance n s).gov = s.gov := rfl
@[simp] theorem advance_jtag (n : Nat) (s : State) : (advance n s).jtag = s.jtag := rfl
@[simp] theorem advance_store (n : Nat) (s : State) : (advance n s).store = s.store := rfl
@[simp] theorem advance_free (n : Nat) (s : State) : (advance n s).free = s.free := rfl

@[simp] theorem jtagSelect_pending (k : Nat) (tdo : List Byte) (s : State) : (jtagSelect k tdo s).pending = s.pending := rfl
@[simp] theorem jtagSelect_now (k : Nat) (tdo : List Byte) (s : State) : (jtagSelect k tdo s).now = s.now := rfl
@[simp] theorem jtagSelect_dev (k : Nat) (tdo : List Byte) (s : State) : (jtagSelect k tdo s).dev = s.dev := rfl
@[simp] theorem jtagSelect_otp (k : Nat) (tdo : List Byte) (s : State) : (jtagSelect k tdo s).otp = s.otp := rfl
@[simp] theorem jtagSelect_time (k : Nat) (tdo : List Byte) (s : State) : (jtagSelect k tdo s).time = s.time := rfl
@[simp] theorem jtagSelect_clk (k : Nat) (tdo : List Byte) (s : State) : (jtagSelect k tdo s).clk = s.clk := rfl
@[simp] theorem jtagSelect_cyc (k : Nat) (tdo : List Byte) (s : State) : (jtagSelect k tdo s).cyc = s.cyc := rfl
@[simp] theorem jtagSelect_cfg (k : Nat) (tdo : List Byte) (s : State) : (jtagSelect k tdo s).cfg = s.cfg := rfl
@[simp] theorem jtagSelect_graph (k : Nat) (tdo : List Byte) (s : State) : (jtagSelect k tdo s).graph = s.graph := rfl
@[simp] theorem jtagSelect_arms (k : Nat) (tdo : List Byte) (s : State) : (jtagSelect k tdo s).arms = s.arms := rfl
@[simp] theorem jtagSelect_obs (k : Nat) (tdo : List Byte) (s : State) : (jtagSelect k tdo s).obs = s.obs := rfl
@[simp] theorem jtagSelect_ports (k : Nat) (tdo : List Byte) (s : State) : (jtagSelect k tdo s).ports = s.ports := rfl
@[simp] theorem jtagSelect_moors (k : Nat) (tdo : List Byte) (s : State) : (jtagSelect k tdo s).moors = s.moors := rfl
@[simp] theorem jtagSelect_points (k : Nat) (tdo : List Byte) (s : State) : (jtagSelect k tdo s).points = s.points := rfl
@[simp] theorem jtagSelect_ptDiscards (k : Nat) (tdo : List Byte) (s : State) : (jtagSelect k tdo s).ptDiscards = s.ptDiscards := rfl
@[simp] theorem jtagSelect_stn (k : Nat) (tdo : List Byte) (s : State) : (jtagSelect k tdo s).stn = s.stn := rfl
@[simp] theorem jtagSelect_get (k : Nat) (tdo : List Byte) (s : State) : (jtagSelect k tdo s).get = s.get := rfl
@[simp] theorem jtagSelect_getLast (k : Nat) (tdo : List Byte) (s : State) : (jtagSelect k tdo s).getLast = s.getLast := rfl
@[simp] theorem jtagSelect_pul (k : Nat) (tdo : List Byte) (s : State) : (jtagSelect k tdo s).pul = s.pul := rfl
@[simp] theorem jtagSelect_host (k : Nat) (tdo : List Byte) (s : State) : (jtagSelect k tdo s).host = s.host := rfl
@[simp] theorem jtagSelect_mbx (k : Nat) (tdo : List Byte) (s : State) : (jtagSelect k tdo s).mbx = s.mbx := rfl
@[simp] theorem jtagSelect_pound (k : Nat) (tdo : List Byte) (s : State) : (jtagSelect k tdo s).pound = s.pound := rfl
@[simp] theorem jtagSelect_fcru (k : Nat) (tdo : List Byte) (s : State) : (jtagSelect k tdo s).fcru = s.fcru := rfl
@[simp] theorem jtagSelect_srb (k : Nat) (tdo : List Byte) (s : State) : (jtagSelect k tdo s).srb = s.srb := rfl
@[simp] theorem jtagSelect_tan (k : Nat) (tdo : List Byte) (s : State) : (jtagSelect k tdo s).tan = s.tan := rfl
@[simp] theorem jtagSelect_cap (k : Nat) (tdo : List Byte) (s : State) : (jtagSelect k tdo s).cap = s.cap := rfl
@[simp] theorem jtagSelect_gov (k : Nat) (tdo : List Byte) (s : State) : (jtagSelect k tdo s).gov = s.gov := rfl
@[simp] theorem jtagSelect_store (k : Nat) (tdo : List Byte) (s : State) : (jtagSelect k tdo s).store = s.store := rfl
@[simp] theorem jtagSelect_free (k : Nat) (tdo : List Byte) (s : State) : (jtagSelect k tdo s).free = s.free := rfl

@[simp] theorem spiSend_pending (bs : List Byte) (s : State) : (spiSend bs s).pending = s.pending := rfl
@[simp] theorem spiSend_now (bs : List Byte) (s : State) : (spiSend bs s).now = s.now := rfl
@[simp] theorem spiSend_dev (bs : List Byte) (s : State) : (spiSend bs s).dev = s.dev := rfl
@[simp] theorem spiSend_otp (bs : List Byte) (s : State) : (spiSend bs s).otp = s.otp := rfl
@[simp] theorem spiSend_time (bs : List Byte) (s : State) : (spiSend bs s).time = s.time := rfl
@[simp] theorem spiSend_clk (bs : List Byte) (s : State) : (spiSend bs s).clk = s.clk := rfl
@[simp] theorem spiSend_cyc (bs : List Byte) (s : State) : (spiSend bs s).cyc = s.cyc := rfl
@[simp] theorem spiSend_cfg (bs : List Byte) (s : State) : (spiSend bs s).cfg = s.cfg := rfl
@[simp] theorem spiSend_graph (bs : List Byte) (s : State) : (spiSend bs s).graph = s.graph := rfl
@[simp] theorem spiSend_arms (bs : List Byte) (s : State) : (spiSend bs s).arms = s.arms := rfl
@[simp] theorem spiSend_obs (bs : List Byte) (s : State) : (spiSend bs s).obs = s.obs := rfl
@[simp] theorem spiSend_ports (bs : List Byte) (s : State) : (spiSend bs s).ports = s.ports := rfl
@[simp] theorem spiSend_moors (bs : List Byte) (s : State) : (spiSend bs s).moors = s.moors := rfl
@[simp] theorem spiSend_points (bs : List Byte) (s : State) : (spiSend bs s).points = s.points := rfl
@[simp] theorem spiSend_ptDiscards (bs : List Byte) (s : State) : (spiSend bs s).ptDiscards = s.ptDiscards := rfl
@[simp] theorem spiSend_stn (bs : List Byte) (s : State) : (spiSend bs s).stn = s.stn := rfl
@[simp] theorem spiSend_get (bs : List Byte) (s : State) : (spiSend bs s).get = s.get := rfl
@[simp] theorem spiSend_getLast (bs : List Byte) (s : State) : (spiSend bs s).getLast = s.getLast := rfl
@[simp] theorem spiSend_pul (bs : List Byte) (s : State) : (spiSend bs s).pul = s.pul := rfl
@[simp] theorem spiSend_mbx (bs : List Byte) (s : State) : (spiSend bs s).mbx = s.mbx := rfl
@[simp] theorem spiSend_pound (bs : List Byte) (s : State) : (spiSend bs s).pound = s.pound := rfl
@[simp] theorem spiSend_fcru (bs : List Byte) (s : State) : (spiSend bs s).fcru = s.fcru := rfl
@[simp] theorem spiSend_srb (bs : List Byte) (s : State) : (spiSend bs s).srb = s.srb := rfl
@[simp] theorem spiSend_tan (bs : List Byte) (s : State) : (spiSend bs s).tan = s.tan := rfl
@[simp] theorem spiSend_cap (bs : List Byte) (s : State) : (spiSend bs s).cap = s.cap := rfl
@[simp] theorem spiSend_gov (bs : List Byte) (s : State) : (spiSend bs s).gov = s.gov := rfl
@[simp] theorem spiSend_jtag (bs : List Byte) (s : State) : (spiSend bs s).jtag = s.jtag := rfl
@[simp] theorem spiSend_store (bs : List Byte) (s : State) : (spiSend bs s).store = s.store := rfl
@[simp] theorem spiSend_free (bs : List Byte) (s : State) : (spiSend bs s).free = s.free := rfl

@[simp] theorem setHold_pending (on : Bool) (s : State) : (setHold on s).pending = s.pending := rfl
@[simp] theorem setHold_now (on : Bool) (s : State) : (setHold on s).now = s.now := rfl
@[simp] theorem setHold_dev (on : Bool) (s : State) : (setHold on s).dev = s.dev := rfl
@[simp] theorem setHold_otp (on : Bool) (s : State) : (setHold on s).otp = s.otp := rfl
@[simp] theorem setHold_time (on : Bool) (s : State) : (setHold on s).time = s.time := rfl
@[simp] theorem setHold_clk (on : Bool) (s : State) : (setHold on s).clk = s.clk := rfl
@[simp] theorem setHold_cyc (on : Bool) (s : State) : (setHold on s).cyc = s.cyc := rfl
@[simp] theorem setHold_cfg (on : Bool) (s : State) : (setHold on s).cfg = s.cfg := rfl
@[simp] theorem setHold_graph (on : Bool) (s : State) : (setHold on s).graph = s.graph := rfl
@[simp] theorem setHold_arms (on : Bool) (s : State) : (setHold on s).arms = s.arms := rfl
@[simp] theorem setHold_ports (on : Bool) (s : State) : (setHold on s).ports = s.ports := rfl
@[simp] theorem setHold_moors (on : Bool) (s : State) : (setHold on s).moors = s.moors := rfl
@[simp] theorem setHold_points (on : Bool) (s : State) : (setHold on s).points = s.points := rfl
@[simp] theorem setHold_ptDiscards (on : Bool) (s : State) : (setHold on s).ptDiscards = s.ptDiscards := rfl
@[simp] theorem setHold_stn (on : Bool) (s : State) : (setHold on s).stn = s.stn := rfl
@[simp] theorem setHold_get (on : Bool) (s : State) : (setHold on s).get = s.get := rfl
@[simp] theorem setHold_getLast (on : Bool) (s : State) : (setHold on s).getLast = s.getLast := rfl
@[simp] theorem setHold_pul (on : Bool) (s : State) : (setHold on s).pul = s.pul := rfl
@[simp] theorem setHold_host (on : Bool) (s : State) : (setHold on s).host = s.host := rfl
@[simp] theorem setHold_mbx (on : Bool) (s : State) : (setHold on s).mbx = s.mbx := rfl
@[simp] theorem setHold_pound (on : Bool) (s : State) : (setHold on s).pound = s.pound := rfl
@[simp] theorem setHold_fcru (on : Bool) (s : State) : (setHold on s).fcru = s.fcru := rfl
@[simp] theorem setHold_srb (on : Bool) (s : State) : (setHold on s).srb = s.srb := rfl
@[simp] theorem setHold_tan (on : Bool) (s : State) : (setHold on s).tan = s.tan := rfl
@[simp] theorem setHold_cap (on : Bool) (s : State) : (setHold on s).cap = s.cap := rfl
@[simp] theorem setHold_gov (on : Bool) (s : State) : (setHold on s).gov = s.gov := rfl
@[simp] theorem setHold_jtag (on : Bool) (s : State) : (setHold on s).jtag = s.jtag := rfl
@[simp] theorem setHold_store (on : Bool) (s : State) : (setHold on s).store = s.store := rfl
@[simp] theorem setHold_free (on : Bool) (s : State) : (setHold on s).free = s.free := rfl

/-! ### Messages, events and vectors -/

/-- `eventTag` changes mbx alone. -/
theorem eventTag_rest (o : Option (Nat × Word)) (tg : BitVec 16) (c b : Nat) (body : List Byte) (s : State) : { eventTag o tg c b body s with mbx := s.mbx } = s := by
  unfold eventTag
  split
  · rfl
  · refine foldl_onlyMail _ _ _ (fun x a => ?_)
    dsimp only
    (repeat' split) <;> rfl
@[simp] theorem eventTag_pending (o : Option (Nat × Word)) (tg : BitVec 16) (c b : Nat) (body : List Byte) (s : State) : (eventTag o tg c b body s).pending = s.pending := (congrArg State.pending (eventTag_rest o tg c b body s) :)
@[simp] theorem eventTag_now (o : Option (Nat × Word)) (tg : BitVec 16) (c b : Nat) (body : List Byte) (s : State) : (eventTag o tg c b body s).now = s.now := (congrArg State.now (eventTag_rest o tg c b body s) :)
@[simp] theorem eventTag_dev (o : Option (Nat × Word)) (tg : BitVec 16) (c b : Nat) (body : List Byte) (s : State) : (eventTag o tg c b body s).dev = s.dev := (congrArg State.dev (eventTag_rest o tg c b body s) :)
@[simp] theorem eventTag_otp (o : Option (Nat × Word)) (tg : BitVec 16) (c b : Nat) (body : List Byte) (s : State) : (eventTag o tg c b body s).otp = s.otp := (congrArg State.otp (eventTag_rest o tg c b body s) :)
@[simp] theorem eventTag_time (o : Option (Nat × Word)) (tg : BitVec 16) (c b : Nat) (body : List Byte) (s : State) : (eventTag o tg c b body s).time = s.time := (congrArg State.time (eventTag_rest o tg c b body s) :)
@[simp] theorem eventTag_clk (o : Option (Nat × Word)) (tg : BitVec 16) (c b : Nat) (body : List Byte) (s : State) : (eventTag o tg c b body s).clk = s.clk := (congrArg State.clk (eventTag_rest o tg c b body s) :)
@[simp] theorem eventTag_cyc (o : Option (Nat × Word)) (tg : BitVec 16) (c b : Nat) (body : List Byte) (s : State) : (eventTag o tg c b body s).cyc = s.cyc := (congrArg State.cyc (eventTag_rest o tg c b body s) :)
@[simp] theorem eventTag_cfg (o : Option (Nat × Word)) (tg : BitVec 16) (c b : Nat) (body : List Byte) (s : State) : (eventTag o tg c b body s).cfg = s.cfg := (congrArg State.cfg (eventTag_rest o tg c b body s) :)
@[simp] theorem eventTag_graph (o : Option (Nat × Word)) (tg : BitVec 16) (c b : Nat) (body : List Byte) (s : State) : (eventTag o tg c b body s).graph = s.graph := (congrArg State.graph (eventTag_rest o tg c b body s) :)
@[simp] theorem eventTag_arms (o : Option (Nat × Word)) (tg : BitVec 16) (c b : Nat) (body : List Byte) (s : State) : (eventTag o tg c b body s).arms = s.arms := (congrArg State.arms (eventTag_rest o tg c b body s) :)
@[simp] theorem eventTag_obs (o : Option (Nat × Word)) (tg : BitVec 16) (c b : Nat) (body : List Byte) (s : State) : (eventTag o tg c b body s).obs = s.obs := (congrArg State.obs (eventTag_rest o tg c b body s) :)
@[simp] theorem eventTag_ports (o : Option (Nat × Word)) (tg : BitVec 16) (c b : Nat) (body : List Byte) (s : State) : (eventTag o tg c b body s).ports = s.ports := (congrArg State.ports (eventTag_rest o tg c b body s) :)
@[simp] theorem eventTag_moors (o : Option (Nat × Word)) (tg : BitVec 16) (c b : Nat) (body : List Byte) (s : State) : (eventTag o tg c b body s).moors = s.moors := (congrArg State.moors (eventTag_rest o tg c b body s) :)
@[simp] theorem eventTag_points (o : Option (Nat × Word)) (tg : BitVec 16) (c b : Nat) (body : List Byte) (s : State) : (eventTag o tg c b body s).points = s.points := (congrArg State.points (eventTag_rest o tg c b body s) :)
@[simp] theorem eventTag_ptDiscards (o : Option (Nat × Word)) (tg : BitVec 16) (c b : Nat) (body : List Byte) (s : State) : (eventTag o tg c b body s).ptDiscards = s.ptDiscards := (congrArg State.ptDiscards (eventTag_rest o tg c b body s) :)
@[simp] theorem eventTag_stn (o : Option (Nat × Word)) (tg : BitVec 16) (c b : Nat) (body : List Byte) (s : State) : (eventTag o tg c b body s).stn = s.stn := (congrArg State.stn (eventTag_rest o tg c b body s) :)
@[simp] theorem eventTag_get (o : Option (Nat × Word)) (tg : BitVec 16) (c b : Nat) (body : List Byte) (s : State) : (eventTag o tg c b body s).get = s.get := (congrArg State.get (eventTag_rest o tg c b body s) :)
@[simp] theorem eventTag_getLast (o : Option (Nat × Word)) (tg : BitVec 16) (c b : Nat) (body : List Byte) (s : State) : (eventTag o tg c b body s).getLast = s.getLast := (congrArg State.getLast (eventTag_rest o tg c b body s) :)
@[simp] theorem eventTag_pul (o : Option (Nat × Word)) (tg : BitVec 16) (c b : Nat) (body : List Byte) (s : State) : (eventTag o tg c b body s).pul = s.pul := (congrArg State.pul (eventTag_rest o tg c b body s) :)
@[simp] theorem eventTag_host (o : Option (Nat × Word)) (tg : BitVec 16) (c b : Nat) (body : List Byte) (s : State) : (eventTag o tg c b body s).host = s.host := (congrArg State.host (eventTag_rest o tg c b body s) :)
@[simp] theorem eventTag_pound (o : Option (Nat × Word)) (tg : BitVec 16) (c b : Nat) (body : List Byte) (s : State) : (eventTag o tg c b body s).pound = s.pound := (congrArg State.pound (eventTag_rest o tg c b body s) :)
@[simp] theorem eventTag_fcru (o : Option (Nat × Word)) (tg : BitVec 16) (c b : Nat) (body : List Byte) (s : State) : (eventTag o tg c b body s).fcru = s.fcru := (congrArg State.fcru (eventTag_rest o tg c b body s) :)
@[simp] theorem eventTag_srb (o : Option (Nat × Word)) (tg : BitVec 16) (c b : Nat) (body : List Byte) (s : State) : (eventTag o tg c b body s).srb = s.srb := (congrArg State.srb (eventTag_rest o tg c b body s) :)
@[simp] theorem eventTag_tan (o : Option (Nat × Word)) (tg : BitVec 16) (c b : Nat) (body : List Byte) (s : State) : (eventTag o tg c b body s).tan = s.tan := (congrArg State.tan (eventTag_rest o tg c b body s) :)
@[simp] theorem eventTag_cap (o : Option (Nat × Word)) (tg : BitVec 16) (c b : Nat) (body : List Byte) (s : State) : (eventTag o tg c b body s).cap = s.cap := (congrArg State.cap (eventTag_rest o tg c b body s) :)
@[simp] theorem eventTag_gov (o : Option (Nat × Word)) (tg : BitVec 16) (c b : Nat) (body : List Byte) (s : State) : (eventTag o tg c b body s).gov = s.gov := (congrArg State.gov (eventTag_rest o tg c b body s) :)
@[simp] theorem eventTag_jtag (o : Option (Nat × Word)) (tg : BitVec 16) (c b : Nat) (body : List Byte) (s : State) : (eventTag o tg c b body s).jtag = s.jtag := (congrArg State.jtag (eventTag_rest o tg c b body s) :)
@[simp] theorem eventTag_store (o : Option (Nat × Word)) (tg : BitVec 16) (c b : Nat) (body : List Byte) (s : State) : (eventTag o tg c b body s).store = s.store := (congrArg State.store (eventTag_rest o tg c b body s) :)
@[simp] theorem eventTag_free (o : Option (Nat × Word)) (tg : BitVec 16) (c b : Nat) (body : List Byte) (s : State) : (eventTag o tg c b body s).free = s.free := (congrArg State.free (eventTag_rest o tg c b body s) :)

/-- `event` changes mbx alone. -/
theorem event_rest (c b : Nat) (body : List Byte) (s : State) : { event c b body s with mbx := s.mbx } = s := by
  unfold event; exact eventTag_rest _ _ _ _ _ _
@[simp] theorem event_pending (c b : Nat) (body : List Byte) (s : State) : (event c b body s).pending = s.pending := (congrArg State.pending (event_rest c b body s) :)
@[simp] theorem event_now (c b : Nat) (body : List Byte) (s : State) : (event c b body s).now = s.now := (congrArg State.now (event_rest c b body s) :)
@[simp] theorem event_dev (c b : Nat) (body : List Byte) (s : State) : (event c b body s).dev = s.dev := (congrArg State.dev (event_rest c b body s) :)
@[simp] theorem event_otp (c b : Nat) (body : List Byte) (s : State) : (event c b body s).otp = s.otp := (congrArg State.otp (event_rest c b body s) :)
@[simp] theorem event_time (c b : Nat) (body : List Byte) (s : State) : (event c b body s).time = s.time := (congrArg State.time (event_rest c b body s) :)
@[simp] theorem event_clk (c b : Nat) (body : List Byte) (s : State) : (event c b body s).clk = s.clk := (congrArg State.clk (event_rest c b body s) :)
@[simp] theorem event_cyc (c b : Nat) (body : List Byte) (s : State) : (event c b body s).cyc = s.cyc := (congrArg State.cyc (event_rest c b body s) :)
@[simp] theorem event_cfg (c b : Nat) (body : List Byte) (s : State) : (event c b body s).cfg = s.cfg := (congrArg State.cfg (event_rest c b body s) :)
@[simp] theorem event_graph (c b : Nat) (body : List Byte) (s : State) : (event c b body s).graph = s.graph := (congrArg State.graph (event_rest c b body s) :)
@[simp] theorem event_arms (c b : Nat) (body : List Byte) (s : State) : (event c b body s).arms = s.arms := (congrArg State.arms (event_rest c b body s) :)
@[simp] theorem event_obs (c b : Nat) (body : List Byte) (s : State) : (event c b body s).obs = s.obs := (congrArg State.obs (event_rest c b body s) :)
@[simp] theorem event_ports (c b : Nat) (body : List Byte) (s : State) : (event c b body s).ports = s.ports := (congrArg State.ports (event_rest c b body s) :)
@[simp] theorem event_moors (c b : Nat) (body : List Byte) (s : State) : (event c b body s).moors = s.moors := (congrArg State.moors (event_rest c b body s) :)
@[simp] theorem event_points (c b : Nat) (body : List Byte) (s : State) : (event c b body s).points = s.points := (congrArg State.points (event_rest c b body s) :)
@[simp] theorem event_ptDiscards (c b : Nat) (body : List Byte) (s : State) : (event c b body s).ptDiscards = s.ptDiscards := (congrArg State.ptDiscards (event_rest c b body s) :)
@[simp] theorem event_stn (c b : Nat) (body : List Byte) (s : State) : (event c b body s).stn = s.stn := (congrArg State.stn (event_rest c b body s) :)
@[simp] theorem event_get (c b : Nat) (body : List Byte) (s : State) : (event c b body s).get = s.get := (congrArg State.get (event_rest c b body s) :)
@[simp] theorem event_getLast (c b : Nat) (body : List Byte) (s : State) : (event c b body s).getLast = s.getLast := (congrArg State.getLast (event_rest c b body s) :)
@[simp] theorem event_pul (c b : Nat) (body : List Byte) (s : State) : (event c b body s).pul = s.pul := (congrArg State.pul (event_rest c b body s) :)
@[simp] theorem event_host (c b : Nat) (body : List Byte) (s : State) : (event c b body s).host = s.host := (congrArg State.host (event_rest c b body s) :)
@[simp] theorem event_pound (c b : Nat) (body : List Byte) (s : State) : (event c b body s).pound = s.pound := (congrArg State.pound (event_rest c b body s) :)
@[simp] theorem event_fcru (c b : Nat) (body : List Byte) (s : State) : (event c b body s).fcru = s.fcru := (congrArg State.fcru (event_rest c b body s) :)
@[simp] theorem event_srb (c b : Nat) (body : List Byte) (s : State) : (event c b body s).srb = s.srb := (congrArg State.srb (event_rest c b body s) :)
@[simp] theorem event_tan (c b : Nat) (body : List Byte) (s : State) : (event c b body s).tan = s.tan := (congrArg State.tan (event_rest c b body s) :)
@[simp] theorem event_cap (c b : Nat) (body : List Byte) (s : State) : (event c b body s).cap = s.cap := (congrArg State.cap (event_rest c b body s) :)
@[simp] theorem event_gov (c b : Nat) (body : List Byte) (s : State) : (event c b body s).gov = s.gov := (congrArg State.gov (event_rest c b body s) :)
@[simp] theorem event_jtag (c b : Nat) (body : List Byte) (s : State) : (event c b body s).jtag = s.jtag := (congrArg State.jtag (event_rest c b body s) :)
@[simp] theorem event_store (c b : Nat) (body : List Byte) (s : State) : (event c b body s).store = s.store := (congrArg State.store (event_rest c b body s) :)
@[simp] theorem event_free (c b : Nat) (body : List Byte) (s : State) : (event c b body s).free = s.free := (congrArg State.free (event_rest c b body s) :)

/-- `portChange` changes mbx alone. -/
theorem portChange_rest (p st : Nat) (s : State) : { portChange p st s with mbx := s.mbx } = s := by
  unfold portChange event; exact eventTag_rest _ _ _ _ _ _
@[simp] theorem portChange_pending (p st : Nat) (s : State) : (portChange p st s).pending = s.pending := (congrArg State.pending (portChange_rest p st s) :)
@[simp] theorem portChange_now (p st : Nat) (s : State) : (portChange p st s).now = s.now := (congrArg State.now (portChange_rest p st s) :)
@[simp] theorem portChange_dev (p st : Nat) (s : State) : (portChange p st s).dev = s.dev := (congrArg State.dev (portChange_rest p st s) :)
@[simp] theorem portChange_otp (p st : Nat) (s : State) : (portChange p st s).otp = s.otp := (congrArg State.otp (portChange_rest p st s) :)
@[simp] theorem portChange_time (p st : Nat) (s : State) : (portChange p st s).time = s.time := (congrArg State.time (portChange_rest p st s) :)
@[simp] theorem portChange_clk (p st : Nat) (s : State) : (portChange p st s).clk = s.clk := (congrArg State.clk (portChange_rest p st s) :)
@[simp] theorem portChange_cyc (p st : Nat) (s : State) : (portChange p st s).cyc = s.cyc := (congrArg State.cyc (portChange_rest p st s) :)
@[simp] theorem portChange_cfg (p st : Nat) (s : State) : (portChange p st s).cfg = s.cfg := (congrArg State.cfg (portChange_rest p st s) :)
@[simp] theorem portChange_graph (p st : Nat) (s : State) : (portChange p st s).graph = s.graph := (congrArg State.graph (portChange_rest p st s) :)
@[simp] theorem portChange_arms (p st : Nat) (s : State) : (portChange p st s).arms = s.arms := (congrArg State.arms (portChange_rest p st s) :)
@[simp] theorem portChange_obs (p st : Nat) (s : State) : (portChange p st s).obs = s.obs := (congrArg State.obs (portChange_rest p st s) :)
@[simp] theorem portChange_ports (p st : Nat) (s : State) : (portChange p st s).ports = s.ports := (congrArg State.ports (portChange_rest p st s) :)
@[simp] theorem portChange_moors (p st : Nat) (s : State) : (portChange p st s).moors = s.moors := (congrArg State.moors (portChange_rest p st s) :)
@[simp] theorem portChange_points (p st : Nat) (s : State) : (portChange p st s).points = s.points := (congrArg State.points (portChange_rest p st s) :)
@[simp] theorem portChange_ptDiscards (p st : Nat) (s : State) : (portChange p st s).ptDiscards = s.ptDiscards := (congrArg State.ptDiscards (portChange_rest p st s) :)
@[simp] theorem portChange_stn (p st : Nat) (s : State) : (portChange p st s).stn = s.stn := (congrArg State.stn (portChange_rest p st s) :)
@[simp] theorem portChange_get (p st : Nat) (s : State) : (portChange p st s).get = s.get := (congrArg State.get (portChange_rest p st s) :)
@[simp] theorem portChange_getLast (p st : Nat) (s : State) : (portChange p st s).getLast = s.getLast := (congrArg State.getLast (portChange_rest p st s) :)
@[simp] theorem portChange_pul (p st : Nat) (s : State) : (portChange p st s).pul = s.pul := (congrArg State.pul (portChange_rest p st s) :)
@[simp] theorem portChange_host (p st : Nat) (s : State) : (portChange p st s).host = s.host := (congrArg State.host (portChange_rest p st s) :)
@[simp] theorem portChange_pound (p st : Nat) (s : State) : (portChange p st s).pound = s.pound := (congrArg State.pound (portChange_rest p st s) :)
@[simp] theorem portChange_fcru (p st : Nat) (s : State) : (portChange p st s).fcru = s.fcru := (congrArg State.fcru (portChange_rest p st s) :)
@[simp] theorem portChange_srb (p st : Nat) (s : State) : (portChange p st s).srb = s.srb := (congrArg State.srb (portChange_rest p st s) :)
@[simp] theorem portChange_tan (p st : Nat) (s : State) : (portChange p st s).tan = s.tan := (congrArg State.tan (portChange_rest p st s) :)
@[simp] theorem portChange_cap (p st : Nat) (s : State) : (portChange p st s).cap = s.cap := (congrArg State.cap (portChange_rest p st s) :)
@[simp] theorem portChange_gov (p st : Nat) (s : State) : (portChange p st s).gov = s.gov := (congrArg State.gov (portChange_rest p st s) :)
@[simp] theorem portChange_jtag (p st : Nat) (s : State) : (portChange p st s).jtag = s.jtag := (congrArg State.jtag (portChange_rest p st s) :)
@[simp] theorem portChange_store (p st : Nat) (s : State) : (portChange p st s).store = s.store := (congrArg State.store (portChange_rest p st s) :)
@[simp] theorem portChange_free (p st : Nat) (s : State) : (portChange p st s).free = s.free := (congrArg State.free (portChange_rest p st s) :)

/-- `scheduledResult` changes mbx alone. -/
theorem scheduledResult_rest (w : Waiting) (st : Status) (c : CycleNo) (s : State) : { scheduledResult w st c s with mbx := s.mbx } = s := by
  unfold scheduledResult; exact eventTag_rest _ _ _ _ _ _
@[simp] theorem scheduledResult_pending (w : Waiting) (st : Status) (c : CycleNo) (s : State) : (scheduledResult w st c s).pending = s.pending := (congrArg State.pending (scheduledResult_rest w st c s) :)
@[simp] theorem scheduledResult_now (w : Waiting) (st : Status) (c : CycleNo) (s : State) : (scheduledResult w st c s).now = s.now := (congrArg State.now (scheduledResult_rest w st c s) :)
@[simp] theorem scheduledResult_dev (w : Waiting) (st : Status) (c : CycleNo) (s : State) : (scheduledResult w st c s).dev = s.dev := (congrArg State.dev (scheduledResult_rest w st c s) :)
@[simp] theorem scheduledResult_otp (w : Waiting) (st : Status) (c : CycleNo) (s : State) : (scheduledResult w st c s).otp = s.otp := (congrArg State.otp (scheduledResult_rest w st c s) :)
@[simp] theorem scheduledResult_time (w : Waiting) (st : Status) (c : CycleNo) (s : State) : (scheduledResult w st c s).time = s.time := (congrArg State.time (scheduledResult_rest w st c s) :)
@[simp] theorem scheduledResult_clk (w : Waiting) (st : Status) (c : CycleNo) (s : State) : (scheduledResult w st c s).clk = s.clk := (congrArg State.clk (scheduledResult_rest w st c s) :)
@[simp] theorem scheduledResult_cyc (w : Waiting) (st : Status) (c : CycleNo) (s : State) : (scheduledResult w st c s).cyc = s.cyc := (congrArg State.cyc (scheduledResult_rest w st c s) :)
@[simp] theorem scheduledResult_cfg (w : Waiting) (st : Status) (c : CycleNo) (s : State) : (scheduledResult w st c s).cfg = s.cfg := (congrArg State.cfg (scheduledResult_rest w st c s) :)
@[simp] theorem scheduledResult_graph (w : Waiting) (st : Status) (c : CycleNo) (s : State) : (scheduledResult w st c s).graph = s.graph := (congrArg State.graph (scheduledResult_rest w st c s) :)
@[simp] theorem scheduledResult_arms (w : Waiting) (st : Status) (c : CycleNo) (s : State) : (scheduledResult w st c s).arms = s.arms := (congrArg State.arms (scheduledResult_rest w st c s) :)
@[simp] theorem scheduledResult_obs (w : Waiting) (st : Status) (c : CycleNo) (s : State) : (scheduledResult w st c s).obs = s.obs := (congrArg State.obs (scheduledResult_rest w st c s) :)
@[simp] theorem scheduledResult_ports (w : Waiting) (st : Status) (c : CycleNo) (s : State) : (scheduledResult w st c s).ports = s.ports := (congrArg State.ports (scheduledResult_rest w st c s) :)
@[simp] theorem scheduledResult_moors (w : Waiting) (st : Status) (c : CycleNo) (s : State) : (scheduledResult w st c s).moors = s.moors := (congrArg State.moors (scheduledResult_rest w st c s) :)
@[simp] theorem scheduledResult_points (w : Waiting) (st : Status) (c : CycleNo) (s : State) : (scheduledResult w st c s).points = s.points := (congrArg State.points (scheduledResult_rest w st c s) :)
@[simp] theorem scheduledResult_ptDiscards (w : Waiting) (st : Status) (c : CycleNo) (s : State) : (scheduledResult w st c s).ptDiscards = s.ptDiscards := (congrArg State.ptDiscards (scheduledResult_rest w st c s) :)
@[simp] theorem scheduledResult_stn (w : Waiting) (st : Status) (c : CycleNo) (s : State) : (scheduledResult w st c s).stn = s.stn := (congrArg State.stn (scheduledResult_rest w st c s) :)
@[simp] theorem scheduledResult_get (w : Waiting) (st : Status) (c : CycleNo) (s : State) : (scheduledResult w st c s).get = s.get := (congrArg State.get (scheduledResult_rest w st c s) :)
@[simp] theorem scheduledResult_getLast (w : Waiting) (st : Status) (c : CycleNo) (s : State) : (scheduledResult w st c s).getLast = s.getLast := (congrArg State.getLast (scheduledResult_rest w st c s) :)
@[simp] theorem scheduledResult_pul (w : Waiting) (st : Status) (c : CycleNo) (s : State) : (scheduledResult w st c s).pul = s.pul := (congrArg State.pul (scheduledResult_rest w st c s) :)
@[simp] theorem scheduledResult_host (w : Waiting) (st : Status) (c : CycleNo) (s : State) : (scheduledResult w st c s).host = s.host := (congrArg State.host (scheduledResult_rest w st c s) :)
@[simp] theorem scheduledResult_pound (w : Waiting) (st : Status) (c : CycleNo) (s : State) : (scheduledResult w st c s).pound = s.pound := (congrArg State.pound (scheduledResult_rest w st c s) :)
@[simp] theorem scheduledResult_fcru (w : Waiting) (st : Status) (c : CycleNo) (s : State) : (scheduledResult w st c s).fcru = s.fcru := (congrArg State.fcru (scheduledResult_rest w st c s) :)
@[simp] theorem scheduledResult_srb (w : Waiting) (st : Status) (c : CycleNo) (s : State) : (scheduledResult w st c s).srb = s.srb := (congrArg State.srb (scheduledResult_rest w st c s) :)
@[simp] theorem scheduledResult_tan (w : Waiting) (st : Status) (c : CycleNo) (s : State) : (scheduledResult w st c s).tan = s.tan := (congrArg State.tan (scheduledResult_rest w st c s) :)
@[simp] theorem scheduledResult_cap (w : Waiting) (st : Status) (c : CycleNo) (s : State) : (scheduledResult w st c s).cap = s.cap := (congrArg State.cap (scheduledResult_rest w st c s) :)
@[simp] theorem scheduledResult_gov (w : Waiting) (st : Status) (c : CycleNo) (s : State) : (scheduledResult w st c s).gov = s.gov := (congrArg State.gov (scheduledResult_rest w st c s) :)
@[simp] theorem scheduledResult_jtag (w : Waiting) (st : Status) (c : CycleNo) (s : State) : (scheduledResult w st c s).jtag = s.jtag := (congrArg State.jtag (scheduledResult_rest w st c s) :)
@[simp] theorem scheduledResult_store (w : Waiting) (st : Status) (c : CycleNo) (s : State) : (scheduledResult w st c s).store = s.store := (congrArg State.store (scheduledResult_rest w st c s) :)
@[simp] theorem scheduledResult_free (w : Waiting) (st : Status) (c : CycleNo) (s : State) : (scheduledResult w st c s).free = s.free := (congrArg State.free (scheduledResult_rest w st c s) :)

/-- `respondLate` changes mbx alone. -/
theorem respondLate_rest (n : Nat) (e : Word) (tg : BitVec 16) (op : Nat) (st : Status) (body : List Byte) (s : State) : { respondLate n e tg op st body s with mbx := s.mbx } = s := by
  unfold respondLate; split <;> rfl
@[simp] theorem respondLate_pending (n : Nat) (e : Word) (tg : BitVec 16) (op : Nat) (st : Status) (body : List Byte) (s : State) : (respondLate n e tg op st body s).pending = s.pending := (congrArg State.pending (respondLate_rest n e tg op st body s) :)
@[simp] theorem respondLate_now (n : Nat) (e : Word) (tg : BitVec 16) (op : Nat) (st : Status) (body : List Byte) (s : State) : (respondLate n e tg op st body s).now = s.now := (congrArg State.now (respondLate_rest n e tg op st body s) :)
@[simp] theorem respondLate_dev (n : Nat) (e : Word) (tg : BitVec 16) (op : Nat) (st : Status) (body : List Byte) (s : State) : (respondLate n e tg op st body s).dev = s.dev := (congrArg State.dev (respondLate_rest n e tg op st body s) :)
@[simp] theorem respondLate_otp (n : Nat) (e : Word) (tg : BitVec 16) (op : Nat) (st : Status) (body : List Byte) (s : State) : (respondLate n e tg op st body s).otp = s.otp := (congrArg State.otp (respondLate_rest n e tg op st body s) :)
@[simp] theorem respondLate_time (n : Nat) (e : Word) (tg : BitVec 16) (op : Nat) (st : Status) (body : List Byte) (s : State) : (respondLate n e tg op st body s).time = s.time := (congrArg State.time (respondLate_rest n e tg op st body s) :)
@[simp] theorem respondLate_clk (n : Nat) (e : Word) (tg : BitVec 16) (op : Nat) (st : Status) (body : List Byte) (s : State) : (respondLate n e tg op st body s).clk = s.clk := (congrArg State.clk (respondLate_rest n e tg op st body s) :)
@[simp] theorem respondLate_cyc (n : Nat) (e : Word) (tg : BitVec 16) (op : Nat) (st : Status) (body : List Byte) (s : State) : (respondLate n e tg op st body s).cyc = s.cyc := (congrArg State.cyc (respondLate_rest n e tg op st body s) :)
@[simp] theorem respondLate_cfg (n : Nat) (e : Word) (tg : BitVec 16) (op : Nat) (st : Status) (body : List Byte) (s : State) : (respondLate n e tg op st body s).cfg = s.cfg := (congrArg State.cfg (respondLate_rest n e tg op st body s) :)
@[simp] theorem respondLate_graph (n : Nat) (e : Word) (tg : BitVec 16) (op : Nat) (st : Status) (body : List Byte) (s : State) : (respondLate n e tg op st body s).graph = s.graph := (congrArg State.graph (respondLate_rest n e tg op st body s) :)
@[simp] theorem respondLate_arms (n : Nat) (e : Word) (tg : BitVec 16) (op : Nat) (st : Status) (body : List Byte) (s : State) : (respondLate n e tg op st body s).arms = s.arms := (congrArg State.arms (respondLate_rest n e tg op st body s) :)
@[simp] theorem respondLate_obs (n : Nat) (e : Word) (tg : BitVec 16) (op : Nat) (st : Status) (body : List Byte) (s : State) : (respondLate n e tg op st body s).obs = s.obs := (congrArg State.obs (respondLate_rest n e tg op st body s) :)
@[simp] theorem respondLate_ports (n : Nat) (e : Word) (tg : BitVec 16) (op : Nat) (st : Status) (body : List Byte) (s : State) : (respondLate n e tg op st body s).ports = s.ports := (congrArg State.ports (respondLate_rest n e tg op st body s) :)
@[simp] theorem respondLate_moors (n : Nat) (e : Word) (tg : BitVec 16) (op : Nat) (st : Status) (body : List Byte) (s : State) : (respondLate n e tg op st body s).moors = s.moors := (congrArg State.moors (respondLate_rest n e tg op st body s) :)
@[simp] theorem respondLate_points (n : Nat) (e : Word) (tg : BitVec 16) (op : Nat) (st : Status) (body : List Byte) (s : State) : (respondLate n e tg op st body s).points = s.points := (congrArg State.points (respondLate_rest n e tg op st body s) :)
@[simp] theorem respondLate_ptDiscards (n : Nat) (e : Word) (tg : BitVec 16) (op : Nat) (st : Status) (body : List Byte) (s : State) : (respondLate n e tg op st body s).ptDiscards = s.ptDiscards := (congrArg State.ptDiscards (respondLate_rest n e tg op st body s) :)
@[simp] theorem respondLate_stn (n : Nat) (e : Word) (tg : BitVec 16) (op : Nat) (st : Status) (body : List Byte) (s : State) : (respondLate n e tg op st body s).stn = s.stn := (congrArg State.stn (respondLate_rest n e tg op st body s) :)
@[simp] theorem respondLate_get (n : Nat) (e : Word) (tg : BitVec 16) (op : Nat) (st : Status) (body : List Byte) (s : State) : (respondLate n e tg op st body s).get = s.get := (congrArg State.get (respondLate_rest n e tg op st body s) :)
@[simp] theorem respondLate_getLast (n : Nat) (e : Word) (tg : BitVec 16) (op : Nat) (st : Status) (body : List Byte) (s : State) : (respondLate n e tg op st body s).getLast = s.getLast := (congrArg State.getLast (respondLate_rest n e tg op st body s) :)
@[simp] theorem respondLate_pul (n : Nat) (e : Word) (tg : BitVec 16) (op : Nat) (st : Status) (body : List Byte) (s : State) : (respondLate n e tg op st body s).pul = s.pul := (congrArg State.pul (respondLate_rest n e tg op st body s) :)
@[simp] theorem respondLate_host (n : Nat) (e : Word) (tg : BitVec 16) (op : Nat) (st : Status) (body : List Byte) (s : State) : (respondLate n e tg op st body s).host = s.host := (congrArg State.host (respondLate_rest n e tg op st body s) :)
@[simp] theorem respondLate_pound (n : Nat) (e : Word) (tg : BitVec 16) (op : Nat) (st : Status) (body : List Byte) (s : State) : (respondLate n e tg op st body s).pound = s.pound := (congrArg State.pound (respondLate_rest n e tg op st body s) :)
@[simp] theorem respondLate_fcru (n : Nat) (e : Word) (tg : BitVec 16) (op : Nat) (st : Status) (body : List Byte) (s : State) : (respondLate n e tg op st body s).fcru = s.fcru := (congrArg State.fcru (respondLate_rest n e tg op st body s) :)
@[simp] theorem respondLate_srb (n : Nat) (e : Word) (tg : BitVec 16) (op : Nat) (st : Status) (body : List Byte) (s : State) : (respondLate n e tg op st body s).srb = s.srb := (congrArg State.srb (respondLate_rest n e tg op st body s) :)
@[simp] theorem respondLate_tan (n : Nat) (e : Word) (tg : BitVec 16) (op : Nat) (st : Status) (body : List Byte) (s : State) : (respondLate n e tg op st body s).tan = s.tan := (congrArg State.tan (respondLate_rest n e tg op st body s) :)
@[simp] theorem respondLate_cap (n : Nat) (e : Word) (tg : BitVec 16) (op : Nat) (st : Status) (body : List Byte) (s : State) : (respondLate n e tg op st body s).cap = s.cap := (congrArg State.cap (respondLate_rest n e tg op st body s) :)
@[simp] theorem respondLate_gov (n : Nat) (e : Word) (tg : BitVec 16) (op : Nat) (st : Status) (body : List Byte) (s : State) : (respondLate n e tg op st body s).gov = s.gov := (congrArg State.gov (respondLate_rest n e tg op st body s) :)
@[simp] theorem respondLate_jtag (n : Nat) (e : Word) (tg : BitVec 16) (op : Nat) (st : Status) (body : List Byte) (s : State) : (respondLate n e tg op st body s).jtag = s.jtag := (congrArg State.jtag (respondLate_rest n e tg op st body s) :)
@[simp] theorem respondLate_store (n : Nat) (e : Word) (tg : BitVec 16) (op : Nat) (st : Status) (body : List Byte) (s : State) : (respondLate n e tg op st body s).store = s.store := (congrArg State.store (respondLate_rest n e tg op st body s) :)
@[simp] theorem respondLate_free (n : Nat) (e : Word) (tg : BitVec 16) (op : Nat) (st : Status) (body : List Byte) (s : State) : (respondLate n e tg op st body s).free = s.free := (congrArg State.free (respondLate_rest n e tg op st body s) :)

/-- `vector` changes host alone. -/
theorem vector_rest (v : Nat) (s : State) : { vector v s with host := s.host } = s := by
  unfold vector; (repeat' split) <;> rfl
@[simp] theorem vector_pending (v : Nat) (s : State) : (vector v s).pending = s.pending := (congrArg State.pending (vector_rest v s) :)
@[simp] theorem vector_now (v : Nat) (s : State) : (vector v s).now = s.now := (congrArg State.now (vector_rest v s) :)
@[simp] theorem vector_dev (v : Nat) (s : State) : (vector v s).dev = s.dev := (congrArg State.dev (vector_rest v s) :)
@[simp] theorem vector_otp (v : Nat) (s : State) : (vector v s).otp = s.otp := (congrArg State.otp (vector_rest v s) :)
@[simp] theorem vector_time (v : Nat) (s : State) : (vector v s).time = s.time := (congrArg State.time (vector_rest v s) :)
@[simp] theorem vector_clk (v : Nat) (s : State) : (vector v s).clk = s.clk := (congrArg State.clk (vector_rest v s) :)
@[simp] theorem vector_cyc (v : Nat) (s : State) : (vector v s).cyc = s.cyc := (congrArg State.cyc (vector_rest v s) :)
@[simp] theorem vector_cfg (v : Nat) (s : State) : (vector v s).cfg = s.cfg := (congrArg State.cfg (vector_rest v s) :)
@[simp] theorem vector_graph (v : Nat) (s : State) : (vector v s).graph = s.graph := (congrArg State.graph (vector_rest v s) :)
@[simp] theorem vector_arms (v : Nat) (s : State) : (vector v s).arms = s.arms := (congrArg State.arms (vector_rest v s) :)
@[simp] theorem vector_obs (v : Nat) (s : State) : (vector v s).obs = s.obs := (congrArg State.obs (vector_rest v s) :)
@[simp] theorem vector_ports (v : Nat) (s : State) : (vector v s).ports = s.ports := (congrArg State.ports (vector_rest v s) :)
@[simp] theorem vector_moors (v : Nat) (s : State) : (vector v s).moors = s.moors := (congrArg State.moors (vector_rest v s) :)
@[simp] theorem vector_points (v : Nat) (s : State) : (vector v s).points = s.points := (congrArg State.points (vector_rest v s) :)
@[simp] theorem vector_ptDiscards (v : Nat) (s : State) : (vector v s).ptDiscards = s.ptDiscards := (congrArg State.ptDiscards (vector_rest v s) :)
@[simp] theorem vector_stn (v : Nat) (s : State) : (vector v s).stn = s.stn := (congrArg State.stn (vector_rest v s) :)
@[simp] theorem vector_get (v : Nat) (s : State) : (vector v s).get = s.get := (congrArg State.get (vector_rest v s) :)
@[simp] theorem vector_getLast (v : Nat) (s : State) : (vector v s).getLast = s.getLast := (congrArg State.getLast (vector_rest v s) :)
@[simp] theorem vector_pul (v : Nat) (s : State) : (vector v s).pul = s.pul := (congrArg State.pul (vector_rest v s) :)
@[simp] theorem vector_mbx (v : Nat) (s : State) : (vector v s).mbx = s.mbx := (congrArg State.mbx (vector_rest v s) :)
@[simp] theorem vector_pound (v : Nat) (s : State) : (vector v s).pound = s.pound := (congrArg State.pound (vector_rest v s) :)
@[simp] theorem vector_fcru (v : Nat) (s : State) : (vector v s).fcru = s.fcru := (congrArg State.fcru (vector_rest v s) :)
@[simp] theorem vector_srb (v : Nat) (s : State) : (vector v s).srb = s.srb := (congrArg State.srb (vector_rest v s) :)
@[simp] theorem vector_tan (v : Nat) (s : State) : (vector v s).tan = s.tan := (congrArg State.tan (vector_rest v s) :)
@[simp] theorem vector_cap (v : Nat) (s : State) : (vector v s).cap = s.cap := (congrArg State.cap (vector_rest v s) :)
@[simp] theorem vector_gov (v : Nat) (s : State) : (vector v s).gov = s.gov := (congrArg State.gov (vector_rest v s) :)
@[simp] theorem vector_jtag (v : Nat) (s : State) : (vector v s).jtag = s.jtag := (congrArg State.jtag (vector_rest v s) :)
@[simp] theorem vector_store (v : Nat) (s : State) : (vector v s).store = s.store := (congrArg State.store (vector_rest v s) :)
@[simp] theorem vector_free (v : Nat) (s : State) : (vector v s).free = s.free := (congrArg State.free (vector_rest v s) :)

/-- `intBit` changes mbx and host alone. -/
theorem intBit_rest (n b : Nat) (s : State) : { intBit n b s with mbx := s.mbx, host := s.host } = s := by
  unfold intBit; dsimp only; (repeat' split) <;> first | rfl | (simp only [vector]; (repeat' split) <;> rfl)
@[simp] theorem intBit_pending (n b : Nat) (s : State) : (intBit n b s).pending = s.pending := (congrArg State.pending (intBit_rest n b s) :)
@[simp] theorem intBit_now (n b : Nat) (s : State) : (intBit n b s).now = s.now := (congrArg State.now (intBit_rest n b s) :)
@[simp] theorem intBit_dev (n b : Nat) (s : State) : (intBit n b s).dev = s.dev := (congrArg State.dev (intBit_rest n b s) :)
@[simp] theorem intBit_otp (n b : Nat) (s : State) : (intBit n b s).otp = s.otp := (congrArg State.otp (intBit_rest n b s) :)
@[simp] theorem intBit_time (n b : Nat) (s : State) : (intBit n b s).time = s.time := (congrArg State.time (intBit_rest n b s) :)
@[simp] theorem intBit_clk (n b : Nat) (s : State) : (intBit n b s).clk = s.clk := (congrArg State.clk (intBit_rest n b s) :)
@[simp] theorem intBit_cyc (n b : Nat) (s : State) : (intBit n b s).cyc = s.cyc := (congrArg State.cyc (intBit_rest n b s) :)
@[simp] theorem intBit_cfg (n b : Nat) (s : State) : (intBit n b s).cfg = s.cfg := (congrArg State.cfg (intBit_rest n b s) :)
@[simp] theorem intBit_graph (n b : Nat) (s : State) : (intBit n b s).graph = s.graph := (congrArg State.graph (intBit_rest n b s) :)
@[simp] theorem intBit_arms (n b : Nat) (s : State) : (intBit n b s).arms = s.arms := (congrArg State.arms (intBit_rest n b s) :)
@[simp] theorem intBit_obs (n b : Nat) (s : State) : (intBit n b s).obs = s.obs := (congrArg State.obs (intBit_rest n b s) :)
@[simp] theorem intBit_ports (n b : Nat) (s : State) : (intBit n b s).ports = s.ports := (congrArg State.ports (intBit_rest n b s) :)
@[simp] theorem intBit_moors (n b : Nat) (s : State) : (intBit n b s).moors = s.moors := (congrArg State.moors (intBit_rest n b s) :)
@[simp] theorem intBit_points (n b : Nat) (s : State) : (intBit n b s).points = s.points := (congrArg State.points (intBit_rest n b s) :)
@[simp] theorem intBit_ptDiscards (n b : Nat) (s : State) : (intBit n b s).ptDiscards = s.ptDiscards := (congrArg State.ptDiscards (intBit_rest n b s) :)
@[simp] theorem intBit_stn (n b : Nat) (s : State) : (intBit n b s).stn = s.stn := (congrArg State.stn (intBit_rest n b s) :)
@[simp] theorem intBit_get (n b : Nat) (s : State) : (intBit n b s).get = s.get := (congrArg State.get (intBit_rest n b s) :)
@[simp] theorem intBit_getLast (n b : Nat) (s : State) : (intBit n b s).getLast = s.getLast := (congrArg State.getLast (intBit_rest n b s) :)
@[simp] theorem intBit_pul (n b : Nat) (s : State) : (intBit n b s).pul = s.pul := (congrArg State.pul (intBit_rest n b s) :)
@[simp] theorem intBit_pound (n b : Nat) (s : State) : (intBit n b s).pound = s.pound := (congrArg State.pound (intBit_rest n b s) :)
@[simp] theorem intBit_fcru (n b : Nat) (s : State) : (intBit n b s).fcru = s.fcru := (congrArg State.fcru (intBit_rest n b s) :)
@[simp] theorem intBit_srb (n b : Nat) (s : State) : (intBit n b s).srb = s.srb := (congrArg State.srb (intBit_rest n b s) :)
@[simp] theorem intBit_tan (n b : Nat) (s : State) : (intBit n b s).tan = s.tan := (congrArg State.tan (intBit_rest n b s) :)
@[simp] theorem intBit_cap (n b : Nat) (s : State) : (intBit n b s).cap = s.cap := (congrArg State.cap (intBit_rest n b s) :)
@[simp] theorem intBit_gov (n b : Nat) (s : State) : (intBit n b s).gov = s.gov := (congrArg State.gov (intBit_rest n b s) :)
@[simp] theorem intBit_jtag (n b : Nat) (s : State) : (intBit n b s).jtag = s.jtag := (congrArg State.jtag (intBit_rest n b s) :)
@[simp] theorem intBit_store (n b : Nat) (s : State) : (intBit n b s).store = s.store := (congrArg State.store (intBit_rest n b s) :)
@[simp] theorem intBit_free (n b : Nat) (s : State) : (intBit n b s).free = s.free := (congrArg State.free (intBit_rest n b s) :)

/-- `h2fEmpty` changes mbx and host and stn alone. -/
theorem h2fEmpty_rest (n : Nat) (fl : Bool) (s : State) : { h2fEmpty n fl s with mbx := s.mbx, host := s.host, stn := s.stn } = s := by
  unfold h2fEmpty; dsimp only; (repeat' split) <;> simp [mset, udpSend]
@[simp] theorem h2fEmpty_pending (n : Nat) (fl : Bool) (s : State) : (h2fEmpty n fl s).pending = s.pending := (congrArg State.pending (h2fEmpty_rest n fl s) :)
@[simp] theorem h2fEmpty_now (n : Nat) (fl : Bool) (s : State) : (h2fEmpty n fl s).now = s.now := (congrArg State.now (h2fEmpty_rest n fl s) :)
@[simp] theorem h2fEmpty_dev (n : Nat) (fl : Bool) (s : State) : (h2fEmpty n fl s).dev = s.dev := (congrArg State.dev (h2fEmpty_rest n fl s) :)
@[simp] theorem h2fEmpty_otp (n : Nat) (fl : Bool) (s : State) : (h2fEmpty n fl s).otp = s.otp := (congrArg State.otp (h2fEmpty_rest n fl s) :)
@[simp] theorem h2fEmpty_time (n : Nat) (fl : Bool) (s : State) : (h2fEmpty n fl s).time = s.time := (congrArg State.time (h2fEmpty_rest n fl s) :)
@[simp] theorem h2fEmpty_clk (n : Nat) (fl : Bool) (s : State) : (h2fEmpty n fl s).clk = s.clk := (congrArg State.clk (h2fEmpty_rest n fl s) :)
@[simp] theorem h2fEmpty_cyc (n : Nat) (fl : Bool) (s : State) : (h2fEmpty n fl s).cyc = s.cyc := (congrArg State.cyc (h2fEmpty_rest n fl s) :)
@[simp] theorem h2fEmpty_cfg (n : Nat) (fl : Bool) (s : State) : (h2fEmpty n fl s).cfg = s.cfg := (congrArg State.cfg (h2fEmpty_rest n fl s) :)
@[simp] theorem h2fEmpty_graph (n : Nat) (fl : Bool) (s : State) : (h2fEmpty n fl s).graph = s.graph := (congrArg State.graph (h2fEmpty_rest n fl s) :)
@[simp] theorem h2fEmpty_arms (n : Nat) (fl : Bool) (s : State) : (h2fEmpty n fl s).arms = s.arms := (congrArg State.arms (h2fEmpty_rest n fl s) :)
@[simp] theorem h2fEmpty_obs (n : Nat) (fl : Bool) (s : State) : (h2fEmpty n fl s).obs = s.obs := (congrArg State.obs (h2fEmpty_rest n fl s) :)
@[simp] theorem h2fEmpty_ports (n : Nat) (fl : Bool) (s : State) : (h2fEmpty n fl s).ports = s.ports := (congrArg State.ports (h2fEmpty_rest n fl s) :)
@[simp] theorem h2fEmpty_moors (n : Nat) (fl : Bool) (s : State) : (h2fEmpty n fl s).moors = s.moors := (congrArg State.moors (h2fEmpty_rest n fl s) :)
@[simp] theorem h2fEmpty_points (n : Nat) (fl : Bool) (s : State) : (h2fEmpty n fl s).points = s.points := (congrArg State.points (h2fEmpty_rest n fl s) :)
@[simp] theorem h2fEmpty_ptDiscards (n : Nat) (fl : Bool) (s : State) : (h2fEmpty n fl s).ptDiscards = s.ptDiscards := (congrArg State.ptDiscards (h2fEmpty_rest n fl s) :)
@[simp] theorem h2fEmpty_get (n : Nat) (fl : Bool) (s : State) : (h2fEmpty n fl s).get = s.get := (congrArg State.get (h2fEmpty_rest n fl s) :)
@[simp] theorem h2fEmpty_getLast (n : Nat) (fl : Bool) (s : State) : (h2fEmpty n fl s).getLast = s.getLast := (congrArg State.getLast (h2fEmpty_rest n fl s) :)
@[simp] theorem h2fEmpty_pul (n : Nat) (fl : Bool) (s : State) : (h2fEmpty n fl s).pul = s.pul := (congrArg State.pul (h2fEmpty_rest n fl s) :)
@[simp] theorem h2fEmpty_pound (n : Nat) (fl : Bool) (s : State) : (h2fEmpty n fl s).pound = s.pound := (congrArg State.pound (h2fEmpty_rest n fl s) :)
@[simp] theorem h2fEmpty_fcru (n : Nat) (fl : Bool) (s : State) : (h2fEmpty n fl s).fcru = s.fcru := (congrArg State.fcru (h2fEmpty_rest n fl s) :)
@[simp] theorem h2fEmpty_srb (n : Nat) (fl : Bool) (s : State) : (h2fEmpty n fl s).srb = s.srb := (congrArg State.srb (h2fEmpty_rest n fl s) :)
@[simp] theorem h2fEmpty_tan (n : Nat) (fl : Bool) (s : State) : (h2fEmpty n fl s).tan = s.tan := (congrArg State.tan (h2fEmpty_rest n fl s) :)
@[simp] theorem h2fEmpty_cap (n : Nat) (fl : Bool) (s : State) : (h2fEmpty n fl s).cap = s.cap := (congrArg State.cap (h2fEmpty_rest n fl s) :)
@[simp] theorem h2fEmpty_gov (n : Nat) (fl : Bool) (s : State) : (h2fEmpty n fl s).gov = s.gov := (congrArg State.gov (h2fEmpty_rest n fl s) :)
@[simp] theorem h2fEmpty_jtag (n : Nat) (fl : Bool) (s : State) : (h2fEmpty n fl s).jtag = s.jtag := (congrArg State.jtag (h2fEmpty_rest n fl s) :)
@[simp] theorem h2fEmpty_store (n : Nat) (fl : Bool) (s : State) : (h2fEmpty n fl s).store = s.store := (congrArg State.store (h2fEmpty_rest n fl s) :)
@[simp] theorem h2fEmpty_free (n : Nat) (fl : Bool) (s : State) : (h2fEmpty n fl s).free = s.free := (congrArg State.free (h2fEmpty_rest n fl s) :)
end Sys2Proof.Machine
end

