-- ==== Sys2Proof/Laws/Raise.lean ====
section
/-! SUPPORT. What an assertion leaves alone. -/

set_option Elab.async false
set_option linter.all false

namespace Sys2Proof.Laws
open Sys2Proof Sys2Proof.Machine

/-- A fold of steps that each keep a part of the state keeps it. -/
theorem foldl_keeps {α β : Type} (g : State → β) (f : State → α → State) (xs : List α) (s : State) (hf : ∀ x a, g (f x a) = g x) :
    g (xs.foldl f s) = g s := by
  induction xs generalizing s with
  | nil => rfl
  | cons a xs ih => exact (ih (f s a)).trans (hf s a)

/-- A conditional step that keeps a part of the state. -/
theorem ite_keeps {β : Type} (g : State → β) {a b : State} (c : Prop) [Decidable c] (h : g a = g b) : g (if c then a else b) = g b := by
  split
  · exact h
  · rfl

@[simp] theorem trgFireOne_jtag (t n : Nat) (s : State) : (trgFireOne t n s).jtag = s.jtag := by
  unfold trgFireOne
  dsimp only
  (repeat' split) <;> rfl
@[simp] theorem trgFire_jtag (t : Nat) (s : State) : (trgFire t s).jtag = s.jtag := by
  exact foldl_keeps (fun x => x.jtag) _ _ _ fun x a => trgFireOne_jtag t a x
@[simp] theorem trgKind_jtag (k : Nat) (p : Nat → Bool) (s : State) : (trgKind k p s).jtag = s.jtag := by
  exact foldl_keeps (fun x => x.jtag) _ _ _ fun x a => by split <;> simp
@[simp] theorem trgFault_jtag (src cls : Nat) (s : State) : (trgFault src cls s).jtag = s.jtag := by
  exact trgKind_jtag _ _ _
@[simp] theorem trgState_jtag  (s : State) : (trgState s).jtag = s.jtag := by
  exact trgKind_jtag _ _ _
@[simp] theorem clear_jtag (src : Nat) (s : State) : (clear src s).jtag = s.jtag := by
  exact (congrArg State.jtag (clear_rest src s) :)
@[simp] theorem srbGo_jtag (st : SrbState) (c k : Nat) (v e : Int) (s : State) : (srbGo st c k v e s).jtag = s.jtag := by
  unfold srbGo safetyEvent
  split <;> simp
@[simp] theorem srbStartRamp_jtag  (s : State) : (srbStartRamp s).jtag = s.jtag := by
  exact srbGo_jtag ..
@[simp] theorem srbOnState_jtag (d : DevState) (s : State) : (srbOnState d s).jtag = s.jtag := by
  unfold srbOnState
  split <;> simp
@[simp] theorem pulStop_jtag  (s : State) : (pulStop s).jtag = s.jtag := by
  rfl
@[simp] theorem moveState_jtag (d : DevState) (s : State) : (moveState d s).jtag = s.jtag := by
  unfold moveState
  dsimp only
  split <;> simp
@[simp] theorem portRelock_jtag (p : Nat) (s : State) : (portRelock p s).jtag = s.jtag := by
  unfold portRelock
  dsimp only
  split <;> simp
@[simp] theorem scanDrop_jtag (p : Nat) (s : State) : (scanDrop p s).jtag = s.jtag := by
  unfold scanDrop
  (repeat' split) <;> simp
@[simp] theorem linkDown_jtag (p : Nat) (s : State) : (linkDown p s).jtag = s.jtag := by
  unfold linkDown
  split <;> simp
@[simp] theorem blockReset_jtag (d : BlockDomain) (s : State) : (blockReset d s).jtag = s.jtag := by
  unfold blockReset
  dsimp only
  (repeat' split) <;> simp
@[simp] theorem react4_jtag (b : Bool) (s : State) : (react4 b s).jtag = s.jtag := by
  unfold react4
  dsimp only
  (repeat' split) <;> simp
@[simp] theorem endSession_jtag (n : Nat) (l : Bool) (s : State) : (endSession n l s).jtag = s.jtag := by
  unfold endSession
  dsimp only
  (repeat' split) <;> simp
@[simp] theorem bindCleared_jtag (n : Nat) (s : State) : (bindCleared n s).jtag = s.jtag := rfl
@[simp] theorem receiverResetOne_jtag (n : Nat) (s : State) : (receiverResetOne n s).jtag = s.jtag := by
  unfold receiverResetOne
  simp only [endSession_jtag, bindCleared_jtag, mset_jtag]
  split <;> simp
@[simp] theorem receiverReset_jtag  (s : State) : (receiverReset s).jtag = s.jtag := by
  exact foldl_keeps (fun x => x.jtag) _ _ _ fun x a => by simp
@[simp] theorem level5State_jtag  (s : State) : (level5State s).jtag = s.jtag := by
  simp only [level5State, warmState, powerOnState, receiverReset_jtag]
@[simp] theorem reactSignal_jtag (src : Nat) (i : FaultInfo) (lvl : Nat) (s : State) : (reactSignal src i lvl s).jtag = s.jtag := by
  unfold reactSignal
  simp only [event_jtag]
  (repeat' split) <;> simp
@[simp] theorem reactTrap_jtag (src : Nat) (s : State) : (reactTrap src s).jtag = s.jtag := by
  unfold reactTrap
  split <;> rfl
@[simp] theorem reactDomain_jtag (src : Nat) (s : State) : (reactDomain src s).jtag = s.jtag := by
  unfold reactDomain
  split <;> simp
@[simp] theorem reactLow_jtag (src : Nat) (i : FaultInfo) (lvl : Nat) (b : Bool) (s : State) : (reactLow src i lvl b s).jtag = s.jtag := by
  unfold reactLow
  dsimp only
  generalize h1 : (if 1 ≤ lvl then reactSignal src i lvl s else s) = x
  generalize h2 : (if 2 ≤ lvl then reactTrap src x else x) = y
  generalize h3 : (if 3 ≤ lvl then reactDomain src y else y) = z
  have e1 : x.jtag = s.jtag := (by rw [← h1]; split <;> simp)
  have e2 : y.jtag = x.jtag := (by rw [← h2]; split <;> simp)
  have e3 : z.jtag = y.jtag := (by rw [← h3]; split <;> simp)
  rw [← e1, ← e2, ← e3]
  split <;> rfl
@[simp] theorem react_jtag (src : Nat) (i : FaultInfo) (lvl : Nat) (b : Bool) (s : State) : (react src i lvl b s).jtag = s.jtag := by
  unfold react
  split
  · simp
  split <;> simp
@[simp] theorem logSource_jtag (src : Nat) (i : FaultInfo) (j : Bool) (d : List Byte) (s : State) : (logSource src i j d s).jtag = s.jtag := by
  rfl
@[simp] theorem assertSource_jtag (src : Nat) (i : FaultInfo) (j : Bool) (d : List Byte) (s : State) : (assertSource src i j d s).jtag = s.jtag := by
  unfold assertSource
  dsimp only
  split <;> simp
@[simp] theorem raise_jtag (src : Nat) (d : List Byte) (s : State) : (raise src d s).jtag = s.jtag := by
  unfold raise
  (repeat' split) <;> simp

@[simp] theorem trgFireOne_otp (t n : Nat) (s : State) : (trgFireOne t n s).otp = s.otp := by
  unfold trgFireOne
  dsimp only
  (repeat' split) <;> rfl
@[simp] theorem trgFire_otp (t : Nat) (s : State) : (trgFire t s).otp = s.otp := by
  exact foldl_keeps (fun x => x.otp) _ _ _ fun x a => trgFireOne_otp t a x
@[simp] theorem trgKind_otp (k : Nat) (p : Nat → Bool) (s : State) : (trgKind k p s).otp = s.otp := by
  exact foldl_keeps (fun x => x.otp) _ _ _ fun x a => by split <;> simp
@[simp] theorem trgFault_otp (src cls : Nat) (s : State) : (trgFault src cls s).otp = s.otp := by
  exact trgKind_otp _ _ _
@[simp] theorem trgState_otp  (s : State) : (trgState s).otp = s.otp := by
  exact trgKind_otp _ _ _
@[simp] theorem clear_otp (src : Nat) (s : State) : (clear src s).otp = s.otp := by
  exact (congrArg State.otp (clear_rest src s) :)
@[simp] theorem srbGo_otp (st : SrbState) (c k : Nat) (v e : Int) (s : State) : (srbGo st c k v e s).otp = s.otp := by
  unfold srbGo safetyEvent
  split <;> simp
@[simp] theorem srbStartRamp_otp  (s : State) : (srbStartRamp s).otp = s.otp := by
  exact srbGo_otp ..
@[simp] theorem srbOnState_otp (d : DevState) (s : State) : (srbOnState d s).otp = s.otp := by
  unfold srbOnState
  split <;> simp
@[simp] theorem pulStop_otp  (s : State) : (pulStop s).otp = s.otp := by
  rfl
@[simp] theorem moveState_otp (d : DevState) (s : State) : (moveState d s).otp = s.otp := by
  unfold moveState
  dsimp only
  split <;> simp
@[simp] theorem portRelock_otp (p : Nat) (s : State) : (portRelock p s).otp = s.otp := by
  unfold portRelock
  dsimp only
  split <;> simp
@[simp] theorem scanDrop_otp (p : Nat) (s : State) : (scanDrop p s).otp = s.otp := by
  unfold scanDrop
  (repeat' split) <;> simp
@[simp] theorem linkDown_otp (p : Nat) (s : State) : (linkDown p s).otp = s.otp := by
  unfold linkDown
  split <;> simp
@[simp] theorem blockReset_otp (d : BlockDomain) (s : State) : (blockReset d s).otp = s.otp := by
  unfold blockReset
  dsimp only
  (repeat' split) <;> simp
@[simp] theorem react4_otp (b : Bool) (s : State) : (react4 b s).otp = s.otp := by
  unfold react4
  dsimp only
  (repeat' split) <;> simp
@[simp] theorem endSession_otp (n : Nat) (l : Bool) (s : State) : (endSession n l s).otp = s.otp := by
  unfold endSession
  dsimp only
  (repeat' split) <;> simp
@[simp] theorem bindCleared_otp (n : Nat) (s : State) : (bindCleared n s).otp = s.otp := rfl
@[simp] theorem receiverResetOne_otp (n : Nat) (s : State) : (receiverResetOne n s).otp = s.otp := by
  unfold receiverResetOne
  simp only [endSession_otp, bindCleared_otp, mset_otp]
  split <;> simp
@[simp] theorem receiverReset_otp  (s : State) : (receiverReset s).otp = s.otp := by
  exact foldl_keeps (fun x => x.otp) _ _ _ fun x a => by simp
@[simp] theorem level5State_otp  (s : State) : (level5State s).otp = s.otp := by
  simp only [level5State, warmState, powerOnState, receiverReset_otp]
@[simp] theorem reactSignal_otp (src : Nat) (i : FaultInfo) (lvl : Nat) (s : State) : (reactSignal src i lvl s).otp = s.otp := by
  unfold reactSignal
  simp only [event_otp]
  (repeat' split) <;> simp
@[simp] theorem reactTrap_otp (src : Nat) (s : State) : (reactTrap src s).otp = s.otp := by
  unfold reactTrap
  split <;> rfl
@[simp] theorem reactDomain_otp (src : Nat) (s : State) : (reactDomain src s).otp = s.otp := by
  unfold reactDomain
  split <;> simp
@[simp] theorem reactLow_otp (src : Nat) (i : FaultInfo) (lvl : Nat) (b : Bool) (s : State) : (reactLow src i lvl b s).otp = s.otp := by
  unfold reactLow
  dsimp only
  generalize h1 : (if 1 ≤ lvl then reactSignal src i lvl s else s) = x
  generalize h2 : (if 2 ≤ lvl then reactTrap src x else x) = y
  generalize h3 : (if 3 ≤ lvl then reactDomain src y else y) = z
  have e1 : x.otp = s.otp := (by rw [← h1]; split <;> simp)
  have e2 : y.otp = x.otp := (by rw [← h2]; split <;> simp)
  have e3 : z.otp = y.otp := (by rw [← h3]; split <;> simp)
  rw [← e1, ← e2, ← e3]
  split <;> rfl
@[simp] theorem react_otp (src : Nat) (i : FaultInfo) (lvl : Nat) (b : Bool) (s : State) : (react src i lvl b s).otp = s.otp := by
  unfold react
  split
  · simp
  split <;> simp
@[simp] theorem logSource_otp (src : Nat) (i : FaultInfo) (j : Bool) (d : List Byte) (s : State) : (logSource src i j d s).otp = s.otp := by
  rfl
@[simp] theorem assertSource_otp (src : Nat) (i : FaultInfo) (j : Bool) (d : List Byte) (s : State) : (assertSource src i j d s).otp = s.otp := by
  unfold assertSource
  dsimp only
  split <;> simp
@[simp] theorem raise_otp (src : Nat) (d : List Byte) (s : State) : (raise src d s).otp = s.otp := by
  unfold raise
  (repeat' split) <;> simp

end Sys2Proof.Laws
end

