-- ==== Sys2Proof/Tests/Slice0.lean ====
section
/-! SUPPORT. Tests: worked figures of the manual, a smoke test of well-formedness, and for every statement a
state and operands that meet the hypotheses of its clauses. -/

set_option Elab.async false
set_option linter.all false

namespace Sys2Proof.Tests
open Sys2Proof Sys2Proof.Machine Sys2Proof.Laws

/-! ### Small states -/

theorem faultInfo_big (n : Nat) (h : 512 ≤ n) : faultInfo n = none := by
  unfold faultInfo
  repeat (rw [if_neg (by first | omega | (simp only [inRow, Bool.and_eq_true, decide_eq_true_eq]; omega))])

/-- No reaction of a fault is set by the plate. -/
def calmB (s : State) : Bool := s.cfg.par.all (fun x => x.1 / 2 ^ 24 != 0x50)

theorem dflt_calm : (List.range 512).all (fun n => match faultInfo n with
  | some f => f.fixed || [4, 7, 353, 357].contains n || decide (f.dflt < 4) | none => true) = true := by decide +kernel

theorem find_none (m : SMap Int) (k : Nat) (h : m.all (fun x => x.1 / 2 ^ 24 != 0x50) = true) (hk : k / 2 ^ 24 = 0x50) : m.find k = none := by
  induction m with
  | nil => rfl
  | cons x m ih =>
    simp only [List.all_cons, Bool.and_eq_true, bne_iff_ne] at h
    have hx : x.1 ≠ k := fun e => h.1 (e ▸ hk)
    obtain ⟨a, b⟩ := x
    simp only [SMap.find]
    rw [if_neg hx]; exact ih h.2

theorem calm_of (s : State) (h : calmB s = true) : Calm s := by
  intro n f hf hx hn
  by_cases hb : n < 512
  · have := List.all_eq_true.mp dflt_calm n (by simpa using hb)
    rw [hf] at this
    simp only [hx, Bool.false_or, Bool.or_eq_true, decide_eq_true_eq] at this
    have hd : f.dflt < 4 := by
      rcases this with h1 | h1
      · exact absurd (by simpa using h1) hn
      · exact h1
    have e1 : (0x50 * 2 ^ 24 + n * 2 ^ 8 + 0) / 2 ^ 24 = 0x50 := by omega
    have e2 : (0x50 * 2 ^ 24 + n * 2 ^ 8 + 0) / 2 ^ 8 % 2 ^ 16 = n := by omega
    have e3 : (0x50 * 2 ^ 24 + n * 2 ^ 8 + 0) % 2 ^ 8 = 0 := by omega
    have ef := find_none s.cfg.par (pid 0x50 n 0) h e1
    simp only [faultLevel, hf, hx, parN, par, parOf, ef]
    simp only [parDflt, pid, e1, e2, e3, hf]
    simpa using hd
  · rw [faultInfo_big n (by omega)] at hf; cases hf

/-- A small plate: port 0 with two moorings in arm 0, one node that takes a setpoint, one stage, one slot. -/
def plate : Plate :=
  { hdr := { magic := 0, format := 1, variant := 0x20, keySlot := 0, imageSize := 0, minFw := 0, plateTag := 7, nodeCount := 1, homeBound := 100,
             sectionCount := 0, sigOffset := 0 }
    params := [(pid 2 0 0, 1)], order := [(0, [0, 1]), (31, [])], arms := [(0, [{ ci := 0 }, { ci := 1 }])]
    nodes := [{ node := 0, opcode := 1, armSel := 1, steps := 2, outLen := 1 }]
    stages := [(0, { val := { e := 1, m := [4194304] } })], slots := [(0, 0)] }

/-- A unit in a device state, ACTIVE, with its clocks, an ENGINEER's session on mailbox 0, and the small plate. -/
def unitIn (d : DevState) : State :=
  { State.reset with
    dev := { State.reset.dev with porstN := true, mpcReady := true, ticksRun := true, idleSeen := true, state := d, phase := if d == .running then .service else .none }
    tan := { State.reset.tan with role := .active }
    clk := { State.reset.clk with locked := [true, true, true, true, true] }
    cfg := { plate := some plate, par := plate.params, parI := plate.params, stages := plate.stages, stagesI := plate.stages, plateTag := 7 }
    cyc := { State.reset.cyc with running := true, n := 5 }
    host := { State.reset.host with perstHigh := true, cfgReady := true, vecMask := 0 }
    srb := { State.reset.srb with reqs := [], pinA := true, pinB := true }
    obs := { State.reset.obs with recs := [(0, { converged := true }), (1, { converged := true })] }
    mbx := [(0, { role := some .engineer, sessOpen := true, epoch := 1, party := 3, reserved := 1 })] }

/-- A command of that session. -/
def hdr : BcsHdr := { mbx := 0, sessionEpoch := 1, tag := 9 }

/-- The unit, but a follower. -/
def follow (d : DevState) : State := { unitIn d with tan := { State.reset.tan with role := .standby } }

/-- The unit with a follower that may take over. -/
def pair (d : DevState) : State := { unitIn d with tan := { State.reset.tan with role := .active, last := some { role := .eligible } } }

/-- The unit with a command of the session waiting for the current cycle. -/
def waitIn (d : DevState) (op : Nat) (args : List Int) : State :=
  { unitIn d with cyc := { State.reset.cyc with running := true, n := 5, waiting := [{ mbx := 0, tag := 9, epoch := 1, opcode := op, cycle := 5, args := args }] } }

/-- The unit with its port 0 in a lane state, locked, and its moorings in a mooring state. -/
def portIn (d : DevState) (l : LaneState) (m : MoorState) : State :=
  { unitIn d with ports := [(0, { lane := l, locked := true, squelch := false })], moors := [(0, { st := m }), (1, { st := m })] }

/-- The unit with mailbox `n` as given. -/
def mailUnit (n : Nat) (m : Mbx) : State := { unitIn .running with mbx := [(n, m)] }
def aMsg : Msg := { kind := 2, opcode := 5 }

/-- The unit with domain 0 served from PPS_IN. -/
def ppsUnit : State := { unitIn .running with
  cfg := { (unitIn .running).cfg with par := [(pid 2 0 0, 1), (pid 0x65 0 0, 1)] }
  time := { State.reset.time with td0 := { State.reset.time.td0 with valid := true } } }

/-- A unit with the record of source 371 latched. -/
def latchedUnit : State := raise 371 [] (unitIn .idle)

/-- A named cycle. -/
def at1000 : When := { cycle := 1000 }

/-- The unit with input 3 of the timer on, its point moving, and its last edge at an instant. -/
def getUnit (last : Nat) : State := { unitIn .running with
  cfg := { (unitIn .running).cfg with par := [(pid 0x34 3 0, 1)] }
  get := [(1, { standstill := false, last := [(0, last)] })] }

/-- The 32 bytes of a service message. -/
def svcMsg (type mooring tag : Nat) (payload : List Byte) : List Byte :=
  (be 1 type ++ be 1 0 ++ be 1 mooring ++ be 1 tag ++ payload ++ List.replicate 28 0).take 32
/-- The burst of a service message. -/
def svcBurst (type mooring tag : Nat) (payload : List Byte) : Burst := burstOf 256 (ofBe (svcMsg type mooring tag payload))

theorem svc_req (s : State) (p type m tag : Nat) (pl : List Byte) (q : Req)
    (h : ofBe (svcMsg type m tag pl) < 2 ^ 256 ∧ be 32 (ofBe (svcMsg type m tag pl)) = svcMsg type m tag pl ∧ svcField (svcMsg type m tag pl) 0 0 = type ∧
      reqOf s p (svcField (svcMsg type m tag pl) 3 3) = some q) :
    svcReq s p type (svcBurst type m tag pl) = some (q, svcMsg type m tag pl) := by
  obtain ⟨h1, h2, h3, h4⟩ := h
  simp only [svcReq, svcBurst, svc_in _ h1, h2, if_pos h3, h4, Option.map_some]

theorem svc_msg (type m tag : Nat) (pl : List Byte)
    (h : ofBe (svcMsg type m tag pl) < 2 ^ 256 ∧ be 32 (ofBe (svcMsg type m tag pl)) = svcMsg type m tag pl) :
    svcIn (svcBurst type m tag pl) = some (svcMsg type m tag pl) := by rw [svcBurst, svc_in _ h.1, h.2]

theorem svc_other (s : State) (p type ty m tag : Nat) (pl : List Byte)
    (h : ofBe (svcMsg type m tag pl) < 2 ^ 256 ∧ be 32 (ofBe (svcMsg type m tag pl)) = svcMsg type m tag pl ∧
      (svcField (svcMsg type m tag pl) 0 0 ≠ ty ∨ reqOf s p (svcField (svcMsg type m tag pl) 3 3) = none)) :
    svcReq s p ty (svcBurst type m tag pl) = none := by
  obtain ⟨h1, h2, h3⟩ := h
  simp only [svcReq, svcBurst, svc_in _ h1, h2]
  rcases h3 with h3 | h3
  · rw [if_neg h3]
  · rw [h3]; simp

/-- A wrong line bit spoils a burst (R191). -/
theorem test_burst_spoiled : reportIn { burstOf 128 5 with line := (burstOf 128 5).line.set 127 (!((burstOf 128 5).line.getD 127 false)) } = none := by
  decide +kernel

theorem test_calm_unit : Calm (unitIn .running) := calm_of _ (by decide +kernel)
theorem test_passes : Passes hdr cDeviceStatus (unitIn .running) := by unfold Passes Heard; decide +kernel

/-! ### Hypotheses of the statements about the machine as a whole -/

theorem test_witness_StepIdles : State.reset.pending = [] := by decide

/-- A unit with a command that waits. -/
def queueUnit : State := { unitIn .idle with pending := [.observerImageHold true] }
theorem test_witness_StepsTakeOneCommandForward : ∃ t, step { unitIn .idle with pending := .observerImageHold true :: [] } = .next t := ⟨_, rfl⟩
theorem test_witness_StepKeepsStore : Sound queueUnit ∧ ∃ t, step queueUnit = .next t := ⟨by unfold Sound; decide +kernel, ⟨_, rfl⟩⟩
theorem test_witness_OtpOnlyGains : ∃ t, step queueUnit = .next t := ⟨_, rfl⟩

theorem test_witness_LatchedStays : Latched latchedUnit 371 ∧ (∃ t, step latchedUnit = .next t) ∧ latchedUnit.pending.head? = none :=
  ⟨by unfold Latched; decide +kernel, ⟨_, rfl⟩, by decide +kernel⟩
/-- Its command other than an acknowledgement. -/
theorem test_witness_LatchedStays_command : Latched { latchedUnit with pending := [.idcode] } 371 ∧
    ∃ t, step { latchedUnit with pending := [.idcode] } = .next t := ⟨by unfold Latched; decide +kernel, ⟨_, rfl⟩⟩

/-! ### Resets and start-up -/

theorem test_witness_PowerOnAndWarmReset : (unitIn .running).dev.porstN = true ∧ heldInReset (unitIn .running) = false ∧
    Latched latchedUnit 371 ∧ heldInReset latchedUnit = false ∧ sessionOf (unitIn .running) 0 = true := by
  unfold Latched; decide +kernel

theorem test_witness_ResetRelease : State.reset.dev.porstN = false ∧
    (∃ t, exec .railMonitorTrip (unitIn .running) = .next t ∧ t.dev.railHold = true) := ⟨by decide +kernel, _, rfl, by decide +kernel⟩

/-- A unit in BOOT with its power-on reset just released. -/
def booting : State := { State.reset with dev := { State.reset.dev with porstN := true, state := .boot } }
def bootedRec : State := { booting with otp := { State.reset.otp with ownerKey := some [] },
                                        dev := { booting.dev with bootRec := some {}, coldStart := false } }
/-- An image whose signature the model leaves open is not used: an image that is out of range authenticates nothing. -/
theorem test_witness_BootStepsAndEnd : booting.dev.state = .boot ∧ booting.dev.ticksRun = false ∧ booting.dev.coldStart = true ∧
    booting.otp.ownerKey = none ∧ bootedRec.otp.ownerKey.isSome = true ∧ bootedRec.dev.bootRec.isSome = true ∧ bootedRec.dev.porstN = true ∧
    bootedRec.dev.railHold = false ∧ bootedRec.cyc.running = false ∧ (rec? bootedRec 0).active = false ∧ bootedRec.dev.coldStart = false ∧
    imageOk bootedRec { release := 1, rollback := 0, signed := true } = true ∧ imageOk bootedRec { release := 2, rollback := 0, signed := true } = true := by
  decide +kernel

/-! ### The control cycle -/

theorem test_witness_CycleStarts :
    (Calm (unitIn .running) ∧ (unitIn .running).cyc.running = true ∧ reached (advanceTo 240000 (unitIn .running)) 6 0 = true) ∧
    ((unitIn .loaded).cyc.running = true ∧ reached (advanceTo 0 (unitIn .loaded)) 6 0 = false) ∧
    (Calm { unitIn .loaded with cyc := { State.reset.cyc with baseWait := true } } ∧
      reached (advanceTo 0 { unitIn .loaded with cyc := { State.reset.cyc with baseWait := true } }) 0 0 = true) ∧
    (unitIn .loaded).cyc.baseWait = false :=
  ⟨⟨calm_of _ (by decide +kernel), by decide +kernel, by decide +kernel⟩, by decide +kernel, ⟨calm_of _ (by decide +kernel), by decide +kernel⟩, by decide +kernel⟩

theorem test_witness_CommandsAtTheirCycle :
    (Calm (waitIn .ready 0x10 [])) ∧
    (let s := waitIn .ready 0x10 []
     nextDue s = s.cyc.waiting.head? ∧ follower s = false ∧ deblockCheck s = .ok) ∧
    (let s := waitIn .loaded 0x10 []
     nextDue s = s.cyc.waiting.head? ∧ deblockCheck s ≠ .ok) ∧
    (let s := waitIn .blocked 0x12 []
     nextDue s = s.cyc.waiting.head? ∧ blockClearOk s = false) ∧
    (let s := { waitIn .blocked 0x12 [] with moors := [(0, { st := .serving, last := some { echoState := .block } }), (1, { st := .serving, last := some { echoState := .block } })] }
     nextDue s = s.cyc.waiting.head? ∧ follower s = false ∧ blockClearOk s = true) ∧
    (let s := waitIn .running 0x13 [4]
     nextDue s = s.cyc.waiting.head? ∧ Phase.ofCode 4 = some .recovery ∧ s.dev.recoveryNow = false ∧ phaseStep s.dev.phase .recovery = true) ∧
    (let s := waitIn .running 0x30 [0]
     nextDue s = s.cyc.waiting.head? ∧ s.cfg.plate = some plate ∧ plate.slots.find 0 = some 0) ∧
    (let s := waitIn .running 0x32 [1]
     nextDue s = s.cyc.waiting.head? ∧ mayExclude s 1 = true ∧ memberOf s 1 = some (0, { ci := 1 })) ∧
    (let s := waitIn .running 0x61 [4095]
     nextDue s = s.cyc.waiting.head? ∧ s.cyc.running = true) ∧
    (nextDue (waitIn .running 0x16 [0])).isSome = true ∧ switchBad (waitIn .running 0x16 [0]) 0 = none ∧ switchBad (waitIn .running 0x16 [7]) 7 ≠ none ∧
    atBoundary (waitIn .running 0x16 [0]) = true ∧ (nextDue (waitIn .running 0x40 [0, 4])).isSome = true ∧
    (nextDue (waitIn .running 0x41 [])).isSome = true ∧ (nextDue (waitIn .running 0x42 [0, 4])).isSome = true ∧
    (nextDue (waitIn .running 0x44 [1])).isSome = true ∧ nextDue (unitIn .running) = none ∧
    (let s := { waitIn .running 0x33 [1] with arms := [(0, { cats := [(1, { cat := .excluded })] })] }
     nextDue s = s.cyc.waiting.head? ∧ mayRestore s 1 = true ∧ (memberOf s 1).isSome = true) :=
  ⟨calm_of _ (by decide +kernel), by decide +kernel⟩

/-- A unit with one staged change and its commit for the current cycle. -/
def committing (d : DevState) (entries : List (Nat × Int)) : State :=
  { unitIn d with pound := { State.reset.pound with entries := entries, owner := some (0, 1), commit := some (5, 0, 9, false) } }

theorem test_witness_LockThrough :
    (let s := committing .running [(pid 2 0 0, 1)]
     ∃ c, candOf s = some c ∧ lockDue s = true ∧ liveOk s c = true) ∧
    (let s := committing .running [(pid 0x40 0 8, 9)]
     ∃ c, candOf s = some c ∧ lockDue s = true ∧ liveOk s c = false) ∧
    (let s := { committing .running [(pid 2 0 0, 1)] with cyc := { State.reset.cyc with running := true, n := 4 } }
     ∃ c, candOf s = some c ∧ lockDue s = false) :=
  ⟨⟨_, rfl, by decide +kernel⟩, ⟨_, rfl, by decide +kernel⟩, ⟨_, rfl, by decide +kernel⟩⟩

/-- A unit whose staged plate is to lock through in the current cycle. -/
def plating (d : DevState) : State :=
  { unitIn d with pound := { State.reset.pound with plate := some plate, owner := some (0, 1), commit := some (5, 0, 9, true) } }

theorem test_witness_WholePlate :
    (∃ c, candOf (plating .ready) = some c ∧ liveOk (plating .ready) c = true) ∧
    (∃ c, candOf (plating .idle) = some c ∧ liveOk (plating .idle) c = true) ∧
    (plating .ready).pound.commit = some ((plating .ready).cyc.n, 0, 9, true) ∧ (plating .running).pound.plate = some plate ∧
    Calm { plating .ready with cfg := { plate := some plate, par := plate.params, parI := plate.params, stages := plate.stages, stagesI := plate.stages, plateTag := plate.hdr.plateTag } } ∧
    Calm { plating .idle with cfg := { plate := some plate, par := plate.params, parI := plate.params, stages := plate.stages, stagesI := plate.stages, plateTag := plate.hdr.plateTag } } :=
  ⟨⟨_, rfl, by decide +kernel⟩, ⟨_, rfl, by decide +kernel⟩, by decide +kernel, by decide +kernel, calm_of _ (by decide +kernel), calm_of _ (by decide +kernel)⟩

/-! ### Reports, fabric and frames -/

theorem test_witness_Reports :
    let s := portIn .running .up .ranged
    let b := burstOf 128 0
    Calm s ∧ moorNamed s 0 1 = true ∧ (port s 0).lane = .up ∧ (port s 0).locked = true ∧ slotSuspended s 0 1 = false ∧ delimOk (-8) b = true ∧
    malformedRep s 0 (ciOf 0 1) (reportOf 0) = false ∧ (moor s (ciOf 0 1)).st = .ranged ∧
    reportIn { b with line := b.line.drop 1 } = none ∧ delimOk 9 b = false ∧ moorNamed s 0 2 = false ∧ reportIn b = some 0 :=
  ⟨calm_of _ (by decide +kernel), by decide +kernel, by decide +kernel, by decide +kernel, by decide +kernel, by decide +kernel, by decide +kernel,
   by decide +kernel, by decide +kernel, by decide +kernel, by decide +kernel, report_in 0 (by decide)⟩
/-- A burst whose word is out of form. -/
theorem test_witness_Reports_malformed :
    let s := portIn .running .up .ranged
    ∃ w, reportIn (burstOf 128 (2 ^ 128 - 1)) = some w ∧ malformedRep s 0 (ciOf 0 1) (reportOf w) = true :=
  ⟨BitVec.ofNat 128 (2 ^ 128 - 1), report_in _ (by decide), by decide +kernel⟩
theorem test_witness_Reports_ingress :
    (let s := { unitIn .running with obs := { State.reset.obs with buf := [{ ci := 1, rep := {}, cycle := 4 }] } }
     s.obs.buf.find? (fun r => r.ci = 1) = some { ci := 1, rep := {}, cycle := 4 } ∧ after 48 5 4 = true) ∧
    (let s := { unitIn .running with obs := { State.reset.obs with buf := [{ ci := 1, rep := {}, cycle := 5 }] } }
     s.obs.buf.find? (fun r => r.ci = 1) = some { ci := 1, rep := {}, cycle := 5 } ∧ s.cyc.frozen = false ∧ after 48 5 5 = false) ∧
    (unitIn .running).obs.buf.find? (fun r => r.ci = 1) = none := by decide +kernel

/-- The unit in a running cycle after its cutoff. -/
def frozenUnit : State := { unitIn .running with cyc := { State.reset.cyc with running := true, n := 5, frozen := true } }

theorem test_witness_CutoffAndObserver :
    Calm (unitIn .running) ∧ Calm frozenUnit ∧ (unitIn .running).cyc.frozen = false ∧
    reached (advanceTo 240000 (unitIn .running)) 5 (parN (unitIn .running) 1 0 2) = true ∧ reached (unitIn .running) 5 (parN (unitIn .running) 1 0 2) = false ∧
    frozenUnit.dev.state.observes = true ∧ DevState.faulted.observes = true ∧ frozenUnit.cyc.obsDone = false ∧ (unitIn .idle).dev.state.observes = false :=
  ⟨calm_of _ (by decide +kernel), calm_of _ (by decide +kernel), by decide +kernel⟩

/-- The unit with node 0 in lane 3, its last step to come or one more. -/
def laneUnit (k : Nat) : State := { frozenUnit with graph := { State.reset.graph with lanes := [(3, { exec := some 0, stepsLeft := k })], work := frozenUnit.graph.cur } }

theorem test_witness_StepsOfTheFabric :
    (graphLive (laneUnit 2) = true ∧ ((laneUnit 2).graph.lanes.get 3 {}).exec = some 0 ∧ 1 < ((laneUnit 2).graph.lanes.get 3 {}).stepsLeft) ∧
    ((laneUnit 2).dev.porstN = true ∧ (laneUnit 2).dev.railHold = false) ∧ Calm (laneUnit 2) ∧
    (graphLive (laneUnit 1) = true ∧ ((laneUnit 1).graph.lanes.get 3 {}).stepsLeft = 1 ∧ (node? (laneUnit 1) 0).isSome = true) ∧
    graphLive (unitIn .running) = false ∧
    (let s := { frozenUnit with graph := { State.reset.graph with done := [0] }, cyc := { frozenUnit.cyc with obsDone := true } }
     0 < nArms s ∧ armReady s 0 = true ∧ (armNode s 0).isSome = true) ∧ armReady frozenUnit 1 = false :=
  ⟨by decide +kernel, by decide +kernel, calm_of _ (by decide +kernel), by decide +kernel⟩

/-- The unit with port 0 lit, all packed, in a cycle. -/
def packedUnit : State := { portIn .running .up .serving with
  cyc := { State.reset.cyc with running := true, n := 5, frozen := true, graphDone := true, obsDone := true, armsDone := [0], packed := [0] }
  arms := [(0, { out := some {} })] }

theorem test_witness_FramesOfTheCycle :
    (let s := { packedUnit with cyc := { packedUnit.cyc with packed := [] } }
     portLive s 0 = true ∧ armsReadyFor s 0 = true ∧ s.cyc.launched = false) ∧
    (lit packedUnit 0 = true ∧ blockFrames packedUnit = false ∧ allPacked packedUnit = true) ∧ Calm packedUnit ∧
    (let s := { packedUnit with cyc := { packedUnit.cyc with packed := [] } }
     reached (advanceTo 240000 s) 5 (parN s 1 0 2 + 85) = true ∧ blockFrames s = false ∧ allPacked s = false ∧ transmits s = true) ∧
    (let s := { packedUnit with dev := { packedUnit.dev with state := .ready } }
     reached (advanceTo 240000 s) 5 (parN s 1 0 2 + 85) = true ∧ blockFrames s = true ∧ s.cyc.launched = false) ∧ (8500 : Nat) ≤ 8500 ∧
    reached packedUnit 5 (parN packedUnit 1 0 2 + 85) = false :=
  ⟨by decide +kernel, by decide +kernel, calm_of _ (by decide +kernel), by decide +kernel⟩

theorem test_witness_InhibitStaleMemory :
    (let s := { portIn .running .up .serving with srb := { (unitIn .running).srb with inhibit := true } }
     s.srb.inhibit = true ∧ (port s 0).inhibit = false ∧ sending s 0 = true) ∧
    (let s := { portIn .running .up .serving with srb := { (unitIn .running).srb with inhibit := true }, ports := [(0, { lane := .step })] }
     (port s 0).inhibit = false ∧ sending s 0 = false) ∧
    (let s := { unitIn .running with ports := [(31, { lane := .step, locked := true, squelch := false, inhibit := true })] }
     31 < nPorts s ∧ (port s 31).inhibit = true ∧ sending s 31 = true) ∧
    (unitIn .running).srb.inhibit = false ∧
    (let s := { unitIn .running with cyc := { (unitIn .running).cyc with n := 10 }, points := [(40, { valid := true, wrote := 1 }), (41, { valid := true, wrote := 2 })] }
     staleAfter s 40 = some 8 ∧ 8 < (s.cyc.n - (s.points.get 40 {}).wrote).toNat ∧ staleAfter s 41 = some 8 ∧
     (s.cyc.n - (s.points.get 41 {}).wrote).toNat ≤ 8) ∧
    Calm (unitIn .running) ∧ (unitIn .running).dev.porstN = true ∧ (unitIn .running).dev.railHold = false :=
  ⟨by decide +kernel, by decide +kernel, by decide +kernel, by decide +kernel, by decide +kernel, calm_of _ (by decide +kernel), by decide +kernel⟩

/-! ### Basin ports -/

/-- The unit with an outstanding request on port 0. -/
def asked (d : DevState) (l : LaneState) (m : MoorState) (q : Req) (acked : List Nat) : State :=
  { unitIn d with ports := [(0, { lane := l, locked := true, squelch := false, reqs := [q], acked := acked, stepCycle := 40 })], moors := [(0, { st := m }), (1, { st := m })] }

/-- A request as it was sent to mooring 1, with its reply's preamble. -/
def sentReq (kind : Nat) : Req := { kind := kind, tag := 7, mooring := 1, opens := 3000, len := 9000, pre := preBits .bl1 true, cycle := 5, asked := [1] }

/-- A DISC_REPLY of serial number 8 at a location, of BL3, with a CELL_TYPE. -/
def discBurst (loc type : Nat) : Burst := svcBurst 0x81 0 7 (be 6 loc ++ be 8 8 ++ be 1 (192 + type * 16) ++ List.replicate 9 0)

theorem test_witness_AdmissionAndRanging_admission :
    (let s := asked .loaded .acquire .vacant (sentReq 4) []
     ∃ q bs, svcReq s 0 0x81 (discBurst 0 0) = some (q, bs) ∧ q.kind = 4 ∧ (port s 0).locked = true ∧ inWindow s 0 q q.pre 400000 = true ∧
     (portOrder s 0).find? (fun m => locationOf s (ciOf 0 m) = (discOf bs).location.toNat) = some 0 ∧ (moor s (ciOf 0 0)).st = .vacant ∧
     (basinGen s 0).code ≤ (discOf bs).genMax ∧ (discOf bs).cellType = some (cellType s (ciOf 0 0)) ∧ s.dev.porstN = true ∧ s.dev.railHold = false ∧
     mayDiscover s 0 = true) ∧ Calm (asked .loaded .acquire .vacant (sentReq 4) []) :=
  ⟨⟨sentReq 4, svcMsg 0x81 0 7 (be 6 0 ++ be 8 8 ++ be 1 192 ++ List.replicate 9 0), svc_req _ _ 0x81 0 7 (be 6 0 ++ be 8 8 ++ be 1 192 ++ List.replicate 9 0) _ (by decide +kernel), by decide +kernel⟩, calm_of _ (by decide +kernel)⟩

/-- A cell of another type, another cell at a served mooring, the cell itself, and a location outside the plate. -/
theorem test_witness_AdmissionAndRanging_refusal :
    (let s := asked .loaded .acquire .vacant (sentReq 4) []
     ∃ q bs, svcReq s 0 0x81 (discBurst 0 2) = some (q, bs) ∧ (discOf bs).cellType ≠ some (cellType s (ciOf 0 0))) ∧
    (let s := asked .loaded .acquire .ranged (sentReq 4) []
     ∃ q bs, svcReq s 0 0x81 (discBurst 0 0) = some (q, bs) ∧ (moor s (ciOf 0 0)).st ≠ .vacant ∧ (moor s (ciOf 0 0)).serial ≠ (discOf bs).serial) ∧
    (let s := { asked .loaded .acquire .ranged (sentReq 4) [] with moors := [(0, { st := .serving, serial := 8 })] }
     ∃ q bs, svcReq s 0 0x81 (discBurst 0 0) = some (q, bs) ∧ (moor s (ciOf 0 0)).st = .serving ∧ (moor s (ciOf 0 0)).serial = (discOf bs).serial) ∧
    (let s := asked .loaded .acquire .vacant (sentReq 4) []
     ∃ q bs, svcReq s 0 0x81 (discBurst 5 0) = some (q, bs) ∧ (portOrder s 0).find? (fun m => locationOf s (ciOf 0 m) = (discOf bs).location.toNat) = none) ∧
    svcReq (unitIn .loaded) 0 0x81 (discBurst 0 0) = none ∧ mayDiscover (unitIn .running) 0 = false :=
  ⟨⟨sentReq 4, svcMsg 0x81 0 7 (be 6 0 ++ be 8 8 ++ be 1 224 ++ List.replicate 9 0), svc_req _ _ 0x81 0 7 (be 6 0 ++ be 8 8 ++ be 1 224 ++ List.replicate 9 0) _ (by decide +kernel), by decide +kernel⟩,
   ⟨sentReq 4, svcMsg 0x81 0 7 (be 6 0 ++ be 8 8 ++ be 1 192 ++ List.replicate 9 0), svc_req _ _ 0x81 0 7 (be 6 0 ++ be 8 8 ++ be 1 192 ++ List.replicate 9 0) _ (by decide +kernel), by decide +kernel⟩,
   ⟨sentReq 4, svcMsg 0x81 0 7 (be 6 0 ++ be 8 8 ++ be 1 192 ++ List.replicate 9 0), svc_req _ _ 0x81 0 7 (be 6 0 ++ be 8 8 ++ be 1 192 ++ List.replicate 9 0) _ (by decide +kernel), by decide +kernel⟩,
   ⟨sentReq 4, svcMsg 0x81 0 7 (be 6 5 ++ be 8 8 ++ be 1 192 ++ List.replicate 9 0), svc_req _ _ 0x81 0 7 (be 6 5 ++ be 8 8 ++ be 1 192 ++ List.replicate 9 0) _ (by decide +kernel), by decide +kernel⟩, svc_other _ _ 0x81 _ 0 7 _ (by decide +kernel), by decide +kernel⟩

/-- A RANGE_REPLY from mooring 1 to the frame of cycle 5. -/
def rangeBurst : Burst := svcBurst 0x82 1 7 (be 4 5 ++ be 1 0)

theorem test_witness_AdmissionAndRanging_ranging :
    (let s := asked .running .up .admitted (sentReq 1) []
     ∃ q bs, svcReq s 0 0x82 rangeBurst = some (q, bs) ∧ q.mooring = 1 ∧ replyFits s 0 1 q bs 300000 = true ∧
     svcField bs 4 7 = q.cycle.toNat % 2 ^ 32 ∧ (svcField bs 8 8).testBit 0 = q.train ∧ (moor s (ciOf 0 1)).st = .admitted ∧
     (measure s 0 (ciOf 0 1) q q.pre 0 300000).1 ≤ maxDown s 0 ∧ ageOk s 0 1 (measure s 0 (ciOf 0 1) q q.pre 0 300000).2 = true) ∧
    (let s := asked .running .up .admitted (sentReq 1) []
     Calm s ∧ svcReq s 0 0x82 (discBurst 0 0) = none ∧ reqOf s 0 7 = some (sentReq 1) ∧ (moor s (ciOf 0 1)).unanswered < 2 ∧ reqOf s 0 8 = none) ∧
    (let s := { asked .running .up .serving (sentReq 2) [] with moors := [(1, { st := .serving, unanswered := 2 })] }
     reqOf s 0 7 = some (sentReq 2) ∧ 2 ≤ (moor s (ciOf 0 1)).unanswered ∧ (moor s (ciOf 0 1)).st = .serving ∧ moorNamed s 0 1 = true ∧ follower s = false ∧
     s.dev.porstN = true ∧ s.dev.railHold = false) ∧
    (let s := { asked .running .up .admitted (sentReq 1) [] with moors := [(1, { st := .admitted, unanswered := 2 })] }
     2 ≤ (moor s (ciOf 0 1)).unanswered ∧ (moor s (ciOf 0 1)).everRanged = false) ∧
    (let s := { unitIn .running with moors := [(1, { st := .admitted, everRanged := true })] }
     moorNamed s 0 1 = true ∧ (moor s (ciOf 0 1)).st = .admitted ∧ (moor s (ciOf 0 1)).everRanged = true ∧ follower s = false) ∧
    moorNamed (unitIn .running) 0 2 = false :=
  ⟨⟨sentReq 1, svcMsg 0x82 1 7 (be 4 5 ++ be 1 0), svc_req _ _ 0x82 1 7 (be 4 5 ++ be 1 0) _ (by decide +kernel), by decide +kernel⟩,
   ⟨calm_of _ (by decide +kernel), svc_other _ _ 0x81 _ 0 7 _ (by decide +kernel), by decide +kernel⟩, by decide +kernel,
   by decide +kernel, by decide +kernel, by decide +kernel⟩

/-- A follower hears page 9 of mooring 1, with six values, in cycle 6. -/
def pageBurst : Burst := svcBurst 0x84 1 7 (be 2 9 ++ (List.range 6).flatMap (fun i => be 4 (i + 1)))
theorem test_witness_AdmissionAndRanging_page :
    let s := { follow .running with cyc := { (follow .running).cyc with n := 6 } }
    Calm s ∧ ∃ bs, svcIn pageBurst = some bs ∧ svcField bs 0 0 = 0x84 ∧ svcField bs 2 2 = 1 ∧ moorNamed s 0 1 = true ∧ svcField bs 4 5 = 9 ∧
      pageVals bs = [1, 2, 3, 4, 5, 6] ∧ follower s = true ∧
      (List.range 6).all (fun i => ptLater (s.points.get (ptOf (ciOf 0 1) (48 + 6 * 9 + i)) {}) (advanceTo 0 s).cyc.n (tickPhase (advanceTo 0 s))) = true :=
  ⟨calm_of _ (by decide +kernel), svcMsg 0x84 1 7 (be 2 9 ++ (List.range 6).flatMap (fun i => be 4 (i + 1))), svc_msg 0x84 1 7 _ (by decide +kernel), by decide +kernel⟩

/-- A STEP_ACK of mooring 1 to BL1 at cycle 40. -/
def ackBurst : Burst := svcBurst 0x83 1 7 (be 1 1 ++ be 4 40)

theorem test_witness_RateStepAndLossOfBasin_step :
    (let s := asked .loaded .negotiate .ranged (sentReq 3) []
     ∃ q bs, svcReq s 0 0x83 ackBurst = some (q, bs) ∧ q.kind = 3 ∧ svcField bs 2 2 = 1 ∧ 1 ∈ q.asked ∧ (port s 0).lane = .negotiate ∧
     1 ∉ (port s 0).acked ∧ svcField bs 4 4 = (basinGen s 0).code ∧ svcField bs 5 8 = (port s 0).stepCycle.toNat % 2 ^ 32 ∧
     inWindow s 0 q (preBits (port s 0).gen (!presetGood (moor s (ciOf 0 1)).preset)) 500000 = true) ∧
    (let s := asked .loaded .negotiate .ranged (sentReq 3) []
     Calm s ∧ (unacked s 0).any (fun m => required s (ciOf 0 m)) = true ∧ follower s = false ∧ svcReq s 0 0x83 rangeBurst = none) ∧
    (let s := { asked .loaded .negotiate .ranged { kind := 3, tag := 7 } [] with
                cfg := { (unitIn .loaded).cfg with par := [(pid 2 0 0, 1), (pid 3 0 12, 0), (pid 3 1 12, 0)] } }
     (unacked s 0).any (fun m => required s (ciOf 0 m)) = false ∧ unacked s 0 ≠ [] ∧ (port s 0).lane = .negotiate) ∧
    (let s := asked .loaded .negotiate .ranged { kind := 3, tag := 7 } [0, 1]
     unacked s 0 = [] ∧ (port s 0).lane = .negotiate ∧ follower s = false) ∧
    (let s := portIn .loaded .step .ranged
     (port s 0).lane = .step ∧ (port s 0).locked = true ∧ follower s = false) ∧
    (let s := { portIn .loaded .step .ranged with ports := [(0, { lane := .step })] }
     (port s 0).lane = .step ∧ (port s 0).locked = false) ∧
    (let s := portIn .loaded .train .ranged
     (port s 0).lane = .train ∧ follower s = false ∧ (port s 0).lane ≠ .negotiate ∧ (port s 0).lane ≠ .step) ∧ (port (unitIn .loaded) 0).lane ≠ .train :=
  ⟨⟨sentReq 3, svcMsg 0x83 1 7 (be 1 1 ++ be 4 40), svc_req _ _ 0x83 1 7 (be 1 1 ++ be 4 40) _ (by decide +kernel), by decide +kernel⟩,
   ⟨calm_of _ (by decide +kernel), by decide +kernel, by decide +kernel, svc_other _ _ 0x82 _ 1 7 _ (by decide +kernel)⟩, by decide +kernel⟩

theorem test_witness_RateStepAndLossOfBasin_loss :
    (let s := portIn .running .up .serving
     Calm s ∧ (port s 0).lane ≠ .dark ∧ (port s 0).lane ≠ .relock ∧ (portOrder s 0).any (fun m => admitted (moor s (ciOf 0 m)).st) = true ∧ (port s 0).los = false ∧
     s.dev.porstN = true ∧ s.dev.railHold = false ∧ (rec? s 96).active = false ∧ (rec? s 64).active = false) ∧
    (port (unitIn .running) 0).lane = .dark ∧
    (let s := { unitIn .running with ports := [(0, { lane := .relock, relockFrom := .up })] }
     (port s 0).lane = .relock ∧ (port s 0).relockFrom = .up ∧ (port s 0).locked = false ∧ pllALocked s = true) ∧
    (let s := { unitIn .running with ports := [(0, { lane := .relock, relockFrom := .step, gen := .bl3 })] }
     (port s 0).relockFrom ≠ .up ∧ (port s 0).gen ≠ .bl1 ∧ (port s 0).locked = false) ∧ pllALocked State.reset = false :=
  ⟨⟨calm_of _ (by decide +kernel), by decide +kernel⟩, by decide +kernel⟩

/-! ### Clocks and time -/

theorem test_witness_ClockLoops :
    (Calm (unitIn .running) ∧ (unitIn .running).clk.locked.length = 5 ∧ (∀ l : Pll, (unitIn .running).clk.locked.getD (pllIndex l) false = true) ∧
      (unitIn .running).dev.porstN = true ∧ (unitIn .running).dev.railHold = false ∧ (∀ l : Pll, (rec? (unitIn .running) (pllSource l)).active = false) ∧
      (faultLevel (unitIn .running) 7 = 4 ∧ pendingOf (unitIn .running) 0 = 0) ∧ (rec? (unitIn .running) 6).active = false) ∧
    (let s := { unitIn .running with clk := { (unitIn .running).clk with locked := [true, false, true, true, true] } }
     s.clk.onE = false ∧ s.clk.locked.getD 1 false = false ∧ s.clk.locked.getD (pllIndex .e) false = false ∧ s.dev.ticksRun = true) ∧
    (let s := { unitIn .running with clk := { (unitIn .running).clk with onE := true } }
     s.clk.onE = true ∧ s.clk.locked.getD 0 false = true) ∧ (50001 : Int).natAbs > 50000 ∧ (-50000 : Int).natAbs ≤ 50000 :=
  ⟨⟨calm_of _ (by decide +kernel), by decide +kernel, fun l => by cases l <;> decide +kernel, by decide +kernel, by decide +kernel,
    fun l => by cases l <;> decide +kernel, by decide +kernel, by decide +kernel⟩, by decide +kernel⟩

theorem test_witness_ConverterTimeAndPtp_time :
    Calm (unitIn .running) ∧ (unitIn .running).time.active < 2 ∧ (1 : Nat) ≠ (unitIn .running).time.active ∧ follower (follow .running) = true ∧
    ctFollows (unitIn .idle) = true ∧ ctFollows (unitIn .running) = false ∧
    (let s := { unitIn .running with time := { State.reset.time with slew := true, td0 := { State.reset.time.td0 with ctr := { frac := 5 } } } }
     Calm s ∧ s.time.slew = true ∧ ((ctOff s.time).natAbs : Int) ≤ slewStep (par s 0x32 0 2)) ∧ (advanceTo 9 (unitIn .running)).time.slew = false :=
  ⟨calm_of _ (by decide +kernel), by decide +kernel, by decide +kernel, by decide +kernel, by decide +kernel, by decide +kernel,
   ⟨calm_of _ (by decide +kernel), by decide +kernel⟩, by decide +kernel⟩

theorem test_witness_ConverterTimeAndPtp_pps :
    Calm (unitIn .running) ∧ Calm ppsUnit ∧ onPps ppsUnit 0 = true ∧ (ppsUnit.time.dom 0).valid = true ∧ onPps (unitIn .running) 1 = false ∧
    (∃ u, ({ ppsUnit with now := 300000000, time := { ppsUnit.time with ppsTick := some 100000001 } }).time.ppsTick = some u ∧ 300000000 - u < 200000000) ∧
    (unitIn .running).time.ppsTick = none ∧
    (let s := { unitIn .running with time := { State.reset.time with td1 := { State.reset.time.td1 with valid := true } } }
     (s.time.dom 1).valid = true ∧ onPps s 1 = false) ∧
    (let s := { unitIn .running with stn := { State.reset.stn with ports := [(0, { up := true })] } }
     judgeSync s = s ∧ s.dev.state.idleOn = true ∧ tdOnPort s 0 0 = true ∧ (stp s 0).up = true) ∧ (stp (unitIn .running) 7).up = false :=
  ⟨calm_of _ (by decide +kernel), calm_of _ (by decide +kernel), by decide +kernel, by decide +kernel, by decide +kernel, ⟨_, rfl, by decide +kernel⟩,
   by decide +kernel, by decide +kernel, by decide +kernel, by decide +kernel⟩

/-- The unit with a link on port 0 that is a master of domain 0, at a second of its counter. -/
def masterUnit : State := { unitIn .running with
  stn := { State.reset.stn with ports := [(0, { up := true })] }
  time := { State.reset.time with ct := { sec := 5, ns := 0, frac := 0 } } }

theorem test_witness_ConverterTimeAndPtp_due :
    (masterUnit.time.ppsSec < ppsNow masterUnit ∧ ppsNow (unitIn .running) ≤ (unitIn .running).time.ppsSec) ∧
    (masterUnit.time.ppsEdge * (ppsSource masterUnit).2 + par masterUnit 0x33 0 2 * 1000 * 2 ^ 32 * 64 ≤ ((ppsSource masterUnit).1 : Int) * 64) ∧
    (((ppsSource (unitIn .running)).1 : Int) * 64 < (unitIn .running).time.ppsEdge * (ppsSource (unitIn .running)).2 + par (unitIn .running) 0x33 0 2 * 1000 * 2 ^ 32 * 64) ∧
    (let s := { masterUnit with cfg := { masterUnit.cfg with par := [(pid 2 0 0, 1), (pid 0x31 0 6, 0)] } }
     portState s 0 0 = .master ∧ ptpTwo s 0 = false ∧ tdOnPort s 0 0 = true ∧ (stp s 0).up = true ∧ judgeSync s = s) ∧
    portState (unitIn .running) 0 0 ≠ .master ∧ (parN (unitIn .running) 0x31 0 0 ≠ 1 ∨ mayMaster (unitIn .running) 0 = false) ∧
    onPps (unitIn .running) 0 = false := by decide +kernel

/-! ### Test port, supply, host interface -/

theorem test_witness_TestPort : (Instr.highz, 7) ∈ [(Instr.extest, 3), (.extestPulse, 4), (.extestTrain, 5), (.clamp, 6), (.highz, 7)] ∧
    State.reset.dev.porstN = false ∧ (unitIn .idle).dev.porstN = true ∧ (unitIn .idle).dev.warmN = true ∧ (unitIn .idle).dev.railHold = false ∧
    (rec? (unitIn .idle) 371).active = false ∧ State.reset.otp.ownerKey = none ∧ factoryMode (unitIn .idle) = false ∧
    factoryMode { unitIn .idle with dev := { (unitIn .idle).dev with testStrap := true, keyStep := 3 } } = true := by decide +kernel

/-- The unit with a least slack of a window. -/
def slackUnit (v : Nat) (m : Int) : State := { unitIn .running with gov := { State.reset.gov with v := v, sMin := some m, recover := v == 8700 } }

theorem test_witness_GovernorWindow :
    governs (unitIn .idle) = false ∧
    (let s := slackUnit 8000 1200; governs s = true ∧ s.gov.sMin = some 1200 ∧ par s 0x60 0 0 * 25 ≤ 1200 ∧ 1200 ≤ par s 0x60 0 2 * 25) ∧
    (let s := slackUnit 8000 6000; par s 0x60 0 2 * 25 < 6000 ∧ par s 0x60 0 0 * 25 ≤ 6000) ∧
    (let s := slackUnit 8000 10; (10 : Int) < par s 0x60 0 0 * 25 ∧
      (min (max ((s.gov.v : Int) + par s 0x60 0 6 * 25) (max (par s 0x60 0 12 * 25) (if s.gov.recover then par s 0x60 0 14 * 25 else 6300))) 8700).toNat ≠ 8700) ∧
    (let s := slackUnit 8700 10; (10 : Int) < par s 0x60 0 0 * 25 ∧
      (min (max ((s.gov.v : Int) + par s 0x60 0 6 * 25) (max (par s 0x60 0 12 * 25) (if s.gov.recover then par s 0x60 0 14 * 25 else 6300))) 8700).toNat = 8700 ∧
      s.dev.porstN = true ∧ s.dev.railHold = false ∧ (rec? s 354).active = false) := by decide +kernel

theorem test_witness_AvsBusAndMonitors :
    (let s := { unitIn .running with gov := { State.reset.gov with written := 8000, writePend := true } }
     s.gov.writePend = true ∧ (((8050 : Nat) : Int) - (s.gov.written : Int)).natAbs ≤ 50 ∧ s.gov.retry = false) ∧
    (let s := { unitIn .running with gov := { State.reset.gov with writePend := true, retry := true } }
     s.gov.writePend = true ∧ s.gov.retry = true ∧ s.dev.porstN = true ∧ s.dev.railHold = false ∧ (rec? s 352).active = false) ∧
    ({ unitIn .running with gov := { State.reset.gov with blocked := true } }).gov.blocked = true ∧ (rec? (unitIn .running) 353).active = false ∧
    (∃ d ∈ [(250 : Int), 1101, 250, 250], 1100 < d) ∧ (rec? (unitIn .running) 357).active = false ∧
    (∀ d ∈ [(250 : Int), 260, 270, 280], d < 1000 ∧ d < par (unitIn .running) 0x63 0 0 * 10 - 50) := by decide +kernel

theorem test_witness_MailboxFlow :
    (let s := mailUnit 7 {}
     pcieUp s = true ∧ [(1 : Byte)] ≠ [] ∧ 255 + [(1 : Byte)].length ≤ 256 ∧ (mget s 7).h2fFull = false) ∧
    (let s := mailUnit 15 { h2fFull := true, reserved := 7 }
     s.dev.mpcReady = true ∧ (mget s 15).h2fFull = true ∧ (mget s 15).reserved < 8) ∧
    (let s := mailUnit 15 { f2h := [aMsg] }
     (mget s 15).f2hFull = false ∧ (mget s 15).f2h = aMsg :: []) ∧
    (let s := mailUnit 7 { f2hFull := true, side := some aMsg }
     pcieUp s = true ∧ (mget s 7).f2hFull = true ∧ (mget s 7).side = some aMsg ∧ aMsg.more = false) ∧
    (let s := mailUnit 0 { h2fFull := true, reserved := 8 }
     pcieUp s = true ∧ (mget s 0).h2fFull = true ∧ 8 ≤ (mget s 0).reserved) := by decide +kernel

theorem test_witness_MailboxResets :
    (pcieUp (unitIn .running) = true ∧ (mget (unitIn .running) 0).role = some .engineer ∧ (mget (unitIn .running) 7).role = none) ∧ 0xA6 % 256 ≠ 0xA5 ∧
    (unitIn .running).dev.mpcReady = true ∧ ({ unitIn .running with dev := { (unitIn .running).dev with mpcRestarting := true } }).dev.mpcRestarting = true ∧
    (unitIn .running).dev.mpcRestarting = false := by decide +kernel

theorem test_witness_PcieEndpointAndVectors :
    (let s := { unitIn .idle with dev := { (unitIn .idle).dev with bootRec := some {} } }
     s.host.perstHigh = true ∧ s.dev.state ≠ .reset ∧ s.dev.bootRec.isSome = true ∧ s.clk.locked.getD 4 false = true) ∧ (unitIn .idle).dev.bootRec = none ∧
    (let s := { unitIn .idle with host := { (unitIn .idle).host with due := [31] } }
     s.host.cfgReady = true ∧ s.host.vecMask.getLsbD 31 = false ∧ 31 ∈ s.host.due) ∧
    (let s := { unitIn .idle with host := { (unitIn .idle).host with vecPend := 0x80000000 } }
     s.host.vecMask.getLsbD 31 = false ∧ 31 ∉ s.host.due ∧ s.host.vecPend.getLsbD 31 = true) ∧
    ({ unitIn .idle with host := { (unitIn .idle).host with vecMask := 1 } }).host.vecMask.getLsbD 0 = true ∧
    (∀ i, i < 4 → (mget (unitIn .idle) (4 * 3 + i)).h2fFull = false) ∧ (∃ i, i < 4 ∧ (mget (mailUnit 15 { h2fFull := true }) (4 * 3 + i)).h2fFull = true) := by
  refine ⟨by decide +kernel, by decide +kernel, by decide +kernel, by decide +kernel, by decide +kernel, fun _ _ => ?_, 3, by decide, by decide +kernel⟩
  rename_i i h; have : i = 0 ∨ i = 1 ∨ i = 2 ∨ i = 3 := by omega
  rcases this with rfl | rfl | rfl | rfl <;> decide +kernel

theorem test_witness_HostRegistersAndSnapshot : pcieUp State.reset = false ∧ pcieUp (unitIn .running) = true ∧ 0x42 % 4 ≠ 0 ∧ (unitIn .running).dev.state ≠ .reset ∧
    (let s := { unitIn .running with obs := { State.reset.obs with hold := true } }
     s.obs.hold = true ∧ s.host.cfgReady = true ∧ s.host.vecMask.getLsbD 13 = false) ∧ (unitIn .running).obs.hold = false := by decide +kernel

theorem test_witness_EmergencyControls :
    (let s := { unitIn .running with host := { (unitIn .running).host with armedPcie := true } }
     reach false s = true ∧ s.host.armedPcie = true ∧ follower s = false ∧ s.dev.mpcReady = true) ∧
    (let s := { unitIn .running with host := { (unitIn .running).host with armedSpi := true } }
     reach true s = true ∧ s.host.armedSpi = true) ∧
    (reach true (unitIn .running) = true ∧ (unitIn .running).host.armedSpi = false ∧ Instr.hostBlock true ∈ [Instr.hostBlock true, .mpcRestart true, .warmReset true]) := by
  decide +kernel

theorem test_witness_SpiPort : (unitIn .running).dev.state ≠ .reset ∧ spiReach 0x40 = true ∧ spiReach 0x13BC = true ∧
    crc16 (be 3 0x40 ++ be 4 (0 : Word).toNat) ≠ 0xFFFF ∧ (mget (unitIn .running) 14).h2fFull = false ∧
    (mget (mailUnit 14 { f2hFull := true, side := some aMsg }) 14).side = some aMsg ∧ (mget (unitIn .running) 14).f2hFull = false ∧
    sessionOf (mailUnit 14 { role := some .observer }) 14 = true := by decide +kernel

/-! ### The command set -/

theorem test_witness_ChecksInOrder : isGhost hdr (unitIn .running) = false ∧ bcsCheck hdr cBlock (unitIn .running) = .ok ∧
    bcsCheck { hdr with version := 2 } cBlock (unitIn .running) = .version ∧ bcsCheck { hdr with bodyLen := 1 } cEventMaskSet (unitIn .running) = .length ∧
    bcsCheck { hdr with mbx := 1 } cBlock (unitIn .running) = .noSession ∧ bcsCheck { hdr with sessionEpoch := 2 } cBlock (unitIn .running) = .sessionStale ∧
    bcsCheck hdr cDeblock (mailUnit 0 { role := some .observer, epoch := 1 }) = .role ∧ bcsCheck { hdr with roleEpoch := 1 } cPhaseSet (unitIn .running) = .roleChanged ∧
    bcsCheck hdr cPhaseSet (follow .running) = .notActive ∧ bcsCheck hdr cPhaseSet (unitIn .idle) = .state := by decide +kernel

theorem test_witness_RejectedCommandsChangeNothing : bcsRow (.phaseSet hdr {} 1) = some (hdr, cPhaseSet) ∧ Heard hdr (unitIn .idle) ∧
    bcsCheck hdr cPhaseSet (unitIn .idle) ≠ .ok ∧ cPhaseSet.cls ≠ .f := by unfold Heard; exact ⟨rfl, by decide +kernel⟩

theorem test_witness_Sessions :
    (let s := { unitIn .idle with mbx := [], dev := { (unitIn .idle).dev with bootRec := some { openObserver := true } } }
     Heard hdr s ∧ openCheck hdr 0 s = .ok ∧ (mget s 0).locked = false ∧ openCheck hdr 44 s = .ok ∧ roleOfCode 1 = some .observer ∧ sessionOf s 0 = false ∧
     authenticate hdr .observer 0 [] s = some { credId := 0, key := [], roles := [.observer], party := 0 } ∧ roleOfCode 2 = some .operator ∧
     authenticate hdr .operator 0 [] s = none ∧ s.dev.porstN = true ∧ s.dev.railHold = false) ∧
    (let s := mailUnit 0 { locked := true }
     Heard hdr s ∧ openCheck hdr 0 s = .ok ∧ (mget s 0).locked = true) ∧
    Passes hdr cSessionClose (unitIn .running) ∧ Passes hdr cEventMaskSet (unitIn .running) := by
  unfold Passes Heard; decide +kernel

theorem test_witness_ReadCommands : Passes hdr cDeviceStatus (unitIn .running) ∧ Passes hdr cStageRead (unitIn .running) ∧ Passes hdr (cParamGet 19) (unitIn .running) ∧
    (paramRow (unitIn .running) (pid 2 0 0)).isSome = true ∧ Passes hdr cSetpointGet (unitIn .running) ∧ slotStage (unitIn .running) 0 = some 0 ∧
    Passes hdr cPresetRead (unitIn .running) ∧ portNamed (unitIn .running) 31 = true ∧ Passes hdr cPulseStatus (unitIn .running) ∧ Passes hdr cClockStatus (unitIn .running) ∧
    Passes hdr cCaptureStatus (unitIn .running) ∧ Passes hdr cTandemStatus (unitIn .running) ∧
    Heard hdr (unitIn .running) ∧ formCheck hdr 0 = .ok ∧ (sessionFor hdr (unitIn .running)).1 = .ok := by
  unfold Passes Heard; decide +kernel

theorem test_witness_ScheduledCommands :
    (let s := unitIn .ready
     hasFollower s = false ∧ MayName s (whenCycle s at1000 false) ∧ MayName s (whenCycle s { asap := true } false) ∧ Passes hdr cDeblock s ∧ deblockCheck s = .ok) ∧
    (let s := unitIn .blocked
     hasFollower s = false ∧ MayName s (whenCycle s at1000 false) ∧ Passes hdr cBlockClear s ∧ Passes hdr cTimeDomainSelect s ∧ switchBad s 0 = none ∧
     Passes hdr cCellExclude s ∧ (memberOf s 1).isSome = true ∧ mayExclude s 1 = true ∧ Passes hdr cNodeFlagsClear s ∧
     Passes hdr (cSetpointSet 1) s ∧ slotCheck 0 1 s = .ok ∧ Passes hdr cSchedStatsClear s ∧ Passes hdr cPointMinmaxClear s ∧ Passes hdr cPulseFlagsClear s) ∧
    (let s := unitIn .running
     MayName s (whenCycle s at1000 false) ∧ Passes hdr cPhaseSet s ∧ Phase.ofCode 4 = some .recovery ∧ phaseStep s.dev.phase .recovery = true) ∧
    (let s := { unitIn .running with arms := [(0, { cats := [(1, { cat := .excluded })] })] }
     MayName s (whenCycle s at1000 false) ∧ Passes hdr cCellRestore s ∧ (memberOf s 1).isSome = true ∧ mayRestore s 1 = true) := by
  unfold Passes Heard MayName; refine ⟨?_, ?_, ?_, ?_⟩ <;> decide +kernel

theorem test_witness_TransferredCommands :
    (let s := pair .ready
     hasFollower s = true ∧ MayName s (whenCycle s at1000 false) ∧ Passes hdr cDeblock s ∧ deblockCheck s = .ok ∧ Passes hdr cTandemSwitch s ∧
     twinRole s = some .eligible ∧ s.tan.handover = 0 ∧ Passes hdr cBasinRestart s ∧ portNamed s 31 = true ∧ Passes hdr cCellExclude s ∧
     (memberOf s 0).isSome = true ∧ mayExclude s 0 = true) ∧
    (let s := pair .blocked
     hasFollower s = true ∧ MayName s (whenCycle s at1000 false) ∧ Passes hdr cBlockClear s) ∧
    (let s := follow .running
     follower s = true ∧ Heard hdr s ∧ headCheck hdr cBlock s = .ok ∧ headCheck hdr cSrbRequest s = .ok ∧ headCheck hdr cSrbWithdraw s = .ok) := by
  unfold Passes Heard MayName; decide +kernel

theorem test_witness_ImmediateCommands :
    (let s := unitIn .running
     Passes hdr cBlock s ∧ follower s = false ∧ Passes hdr cSrbRequest s ∧ (List.range 4).all (fun p => par s 0x51 p 0 ≠ 1) = true ∧
     (hdr.mbx, hdr.sessionEpoch) ∉ s.srb.cmd ∧ s.srb.reqs = [] ∧ Passes hdr cSrbWithdraw s ∧ s.srb.cmdDone = []) ∧
    (let s := { unitIn .running with srb := { (unitIn .running).srb with cmd := [(hdr.mbx, hdr.sessionEpoch)] } }
     Passes hdr cSrbWithdraw s ∧ (hdr.mbx, hdr.sessionEpoch) ∈ s.srb.cmd) ∧
    (let s := { unitIn .running with srb := { (unitIn .running).srb with cmdDone := [(hdr.mbx, hdr.sessionEpoch, 3)] } }
     Passes hdr cSrbWithdraw s ∧ (hdr.mbx, hdr.sessionEpoch) ∉ s.srb.cmd ∧
     s.srb.cmdDone.find? (fun x => (x.1, x.2.1) = (hdr.mbx, hdr.sessionEpoch)) = some (hdr.mbx, hdr.sessionEpoch, 3)) ∧
    (Passes hdr cTimeSet ppsUnit ∧ onPps ppsUnit 0 = true) ∧
    (let s := { unitIn .loaded with arms := [(0, { cats := [(1, { cat := .excluded })] })] }
     Passes hdr cBasinRestart s ∧ hasFollower s = false ∧ follower s = false ∧ portNamed s 31 = true ∧ Passes hdr cCellBypassClose s ∧ cellNamed s 1 = true ∧
     memberCat s 1 ≠ some .active) ∧
    (let s := { pair .ready with cfg := { (pair .ready).cfg with par := [(pid 2 0 0, 1), (pid 0x52 0 0, 0)] } }
     Passes hdr cTandemSwitch s ∧ hasFollower s = false ∧ follower s = false ∧ twinRole s = some .eligible ∧ s.tan.handover = 0 ∧
     MayName s (whenCycle s at1000 false)) := by
  unfold Passes Heard MayName; refine ⟨?_, ?_, ?_, ?_, ?_, ?_⟩ <;> decide +kernel
theorem test_witness_OperationsAndAborts :
    (let s := portIn .running .up .serving
     Passes hdr cMooringRange s ∧ hasFollower s = false ∧ follower s = false ∧ portNamed s 0 = true ∧ moorNamed s 0 1 = true ∧
     served (moor s (ciOf 0 1)).st = true ∧ rangeFree s 0 = true ∧ Passes hdr cMooringRangeAbort s ∧ (port s 0).rangeCmd = none) ∧
    (let s := { unitIn .running with ports := [(31, { rangeCmd := some { mooring := 1, mbx := 0, tag := 3 } })] }
     Passes hdr cMooringRangeAbort s ∧ portNamed s 31 = true ∧ (port s 31).rangeCmd = some { mooring := 1, mbx := 0, tag := 3 }) ∧
    (let s := { unitIn .idle with stn := { State.reset.stn with ports := [(0, { up := true })] } }
     Passes hdr cEyeScan s ∧ s.stn.scan = none ∧ scanUp s 0 = true ∧ Passes hdr cEyeScanAbort s ∧ s.stn.scanDone = none) ∧
    (let s := { unitIn .idle with stn := { State.reset.stn with scan := some { lane := 9, dwell := 20, mbx := 0, epoch := 1, tag := 4 } } }
     Passes hdr cEyeScanAbort s ∧ s.stn.scan = some { lane := 9, dwell := 20, mbx := 0, epoch := 1, tag := 4 }) := by
  unfold Passes Heard; decide +kernel

/-! ### Staging, faults, captures -/

/-- The unit with a staging area of the session. -/
def staging (p : Pound) : State := { unitIn .loaded with pound := { p with owner := some (0, 1) } }

/-- An image: its header, a table of seven empty sections and an empty signature. -/
def image : List Byte :=
  le 4 0x53563850 ++ le 2 1 ++ le 1 0x20 ++ le 1 0 ++ le 4 432 ++ le 4 0 ++ le 2 7 ++ le 2 1 ++ le 4 100 ++ le 2 7 ++ le 2 0 ++ le 4 368 ++ List.replicate 224 0 ++
  [1, 2, 3, 4, 9, 10, 11].flatMap (fun t => le 2 t ++ le 2 (if t < 9 then 0 else 1) ++ le 4 368 ++ le 4 0 ++ le 4 0) ++ List.replicate 64 0

/-- Form and fit of that image: its load ends well wherever the model's free signature check does. -/
theorem test_witness_PlateLoad_image : image.length = 432 ∧ imgFormed image = true ∧ imgFits (unitIn .idle) image = true ∧
    plateFits (unitIn .idle) plate = true := by decide +kernel

theorem test_witness_PlateLoad_end (h : imgSigned (staging { image := image }) image = true) :
    loadCheck (staging { image := image }) 432 (sha256 image) plate = .ok := by
  have e : (staging { image := image }).pound.image = image := rfl
  have h1 : image.length = 432 := by decide +kernel
  have h2 : imgFormed image = true := by decide +kernel
  have h3 : (!imgFits (staging { image := image }) image || !plateFits (staging { image := image }) plate) = false := by decide +kernel
  simp only [loadCheck, e, h1, h2, h, h3]; simp

theorem test_witness_PlateLoad :
    (Passes hdr (cPlateLoad 40) (unitIn .loaded) ∧ poundBusy hdr (unitIn .loaded) = false ∧ (unitIn .loaded).pound.entries = []) ∧
    (let s := staging { image := [1, 2], load := some (4194304, []) }
     Passes hdr (cPlateLoad 8) s ∧ poundBusy hdr s = false ∧ s.pound.load.isSome = true ∧ 2 = s.pound.image.length ∧ 3 ≠ s.pound.image.length ∧
     Passes hdr (cPlateLoad 1) s ∧ s.pound.load = some (4194304, []) ∧ loadCheck s 4194304 [] plate ≠ .ok) := by
  unfold Passes Heard; decide +kernel

theorem test_witness_StagedChanges :
    (let s := unitIn .loaded
     Passes hdr (cStageSet 1) s ∧ poundBusy hdr s = false ∧ s.pound.plate = none ∧ s.pound.load = none ∧
     entriesCheck s [(pid 0x50 3 0, 3)] = .ok ∧ (entriesAdd s [(pid 0x50 3 0, 3)]).length ≤ 512) ∧
    (let s := { unitIn .loaded with pound := { State.reset.pound with owner := some (3, 9) } }
     Passes hdr (cStageSet 19) s ∧ poundBusy hdr s = true) ∧
    (let s := staging { entries := [(pid 2 0 0, 1)] }
     Passes hdr cStageCheck s ∧ poundBusy hdr s = false ∧ s.pound.checking = none ∧ (candOf s).isSome = true ∧ Passes hdr cStageAbort s ∧ hasFollower s = false ∧
     abortRole hdr s = true ∧ s.pound.commit = none ∧ poundEmpty s = false) ∧
    (let s := { unitIn .loaded with pound := { State.reset.pound with check := some ([7], true), entries := [(pid 0x50 3 0, 3)] } }
     Passes hdr cStageCountersign s ∧ sessionFor hdr s = (.ok, .engineer, 3) ∧ s.pound.check = some ([7], true) ∧ s.pound.signs = []) ∧
    (let s := staging { entries := [(pid 2 0 0, 1)], check := some ([7], false) }
     Passes hdr cStageCommit s ∧ hasFollower s = false ∧ s.pound.plate = none ∧ poundBusy hdr s = false ∧ commitCheck [7] s = .ok ∧ commitCheck [8] s ≠ .ok ∧
     acceptCheck s (whenCycle s at1000 false) 800 = .ok ∧ cycleFar s (whenCycle s at1000 false) = false) ∧
    (let s := unitIn .loaded
     Passes hdr cStageAbort s ∧ abortRole hdr s = true ∧ s.pound.commit = none ∧ poundEmpty s = true ∧ s.pound.target = none) := by
  unfold Passes Heard; refine ⟨?_, ?_, ?_, ?_, ?_, ?_⟩ <;> decide +kernel

/-- A plate that breaks no rule: one gauge mooring, which Safe Ramp-and-Block watches, and one cell. -/
def soundPlate : Plate := { plate with
  nodes := [], arms := [], stages := [], slots := [], order := [(0, [0, 1])],
  params := [(pid 3 0 10, 2), (pid 0x51 0x10 0, 0), (pid 0x51 0x10 4, 1), (pid 0x51 0x10 8, 1), (pid 0x51 0x10 10, 100), (pid 0x51 0x10 12, 1000), (pid 0x52 0 10, 1)] }

/-- A check that has run over a staged change. -/
def checkedUnit : State := { staging { entries := [(pid 0x50 3 0, 3)] } with cfg := { plate := some soundPlate, par := soundPlate.params, plateTag := 7 } }
theorem test_witness_StageCheckComplete : ∃ c, candOf checkedUnit = some c ∧ (checkFail checkedUnit c).1 = 0 := ⟨_, rfl, by decide +kernel⟩

theorem test_witness_FaultRecords : Passes hdr cFaultRead latchedUnit ∧ (faultInfo 371).isSome = true ∧ (rec? latchedUnit 371).occurrences ≠ 0 ∧
    (rec? latchedUnit 0).occurrences = 0 ∧ (faultInfo 0).isSome = true ∧ Passes hdr cFaultAck latchedUnit ∧ Latched latchedUnit 371 ∧ (rec? latchedUnit 371).active = false ∧
    (rec? latchedUnit 371).lastSeq ≠ 7 ∧ Latched (raise 357 [] (unitIn .idle)) 357 ∧ (rec? (raise 357 [] (unitIn .idle)) 357).active = true ∧
    Passes hdr cFaultAck (raise 357 [] (unitIn .idle)) ∧ ¬ Latched latchedUnit 0 := by
  unfold Passes Heard Latched; decide +kernel

theorem test_witness_TrapsAndInjection :
    (let s := { unitIn .idle with fcru := { State.reset.fcru with traps := [371] } }
     s.dev.mpcReady = true ∧ 371 ∈ s.fcru.traps ∧ Sound s) ∧ 511 ∉ (unitIn .idle).fcru.traps ∧ (faultInfo 357).map (·.level) = some true ∧
    (let s := { unitIn .idle with dev := { (unitIn .idle).dev with testStrap := true, keyStep := 3 } }
     factoryMode s = true ∧ Passes hdr cFaultInject s ∧ (faultInfo 371).isSome = true) ∧
    (factoryMode (unitIn .idle) = false ∧ Heard hdr (unitIn .idle) ∧ formCheck hdr 0 = .ok ∧ (sessionFor hdr (unitIn .idle)).1 = .ok) := by
  unfold Passes Heard Sound; decide +kernel

theorem test_witness_InjectKey :
    (unitIn .idle).dev.testStrap = false ∧
    (let s := { unitIn .idle with now := 400001, dev := { (unitIn .idle).dev with testStrap := true, keyStep := 1, keyTick := 1 } }
     pcieUp s = true ∧ s.dev.testStrap = true ∧ s.dev.keyStep = 1 ∧ s.now - s.dev.keyTick ≤ 400000 ∧ (0 : Nat) ≤ s.now) ∧
    (let s := { unitIn .idle with dev := { (unitIn .idle).dev with testStrap := true, keyStep := 2 } }
     pcieUp s = true ∧ s.dev.keyStep = 2 ∧ s.now - s.dev.keyTick ≤ 400000) := by decide +kernel

/-- A time record of point 40, with a trigger. -/
def anArm : CapArm := { mode := 0, srcKind := 0, element := 0, srcIndex := 40, trgMask := 1, decimation := 1, preCount := 4, postCount := 4 }

theorem test_witness_CaptureChannels :
    (Passes hdr cCaptureArm (unitIn .idle) ∧ Sound (unitIn .idle) ∧ armCheck (unitIn .idle) 15 anArm = .ok ∧
      armCheck (unitIn .idle) 0 { anArm with mode := 1, preCount := 0 } = .ok) ∧
    (let s := { unitIn .idle with cap := { State.reset.cap with ch := [(15, { st := .postTrigger, arm := anArm, left := 0 })] } }
     (capGet s 15).st = .postTrigger ∧ (capGet s 15).left = 0) ∧ (capGet (unitIn .idle) 0).st ≠ .postTrigger ∧
    (let s := { unitIn .idle with cap := { State.reset.cap with ch := [(15, { st := .armed, arm := anArm })] } }
     Passes hdr cCaptureAbort s ∧ (capGet s 15).doneAt = none ∧ armFree (capGet s 15) = false ∧ capLive (capGet s 15) = true) ∧
    (Passes hdr cCaptureAbort (unitIn .idle) ∧ (capGet (unitIn .idle) 15).doneAt = none ∧ armFree (capGet (unitIn .idle) 15) = true) ∧
    parN (unitIn .idle) 0x62 7 0 = 0 ∧
    parN { unitIn .idle with cfg := { (unitIn .idle).cfg with par := [(pid 0x62 7 0, 1)] } } 0x62 7 0 ≠ 0 := by
  unfold Passes Heard Sound; decide +kernel

theorem test_witness_TrapsAndInjection_absent :
    (let s := { unitIn .idle with dev := { (unitIn .idle).dev with variant := .sv8x16, testStrap := true, keyStep := 3 } }
     factoryMode s = true ∧ Passes hdr cFaultInject s ∧ (faultInfo 80).isSome = true ∧ faultAbsent s.dev.variant 80 = true) ∧
    faultAbsent .sv8x32 371 = false := by unfold Passes Heard; decide +kernel

/-- A trigger between samples, and one of the same tick. -/
theorem test_witness_CaptureChannels_trigger :
    (let s := { unitIn .idle with now := 9, cap := { State.reset.cap with ch := [(15, { st := .armed, arm := anArm, lastTick := some 8 })] } }
     (capGet s 15).arm.trgMask.getLsbD 0 = true ∧ capLive (capGet s 15) = true ∧ (capGet s 15).lastTick ≠ some s.now ∧ (9 : Nat) ≤ s.now ∧
     (capGet s 15).arm.trgMask.getLsbD 7 = false) ∧
    (let s := { unitIn .idle with now := 9, cap := { State.reset.cap with ch := [(15, { st := .armed, arm := anArm, lastTick := some 9, lastArmed := true })] } }
     (capGet s 15).arm.trgMask.getLsbD 0 = true ∧ (capGet s 15).st = .armed ∧ (capGet s 15).lastArmed = true ∧ (capGet s 15).lastTick = some s.now) ∧
    (let s := { unitIn .idle with cap := { State.reset.cap with ch := [(15, { st := .done, arm := anArm, doneAt := some (4, 2) })] } }
     Passes hdr cCaptureAbort s ∧ (capGet s 15).doneAt = some (4, 2)) := by unfold Passes Heard; decide +kernel

/-! ### Station ports -/

/-- A subscription, a stream and a published block. -/
def aSub : GooseSubDef := { ports := 3, dst := 0x010CCD010005, appid := 5, gocbRef := [1], datSet := [2], confRev := 1 }
def aStream : SvDef := { ports := 3, dst := 0x010CCD040006, appid := 6, svId := [3], confRev := 1 }
def aBlock : GoosePubDef := { ports := 128, members := [(.devState, .int32)] }

/-- A plate with them, and a PRP pair on SP2 and SP3. -/
def stPlate : Plate := { plate with gooseSubs := [(127, aSub)], svs := [(0, aStream)], goosePubs := [(31, aBlock)], prpPairs := 2 }

/-- The unit with that plate, its ports 0, 2 and 7 up, port 0 serving samples, messages and mailboxes at an address. -/
def stUnit : State := { unitIn .running with
  cfg := { (unitIn .running).cfg with plate := some stPlate, par := [(pid 0x30 0 6, 15), (pid 0x30 0 10, 0x0A000001), (pid 0x30 1 0, 1)] }
  stn := { State.reset.stn with ports := [(0, { up := true }), (2, { up := true }), (7, { up := true })], pubs := [(31, { sent := some [], interval := 200 })] } }

/-- A sound frame, and a message and a sample of those. -/
def okFrame (dst : BitVec 48) (et : Nat) (x : StPayload) : StFrame := { len := 64, dst := dst, etherType := et, payload := x }
def aGoose : GooseMsg := { appid := 5, gocbRef := [1], datSet := [2], confRev := 1, stNum := 1, sqNum := 0 }
def anAsdu : Asdu := { svId := [3], confRev := 1, smpCnt := 5, smpSynch := 2, qtys := [{ value := 3 }] }

/-- The hypotheses that a sound frame on port 0 meets. -/
def soundB (f : StFrame) : Bool := decide (f.len ≤ 1522) && decide (f.tags ≤ 1) && f.fcsGood && decide (64 ≤ f.len) && !inPair stUnit 0 && dstNamed stUnit 0 f.dst

theorem test_witness_StationFrames :
    (stp stUnit 1).up = false ∧ (stp stUnit 0).up = true ∧ (stp stUnit 7).up = true ∧ stUnit.dev.state.idleOn = true ∧ (unitIn .boot).dev.state.idleOn = false ∧
    1522 < ({ len := 1523, dst := 0, etherType := 0, payload := .unknown } : StFrame).len ∧
    (let f : StFrame := { len := 1522, tags := 2, dst := 0, etherType := 0, payload := .unknown }; f.len ≤ 1522 ∧ 1 < f.tags) ∧
    (let f : StFrame := { len := 1522, tags := 1, fcsGood := false, dst := 0, etherType := 0, payload := .unknown }; f.len ≤ 1522 ∧ f.tags ≤ 1 ∧ f.fcsGood = false) ∧
    (let f := okFrame 0x0180C2000001 0x8808 .pause; f.len ≤ 1522 ∧ f.tags ≤ 1 ∧ f.fcsGood = true ∧ 64 ≤ f.len ∧ f.payload = .pause) ∧
    (soundB (okFrame 0xFFFFFFFFFFFF 0 .unknown) = true ∧ dstNamed stUnit 0 0x020000000009 = false) ∧
    (soundB (okFrame 0x010CCD010005 0x88B8 (.goose aGoose)) = true ∧ portServes stUnit 0 1 = true ∧ safetyType stUnit ≠ 0x88B8 ∧
     (gooseDefs stUnit).filter (fun x => gooseSub 0 0x010CCD010005 aGoose x.2) = [(127, aSub)] ∧
     (pubDefs stUnit).all (fun x => !gooseTwin stUnit 0 0x010CCD010005 aGoose x.2) = true ∧
     (subGet stUnit 127).seen = false ∧ aGoose.confRev = aSub.confRev ∧ aGoose.simulation = false) ∧
    ((gooseDefs stUnit).all (fun x => !gooseSub 0 0x010CCD010005 { aGoose with appid := 4 } x.2) = true) ∧
    (soundB (okFrame 0x010CCD040006 0x88BA (.sv 6 [anAsdu])) = true ∧ portServes stUnit 0 0 = true ∧ safetyType stUnit ≠ 0x88BA ∧
     (svDefs stUnit).filter (fun y => svMatch 0 0x010CCD040006 6 anAsdu y.2) = [(0, aStream)] ∧ anAsdu.confRev = aStream.confRev) ∧
    (soundB (okFrame 0xFFFFFFFFFFFF 0x0800 (.icmpEcho 9 (ownIp stUnit 0) [])) = true ∧ portServes stUnit 0 3 = true ∧ hasAddress stUnit 0 = true ∧
     safetyType stUnit ≠ 0x0800 ∧ (stp stUnit 0).rateCount.get 2 0 < 2000) ∧
    ((pubDefs stUnit).find 31 = some aBlock ∧ maySend stUnit aBlock = true ∧ (stUnit.stn.pubs.get 31 {}).sent.isSome = true ∧ aBlock.ports.testBit 7 = true ∧
     inPair stUnit 7 = false) ∧
    (stUnit.stn.pubs.get 0 {}).sent = none ∧ pairOn stUnit 1 = true ∧ (stp stUnit 2).up = true ∧ pairOn stUnit 0 = false := by
  refine ⟨?_, ?_, ?_, ?_, ?_, ?_, ?_, ?_, ?_, ?_, ?_, ?_, ?_, ?_, ?_, ?_⟩ <;> decide +kernel

/-- The unit with a binding of mailbox 15. -/
def boundUnit (b : Bind) : State := { unitIn .running with stn := { State.reset.stn with binds := [(15, b)] } }

theorem test_witness_StationSupervision :
    (calmB stUnit = true ∧ stUnit.dev.porstN = true ∧ stUnit.dev.railHold = false) ∧
    (let s := { stUnit with stn := { stUnit.stn with subs := [(127, { seen := true })] } }
     calmB s = true ∧ (subGet s 127).seen = true ∧ (subGet s 127).lost = false ∧ (rec? s 278).active = false) ∧
    ((subGet stUnit 0).seen = false ∧ (rec? stUnit 263).active = false ∧ (rec? stUnit 259).active = false ∧ (stp stUnit 1).up = false ∧
     par stUnit 0x30 1 0 ≠ 0 ∧ stUnit.dev.state.idleOn = true ∧ stUnit.clk.locked.getD 3 false = true) ∧
    (unitIn .reset).clk.locked.getD 3 false = true ∧ State.reset.clk.locked.getD 3 false = false ∧
    (let b : Bind := { host := 1, udp := 2, tag := 3, outstanding := true, repeats := 4 }
     calmB (boundUnit b) = true ∧ (boundUnit b).stn.binds.find 15 = some b ∧ b.outstanding = true ∧ b.repeats < 5) ∧
    (let b : Bind := { host := 1, udp := 2, tag := 3, outstanding := true, repeats := 5 }
     (boundUnit b).stn.binds.find 15 = some b ∧ 5 ≤ b.repeats) ∧ (unitIn .running).stn.binds.find 0 = none := by
  refine ⟨?_, ?_, ?_, ?_, ?_, ?_, ?_, ?_⟩ <;> decide +kernel

/-! ### Grid Edge Timer and pulse engine -/

theorem test_witness_GridEdges :
    calmB (getUnit 0) = true ∧ false ≠ (par (getUnit 0) 0x34 3 2 == 0) ∧
    ((getUnit 0).dev.state.loadedOn = true ∧ par (getUnit 0) 0x34 3 0 = 1 ∧ true = (par (getUnit 0) 0x34 3 2 == 0)) ∧
    (isFast (advanceTo 0 (getUnit 0)) 1 0 (ctNow (advanceTo 0 (getUnit 0))) (getPt (getUnit 0) 1) = true ∧ (getPt (getUnit 0) 1).fastTick = none) ∧
    (isFast (advanceTo 100000000 (getUnit 0)) 1 0 (ctNow (advanceTo 100000000 (getUnit 0))) (getPt (getUnit 0) 1) = false ∧ (getUnit 0).getLast = none) ∧
    (getPt (getUnit 0) 1).standstill = false ∧ (getPt (getUnit 0) 0).standstill = true := by
  refine ⟨?_, ?_, ?_, ?_, ?_, ?_, ?_⟩ <;> decide +kernel

/-- The unit with a pulse channel. -/
def chUnit (x : Pch) : State := { unitIn .running with
  cfg := { (unitIn .running).cfg with par := [(pid 0x20 11 12, 32768), (pid 0x20 11 20, 2), (pid 0x20 11 26, 10), (pid 0x20 11 24, 0)] }
  pul := { State.reset.pul with ch := [(11, x)] } }

theorem test_witness_PulsePositions :
    (let s := chUnit { running := true, period := 1000, p0 := 64 }
     calmB s = true ∧ s.cyc.running = true ∧ (pch s 11).running = true ∧ 0 < (pch s 11).period ∧
     (pch s 11).p0 + ((pch s 11).period - (pch s 11).k0) ≤ 1064 ∧ 1063 < (pch s 11).p0 + ((pch s 11).period - (pch s 11).k0) ∧
     (pch s 11).p0 ≤ 64 ∧ ¬ ((pch s 11).onA = true ∧ (pch s 11).onB = true) ∧ 63 < (pch s 11).p0) ∧
    (pch (chUnit {}) 0).running = false := by
  refine ⟨?_, ?_⟩ <;> decide +kernel

theorem test_witness_TripsAndSync :
    (let s := chUnit { running := true, period := 1000, p0 := 1014, firstSync := false }
     calmB s = true ∧ s.cyc.running = true ∧ (pch s 11).running = true ∧ (pchPar s 11 12).testBit 15 = true ∧ (pchPar s 11 12).testBit 14 = false ∧
     (pch s 0).running = false ∧ pchPar s 11 20 = 2 ∧ (pch s 11).syncLost = false ∧
     phaseDist (pch s 11).period ((pch s 11).ctr 1024) (pchPar s 11 24) ≤ pchPar s 11 26 ∧
     ¬ ((pch s 11).waitSync = true ∨ (pch s 11).firstSync = true ∨ (pch s 11).syncLost = true ∨
        phaseDist (pch s 11).period ((pch s 11).ctr 1025) (pchPar s 11 24) ≤ pchPar s 11 26) ∧ 1024 = 0 + parN s 0x64 0 6 ∧
     (rec? s 231).active = false) ∧
    (∀ c, c < 12 → pchPar (unitIn .running) c 20 ≠ 2) := by
  refine ⟨?_, ?_⟩ <;> decide +kernel

/-- A trip input at its asserted level, long enough, not long enough and qualified before, and an input in the other class. -/
theorem test_witness_TripsAndSync_trip :
    (let s := chUnit { running := true, period := 1000, p0 := 0 }
     false = (parN s 0x21 15 0 == 0) ∧ true ≠ (parN s 0x21 15 0 == 0) ∧ (s.pul.ti.find 15).isNone = true ∧ tripQualifies (advanceTo 1 s) 15 4 64 = true ∧
     tripQualifies (advanceTo 1 s) 15 3 64 = false ∧ pchPar s 11 14 ≠ 1) ∧
    (let s := { chUnit {} with pul := { State.reset.pul with ti := [(15, { level := false, count := 9, qualified := true })] } }
     ∃ x, s.pul.ti.find 15 = some x ∧ x.qualified = true) ∧
    par (chUnit {}) 0x64 0 8 < 0 :=
  ⟨by decide +kernel, ⟨_, rfl, rfl⟩, by decide +kernel⟩

/-- A class W input is blanked while its window channel is on (R299). -/
theorem test_classW_blanked :
    (let s := { chUnit { running := true, period := 1000, cmpOn := 0, cmpOff := 500, p0 := 0 } with cfg := { (unitIn .running).cfg with par := [(pid 0x21 15 2, 1), (pid 0x21 15 6, 11)] } }
     tripQualifies s 15 2 192 = false ∧ tripQualifies s 15 2 640 = true) := by decide +kernel

/-! ### The safety die -/

/-- The unit with a safety pair and its request registers as given. -/
def srbUnit (x : Srb) : State := { unitIn .running with cfg := { (unitIn .running).cfg with plate := some { plate with safetyPair := some 1 } }, srb := x }

/-- A stop telegram in form, to the unit's own identifiers, with its check. -/
def aTelegram : List Byte :=
  let b : List Byte := [1, 0x3C, 3, 0] ++ be 4 (par (srbUnit {}) 0x51 0x20 6).toNat ++ be 4 (par (srbUnit {}) 0x51 0x20 8).toNat ++ be 4 1 ++ List.replicate 12 0
  b ++ be 4 (crc32c (be 4 (par (srbUnit {}) 0x51 0x20 10).toNat ++ b)).toNat

theorem test_witness_SafetyRequests :
    ((unitIn .running).dev.porstN = true ∧ (unitIn .running).dev.railHold = false ∧ (unitIn .running).srb.pinA = true ∧ (unitIn .running).srb.pinB = true) ∧
    (State.reset.srb.pinA = false ∧ State.reset.srb.pinB = false ∧ (srbUnit {}).srb.barred = false ∧ (srbUnit {}).srb.pinA = false) ∧
    (let s := srbUnit { pinA := true }
     s.srb.pinA ≠ s.srb.pinB ∧ srbHas s 1 = true ∧ (rec? s 40).active = false) ∧ srbHas (unitIn .running) 1 = false ∧
    hasSafetyPair (unitIn .running) = false ∧
    (hasSafetyPair (srbUnit {}) = true ∧ telegramOk (srbUnit {}) [1] = false ∧ (rec? (srbUnit {}) 43).active = false) ∧
    (telegramOk (srbUnit {}) aTelegram = true ∧ (srbUnit {}).srb.waits = [] ∧
     telegramSeq (srbUnit {}) 1 (BitVec.ofNat 32 (ofBe ((aTelegram.drop 12).take 4))) = true ∧ ofBe ((aTelegram.drop 1).take 1) = 0x3C) ∧
    (let w : TeleWait := { lan := 0, seq := 1, bytes := [], tick := 0 }
     (srbUnit { waits := [w] }).srb.waits.find? (fun w => w.lan ≠ 1) = some w ∧ (rec? (srbUnit { waits := [w] }) 41).active = false) ∧
    (let s := { srbUnit { timedOut := [(0, true)] } with cfg := { (srbUnit {}).cfg with par := [(pid 0x51 0x20 16, 1)] } }
     hasSafetyPair s = true ∧ s.srb.timedOut.get (1 - 1) false = true ∧ par s 0x51 0x20 16 = 1 ∧ (rec? s 42).active = false) := by
  refine ⟨?_, ?_, ?_, ?_, ?_, ?_, ?_, ?_, ?_⟩ <;> decide +kernel

theorem test_witness_SafetySupervision :
    (let s := srbUnit { st := .ramp, timeoutRun := true, inhibit := true }
     s.dev.porstN = true ∧ s.dev.railHold = false ∧ s.srb.st = .ramp ∧ s.srb.timeoutRun = true ∧ (rec? s 33).active = false ∧ s.cyc.running = true ∧
     (rec? s 34).active = false ∧ (rec? s 36).active = false) ∧ (unitIn .running).srb.timeoutRun = false ∧
    (∀ l, (srbUnit { lastVerdict := some 6 }).srb.lastVerdict = some l → (7 : CycleNo) = l + 1) ∧ (srbUnit {}).srb.st = .hold ∧
    (let s := { portIn .running .up .serving with srb := { State.reset.srb with inhibit := true } }
     0 < nPorts s ∧ s.srb.inhibit = true ∧ lit s 0 = true ∧ (some 0#32 : Option Word) ≠ some 0xB10C4EF3#32 ∧ (rec? s 37).active = false) := by
  refine ⟨?_, ?_, ?_, ?_, ?_⟩
  · decide +kernel
  · decide +kernel
  · intro l h; cases h; decide
  · decide +kernel
  · decide +kernel

/-! ### The tandem pair -/

/-- A unit of a pair, in a role. -/
def pairUnit (r : Role) : State := { unitIn .idle with
  cfg := { (unitIn .idle).cfg with par := [(pid 0x52 0 0, 1)] }
  cyc := State.reset.cyc
  tan := { State.reset.tan with role := r } }

/-- A record of its twin. -/
def aRecord : MirrorRec := { role := .active, variant := (unitIn .idle).dev.variant, fwVersion := (unitIn .idle).dev.fwVersion }

theorem test_witness_TandemRecords :
    (calmB (pairUnit .isolated) = true ∧ ({ aRecord with intact := false } : MirrorRec).intact = false ∧ State.reset.dev.state = .reset) ∧
    (let s := pairUnit .isolated
     aRecord.intact = true ∧ s.dev.state ≠ .reset ∧ matchingTwin aRecord s = true ∧ s.tan.role = .isolated ∧ mayPair s = true ∧ aRecord.role = .active) ∧
    (let s := pairUnit .active
     matchingTwin { aRecord with fwVersion := aRecord.fwVersion + 1 } s = false ∧ s.tan.withhold = none ∧ s.dev.porstN = true ∧ s.dev.railHold = false ∧
     (rec? s 285).active = false ∧ s.dev.state.idleOn = true ∧ s.clk.locked.getD 3 false = true ∧ State.reset.clk.locked.getD 3 false = false ∧
     (unitIn .boot).dev.state.idleOn = false ∧ (unitIn .boot).tan.withhold = none) ∧
    (let s := unitIn .running
     matchingTwin { aRecord with hostBlock := true } s = true ∧ s.tan.withhold = none ∧ s.tan.role = .active ∧ runs s = true ∧ beaconing s = false) ∧
    (let s := { pairUnit .standby with tan := { (pairUnit .standby).tan with silentA := 10000, silentB := 10000 } }
     beaconing s = true ∧ pairMode s = true ∧ follower s = true ∧ parN s 0x52 0 6 ≤ s.tan.silentA + 1 ∧ parN s 0x52 0 6 ≤ s.tan.silentB + 1 ∧
     s.tan.heardA = false ∧ s.tan.heardB = false) ∧ follower (pairUnit .active) = false := by
  refine ⟨?_, ?_, ?_, ?_, ?_, ?_⟩ <;> decide +kernel

/-- A running unit of which a cycle begins at a stamp. -/
def beatUnit : State := { unitIn .running with cyc := { (unitIn .running).cyc with n := 0 }, cfg := { (unitIn .running).cfg with par := [(pid 0x52 0 16, 0)] } }

theorem test_witness_TandemRecords_edges :
    (pairUnit .standby).cyc.running = false ∧ beatUnit.cyc.running = true ∧ hbNear beatUnit 0 0 = true ∧
    (let x := parN beatUnit 1 0 0 * 10 * 2 ^ 32
     hbNear beatUnit 0 x = false ∧ hbNear beatUnit 1 x = true ∧ hbNear beatUnit 0 (9 * x) = false ∧ hbNear beatUnit 1 (9 * x) = false) := by
  refine ⟨?_, ?_, ?_, ?_⟩ <;> decide +kernel

theorem test_witness_Takeovers :
    (calmB (pairUnit .standby) = true ∧ follower (pairUnit .standby) = true ∧ (pairUnit .standby).tan.reqTick = none ∧ follower (pairUnit .active) = false) ∧
    (let s := { unitIn .running with tan := { State.reset.tan with role := .resync, reqTick := some 0 }, cyc := { (unitIn .running).cyc with startTick := 800 } }
     calmB s = true ∧ s.tan.reqTick = some 0 ∧ follower s = true ∧ 0 + 800 ≤ (if s.cyc.running then s.cyc.startTick else s.now) ∧ s.tan.role = .resync ∧
     runs s = true) ∧
    (let s := { unitIn .running with tan := { State.reset.tan with role := .resync, reqTick := some 0 }, cyc := { (unitIn .running).cyc with startTick := 799 } }
     ∀ k, s.tan.reqTick = some k → (if s.cyc.running then s.cyc.startTick else s.now) < k + 800) ∧
    ((pairUnit .isolated).tan.role = .isolated ∧ mayPair (pairUnit .isolated) = true ∧ mayPair State.reset = false) ∧
    (let s := { pairUnit .standby with tan := { (pairUnit .standby).tan with holdOff := true } }
     calmB s = true ∧ s.tan.holdOff = true) ∧ (pairUnit .standby).tan.holdOff = false ∧
    (let s := { pairUnit .active with tan := { (pairUnit .active).tan with withhold := some 1 } }
     calmB s = true ∧ s.tan.withhold.isSome = true) ∧ (pairUnit .active).tan.withhold = none := by
  refine ⟨?_, ?_, ?_, ?_, ?_, ?_, ?_, ?_⟩
  · decide +kernel
  · decide +kernel
  · intro s k h; have h2 : k = 0 := by simpa [s] using h.symm
    subst h2; decide +kernel
  all_goals decide +kernel

/-- Transfers: of a command that a follower accepts, of one it refuses, and of a BLOCK. -/
def aTransfer : Transfer := { seq := 1, opcode := 0x12, cycle := 1000 }
def aWait : XferWait := { tr := aTransfer, mbx := 0, epoch := 1, tag := 9, w := waitOf aTransfer }

theorem test_witness_TransfersAndHandover :
    (State.reset.dev.mpcReady = false ∧ calmB (follow .blocked) = true) ∧
    (let s := follow .blocked
     s.dev.mpcReady = true ∧ follower s = true ∧ isClassA aTransfer.opcode = true ∧ aTransfer.opcode ≠ 0x24 ∧ (accept (waitOf aTransfer) s).2.1 = .ok) ∧
    (let s := follow .running
     aTransfer.opcode ∉ [0x24, 0x25, 0x36] ∧ (accept (waitOf { aTransfer with cycle := 0 }) s).2.1 ≠ .ok) ∧
    (let s := unitIn .running
     s.dev.mpcReady = true ∧ s.tan.role = .active ∧ ({ aTransfer with opcode := 0x11 } : Transfer).opcode = 0x11 ∧ runs s = true ∧ s.tan.xfers = [] ∧
     s.tan.xfers.find? (fun x => x.tr.seq = 1) = none ∧ s.tan.last = none ∧ s.cyc.frozen = false ∧ s.tan.handed = false) ∧
    (let s := { unitIn .running with tan := { State.reset.tan with role := .active, xfers := [aWait] } }
     s.tan.xfers.find? (fun x => x.tr.seq = 1) = some aWait ∧ isClassF aWait.tr.opcode = false ∧ Status.state ≠ .ok ∧ s.tan.xfers = [aWait] ∧
     s.dev.porstN = true ∧ s.dev.railHold = false) ∧
    (let r : MirrorRec := { role := .active, handover := 5, cycle := 4 }
     let s := { unitIn .ready with cfg := { (unitIn .ready).cfg with plate := none }, cyc := { (unitIn .ready).cyc with frozen := true },
                                   tan := { State.reset.tan with role := .eligible, last := some r, clean := 1 } }
     calmB s = true ∧ s.tan.last = some r ∧ s.cyc.running = true ∧ s.cyc.frozen = true ∧ s.cyc.launched = false ∧ handoverOk r s = true) ∧
    (let s := { unitIn .running with tan := { State.reset.tan with role := .active, handed := true, handover := 4 } }
     calmB s = true ∧ s.tan.handed = true ∧ s.tan.role = .active ∧ s.dev.porstN = true ∧ s.dev.railHold = false) := by
  refine ⟨?_, ?_, ?_, ?_, ?_, ?_, ?_⟩ <;> decide +kernel

/-! ### Rules stated whole -/

theorem test_witness_FastEdges :
    (let s := getUnit 0
     let a := advanceTo 0 s
     let b := advanceTo 100000000 s
     calmB s = true ∧ s.dev.state.loadedOn = true ∧ par s 0x34 3 0 = 1 ∧ true = (par s 0x34 3 2 == 0) ∧ (getPt s 1).last.find 0 = some 0 ∧
     (((ctNow a : Int) - ((0 : Nat) : Int) : Int) : Rat) / (secUnits : Rat) * ((par s 0x34 1 4 : Rat) / 100) < (par s 0x34 1 6 : Rat) / 100 ∧
     ¬ (((ctNow b : Int) - ((0 : Nat) : Int) : Int) : Rat) / (secUnits : Rat) * ((par s 0x34 1 4 : Rat) / 100) < (par s 0x34 1 6 : Rat) / 100 ∧
     (getPt s 1).fastTick = none ∧ s.getLast = none) ∧
    (let s := { getUnit 0 with get := [(1, { standstill := false, last := [(0, 0)], fastTick := some 0 })] }
     (getPt s 1).fastTick = some 0 ∧ (advanceTo 0 s).now - 0 < 400000000) ∧
    (let s := { getUnit 0 with getLast := some { tick := 100000000, edges := [(5, 0)], pt0 := {}, pt1 := {} } }
     s.getLast.map (·.tick) = some (advanceTo 100000000 s).now ∧ s.getLast.map (·.tick) ≠ some (advanceTo 200000000 s).now) := by
  refine ⟨?_, ?_, ?_⟩
  · decide +kernel
  · decide +kernel
  · decide +kernel

/-- The unit with its timebase on a loop, and its loops locked as given. -/
def loopUnit (e : Bool) (l : List Bool) : State := { unitIn .running with clk := { State.reset.clk with locked := l, onE := e } }

theorem test_witness_PllSwitchStays :
    (let s := loopUnit true [true, true, true, true, true]
     calmB s = true ∧ s.clk.locked.length = 5 ∧ s.clk.onE = true ∧ (rec? s 6).active = false ∧ s.clk.locked.getD 0 false = true ∧
     s.clk.locked.getD 1 false = true ∧ s.dev.porstN = true ∧ s.dev.railHold = false) ∧
    (let s := loopUnit true [false, true, true, true, true]
     calmB s = true ∧ s.clk.onE = true ∧ s.clk.locked.getD 0 false = false ∧ s.clk.locked.getD (pllIndex .e) false = true ∧ (rec? s 6).active = false) ∧
    (let s := loopUnit false [true, false, true, true, true]
     calmB s = true ∧ s.clk.onE = false ∧ s.clk.locked.getD 1 false = false ∧ s.clk.locked.getD (pllIndex .c) false = true) := by
  refine ⟨?_, ?_, ?_⟩ <;> decide +kernel
theorem test_witness_PllSwitchStays_status : Passes hdr cClockStatus (loopUnit true [true, true, true, true, true]) := by
  unfold Passes Heard; decide +kernel

theorem test_witness_LockThroughEmptiesStaging :
    (let s := { checkedUnit with pound := { checkedUnit.pound with commit := some (5, 0, 9, false) } }
     s.pound.late = false ∧ s.pound.owner = some (0, (mget s 0).epoch) ∧ (mget s 0).role.isSome = true ∧ s.dev.mpcReady = true ∧
     ((mget s 0).f2h.filter (fun x => !isEvent x)).length < 7 ∧ atBoundary s = true ∧ lockDue s = true ∧ (candOf s).map (liveOk s) = some true) ∧
    (let s := { staging { plate := some plate, commit := some (5, 0, 9, true) } with cfg := { plate := none, plateTag := 1 } }
     s.pound.plate = some plate ∧ (candOf (advanceTo 0 s)).map (liveOk (advanceTo 0 s)) = some true ∧ s.dev.state = .loaded ∧ atBoundary s = true ∧ s.cyc.n = 5 ∧
     calmB { s with cfg := { plate := some plate, par := plate.params, parI := plate.params, stages := plate.stages, stagesI := plate.stages, plateTag := plate.hdr.plateTag } } = true) := by
  refine ⟨?_, ?_⟩ <;> decide +kernel

/-- The window meets a host that is up; a point record of four history entries stands in its lower half at reset's base. -/
theorem test_witness_BulkWindow :
    (let s := { unitIn .running with points := [(41, { hist := [(0, 0), (0, 0), (0, 0), (0, 0)] })] }
     pcieUp s = true ∧ s.host.bulk0 = 0 ∧ 64 * 41 < 0x2000000 ∧ 41 < nCells s * 128 ∧ (s.points.get 41 {}).hist.length = 4 ∧ (pointBytes s 41).length = 64) ∧
    0x7FFFC % 4 = 0 ∧ 0x12000 ≤ 0x7FFFC ∧ 4 < 0x7FFFE % 4 + 3 := by decide +kernel

/-! ### Worked figures of the manual -/

/-- Fire offsets of 02_control_cycle.md, Worked example: moorings 17 and 203. -/
theorem test_fire_offsets : fireOffset (unitIn .running) 6236 = 12106 ∧ fireOffset (unitIn .running) 23878 = 5049 := by decide +kernel

/-- The same while CT slews, 12_timebase_clocks.md, Worked example: the offsets stay. -/
theorem test_fire_offsets_slewing :
    let s := { unitIn .running with cyc := { (unitIn .running).cyc with ctInc := 0x280007DD4 } }
    fireOffset s 6236 = 12106 ∧ fireOffset s 23878 = 5049 := by decide +kernel

/-- SLEW_STEP of 12_timebase_clocks.md, Worked example. -/
theorem test_slew_step : slewStep (par (unitIn .running) 0x32 0 2) = 10737 := by decide +kernel

/-- CRC-16 of R191 over the ASCII bytes 1 to 9. -/
theorem test_crc16 : crc16 [0x31, 0x32, 0x33, 0x34, 0x35, 0x36, 0x37, 0x38, 0x39] = 0x29B1 := by decide +kernel

/-- The body of STAGE_ABORT's response in 16_command_set.md, Worked example: tick 3,640 of cycle 4,999,999. -/
theorem test_abort_body :
    abortBody 1 5000000 0 { unitIn .running with now := 3640, cyc := { (unitIn .running).cyc with n := 4999999, startTick := 0 } } =
      [0x01, 0x00, 0x00, 0x00, 0x00, 0x4C, 0x4B, 0x40, 0x00, 0x00, 0x00, 0x00, 0x00, 0x4C, 0x4B, 0x3F, 0x0E, 0x38] := by decide +kernel

/-- No word spells a command: the table gives its rows no bits. -/
theorem test_no_words (n w : Nat) : decodeTableWord n w = none := rfl

/-! ### Ill-formed commands -/

theorem test_wf_units :
    (Instr.inhibitLineRise 31).wf = true ∧ (Instr.inhibitLineRise 32).wf = false ∧ (Instr.requestUnanswered 0 255).wf = true ∧
    (Instr.requestUnanswered 0 256).wf = false ∧ (Instr.requestUnanswered 32 0).wf = false ∧ (Instr.rangeRefreshDue 0 256).wf = false ∧
    (Instr.rangeRefreshDue 32 0).wf = false ∧ (Instr.rangeRefreshDue 31 255).wf = true ∧ (Instr.reportWordIngress 8192).wf = false ∧
    (Instr.reportWordIngress 8191).wf = true ∧ (Instr.nodeOutputComplete 64 0).wf = false ∧ (Instr.armEngineComplete 12).wf = false ∧
    (Instr.armEngineComplete 11).wf = true := by decide

theorem test_wf_ports :
    (Instr.stationLinkDown 8).wf = false ∧ (Instr.stationLinkDown 7).wf = true ∧ (Instr.prpLanSilent 2 0).wf = false ∧ (Instr.prpLanSilent 0 2).wf = false ∧
    (Instr.prpLanSilent 1 1).wf = true ∧ (Instr.prpSupervisionSend 2).wf = false ∧ (Instr.ppsInTimeout 2).wf = false ∧ (Instr.tdStep 2 0).wf = false ∧
    (Instr.geEdge 6 true 0).wf = false ∧ (Instr.geEdge 5 true 0).wf = true ∧ (Instr.getCoasting 2).wf = false ∧ (Instr.periodStart 12 0).wf = false ∧
    (Instr.periodStart 11 0).wf = true ∧ (Instr.tripQualified 16 { level := true, n := 4, eu := 0 }).wf = false ∧ (Instr.tripQualified 15 { level := true, n := 4, eu := 0 }).wf = true ∧
    (Instr.tandemLinkUp 2).wf = false ∧ (Instr.discWindowExpiry 2).wf = false := by decide

theorem test_wf_host :
    (Instr.f2hRelease 16).wf = false ∧ (Instr.f2hRelease 15).wf = true ∧ (Instr.deviceStatus { hdr with mbx := 16 }).wf = false ∧
    (Instr.deviceStatus hdr).wf = true ∧ (Instr.coreIdleGate 4).wf = false ∧ (Instr.msixVectorSend 32).wf = false ∧ (Instr.msixVectorSend 31).wf = true ∧
    (Instr.trapEntry 512).wf = false ∧ (Instr.trapEntry 511).wf = true ∧ (Instr.triggerFire 8 0).wf = false ∧ (Instr.captureDone 16).wf = false ∧
    (Instr.pointStale 1048576).wf = false ∧ (Instr.thermalSample [250, 250, 250]).wf = false ∧ (Instr.thermalSample [250, 250, 250, 250]).wf = true ∧
    (Instr.otpProgram []).wf = false ∧ (Instr.otpProgram (List.replicate 32 0)).wf = true ∧ (Instr.stageCountersign hdr [1]).wf = false := by decide

end Sys2Proof.Tests
end

section
/-! The switch between the timebase loops (R273–R277): what an assertion and its reaction leave of the timebase, and what the loss and
the relock of a loop do to its driver. -/

namespace Sys2Proof.Proofs
open Sys2Proof Sys2Proof.Machine Sys2Proof.Laws

/-! ### Triggers and the safety die -/

/-- The triggers of a kind change the capture channels and their store alone. -/
theorem trgKind_rest (k : Nat) (p : Nat → Bool) (s : State) : { trgKind k p s with cap := s.cap, store := s.store } = s := by
  refine foldl_keeps (fun x : State => { x with cap := s.cap, store := s.store }) _ _ _ fun x t => ?_
  split
  · refine foldl_keeps (fun x : State => { x with cap := s.cap, store := s.store }) _ _ _ fun y n => ?_
    unfold trgFireOne
    dsimp only
    (repeat' split) <;> rfl
  · rfl

@[simp] theorem trgKind_dev (k : Nat) (p : Nat → Bool) (s : State) : (trgKind k p s).dev = s.dev := by
  simpa only using congrArg State.dev (trgKind_rest k p s)
@[simp] theorem trgKind_clk (k : Nat) (p : Nat → Bool) (s : State) : (trgKind k p s).clk = s.clk := by
  simpa only using congrArg State.clk (trgKind_rest k p s)
@[simp] theorem trgKind_cyc (k : Nat) (p : Nat → Bool) (s : State) : (trgKind k p s).cyc = s.cyc := by
  simpa only using congrArg State.cyc (trgKind_rest k p s)
@[simp] theorem trgKind_fcru (k : Nat) (p : Nat → Bool) (s : State) : (trgKind k p s).fcru = s.fcru := by
  simpa only using congrArg State.fcru (trgKind_rest k p s)
@[simp] theorem trgKind_srb (k : Nat) (p : Nat → Bool) (s : State) : (trgKind k p s).srb = s.srb := by
  simpa only using congrArg State.srb (trgKind_rest k p s)

section SafetyDie
variable (st : SrbState) (cause k : Nat) (value e : Int) (s : State)

@[simp] theorem srbGo_dev : (srbGo st cause k value e s).dev = s.dev := by
  unfold srbGo; split <;> simp [trgState, safetyEvent]
@[simp] theorem srbGo_clk : (srbGo st cause k value e s).clk = s.clk := by
  unfold srbGo; split <;> simp [trgState, safetyEvent]
@[simp] theorem srbGo_cyc : (srbGo st cause k value e s).cyc = s.cyc := by
  unfold srbGo; split <;> simp [trgState, safetyEvent]
@[simp] theorem srbGo_fcru : (srbGo st cause k value e s).fcru = s.fcru := by
  unfold srbGo; split <;> simp [trgState, safetyEvent]
@[simp] theorem srbGo_st : (srbGo st cause k value e s).srb.st = st := by
  unfold srbGo; split <;> simp [trgState, safetyEvent, *]

@[simp] theorem hwslTrip_dev : (hwslTrip cause k value e s).dev = s.dev := by
  unfold hwslTrip; split <;> simp
@[simp] theorem hwslTrip_fcru : (hwslTrip cause k value e s).fcru = s.fcru := by
  unfold hwslTrip; split <;> simp
@[simp] theorem hwslTrip_st : (hwslTrip cause k value e s).srb.st = .tripped := by
  unfold hwslTrip; split <;> simp [*]

end SafetyDie

/-! ### What a reaction below level 5 leaves of the timebase -/

/-- The loops and their driver, whether a cycle runs, and whether the safety die blocks. -/
def timebaseView (s : State) : Clk × Bool × Bool := (s.clk, s.cyc.running, s.srb.st == .tripped)

/-- States that agree on the clocks, the cycle and the safety die agree on the view. -/
theorem timebaseView_congr {s t : State} (hclk : t.clk = s.clk) (hcyc : t.cyc = s.cyc) (hsrb : t.srb = s.srb) :
    timebaseView t = timebaseView s := by
  rw [timebaseView, hclk, hcyc, hsrb]; rfl

/-- Agreement of the view, part by part. -/
theorem timebaseView_eq_iff {s t : State} : timebaseView t = timebaseView s ↔
    t.clk = s.clk ∧ t.cyc.running = s.cyc.running ∧ (t.srb.st == .tripped) = (s.srb.st == .tripped) := by
  simp only [timebaseView, Prod.mk.injEq]

@[simp] theorem timebaseView_event (c b : Nat) (body : List Byte) (s : State) : timebaseView (event c b body s) = timebaseView s :=
  timebaseView_congr (by simp) (by simp) (by simp)

@[simp] theorem timebaseView_vector (v : Nat) (s : State) : timebaseView (vector v s) = timebaseView s :=
  timebaseView_congr (by simp) (by simp) (by simp)

@[simp] theorem timebaseView_trgKind (k : Nat) (p : Nat → Bool) (s : State) : timebaseView (trgKind k p s) = timebaseView s :=
  timebaseView_congr (by simp) (by simp) (by simp)

@[simp] theorem timebaseView_clear (src : Nat) (s : State) : timebaseView (clear src s) = timebaseView s :=
  (congrArg timebaseView (clear_rest src s) :)

@[simp] theorem timebaseView_pulStop (s : State) : timebaseView (pulStop s) = timebaseView s := rfl

/-- A change of the safety die's state, neither from TRIPPED nor to it. -/
theorem timebaseView_srbGo {st : SrbState} {s t : State} (cause k : Nat) (value e : Int) (hst : st ≠ .tripped) (hs : s.srb.st ≠ .tripped)
    (hclk : t.clk = s.clk) (hcyc : t.cyc = s.cyc) : timebaseView (srbGo st cause k value e t) = timebaseView s := by
  simp [timebaseView, hst, hs, hclk, hcyc]

@[simp] theorem timebaseView_srbOnState (new : DevState) (s : State) : timebaseView (srbOnState new s) = timebaseView s := by
  unfold srbOnState
  split
  case h_4 h => exact timebaseView_srbGo _ _ _ _ (by decide) (by simp [h]) rfl rfl
  case h_5 h _ _ _ => exact timebaseView_srbGo _ _ _ _ (by decide) (by simp [h]) rfl rfl
  case h_6 h => exact timebaseView_srbGo _ _ _ _ (by decide) (by simp [h]) rfl rfl
  all_goals rfl

@[simp] theorem timebaseView_moveState (new : DevState) (s : State) : timebaseView (moveState new s) = timebaseView s := by
  unfold moveState
  split
  · rfl
  · simp only [timebaseView_srbOnState, trgState, timebaseView_trgKind, timebaseView_event, timebaseView_vector]
    rfl

@[simp] theorem timebaseView_portRelock (p : Nat) (s : State) : timebaseView (portRelock p s) = timebaseView s := by
  unfold portRelock
  dsimp only
  split
  · rfl
  · exact timebaseView_event ..

@[simp] theorem timebaseView_scanDrop (lane : Nat) (s : State) : timebaseView (scanDrop lane s) = timebaseView s := by
  unfold scanDrop
  split
  · split
    · exact timebaseView_congr (by simp) (by simp) (by simp)
    · rfl
  · rfl

@[simp] theorem timebaseView_linkDown (p : Nat) (s : State) : timebaseView (linkDown p s) = timebaseView s := by
  unfold linkDown
  split
  · rw [timebaseView_scanDrop]; exact timebaseView_event ..
  · rfl

@[simp] theorem timebaseView_blockReset (d : BlockDomain) (s : State) : timebaseView (blockReset d s) = timebaseView s := by
  cases d with
  | fabric =>
    unfold blockReset
    dsimp only
    split
    · split <;> exact timebaseView_clear 3 s
    · split <;> rfl
  | basinPort p => exact timebaseView_portRelock ..
  | stationPort p => exact timebaseView_linkDown ..
  | pulseChannel c => rfl

@[simp] theorem timebaseView_react4 (block : Bool) (s : State) : timebaseView (react4 block s) = timebaseView s := by
  unfold react4
  split
  · rfl
  · rfl
  · dsimp only
    split
    · rfl
    · rw [timebaseView_pulStop, timebaseView_moveState]; rfl

@[simp] theorem timebaseView_reactSignal (src : Nat) (f : FaultInfo) (lvl : Nat) (s : State) :
    timebaseView (reactSignal src f lvl s) = timebaseView s := by
  unfold reactSignal
  dsimp only
  rw [timebaseView_event]
  exact (ite_keeps timebaseView _ (timebaseView_vector ..)).trans (timebaseView_vector ..)

@[simp] theorem timebaseView_reactTrap (src : Nat) (s : State) : timebaseView (reactTrap src s) = timebaseView s :=
  ite_keeps timebaseView _ rfl

@[simp] theorem timebaseView_reactDomain (src : Nat) (s : State) : timebaseView (reactDomain src s) = timebaseView s := by
  unfold reactDomain
  split
  · exact timebaseView_blockReset ..
  · rfl

@[simp] theorem timebaseView_reactLow (src : Nat) (f : FaultInfo) (lvl : Nat) (block : Bool) (s : State) :
    timebaseView (reactLow src f lvl block s) = timebaseView s := by
  unfold reactLow
  dsimp only
  have hsignal : timebaseView (if 1 ≤ lvl then reactSignal src f lvl s else s) = timebaseView s :=
    ite_keeps timebaseView _ (timebaseView_reactSignal ..)
  generalize (if 1 ≤ lvl then reactSignal src f lvl s else s) = x at *
  have htrap : timebaseView (if 2 ≤ lvl then reactTrap src x else x) = timebaseView x :=
    ite_keeps timebaseView _ (timebaseView_reactTrap ..)
  generalize (if 2 ≤ lvl then reactTrap src x else x) = y at *
  have hdomain : timebaseView (if 3 ≤ lvl then reactDomain src y else y) = timebaseView y :=
    ite_keeps timebaseView _ (timebaseView_reactDomain ..)
  generalize (if 3 ≤ lvl then reactDomain src y else y) = z at *
  rw [← hsignal, ← htrap, ← hdomain]
  split <;> rfl

/-- Only level 5, a reset of the device, touches the timebase (R372). -/
theorem timebaseView_react {lvl : Nat} (hlvl : lvl ≠ 5) (src : Nat) (f : FaultInfo) (block : Bool) (s : State) :
    timebaseView (react src f lvl block s) = timebaseView s := by
  unfold react
  rw [if_neg hlvl]
  exact (ite_keeps timebaseView _ (timebaseView_react4 ..)).trans (timebaseView_reactLow ..)

theorem timebaseView_assertSource {src : Nat} {f : FaultInfo} {s : State} (hlvl : (appliedLevel s src f).1 ≠ 5) (inj : Bool) (d : List Byte) :
    timebaseView (assertSource src f inj d s) = timebaseView s := by
  have hlog : timebaseView (trgFault src f.cls (logSource src f inj d s)) = timebaseView s := timebaseView_trgKind ..
  unfold assertSource
  dsimp only
  split
  · exact hlog
  · rw [timebaseView_react hlvl, hlog]

/-- A raise below level 5 leaves the timebase. -/
theorem timebaseView_raise {src : Nat} {s : State} (hlvl : ∀ f, faultInfo src = some f → (appliedLevel s src f).1 ≠ 5) (d : List Byte) :
    timebaseView (raise src d s) = timebaseView s := by
  unfold raise
  split
  · rfl
  · next f hf =>
    split
    · rfl
    · exact timebaseView_assertSource (hlvl f hf) ..

/-- Escalation adds one level at most (R382). -/
theorem appliedLevel_le (s : State) (src : Nat) (f : FaultInfo) : (appliedLevel s src f).1 ≤ faultLevel s src + 1 := by
  unfold appliedLevel
  dsimp only
  split
  · dsimp only; split <;> omega
  · exact Nat.le_succ _

/-- Where no reaction is set to a reset, a source of a level that is not fixed stays below it. -/
theorem appliedLevel_ne_five_of_calm {s : State} (hcalm : Calm s) {src : Nat} (hsrc : src ∉ [4, 7, 353, 357]) {f : FaultInfo}
    (hf : faultInfo src = some f) (hfix : f.fixed = false) : (appliedLevel s src f).1 ≠ 5 := by
  have hlow := hcalm src f hf hfix hsrc
  have hup := appliedLevel_le s src f
  omega

/-! ### Loss of a timebase loop (R273, R276, R277) -/

/-- The catalogue's row of FLT_PLL_C_LOL and FLT_PLL_E_LOL. -/
theorem faultInfo_timebaseLoop {l : Pll} (hl : l = .c ∨ l = .e) : faultInfo (pllSource l) = some ⟨2, true, 1, false, false⟩ := by
  rcases hl with rfl | rfl <;> decide

/-- The catalogue's row of FLT_TIMEBASE_LOST. -/
theorem faultInfo_timebaseLost : faultInfo 6 = some ⟨0, true, 4, true, true⟩ := by decide

/-- The assertion of a timebase loop's own loss leaves the driver and the cycle. -/
theorem timebaseView_raise_loopLost {s : State} (hcalm : Calm s) {l : Pll} (hl : l = .c ∨ l = .e) (d : List Byte) :
    timebaseView (raise (pllSource l) d s) = timebaseView s := by
  refine timebaseView_raise (fun f hf => ?_) d
  have hrow := faultInfo_timebaseLoop hl
  rw [hrow] at hf
  cases hf
  exact appliedLevel_ne_five_of_calm hcalm (by rcases hl with rfl | rfl <;> decide) hrow rfl

/-- FLT_TIMEBASE_LOST is asserted at its fixed level 4. -/
theorem timebaseView_raise_timebaseLost (d : List Byte) (s : State) : timebaseView (raise 6 d s) = timebaseView s := by
  refine timebaseView_raise (fun f hf => ?_) d
  have hlvl : faultLevel s 6 = 4 := by simp [faultLevel, faultInfo_timebaseLost]
  rw [faultInfo_timebaseLost] at hf
  cases hf
  simp [appliedLevel, hlvl]

/-- A lock flag carries no reaction level. -/
theorem calm_setLock {s : State} (hcalm : Calm s) (l : Pll) (v : Bool) : Calm (setLock l v s) := hcalm

/-- Loop E, lost while it drives and C is locked, hands the timebase to the other loop. -/
theorem pllLost_e_driving {s : State} (honE : s.clk.onE = true) (hc : s.clk.locked.getD 0 false = true) :
    let t := raise (pllSource .e) (be 1 (pllIndex .e)) (setLock .e false s)
    pllLost .e s = { t with clk := { t.clk with onE := !t.clk.onE } } := by
  simp only [pllLost, honE, hc]; rfl

/-- The hand-over leaves C driving and locked as before, and the cycle running as before. -/
theorem pllLost_e_hands_over {s : State} (hcalm : Calm s) (honE : s.clk.onE = true) (hc : s.clk.locked.getD 0 false = true) :
    (pllLost .e s).clk.onE = false ∧ (pllLost .e s).cyc.running = s.cyc.running ∧
      (pllLost .e s).clk.locked = s.clk.locked.set 1 false := by
  have hraise := timebaseView_raise_loopLost (calm_setLock hcalm .e false) (.inr rfl) (be 1 (pllIndex .e))
  obtain ⟨hclk, hrun, -⟩ := timebaseView_eq_iff.1 hraise
  rw [pllLost_e_driving honE hc]
  refine ⟨?_, hrun, congrArg Clk.locked hclk⟩
  dsimp only
  rw [hclk]
  exact congrArg not honE

/-- Loop C, lost while E drives, leaves the driver and the cycle. -/
theorem timebaseView_pllLost_c {s : State} (hcalm : Calm s) (honE : s.clk.onE = true) :
    timebaseView (pllLost .c s) = timebaseView (setLock .c false s) := by
  have hraise := timebaseView_raise_loopLost (calm_setLock hcalm .c false) (.inl rfl) (be 1 (pllIndex .c))
  simpa [pllLost, honE] using hraise

/-- The driving loop, lost while the other is unlocked, is the loss of the timebase. -/
theorem pllLost_eq_timebaseLost {l : Pll} {s : State}
    (hl : l = .c ∧ s.clk.onE = false ∧ s.clk.locked.getD 1 false = false ∨ l = .e ∧ s.clk.onE = true ∧ s.clk.locked.getD 0 false = false) :
    pllLost l s = timebaseLost (setLock l false s) := by
  rcases hl with ⟨rfl, honE, htwin⟩ | ⟨rfl, honE, htwin⟩ <;> simp only [pllLost, honE, htwin] <;> rfl

/-- The loss of the timebase stops the cycle and trips the safety die. -/
theorem timebaseLost_stops_and_trips (s : State) :
    (timebaseLost s).cyc.running = false ∧ (timebaseLost s).srb.st = .tripped := by
  have hraise := timebaseView_raise_timebaseLost [] (pulStop { hwslTrip 0 0 0 0 s with cyc := { (hwslTrip 0 0 0 0 s).cyc with running := false } })
  obtain ⟨-, hrun, hsrb⟩ := timebaseView_eq_iff.1 hraise
  exact ⟨hrun, eq_of_beq (hsrb.trans (by simp [pulStop]))⟩

/-- The loss of the timebase latches FLT_TIMEBASE_LOST. -/
theorem timebaseLost_latches {s : State} (hp : s.dev.porstN = true) (hr : s.dev.railHold = false) (hx : (rec? s 6).active = false) :
    Latched (timebaseLost s) 6 := by
  refine raise_latches [] _ faultInfo_timebaseLost ?_ ?_ ?_ ?_
  · simp [faultAbsent, inRow]
  · simpa [pulStop] using hp
  · simpa [pulStop] using hr
  · simpa [pulStop, rec?] using hx

/-! ### Relock of a loop (R275, R277, R278) -/

/-- No relock changes the driver while FLT_TIMEBASE_LOST is not active (R277). -/
theorem execPllRelock_keeps_driver {s : State} (l : Pll) (miss : Bool) (hx : (rec? s 6).active = false) :
    ∃ t, execPllRelock l miss s = .next t ∧ t.clk.onE = s.clk.onE := by
  unfold execPllRelock
  split
  · exact ⟨s, rfl, rfl⟩
  · refine ⟨_, rfl, ?_⟩
    dsimp only
    generalize hu : setLock l true (if miss = true then bandMiss (16 * (42 + pllIndex l)) s else s) = u
    have honE : u.clk.onE = s.clk.onE := by subst hu; cases miss <;> rfl
    have hrec : rec? u 6 = rec? s 6 := by subst hu; cases miss <;> rfl
    have hclear : (clear (pllSource l) u).clk = u.clk := (congrArg State.clk (clear_rest (pllSource l) u) :)
    have hlost : (rec? (clear (pllSource l) u) 6).active = false := by
      rw [clear_other u (by cases l <;> decide), hrec, hx]
    cases l <;> simp [hlost, hclear, honE]

/-! ### CLOCK_STATUS (R277) -/

/-- A command that passes its checks is carried out. -/
theorem bcsRun_of_passes {h : BcsHdr} {c : BcsCmd} {s : State} (hp : Passes h c s) (act : State → State) :
    bcsRun h c s act = .next (act s) := by
  obtain ⟨⟨hmbx, hready, -, -⟩, hcheck⟩ := hp
  simp [bcsRun, Machine.unit, hmbx, hready, hcheck, onOk]

/-- A heard command's response is queued behind its mailbox. -/
theorem responded_answer {h : BcsHdr} {s : State} (hh : Heard h s) (op : Nat) (st : Status) (body : List Byte) :
    Responded h op st body s (answer h op st body s) := by
  obtain ⟨-, -, hghost, hroom⟩ := hh
  constructor
  · simp [answer, hghost, respond, queueMsg, response, hroom]
  · intro k hk
    simp [answer, hghost, respond, queueMsg, Ne.symm hk]

/-- An answer changes the mailboxes alone. -/
theorem onlyMail_answer {h : BcsHdr} {s : State} (hh : Heard h s) (op : Nat) (st : Status) (body : List Byte) :
    OnlyMail s (answer h op st body s) := by
  obtain ⟨-, -, hghost, -⟩ := hh
  simp only [answer, hghost]; rfl

/-- The second byte of CLOCK_STATUS names the driver. -/
theorem clockBody_driver (s : State) : (clockBody s)[1]? = some (if s.clk.onE then 1#8 else 0#8) := by
  cases honE : s.clk.onE <;> simp [clockBody, be, honE, b2n]

/-! ### The switch (R277) -/

/-- Settles O58: by what a reaction below level 5 leaves of the timebase, and the loss and relock of a loop; that PLL-C
takes over where PLL-E is lost is the model's reading of R277 (log 73). -/
theorem pllSwitchStays : Obligations.PllSwitchStays := by
  unfold Obligations.PllSwitchStays
  intro s hcalm hlen
  have hloss : ∀ l, s.clk.locked.getD (pllIndex l) false = true → exec (.pllLossOfLock l) s = .next (pllLost l s) := by
    intro l hl
    show execPllLossOfLock l s = _
    rw [execPllLossOfLock, if_pos hl]
  refine ⟨?_, ?_, ?_, ?_, ?_⟩
  · intro l miss honE hx
    obtain ⟨t, ht, hdrv⟩ := execPllRelock_keeps_driver l miss hx
    exact ⟨t, ht, hdrv.trans honE⟩
  · intro honE hc
    obtain ⟨hclk, hrun, -⟩ := timebaseView_eq_iff.1 (timebaseView_pllLost_c hcalm honE)
    refine ⟨_, hloss .c hc, ?_, hrun, ?_⟩
    · rw [hclk]; exact honE
    · rw [hclk]; simp [setLock, pllIndex, hlen]
  · intro honE hc he
    obtain ⟨hdrv, hrun, hlocked⟩ := pllLost_e_hands_over hcalm honE hc
    refine ⟨_, hloss .e he, hdrv, hrun, ?_⟩
    rw [hlocked]; simpa [List.getD] using hc
  · intro h hp
    have hrun : exec (.clockStatus h) s = .next (answer h 0x45 .ok (clockBody s) s) := bcsRun_of_passes hp _
    obtain ⟨hheard, -⟩ := hp
    exact ⟨_, hrun, _, responded_answer hheard .., clockBody_driver s, onlyMail_answer hheard ..⟩
  · intro l hl hlock hp hr hx
    obtain ⟨hrun, htrip⟩ := timebaseLost_stops_and_trips (setLock l false s)
    have hlatch : Latched (timebaseLost (setLock l false s)) 6 := timebaseLost_latches hp hr hx
    refine ⟨_, hloss l hlock, ?_⟩
    rw [pllLost_eq_timebaseLost hl]
    exact ⟨hrun, htrip, hlatch⟩

end Sys2Proof.Proofs
end

section
/-! The edges of the Grid Edge Timer (R280–R285): what an assertion leaves of the timer, what a fast edge counts and reports, and what
an accepted edge makes of its sample. -/

namespace Sys2Proof.Proofs
open Sys2Proof Sys2Proof.Machine Sys2Proof.Laws

/-! ### What the passing of time leaves -/

/-- The passing of time changes the tick and the counters alone. -/
theorem advanceTo_rest (n : Nat) (s : State) : { advanceTo n s with now := s.now, time := s.time } = s := by
  unfold advanceTo
  split <;> rfl

@[simp] theorem advanceTo_dev (n : Nat) (s : State) : (advanceTo n s).dev = s.dev := (congrArg State.dev (advanceTo_rest n s) :)
@[simp] theorem advanceTo_cfg (n : Nat) (s : State) : (advanceTo n s).cfg = s.cfg := (congrArg State.cfg (advanceTo_rest n s) :)
@[simp] theorem advanceTo_fcru (n : Nat) (s : State) : (advanceTo n s).fcru = s.fcru := (congrArg State.fcru (advanceTo_rest n s) :)
@[simp] theorem advanceTo_getLast (n : Nat) (s : State) : (advanceTo n s).getLast = s.getLast :=
  (congrArg State.getLast (advanceTo_rest n s) :)
@[simp] theorem getPt_advanceTo (n : Nat) (s : State) (p : Nat) : getPt (advanceTo n s) p = getPt s p :=
  (congrArg (getPt · p) (advanceTo_rest n s) :)
@[simp] theorem par_advanceTo (n : Nat) (s : State) (g i k : Nat) : par (advanceTo n s) g i k = par s g i k :=
  (congrArg (par · g i k) (advanceTo_rest n s) :)

/-- The reaction levels in force are the configuration's (R373). -/
theorem calm_of_cfg_eq {s t : State} (hcfg : t.cfg = s.cfg) (hcalm : Calm s) : Calm t := by
  intro src f hf hfix hsrc
  have hlvl : faultLevel t src = faultLevel s src := by simp only [faultLevel, parN, par, armTab, hcfg]
  rw [hlvl]
  exact hcalm src f hf hfix hsrc

/-! ### What a reaction below level 5 leaves of the timer -/

/-- The points and the open sample of the timer, the configuration, and FAULT_SEQ. -/
def gridView (s : State) : SMap GetPt × Option GetSample × Cfg × Word := (s.get, s.getLast, s.cfg, s.fcru.seq)

@[simp] theorem gridView_event (c b : Nat) (body : List Byte) (s : State) : gridView (event c b body s) = gridView s :=
  (congrArg gridView (event_rest c b body s) :)

@[simp] theorem gridView_vector (v : Nat) (s : State) : gridView (vector v s) = gridView s :=
  (congrArg gridView (vector_rest v s) :)

@[simp] theorem gridView_trgKind (k : Nat) (p : Nat → Bool) (s : State) : gridView (trgKind k p s) = gridView s := by
  simpa only [gridView] using congrArg gridView (trgKind_rest k p s)

@[simp] theorem gridView_srbGo (st : SrbState) (cause k : Nat) (value e : Int) (s : State) :
    gridView (srbGo st cause k value e s) = gridView s := by
  unfold srbGo
  split
  · rfl
  · simp only [trgState, safetyEvent, gridView_trgKind, gridView_event]; rfl

@[simp] theorem gridView_srbOnState (new : DevState) (s : State) : gridView (srbOnState new s) = gridView s := by
  unfold srbOnState
  split
  case h_4 => exact gridView_srbGo ..
  case h_5 => exact gridView_srbGo ..
  case h_6 => exact gridView_srbGo ..
  all_goals rfl

@[simp] theorem gridView_moveState (new : DevState) (s : State) : gridView (moveState new s) = gridView s := by
  unfold moveState
  split
  · rfl
  · simp only [gridView_srbOnState, trgState, gridView_trgKind, gridView_event, gridView_vector]; rfl

@[simp] theorem gridView_react4 (block : Bool) (s : State) : gridView (react4 block s) = gridView s := by
  unfold react4
  split
  · rfl
  · rfl
  · dsimp only
    split
    · rfl
    · exact gridView_moveState ..

@[simp] theorem gridView_reactSignal (src : Nat) (f : FaultInfo) (lvl : Nat) (s : State) : gridView (reactSignal src f lvl s) = gridView s := by
  unfold reactSignal
  dsimp only
  rw [gridView_event]
  exact (ite_keeps gridView _ (gridView_vector ..)).trans (gridView_vector ..)

@[simp] theorem gridView_reactTrap (src : Nat) (s : State) : gridView (reactTrap src s) = gridView s := ite_keeps gridView _ rfl

/-- Levels 1 to 3 leave the view, for a source without a reset domain (R372, R375). -/
theorem gridView_reactLow {src : Nat} (hdom : faultDomain src = none) (f : FaultInfo) (lvl : Nat) (block : Bool) (s : State) :
    gridView (reactLow src f lvl block s) = gridView s := by
  simp only [reactLow, reactDomain, hdom, ite_self]
  refine Eq.trans (ite_keeps gridView _ rfl) ?_
  refine Eq.trans (ite_keeps gridView _ (gridView_reactTrap ..)) ?_
  exact ite_keeps gridView _ (gridView_reactSignal ..)

/-- Below level 5, the whole reaction of such a source leaves the view. -/
theorem gridView_react {src lvl : Nat} (hdom : faultDomain src = none) (hlvl : lvl ≠ 5) (f : FaultInfo) (block : Bool) (s : State) :
    gridView (react src f lvl block s) = gridView s := by
  unfold react
  rw [if_neg hlvl]
  exact (ite_keeps gridView _ (gridView_react4 ..)).trans (gridView_reactLow hdom ..)

/-- An assertion of such a source takes one number of the log and leaves the rest of the view. -/
theorem gridView_assertSource {src : Nat} {f : FaultInfo} {s : State} (hdom : faultDomain src = none) (hlvl : (appliedLevel s src f).1 ≠ 5)
    (inj : Bool) (d : List Byte) : gridView (assertSource src f inj d s) = (s.get, s.getLast, s.cfg, s.fcru.seq + 1) := by
  have hlog : gridView (trgFault src f.cls (logSource src f inj d s)) = (s.get, s.getLast, s.cfg, s.fcru.seq + 1) := gridView_trgKind ..
  unfold assertSource
  dsimp only
  split
  · exact hlog
  · rw [gridView_react hdom hlvl, hlog]

/-- The catalogue's row of the point sources FLT_GET_FAST and FLT_GET_SEQUENCE. -/
theorem faultInfo_getFast {p : Nat} (hp : p < 2) : faultInfo (246 + p) = some ⟨2, false, 1, false, false⟩ := by
  interval_cases p <;> decide
theorem faultInfo_getSequence {p : Nat} (hp : p < 2) : faultInfo (248 + p) = some ⟨1, false, 1, false, false⟩ := by
  interval_cases p <;> decide

/-- The sources of the timer have no reset domain (R375). -/
theorem faultDomain_get {n : Nat} (hlo : 244 ≤ n) (hhi : n < 250) : faultDomain n = none := by
  interval_cases n <;> decide

/-- The sources of the timer are not of those whose default level is 4. -/
theorem appliedLevel_get_ne_five {s : State} (hcalm : Calm s) {n : Nat} (hlo : 244 ≤ n) (hhi : n < 250) {f : FaultInfo}
    (hf : faultInfo n = some f) (hfix : f.fixed = false) : (appliedLevel s n f).1 ≠ 5 :=
  appliedLevel_ne_five_of_calm hcalm (by simp only [List.mem_cons, List.not_mem_nil, or_false]; omega) hf hfix

/-! ### A fast edge (R282) -/

/-- A point after a fast edge, with the tick of its last report. -/
def countFast (tick : Option Nat) (x : GetPt) : GetPt := { x with fast := x.fast + 1, fastNow := true, fastTick := tick }

/-- A fast edge within a second of the last report is counted and no more. -/
theorem fastEdge_of_recent {s : State} {p k : Nat} (hk : (getPt s p).fastTick = some k) (hrecent : s.now - k < 400000000) :
    fastEdge p s = setPt p (countFast (getPt s p).fastTick (getPt s p)) s := by
  simp [fastEdge, countFast, hk, Nat.not_le.2 hrecent]

/-- Any other fast edge is counted and reported. -/
theorem fastEdge_of_due {s : State} {p : Nat} (hdue : ∀ k, (getPt s p).fastTick = some k → 400000000 ≤ s.now - k) :
    fastEdge p s = raise (246 + p) (be 1 p) (setPt p (countFast (some s.now) (getPt s p)) s) := by
  cases hk : (getPt s p).fastTick with
  | none => simp [fastEdge, countFast, hk]
  | some k => simp [fastEdge, countFast, hk, hdue k hk]

/-- FLT_GET_FAST asserts wherever no power-on reset holds, for it follows no level: it latches, in one entry of the log. -/
theorem raise_getFast {s : State} (hcalm : Calm s) {p : Nat} (hp : p < 2) (hporst : s.dev.porstN = true) (hrail : s.dev.railHold = false)
    (d : List Byte) : Latched (raise (246 + p) d s) (246 + p) ∧ (raise (246 + p) d s).fcru.seq = s.fcru.seq + 1 := by
  have habsent : faultAbsent s.dev.variant (246 + p) = false := by interval_cases p <;> cases s.dev.variant <;> decide
  have hassert : raise (246 + p) d s = assertSource (246 + p) ⟨2, false, 1, false, false⟩ false d s := by
    simp [raise, faultInfo_getFast hp, habsent, hporst, hrail]
  have hlvl := appliedLevel_get_ne_five hcalm (n := 246 + p) (by omega) (by omega) (faultInfo_getFast hp) rfl
  have hview := gridView_assertSource (faultDomain_get (n := 246 + p) (by omega) (by omega)) hlvl false d
  rw [hassert]
  exact ⟨assertSource_latches .., congrArg (·.2.2.2) hview⟩

/-- An assertion of a source of the timer leaves its points, its sample and the configuration. -/
theorem raise_get_keeps {s : State} (hcalm : Calm s) {n : Nat} (hlo : 244 ≤ n) (hhi : n < 250) {f : FaultInfo} (hf : faultInfo n = some f)
    (hfix : f.fixed = false) (d : List Byte) :
    (raise n d s).get = s.get ∧ (raise n d s).getLast = s.getLast ∧ (raise n d s).cfg = s.cfg := by
  simp only [raise, hf]
  split
  · exact ⟨rfl, rfl, rfl⟩
  · have hview := gridView_assertSource (faultDomain_get hlo hhi) (appliedLevel_get_ne_five hcalm hlo hhi hf hfix) false d
    simp only [gridView, Prod.mk.injEq] at hview
    obtain ⟨hget, hlast, hcfg, -⟩ := hview
    exact ⟨hget, hlast, hcfg⟩

/-- A fast edge changes its own point alone, by its counts; one that is due for report leaves its tick. -/
theorem getPt_fastEdge {s : State} (hcalm : Calm s) {p : Nat} (hp : p < 2) :
    ∃ tick, ((∀ k, (getPt s p).fastTick = some k → 400000000 ≤ s.now - k) → tick = some s.now) ∧
      ∀ q, getPt (fastEdge p s) q = if p = q then countFast tick (getPt s p) else getPt s q := by
  by_cases hrecent : ∃ k, (getPt s p).fastTick = some k ∧ s.now - k < 400000000
  · obtain ⟨k, hk, hlt⟩ := hrecent
    exact ⟨_, fun hdue => absurd (hdue k hk) (Nat.not_le.2 hlt), fun q => by rw [fastEdge_of_recent hk hlt, getPt_setPt]⟩
  · have hdue : ∀ k, (getPt s p).fastTick = some k → 400000000 ≤ s.now - k := fun k hk => Nat.le_of_not_lt fun hlt => hrecent ⟨k, hk, hlt⟩
    refine ⟨some s.now, fun _ => rfl, fun q => ?_⟩
    rw [fastEdge_of_due hdue]
    obtain ⟨hget, -, -⟩ := raise_get_keeps (s := setPt p (countFast (some s.now) (getPt s p)) s) hcalm
      (by omega) (by omega) (faultInfo_getFast hp) rfl (be 1 p)
    rw [getPt, hget]
    exact getPt_setPt ..

/-- A fast edge that is due for report latches FLT_GET_FAST, in one entry of the log. -/
theorem fastEdge_reports {s : State} (hcalm : Calm s) {p : Nat} (hp : p < 2)
    (hdue : ∀ k, (getPt s p).fastTick = some k → 400000000 ≤ s.now - k) (hporst : s.dev.porstN = true) (hrail : s.dev.railHold = false) :
    Latched (fastEdge p s) (246 + p) ∧ (fastEdge p s).fcru.seq = s.fcru.seq + 1 := by
  rw [fastEdge_of_due hdue]
  exact raise_getFast (s := setPt p (countFast (some s.now) (getPt s p)) s) hcalm hp hporst hrail _

/-! ### An accepted edge (R283–R285) -/

@[simp] theorem seqPair_last (x : GetPt) (k : Nat) (ambig : Bool) : (seqPair x k ambig).last = x.last := by
  unfold seqPair
  split
  · split <;> rfl
  · rfl

@[simp] theorem freqStep_last (s : State) (p : Nat) (x : GetPt) (iv : Int) : (freqStep s p x iv).last = x.last := by
  unfold freqStep
  dsimp only
  (repeat' split) <;> rfl

/-- An accepted edge is the last of its input. -/
theorem edgeAccept_last (s : State) (p k t : Nat) (ambig : Bool) (x : GetPt) : (edgeAccept s p k t ambig x).last = x.last.set k t := by
  unfold edgeAccept
  dsimp only
  (repeat' split) <;> simp

/-- Edges accepted at one timestamp are, each, the last of its input. -/
theorem find_last_foldl_edgeAccept (s : State) (p t : Nat) (ambig : Bool) (es : SMap Nat) (x : GetPt) (k : Nat) :
    (es.foldl (fun x e => edgeAccept s p (e.1 % 3) t ambig x) x).last.find k =
      if k ∈ es.map (·.1 % 3) then some t else x.last.find k := by
  induction es generalizing x with
  | nil => simp
  | cons e es ih =>
    simp only [List.foldl_cons, ih, edgeAccept_last, find_set, List.map_cons, List.mem_cons]
    by_cases hmem : k ∈ es.map (·.1 % 3) <;> simp [hmem, eq_comm]

/-- Each input of a sample takes the timestamp of the lowest-numbered one (R283). -/
theorem samplePoint_find_last (s : State) {g : GetSample} {i u : Nat} (hmem : (i, u) ∈ g.edges) :
    (samplePoint s g (i / 3)).last.find (i % 3) = some (g.edges.head?.getD (0, 0)).2 := by
  refine (find_last_foldl_edgeAccept ..).trans (if_pos ?_)
  exact List.mem_map.2 ⟨(i, u), List.mem_filter.2 ⟨hmem, by simp⟩, rfl⟩

/-- A point takes the accepted edges of a sample, where the sample holds one of its inputs. -/
def samplePointInto (g : GetSample) (s : State) (p : Nat) : State :=
  if g.edges.any (fun e => e.1 / 3 = p) then setPt p (samplePoint s g p) s else s

/-- Both points take the sample that now stands. -/
def applySample (g : GetSample) (s : State) : State := [0, 1].foldl (samplePointInto g) { s with getLast := some g }

theorem getPt_samplePointInto_other {g : GetSample} {s : State} {p q : Nat} (hne : p ≠ q) : getPt (samplePointInto g s p) q = getPt s q := by
  unfold samplePointInto
  split
  · rw [getPt_setPt, if_neg hne]
  · rfl

theorem getPt_samplePointInto_same {g : GetSample} {s : State} {p : Nat} (hany : g.edges.any (fun e => e.1 / 3 = p) = true) :
    getPt (samplePointInto g s p) p = samplePoint s g p := by
  rw [samplePointInto, if_pos hany, getPt_setPt, if_pos rfl]

/-- The point of an edge of the sample is made from the sample; only the fast edges it has counted stand already. -/
theorem getPt_applySample {g : GetSample} {s : State} {i u : Nat} (hi : i < 6) (hmem : (i, u) ∈ g.edges) :
    ∃ v, getPt (applySample g s) (i / 3) = samplePoint v g (i / 3) ∧ getPt v (i / 3) = getPt s (i / 3) := by
  have hany : g.edges.any (fun e => e.1 / 3 = i / 3) = true := List.any_eq_true.2 ⟨(i, u), hmem, by simp⟩
  obtain hp | hp : i / 3 = 0 ∨ i / 3 = 1 := by omega
  all_goals
    rw [hp] at hany ⊢
    show ∃ v, getPt (samplePointInto g (samplePointInto g { s with getLast := some g } 0) 1) _ = _ ∧ _
  · exact ⟨_, (getPt_samplePointInto_other (by decide)).trans (getPt_samplePointInto_same hany), rfl⟩
  · exact ⟨_, getPt_samplePointInto_same hany, getPt_samplePointInto_other (by decide)⟩

/-- An input of the sample has its last accepted edge at the timestamp of the lowest-numbered one, and its point has its count of fast edges. -/
theorem find_last_applySample {g : GetSample} {s : State} {i u : Nat} (hi : i < 6) (hmem : (i, u) ∈ g.edges) :
    (getPt (applySample g s) (i / 3)).last.find (i % 3) = some (g.edges.head?.getD (0, 0)).2 ∧
      (getPt (applySample g s) (i / 3)).fast = (getPt s (i / 3)).fast := by
  obtain ⟨v, hpt, hv⟩ := getPt_applySample (s := s) hi hmem
  rw [hpt, ← hv]
  exact ⟨samplePoint_find_last v hmem, rfl⟩

@[simp] theorem getPt_clear (src : Nat) (s : State) (p : Nat) : getPt (clear src s) p = getPt s p :=
  (congrArg (getPt · p) (clear_rest src s) :)

/-- A written entry is listed. -/
theorem mem_set_self {α : Type} (m : SMap α) (k : Nat) (v : α) : (k, v) ∈ m.set k v := by
  induction m with
  | nil => simp [SMap.set]
  | cons x m ih =>
    simp only [SMap.set]
    split
    · simp
    · split <;> simp [ih]

/-- No sample is open, and the points and the configuration stand as before. -/
def SampleClosed (s t : State) : Prop := t.getLast = none ∧ t.get = s.get ∧ t.cfg = s.cfg

/-- The report of a completed sample leaves the points, and no sample open. -/
theorem sampleClosed_getClose {s : State} (hcalm : Calm s) : SampleClosed s (getClose s) := by
  unfold getClose
  split
  · next hnone => exact ⟨hnone, rfl, rfl⟩
  · next g hg =>
    refine List.foldlRecOn (motive := SampleClosed s) _ _ ⟨rfl, rfl, rfl⟩ fun u hu p hp => ?_
    dsimp only
    split
    · obtain ⟨hlast, hget, hcfg⟩ := hu
      have hp2 : p < 2 := by simp only [List.mem_cons, List.not_mem_nil, or_false] at hp; omega
      obtain ⟨hget', hlast', hcfg'⟩ := raise_get_keeps (calm_of_cfg_eq hcfg hcalm) (by omega) (by omega)
        (faultInfo_getSequence hp2) rfl (be 1 p ++ be 1 (getPt u p).seq)
      exact ⟨hlast'.trans hlast, hget'.trans hget, hcfg'.trans hcfg⟩
    · exact hu

/-- An edge of the open sample's tick joins it. -/
theorem takeEdge_joins {i t : Nat} {s : State} {g : GetSample} (hg : s.getLast = some g) (htick : g.tick = s.now) :
    takeEdge i t s = clear (244 + i / 3) (applySample { g with edges := g.edges.set i t } s) := by
  simp only [takeEdge, hg, if_pos htick]; rfl

/-- A sample of one edge, over the points as they stand. -/
def openSample (i t : Nat) (s : State) : GetSample := { tick := s.now, edges := [(i, t)], pt0 := getPt s 0, pt1 := getPt s 1 }

/-- Any other edge opens a sample, after the report of the one before. -/
theorem takeEdge_opens {i t : Nat} {s : State} (hcalm : Calm s) (hother : ∀ g, s.getLast = some g → g.tick ≠ s.now) :
    ∃ u, takeEdge i t s = clear (244 + i / 3) (applySample (openSample i t u) u) ∧ u.get = s.get := by
  cases hlast : s.getLast with
  | none =>
    refine ⟨s, ?_, rfl⟩
    simp only [takeEdge, hlast]; rfl
  | some g =>
    obtain ⟨hnone, hget, -⟩ := sampleClosed_getClose hcalm
    refine ⟨getClose s, ?_, hget⟩
    simp only [takeEdge, hlast, if_neg (hother g hlast), hnone]; rfl

/-- The first accepted edge of a sample is the last of its input, at its own timestamp. -/
theorem takeEdge_first {i t : Nat} {s : State} (hcalm : Calm s) (hi : i < 6) (hother : ∀ g, s.getLast = some g → g.tick ≠ s.now) :
    (getPt (takeEdge i t s) (i / 3)).last.find (i % 3) = some t ∧ (getPt (takeEdge i t s) (i / 3)).fast = (getPt s (i / 3)).fast := by
  obtain ⟨u, htake, hget⟩ := takeEdge_opens (i := i) (t := t) hcalm hother
  obtain ⟨hlast, hfast⟩ := find_last_applySample (g := openSample i t u) (s := u) hi (List.mem_singleton.2 rfl)
  rw [htake, getPt_clear]
  exact ⟨hlast, by rw [hfast, getPt, hget]; rfl⟩

/-- A further accepted edge of a sample is the last of its input, at the timestamp of the lowest-numbered input (R283). -/
theorem takeEdge_further {i t : Nat} {s : State} (hi : i < 6) {g : GetSample} (hg : s.getLast = some g) (htick : g.tick = s.now) :
    (getPt (takeEdge i t s) (i / 3)).last.find (i % 3) = some ((g.edges.set i t).head?.getD (0, 0)).2 ∧
      (getPt (takeEdge i t s) (i / 3)).fast = (getPt s (i / 3)).fast := by
  rw [takeEdge_joins hg htick, getPt_clear]
  exact find_last_applySample (g := { g with edges := g.edges.set i t }) hi (mem_set_self g.edges i t)

/-! ### The edge at an input (R280, R282) -/

/-- The instant of an edge, in 2^-32 ns of CT: its tick, and its place in the tick. -/
def edgeInstant (s : State) (eu : Nat) : Nat :=
  let a := advanceTo (eu / 64) s
  ctNow a + eu % 64 * (ctIncrement a.time (slewStep (par s 0x32 0 2))).toNat / 64

/-- The input is in use, and the edge is the one it counts. -/
def EdgeCounts (s : State) (i : Nat) (rise : Bool) : Prop :=
  s.dev.state.loadedOn = true ∧ par s 0x34 i 0 = 1 ∧ rise = (par s 0x34 i 2 == 0)

section Edge
variable {s : State} {i : Nat} {rise : Bool} {eu : Nat} (hi : i < 6) (hon : EdgeCounts s i rise)
include hi hon

/-- An edge that counts and is fast. -/
theorem exec_geEdge_of_fast (hfast : isFast (advanceTo (eu / 64) s) (i / 3) (i % 3) (edgeInstant s eu) (getPt s (i / 3)) = true) :
    exec (.geEdge i rise eu) s = .next (fastEdge (i / 3) (advanceTo (eu / 64) s)) := by
  obtain ⟨hloaded, hused, hedge⟩ := hon
  show execGeEdge i rise eu s = _
  simp only [edgeInstant] at hfast
  simp [execGeEdge, Machine.unit, hi, hloaded, hused, hedge, hfast]

/-- An edge that counts and is not fast. -/
theorem exec_geEdge_of_accepted (hslow : isFast (advanceTo (eu / 64) s) (i / 3) (i % 3) (edgeInstant s eu) (getPt s (i / 3)) = false) :
    exec (.geEdge i rise eu) s = .next (takeEdge i (edgeInstant s eu) (advanceTo (eu / 64) s)) := by
  obtain ⟨hloaded, hused, hedge⟩ := hon
  show execGeEdge i rise eu s = _
  simp only [edgeInstant] at hslow
  simp [execGeEdge, Machine.unit, edgeInstant, hi, hloaded, hused, hedge, hslow]

end Edge

/-- R282 in its own terms: the span since the last accepted edge of the input, in nominal periods, is below MIN_INTERVAL. -/
theorem isFast_iff {s : State} {p k t : Nat} {x : GetPt} : isFast s p k t x = true ↔ ∃ u, x.last.find k = some u ∧
    (((t : Int) - (u : Int) : Int) : Rat) / (secUnits : Rat) * ((par s 0x34 p 4 : Rat) / 100) < (par s 0x34 p 6 : Rat) / 100 := by
  unfold isFast
  cases x.last.find k <;> simp [getPeriods, getNom]

/-- Settles O57: an edge that counts goes to `fastEdge` or to `takeEdge`, as R282 divides them. -/
theorem fastEdges : Obligations.FastEdges := by
  unfold Obligations.FastEdges
  refine ⟨fun p hp => by rw [faultInfo_getFast hp]; rfl, ?_⟩
  intro s i rise eu hcalm hi a p inst fast hloaded hused hedge
  have hp : p < 2 := Nat.div_lt_of_lt_mul hi
  have hcalm' : Calm a := calm_of_cfg_eq (advanceTo_cfg ..) hcalm
  have hpt : ∀ q, getPt a q = getPt s q := getPt_advanceTo (eu / 64) s
  have hon : EdgeCounts s i rise := ⟨hloaded, hused, hedge⟩
  have hfast : isFast a p (i % 3) inst (getPt s p) = true ↔ fast := by simp only [isFast_iff, fast, a, par_advanceTo]
  have hslow : ¬ fast → exec (.geEdge i rise eu) s = .next (takeEdge i inst a) := fun h =>
    exec_geEdge_of_accepted hi hon (eq_false_of_ne_true (mt hfast.1 h))
  refine ⟨fun h => ?_, fun h hother => ?_, fun h g hg htick => ?_⟩
  · have hgo : exec (.geEdge i rise eu) s = .next (fastEdge p a) := exec_geEdge_of_fast hi hon (hfast.2 h)
    obtain ⟨tick, htick, hpts⟩ := getPt_fastEdge hcalm' hp
    have hself : getPt (fastEdge p a) p = countFast tick (getPt s p) := by rw [hpts, if_pos rfl, hpt]
    refine ⟨_, hgo, ?_⟩
    beta_reduce
    rw [hself]
    refine ⟨rfl, rfl, rfl, rfl, rfl, rfl, ?_, ?_, ?_⟩
    · rw [hpts, if_neg (by omega), hpt]
    · rintro ⟨k, hk, hrecent⟩
      rw [fastEdge_of_recent (by rw [hpt]; exact hk) hrecent]
      exact advanceTo_fcru ..
    · intro hdue hporst hrail
      rw [← hpt p] at hdue
      obtain ⟨hlatch, hseq⟩ := fastEdge_reports hcalm' hp hdue (by rwa [advanceTo_dev]) (by rwa [advanceTo_dev])
      exact ⟨hlatch, hseq.trans (by rw [advanceTo_fcru]), htick hdue⟩
  · obtain ⟨hlast, hcount⟩ := takeEdge_first hcalm' hi (t := inst) (by rwa [advanceTo_getLast])
    exact ⟨_, hslow h, hlast, hcount.trans (by rw [hpt])⟩
  · obtain ⟨hlast, hcount⟩ := takeEdge_further hi (t := inst) (s := a) (by rwa [advanceTo_getLast]) htick
    exact ⟨_, hslow h, by rw [hlast]; rfl, hcount.trans (by rw [hpt])⟩

end Sys2Proof.Proofs
end

section
/-! The completed lock-through (R366): what a commit's result needs on its way to its mailbox, what the lock-through leaves of it, and the
empty staging area behind it. -/

namespace Sys2Proof.Proofs
open Sys2Proof Sys2Proof.Machine Sys2Proof.Laws

/-! ### Behind a mailbox (R318, R319) -/

/-- The responses of a queue. -/
def responsesOf (ms : List Msg) : List Msg := ms.filter (fun x => !isEvent x)

/-- A mailbox with one more message behind its F2H side. -/
def enqueue (msg : Msg) (b : Mbx) : Mbx :=
  if b.f2h.length < 8 then { b with f2h := b.f2h ++ [msg] }
  else if b.f2h.any isEvent then { b with f2h := dropEvent b.f2h ++ [msg], eventsLost := cnt32 b.eventsLost }
  else if isEvent msg then { b with eventsLost := cnt32 b.eventsLost }
  else { b with f2h := b.f2h ++ [msg] }

theorem queueMsg_eq (n : Nat) (msg : Msg) (s : State) : queueMsg n msg s = mset n (enqueue msg) s := rfl

@[simp] theorem enqueue_epoch (msg : Msg) (b : Mbx) : (enqueue msg b).epoch = b.epoch := by
  unfold enqueue
  (repeat' split) <;> rfl
@[simp] theorem enqueue_role (msg : Msg) (b : Mbx) : (enqueue msg b).role = b.role := by
  unfold enqueue
  (repeat' split) <;> rfl

/-- What makes room in a full queue is an event. -/
@[simp] theorem responsesOf_dropEvent (ms : List Msg) : responsesOf (dropEvent ms) = responsesOf ms := by
  induction ms with
  | nil => rfl
  | cons x ms ih =>
    unfold dropEvent
    split
    · next hx => simp [responsesOf, hx]
    · next hx => simpa [responsesOf, hx] using ih

/-- A response finds its place behind those that wait; an event changes none. -/
theorem responsesOf_enqueue (msg : Msg) (b : Mbx) : responsesOf (enqueue msg b).f2h = responsesOf b.f2h ++ responsesOf [msg] := by
  unfold enqueue
  split
  · exact List.filter_append ..
  · split
    · exact (List.filter_append ..).trans (congrArg (· ++ responsesOf [msg]) (responsesOf_dropEvent _))
    · split
      · next hmsg => simp [responsesOf, hmsg]
      · exact List.filter_append ..

/-- A message is the last of its queue, unless it is an event before a full queue of responses. -/
theorem enqueue_getLast (msg : Msg) {b : Mbx} (hfew : (responsesOf b.f2h).length < 8) : (enqueue msg b).f2h.getLast? = some msg := by
  unfold enqueue
  split
  · simp
  · next hfull =>
    split
    · simp
    · next hnone =>
      have hall : responsesOf b.f2h = b.f2h := List.filter_eq_self.2 (by simpa using hnone)
      exact absurd (hall ▸ hfew) hfull

/-! ### What a result needs on its way -/

/-- The part of the state on which the result of a commit depends. -/
def resultView (s : State) : Cfg × Pound × Bool × SMap Mbx × Option EyeScan :=
  (s.cfg, s.pound, s.dev.mpcReady, s.mbx, s.stn.scan)

/-- The responses that mailbox `m` may hold without a further command: those that wait, and the one that ends an eye scan (R253). -/
def responsesDue (m : Nat) (s : State) : Nat :=
  (responsesOf (mget s m).f2h).length + b2n (s.stn.scan.any (·.mbx == m))

/-- From `s` to `t` the configuration, the staging area, firmware and the session of mailbox `m` stand, and no responses are added to those
that were due. -/
structure Carries (m : Nat) (s t : State) : Prop where
  cfg : t.cfg = s.cfg
  pound : t.pound = s.pound
  ready : t.dev.mpcReady = s.dev.mpcReady
  epoch : (mget t m).epoch = (mget s m).epoch
  role : (mget t m).role = (mget s m).role
  due : responsesDue m t ≤ responsesDue m s

section Rules
variable {m : Nat} {s₀ s : State}

theorem Carries.refl : Carries m s s := ⟨rfl, rfl, rfl, rfl, rfl, Nat.le_refl _⟩

theorem Carries.trans {t : State} (h : Carries m s₀ s) (g : Carries m s t) : Carries m s₀ t :=
  ⟨g.cfg.trans h.cfg, g.pound.trans h.pound, g.ready.trans h.ready, g.epoch.trans h.epoch, g.role.trans h.role, g.due.trans h.due⟩

/-- A step that leaves the view. -/
theorem Carries.of_view {t : State} (h : Carries m s₀ s) (hview : resultView t = resultView s) : Carries m s₀ t := by
  simp only [resultView, Prod.mk.injEq] at hview
  obtain ⟨hcfg, hpound, hready, hmbx, hscan⟩ := hview
  refine h.trans ⟨hcfg, hpound, hready, ?_, ?_, ?_⟩ <;> simp only [responsesDue, mget, hmbx, hscan, Nat.le_refl]

theorem Carries.ite {t u : State} {c : Prop} [Decidable c] (ht : Carries m s₀ t) (hu : Carries m s₀ u) :
    Carries m s₀ (if c then t else u) := by
  split
  · exact ht
  · exact hu

theorem Carries.foldl {α : Type} {f : State → α → State} (xs : List α) (h : Carries m s₀ s)
    (hf : ∀ x, ∀ a ∈ xs, Carries m s₀ x → Carries m s₀ (f x a)) : Carries m s₀ (xs.foldl f s) :=
  List.foldlRecOn xs f h fun x hx a ha => hf x a ha hx

/-- A flip puts the same configuration in force on both sides, and leaves the rest but the clock words and the cycle. -/
theorem Carries.flip (h : Carries m s₀ s) (cfg : Cfg) (clk : Clk) (cyc : Cyc) :
    Carries m { s₀ with cfg := cfg } { s with cfg := cfg, clk := clk, cyc := cyc } :=
  ⟨rfl, h.pound, h.ready, h.epoch, h.role, h.due⟩

/-! ### Messages -/

/-- A change of a mailbox that leaves its session and adds no response. -/
theorem carries_mset {n : Nat} {f : Mbx → Mbx} (h : Carries m s₀ s) (hepoch : ∀ b, (f b).epoch = b.epoch) (hrole : ∀ b, (f b).role = b.role)
    (hresp : ∀ b, responsesOf (f b).f2h = responsesOf b.f2h) : Carries m s₀ (mset n f s) := by
  refine h.trans ⟨rfl, rfl, rfl, ?_, ?_, ?_⟩
  · rw [mget_mset]; split
    · next hn => rw [hepoch, hn]
    · rfl
  · rw [mget_mset]; split
    · next hn => rw [hrole, hn]
    · rfl
  · simp only [responsesDue, mget_mset, mset_stn]; split
    · next hn => rw [hresp, hn]
    · exact Nat.le_refl _

/-- An event takes no place from a response. -/
theorem carries_queueEvent {n : Nat} {msg : Msg} (hmsg : isEvent msg = true) (h : Carries m s₀ s) : Carries m s₀ (queueMsg n msg s) := by
  have hkept : ∀ b, responsesOf (enqueue msg b).f2h = responsesOf b.f2h := fun b => by
    rw [responsesOf_enqueue]; simp [responsesOf, hmsg]
  exact carries_mset h (enqueue_epoch msg) (enqueue_role msg) hkept

theorem carries_eventTag (own : Option (Nat × Word)) (tag : BitVec 16) (code bit : Nat) (body : List Byte) (h : Carries m s₀ s) :
    Carries m s₀ (eventTag own tag code bit body s) :=
  h.ite (.foldl _ h fun _ _ _ hx => (carries_queueEvent rfl hx).ite hx)

theorem carries_event (code bit : Nat) (body : List Byte) (h : Carries m s₀ s) : Carries m s₀ (event code bit body s) :=
  carries_eventTag _ _ _ _ _ h

theorem carries_portChange (p st : Nat) (h : Carries m s₀ s) : Carries m s₀ (portChange p st s) := carries_event _ _ _ h

theorem carries_scheduledResult (w : Waiting) (st : Status) (cycle : CycleNo) (h : Carries m s₀ s) :
    Carries m s₀ (scheduledResult w st cycle s) := carries_eventTag _ _ _ _ _ h

section Respond
variable (n : Nat) (tag : BitVec 16) (op : Nat) (st : Status) (body : List Byte) (s : State)

theorem mget_respond_same : mget (respond n tag op st body s) n =
    enqueue { kind := 2, opcode := op, status := st, tag := tag, sess := (mget s n).epoch, role := s.dev.roleEpoch, body := body }
      { mget s n with reserved := (mget s n).reserved - 1 } := by
  simp only [respond, queueMsg_eq, mget_mset, if_true]

theorem mget_respond_other {k : Nat} (hne : n ≠ k) : mget (respond n tag op st body s) k = mget s k := by
  simp only [respond, queueMsg_eq, mget_mset, if_neg hne]

theorem respond_epoch (k : Nat) : (mget (respond n tag op st body s) k).epoch = (mget s k).epoch := by
  rcases eq_or_ne n k with rfl | hne
  · rw [mget_respond_same, enqueue_epoch]
  · rw [mget_respond_other _ _ _ _ _ _ hne]

theorem respond_role (k : Nat) : (mget (respond n tag op st body s) k).role = (mget s k).role := by
  rcases eq_or_ne n k with rfl | hne
  · rw [mget_respond_same, enqueue_role]
  · rw [mget_respond_other _ _ _ _ _ _ hne]

/-- A response adds itself to those due at its mailbox. -/
theorem responsesDue_respond : responsesDue m (respond n tag op st body s) = responsesDue m s + b2n (n == m) := by
  have hscan : (respond n tag op st body s).stn.scan = s.stn.scan := rfl
  rcases eq_or_ne n m with rfl | hne
  · rw [responsesDue, mget_respond_same, responsesOf_enqueue, List.length_append, hscan, beq_self_eq_true]
    exact Nat.add_right_comm ..
  · rw [responsesDue, mget_respond_other _ _ _ _ _ _ hne, hscan, beq_false_of_ne hne]
    rfl

end Respond

/-- The end of an eye scan leaves its response due. -/
theorem responsesDue_scanEnds {x : EyeScan} (hx : s.stn.scan = some x) :
    responsesDue m { s with stn := { s.stn with scan := none } } + b2n (x.mbx == m) = responsesDue m s := by
  simp only [responsesDue, hx, Option.any_some, Option.any_none, mget]
  rfl

/-- The response that ends an eye scan was due while it ran. -/
theorem carries_scanDrop (lane : Nat) (h : Carries m s₀ s) : Carries m s₀ (scanDrop lane s) := by
  unfold scanDrop
  split
  · next x hx =>
    have hends := responsesDue_scanEnds (m := m) hx
    refine .ite ?_ h
    refine .ite (h.trans ⟨rfl, rfl, rfl, respond_epoch .., respond_role .., ?_⟩) ?_
    · rw [responsesDue_respond]; exact hends.le
    · refine carries_mset (h.trans ⟨rfl, rfl, rfl, rfl, rfl, ?_⟩) (fun _ => rfl) (fun _ => rfl) fun _ => rfl
      exact Nat.le.intro hends
  · exact h

theorem carries_linkDown (p : Nat) (h : Carries m s₀ s) : Carries m s₀ (linkDown p s) :=
  .ite (carries_scanDrop _ (carries_portChange _ _ (h.of_view rfl))) h

/-! ### Steps that leave the view -/

@[simp] theorem resultView_vector (v : Nat) (s : State) : resultView (vector v s) = resultView s :=
  (congrArg resultView (vector_rest v s) :)

@[simp] theorem resultView_trgKind (k : Nat) (p : Nat → Bool) (s : State) : resultView (trgKind k p s) = resultView s := by
  simpa only [resultView] using congrArg resultView (trgKind_rest k p s)

@[simp] theorem resultView_clear (src : Nat) (s : State) : resultView (clear src s) = resultView s :=
  (congrArg resultView (clear_rest src s) :)

theorem carries_vector (v : Nat) (h : Carries m s₀ s) : Carries m s₀ (vector v s) := h.of_view (resultView_vector v s)

theorem carries_trgKind (k : Nat) (p : Nat → Bool) (h : Carries m s₀ s) : Carries m s₀ (trgKind k p s) := h.of_view (resultView_trgKind k p s)

theorem carries_clear (src : Nat) (h : Carries m s₀ s) : Carries m s₀ (clear src s) := h.of_view (resultView_clear src s)

/-! ### The safety die and the device state (R19, R403, R412) -/

theorem carries_safetyEvent (cause prof k : Nat) (value e : Int) (h : Carries m s₀ s) : Carries m s₀ (safetyEvent cause prof k value e s) :=
  carries_event _ _ _ h

theorem carries_srbGo (st : SrbState) (cause k : Nat) (value e : Int) (h : Carries m s₀ s) : Carries m s₀ (srbGo st cause k value e s) :=
  h.ite (carries_trgKind _ _ (carries_safetyEvent _ _ _ _ _ (h.of_view rfl)))

theorem carries_hwslTrip (cause k : Nat) (value e : Int) (h : Carries m s₀ s) : Carries m s₀ (hwslTrip cause k value e s) :=
  h.ite (carries_srbGo _ _ _ _ _ (h.of_view rfl))

theorem carries_srbRegister (r : SrbReq) (h : Carries m s₀ s) : Carries m s₀ (srbRegister r s) := by
  unfold srbRegister
  extract_lets _ told
  have htold : Carries m s₀ told := h.ite (carries_safetyEvent _ _ _ _ _ (h.of_view rfl))
  exact .ite (carries_hwslTrip _ _ _ _ htold) htold

theorem carries_srbRelease (cause : Nat) (h : Carries m s₀ s) : Carries m s₀ (srbRelease cause s) :=
  .ite (carries_safetyEvent _ _ _ _ _ (h.of_view rfl)) h

theorem carries_srbOnState (new : DevState) (h : Carries m s₀ s) : Carries m s₀ (srbOnState new s) := by
  unfold srbOnState
  split
  case h_4 => exact carries_srbGo _ _ _ _ _ (h.of_view rfl)
  case h_5 => exact carries_srbGo _ _ _ _ _ h
  case h_6 => exact carries_srbGo _ _ _ _ _ (h.of_view rfl)
  all_goals exact h

theorem carries_moveState (new : DevState) (h : Carries m s₀ s) : Carries m s₀ (moveState new s) :=
  h.ite (carries_srbOnState _ (carries_trgKind _ _ (carries_event _ _ _ (carries_vector _ (h.of_view rfl)))))

theorem carries_setPhase (p : Phase) (h : Carries m s₀ s) : Carries m s₀ (setPhase p s) :=
  h.ite (carries_event _ _ _ (carries_vector _ (h.of_view rfl)))

/-! ### Assertion and reaction below level 5 (R372, R375, R376) -/

theorem carries_portRelock (p : Nat) (h : Carries m s₀ s) : Carries m s₀ (portRelock p s) :=
  h.ite (carries_portChange _ _ (h.of_view rfl))

theorem carries_blockReset (d : BlockDomain) (h : Carries m s₀ s) : Carries m s₀ (blockReset d s) := by
  cases d with
  | fabric =>
    refine h.of_view ?_
    unfold blockReset
    dsimp only
    split
    · split <;> exact resultView_clear 3 s
    · split <;> rfl
  | basinPort p => exact carries_portRelock _ (h.of_view rfl)
  | stationPort p => exact carries_linkDown _ h
  | pulseChannel c => exact h.of_view rfl

theorem carries_reactSignal (src : Nat) (f : FaultInfo) (lvl : Nat) (h : Carries m s₀ s) : Carries m s₀ (reactSignal src f lvl s) :=
  carries_event _ _ _ (.ite (carries_vector _ (carries_vector _ h)) (carries_vector _ h))

theorem carries_reactTrap (src : Nat) (h : Carries m s₀ s) : Carries m s₀ (reactTrap src s) := .ite (h.of_view rfl) h

theorem carries_reactDomain (src : Nat) (h : Carries m s₀ s) : Carries m s₀ (reactDomain src s) := by
  unfold reactDomain
  split
  · exact carries_blockReset _ h
  · exact h

theorem carries_reactLow (src : Nat) (f : FaultInfo) (lvl : Nat) (block : Bool) (h : Carries m s₀ s) :
    Carries m s₀ (reactLow src f lvl block s) := by
  unfold reactLow
  extract_lets signalled trapped reset
  have hsignalled : Carries m s₀ signalled := (carries_reactSignal _ _ _ h).ite h
  have htrapped : Carries m s₀ trapped := (carries_reactTrap _ hsignalled).ite hsignalled
  have hreset : Carries m s₀ reset := (carries_reactDomain _ htrapped).ite htrapped
  exact .ite (hreset.of_view rfl) hreset

theorem carries_react4 (block : Bool) (h : Carries m s₀ s) : Carries m s₀ (react4 block s) := by
  unfold react4
  split
  · exact h
  · exact h
  · extract_lets _ asked
    have hasked : Carries m s₀ asked := h.of_view rfl
    exact .ite (hasked.of_view rfl) ((carries_moveState .faulted hasked).of_view rfl)

theorem carries_react {lvl : Nat} (hlvl : lvl ≠ 5) (src : Nat) (f : FaultInfo) (block : Bool) (h : Carries m s₀ s) :
    Carries m s₀ (react src f lvl block s) := by
  unfold react
  extract_lets _ logged low
  have hlow : Carries m s₀ low := carries_reactLow _ _ _ _ (h.of_view rfl)
  rw [if_neg hlvl]
  exact (carries_react4 _ hlow).ite hlow

/-- No source is fixed at the level of a reset (R370). -/
theorem faultInfo_dflt_le {n : Nat} {f : FaultInfo} (hf : faultInfo n = some f) : f.dflt ≤ 4 := by
  have hall : (faultInfo n).all (·.dflt ≤ 4) = true := by
    simp only [faultInfo, apply_ite (Option.all _), Option.all_some, Option.all_none, Nat.reduceLeDiff, decide_true, ite_self]
  simpa [hf] using hall

/-- Where no reaction is set to a reset, no source reaches it but those whose default is level 4 (R382). -/
theorem appliedLevel_ne_five {s : State} (hcalm : Calm s) {src : Nat} (hsrc : src ∉ [4, 7, 353, 357]) {f : FaultInfo}
    (hf : faultInfo src = some f) : (appliedLevel s src f).1 ≠ 5 := by
  cases hfix : f.fixed with
  | false => exact appliedLevel_ne_five_of_calm hcalm hsrc hf hfix
  | true =>
    have hle := faultInfo_dflt_le hf
    simp only [appliedLevel, faultLevel, hf, hfix, Bool.not_true, Bool.false_and, Bool.false_eq_true, if_false, if_true]
    omega

/-- An assertion under a calm configuration, of a source whose default is below level 4. -/
theorem carries_raise (hcalm : Calm s₀) {src : Nat} (hsrc : src ∉ [4, 7, 353, 357]) (d : List Byte) (h : Carries m s₀ s) :
    Carries m s₀ (raise src d s) := by
  unfold raise
  split
  · exact h
  · next f hf =>
    have hlvl := appliedLevel_ne_five (calm_of_cfg_eq h.cfg hcalm) hsrc hf
    have hlog : Carries m s₀ (trgFault src f.cls (logSource src f false d s)) := carries_trgKind _ _ (h.of_view rfl)
    exact h.ite (hlog.ite (carries_react hlvl _ _ _ hlog))

theorem carries_srbFault (hcalm : Calm s₀) {src : Nat} (hsrc : src ∉ [4, 7, 353, 357]) (cause k : Nat) (value e : Int) (h : Carries m s₀ s) :
    Carries m s₀ (srbFault src cause k value e s) :=
  h.ite (carries_safetyEvent _ _ _ _ _ (carries_raise hcalm hsrc _ h))

/-! ### Basin ports (R180, R184, R186, R206) -/

theorem carries_relight (h : Carries m s₀ s) : Carries m s₀ (relight s) := h.of_view rfl

theorem carries_rangeCmdLost (p k : Nat) (h : Carries m s₀ s) : Carries m s₀ (rangeCmdLost p k s) := by
  unfold rangeCmdLost
  split
  · exact .ite (carries_eventTag _ _ _ _ _ (h.of_view rfl)) h
  · exact h

theorem carries_moorGo (p k : Nat) (st : MoorState) (h : Carries m s₀ s) : Carries m s₀ (moorGo p k st s) :=
  h.ite (.of_view ((carries_rangeCmdLost p k h).ite h) rfl)

theorem carries_vacate (p k : Nat) (h : Carries m s₀ s) : Carries m s₀ (vacate p k s) := by
  unfold vacate
  extract_lets x drop dropped emptied
  have hdropped : Carries m s₀ dropped := (carries_moorGo p k .vacant h).of_view rfl
  have hemptied : Carries m s₀ emptied := hdropped.of_view rfl
  exact .ite (hemptied.of_view rfl) hemptied

theorem carries_laneGo (p : Nat) (l : LaneState) (h : Carries m s₀ s) : Carries m s₀ (laneGo p l s) :=
  h.ite (carries_portChange _ _ (h.of_view rfl))

theorem carries_toAcquire (p : Nat) (h : Carries m s₀ s) : Carries m s₀ (toAcquire p s) :=
  .foldl _ (carries_laneGo _ _ (h.of_view rfl)) fun _ _ _ hx => .ite (hx.of_view rfl) hx

theorem carries_rediscover (p : Nat) (h : Carries m s₀ s) : Carries m s₀ (rediscover p s) :=
  carries_toAcquire _ (.of_view (.foldl _ h fun _ k _ hx => carries_vacate p k hx) rfl)

theorem carries_restartPort (p : Nat) (h : Carries m s₀ s) : Carries m s₀ (restartPort p s) := carries_rediscover _ (h.of_view rfl)

theorem carries_assignAll (p : Nat) (h : Carries m s₀ s) : Carries m s₀ (assignAll p s) :=
  h.ite (.foldl _ h fun _ _ _ hx => .ite (hx.of_view rfl) hx)

/-- A port before and after the lock-through: its moorings, its lane and what it has outstanding, none of which answers a command. -/
theorem carries_platePort (old : Plate) (p : Nat) (h : Carries m s₀ s) : Carries m s₀ (platePort old p s) := by
  have hgone : ∀ (ms : List Nat) (u : State), Carries m s₀ u →
      Carries m s₀ (ms.foldl (fun s k => setMoor (ciOf p k) (fun x => { x with preset := {} }) (vacate p k s)) u) :=
    fun ms u hu => .foldl ms hu fun _ k _ hx => (carries_vacate p k hx).of_view rfl
  unfold platePort
  extract_lets +onlyGivenNames was oldPar same wasNamed settled gone marked
  have hsettled : Carries m s₀ settled := by
    unfold settled
    split
    · exact .ite (h.of_view rfl) (carries_rangeCmdLost _ _ h)
    · exact h
  have hmarked : Carries m s₀ marked := hsettled.of_view rfl
  clear_value settled marked
  split
  · exact carries_laneGo _ _ ((hgone _ _ hmarked).of_view rfl)
  · extract_lets +onlyGivenNames emptied readmitted counted gen
    have hemptied : Carries m s₀ emptied := hgone _ _ hmarked
    have hreadmitted : Carries m s₀ readmitted := .foldl _ hemptied fun _ _ _ hx => .of_view ((carries_moorGo _ _ _ hx).ite hx) rfl
    have hcounted : Carries m s₀ counted := hreadmitted.of_view rfl
    clear_value emptied readmitted counted
    refine .ite (carries_toAcquire _ (hcounted.of_view rfl)) (.ite (carries_restartPort _ hcounted) ?_)
    split
    · exact carries_assignAll _ hcounted
    · exact hcounted

/-! ### Changes of role (R427, R428, R431) -/

theorem carries_setRole (r : Role) (h : Carries m s₀ s) : Carries m s₀ (setRole r s) :=
  h.ite (carries_relight (carries_clear _ (carries_event _ _ _ (carries_vector _ (h.of_view rfl)))))

theorem carries_takePorts (h : Carries m s₀ s) : Carries m s₀ (takePorts s) := by
  refine .foldl _ h fun x p _ hx => ?_
  split
  · exact hx
  · exact hx
  · exact carries_rediscover _ hx

theorem carries_takePubs (h : Carries m s₀ s) : Carries m s₀ (takePubs s) := h.of_view rfl

theorem carries_takePhase (h : Carries m s₀ s) : Carries m s₀ (takePhase s) :=
  h.ite (.ite (h.of_view rfl) ((carries_setPhase .recovery h).of_view rfl))

/-! ### Time domains (R255, R259, R261, R265, R266) -/

theorem carries_tdValid (i : Nat) (h : Carries m s₀ s) : Carries m s₀ (tdValid i s) :=
  h.ite (carries_event _ _ _ (carries_clear _ (h.of_view rfl)))

section Calm
variable (hcalm : Calm s₀)
include hcalm

theorem carries_judgeCtOffset (h : Carries m s₀ s) : Carries m s₀ (judgeCtOffset s) :=
  .ite (carries_raise hcalm (by decide) _ h) ((carries_clear _ h).ite h)

theorem carries_ctLeave (h : Carries m s₀ s) : Carries m s₀ (ctLeave s) :=
  carries_judgeCtOffset hcalm (h.ite (h.of_view rfl))

theorem carries_switchDomain (i : Nat) (auto : Bool) (h : Carries m s₀ s) : Carries m s₀ (switchDomain i auto s) :=
  h.ite (carries_event _ _ _ (carries_ctLeave hcalm (h.of_view rfl)))

theorem carries_tdInvalid {i : Nat} (hi : i < 2) (h : Carries m s₀ s) : Carries m s₀ (tdInvalid i s) := by
  unfold tdInvalid
  extract_lets counted invalid _ lost
  have hcounted : Carries m s₀ counted := h.of_view rfl
  have hinvalid : Carries m s₀ invalid := hcounted.of_view rfl
  have hlost : Carries m s₀ lost := .ite (hinvalid.of_view rfl) hinvalid
  have hsrc : 250 + i ∉ [4, 7, 353, 357] := by simp; omega
  exact hcounted.ite (carries_event _ _ _ (carries_raise hcalm hsrc _ hlost))

theorem carries_bmca {i : Nat} (hi : i < 2) (h : Carries m s₀ s) : Carries m s₀ (bmca i s) := by
  unfold bmca
  extract_lets best own st slave moved decided
  have hdecided : Carries m s₀ decided := h.of_view rfl
  exact hdecided.ite ((carries_tdValid i hdecided).ite (carries_tdInvalid hcalm hi hdecided))

theorem carries_restartPtp (old : SMap Int) (h : Carries m s₀ s) : Carries m s₀ (restartPtp old s) := by
  have hdom : ∀ i < 2, ∀ (c : Prop) [Decidable c] (f : TimeDom → TimeDom) (u : State), Carries m s₀ u →
      Carries m s₀ (if c then bmca i (setDom i f u) else u) :=
    fun i hi c _ f u hu => .ite (carries_bmca hcalm hi (hu.of_view rfl)) hu
  exact hdom 1 (by decide) _ _ _ (hdom 0 (by decide) _ _ _ (h.of_view rfl))

/-! ### The telegram path (R400) and a unit that becomes ACTIVE (R431) -/

theorem carries_judgeDegraded (h : Carries m s₀ s) : Carries m s₀ (judgeDegraded s) :=
  .ite (carries_srbFault hcalm (by decide) _ _ _ _ h) (carries_clear _ h)

theorem carries_telegramPath (old new : Option Nat) (h : Carries m s₀ s) : Carries m s₀ (telegramPath old new s) := by
  unfold telegramPath
  split
  · exact carries_judgeDegraded hcalm (carries_clear _ (carries_srbRelease _ (h.of_view rfl)))
  · exact h.ite (carries_srbRegister _ (carries_judgeDegraded hcalm (carries_clear _ (h.of_view rfl))))

theorem carries_becomeActive (silence takeover : Bool) (h : Carries m s₀ s) : Carries m s₀ (becomeActive silence takeover s) := by
  unfold becomeActive
  extract_lets from_ _ _ alone active lit _ counted cleared told
  have hactive : Carries m s₀ active := carries_setRole _ (h.of_view rfl)
  have hlit : Carries m s₀ lit := carries_takePubs (carries_takePorts (carries_ctLeave hcalm hactive))
  have hcleared : Carries m s₀ cleared := carries_clear _ (hlit.of_view rfl)
  have htold : Carries m s₀ told := .ite (carries_raise hcalm (by decide) _ hcleared) hcleared
  clear_value told
  exact h.ite (htold.ite (.ite ((carries_moveState _ htold).ite htold) (carries_takePhase htold)))

/-! ### Station ports (R229, R232) -/

theorem carries_portDown {p : Nat} (hp : p < 8) (h : Carries m s₀ s) : Carries m s₀ (portDown p s) := by
  have hsrc : 252 + p ∉ [4, 7, 353, 357] := by simp; omega
  exact .ite (carries_raise hcalm hsrc _ (carries_linkDown _ h)) h

theorem carries_remode (old : Nat → Int) (h : Carries m s₀ s) : Carries m s₀ (remode old s) :=
  .foldl _ h fun _ _ hp hx =>
    hx.ite (.ite (carries_clear _ (carries_linkDown _ hx)) (carries_portDown hcalm (List.mem_range.1 hp) hx))

end Calm

/-! ### The lock-through of a whole plate (R365, R367, R453) -/

theorem carries_dropWaiting (h : Carries m s₀ s) : Carries m s₀ (dropWaiting s) :=
  .foldl _ (h.of_view rfl) fun _ _ _ hx => carries_scheduledResult _ _ _ hx

theorem carries_capStopAll (h : Carries m s₀ s) : Carries m s₀ (capStopAll s) :=
  .foldl _ h fun _ _ _ hx => hx.ite (carries_eventTag _ _ _ _ _ (hx.of_view rfl))

theorem safetyDigest_true (s : State) : safetyDigest true s = clear 38 s := if_pos rfl

theorem carries_plateResets (pl : Plate) (h : Carries m s₀ s) : Carries m s₀ (plateResets pl s) := h.of_view rfl

theorem carries_storePlate (img : List Byte) (h : Carries m s₀ s) : Carries m s₀ (storePlate img s) := h.of_view rfl

/-- The configuration of a whole plate as it locks through (R355). -/
def plateCfg (pl : Plate) : Cfg :=
  { plate := some pl, par := pl.params, parI := pl.params, stages := pl.stages, stagesI := pl.stages, plateTag := pl.hdr.plateTag }

theorem carries_lockPlate (pl : Plate) (img : List Byte) (inst base : Option Nat) (hcalm : Calm { s₀ with cfg := plateCfg pl })
    (h : Carries m s₀ s) : Carries m { s₀ with cfg := plateCfg pl } (lockPlate pl img true inst base s) := by
  unfold lockPlate
  extract_lets old oldPar oldMode stopped words a _ _ flipped ported stored follows switched _ stepped b _ based moved joined
  have hstopped : Carries m s₀ stopped := carries_capStopAll (carries_dropWaiting h)
  clear_value stopped
  have hflipped : Carries m { s₀ with cfg := plateCfg pl } flipped := hstopped.flip (plateCfg pl) _ _
  generalize { s₀ with cfg := plateCfg pl } = r at hcalm hflipped ⊢
  clear_value flipped
  have hported : Carries m r ported := .foldl _ (carries_plateResets pl hflipped) fun _ p _ hx => (carries_platePort old p hx).ite hx
  clear_value ported
  have hstored : Carries m r stored := carries_storePlate img (carries_restartPtp hcalm oldPar hported)
  have hswitched : Carries m r switched := carries_switchDomain hcalm _ _ hstored
  clear_value switched
  have hstepped : Carries m r stepped := .ite (hswitched.of_view rfl) hswitched
  clear_value stepped
  have hbased : Carries m r based := hstepped.of_view rfl
  clear_value based
  have hmoved : Carries m r moved := carries_remode hcalm _ (carries_moveState _ (carries_telegramPath hcalm _ _ hbased))
  have hjoined : Carries m r joined := (carries_becomeActive hcalm _ _ hmoved).ite hmoved
  rw [safetyDigest_true]
  exact carries_clear 38 (carries_relight hjoined)

/-! ### The lock-through of staged changes (R364) -/

/-- The flip exchanges the banks of the configuration, and the clock words with them. -/
theorem flipStaged_eq (c : Cand) (s : State) : ∃ cfg clk, flipStaged c s = { s with cfg := cfg, clk := clk } := ⟨_, _, rfl⟩

theorem carries_applyStaged (c : Cand) (h : Carries m s₀ s) : ∃ cfg, Carries m { s₀ with cfg := cfg } (applyStaged c s) := by
  obtain ⟨cfg, clk, hflip⟩ := flipStaged_eq c s
  refine ⟨cfg, ?_⟩
  unfold applyStaged
  extract_lets moved flipped ids limited _ cleared _ bounded homed
  have hflipped : Carries m { s₀ with cfg := cfg } flipped := by
    rw [show flipped = _ from hflip]
    exact h.flip cfg clk s.cyc
  clear_value flipped
  have hlimited : Carries m { s₀ with cfg := cfg } limited := .ite (hflipped.of_view rfl) hflipped
  have hcleared : Carries m { s₀ with cfg := cfg } cleared := hlimited.ite (hlimited.of_view rfl)
  have hbounded : Carries m { s₀ with cfg := cfg } bounded := hcleared.of_view rfl
  exact .ite (hbounded.of_view rfl) hbounded

end Rules

/-! ### The result at its mailbox (R350) -/

/-- An event at one mailbox of those that R350 lets hear it. -/
def tell (own : Option (Nat × Word)) (tag : BitVec 16) (code bit : Nat) (body : List Byte) (s : State) (n : Nat) : State :=
  let b := mget s n
  let mine := match own with | some (k, e) => k = n && e = b.epoch | none => false
  if b.role.isSome && (mine || b.mask.getLsbD bit) then
    queueMsg n { kind := 3, opcode := code, tag := tag, sess := b.epoch, role := s.dev.roleEpoch, body := body } s
  else s

section Tell
variable (own : Option (Nat × Word)) (tag : BitVec 16) (code bit : Nat) (body : List Byte)

theorem eventTag_of_ready {s : State} (hready : s.dev.mpcReady = true) :
    eventTag own tag code bit body s = (List.range 16).foldl (tell own tag code bit body) s := by
  unfold eventTag
  rw [hready]
  rfl

theorem mget_tell_other {n k : Nat} (hne : n ≠ k) (s : State) : mget (tell own tag code bit body s n) k = mget s k := by
  unfold tell
  extract_lets b mine
  split
  · rw [queueMsg_eq, mget_mset, if_neg hne]
  · rfl

theorem mget_foldl_tell_other {ns : List Nat} {k : Nat} (hk : k ∉ ns) (s : State) :
    mget (ns.foldl (tell own tag code bit body) s) k = mget s k :=
  List.foldlRecOn (motive := fun t => mget t k = mget s k) ns _ rfl fun t ht n hn =>
    (mget_tell_other own tag code bit body (fun h : n = k => hk (h ▸ hn)) t).trans ht

/-- The session that sent the command hears of it, whatever its mask. -/
theorem mget_tell_own {s : State} {n : Nat} {e : Word} (hrole : (mget s n).role.isSome = true) (hepoch : (mget s n).epoch = e) :
    mget (tell (some (n, e)) tag code bit body s n) n =
      enqueue { kind := 3, opcode := code, tag := tag, sess := e, role := s.dev.roleEpoch, body := body } (mget s n) := by
  simp [tell, hrole, hepoch, queueMsg_eq]

/-- The event that reports on a command is the last message behind its mailbox, where responses leave it a place. -/
theorem eventTag_own_getLast {s : State} {n : Nat} {e : Word} (hn : n < 16) (hready : s.dev.mpcReady = true)
    (hrole : (mget s n).role.isSome = true) (hepoch : (mget s n).epoch = e) (hfew : (responsesOf (mget s n).f2h).length < 8) :
    ∃ x, (mget (eventTag (some (n, e)) tag code bit body s) n).f2h.getLast? = some x ∧
      x.kind = 3 ∧ x.opcode = code ∧ x.tag = tag ∧ x.body = body := by
  obtain ⟨before, after, hrange⟩ := List.append_of_mem (List.mem_range.2 hn)
  have hnodup : (before ++ n :: after).Nodup := hrange ▸ List.nodup_range
  have hbefore : n ∉ before := fun h => (List.nodup_append.1 hnodup).2.2 n h n List.mem_cons_self rfl
  have hafter : n ∉ after := (List.nodup_cons.1 (List.nodup_append.1 hnodup).2.1).1
  rw [eventTag_of_ready _ _ _ _ _ hready, hrange, List.foldl_append, List.foldl_cons, mget_foldl_tell_other _ _ _ _ _ hafter]
  have hkept := mget_foldl_tell_other (some (n, e)) tag code bit body hbefore s
  rw [mget_tell_own _ _ _ _ (by rw [hkept]; exact hrole) (by rw [hkept]; exact hepoch), hkept]
  exact ⟨_, enqueue_getLast _ hfew, rfl, rfl, rfl, rfl⟩

end Tell

/-! ### The empty staging area (R366) -/

/-- The staging area is empty, without owner, check or countersignature, and the result of the commit is the last message behind mailbox `m`. -/
def StagingEmptied (m : Nat) (tag : BitVec 16) (cycle : CycleNo) (t : State) : Prop :=
  t.pound.entries = [] ∧ t.pound.plate = none ∧ t.pound.load = none ∧ t.pound.image = [] ∧
    t.pound.owner = none ∧ t.pound.check = none ∧ t.pound.signs = [] ∧ t.pound.commit = none ∧
    ∃ x, (mget t m).f2h.getLast? = some x ∧ x.kind = 3 ∧ x.opcode = 0x83 ∧ x.tag = tag ∧ x.body = be 1 0x24 ++ be 1 0 ++ be 6 cycle.toNat

/-- A commit of the session of mailbox `m`, not aborted, whose result will find its place. -/
structure Commits (m : Nat) (s : State) : Prop where
  mailbox : m < 16
  owner : s.pound.owner = some (m, (mget s m).epoch)
  late : s.pound.late = false
  session : (mget s m).role.isSome = true
  ready : s.dev.mpcReady = true
  few : (responsesOf (mget s m).f2h).length < 7

theorem Commits.withCfg {m : Nat} {s : State} (hs : Commits m s) (cfg : Cfg) : Commits m { s with cfg := cfg } :=
  ⟨hs.mailbox, hs.owner, hs.late, hs.session, hs.ready, hs.few⟩

theorem commitWait_eq {m : Nat} {s : State} (hs : Commits m s) (c : CycleNo) (tag : BitVec 16) :
    commitWait s c m tag = { mbx := m, tag := tag, epoch := (mget s m).epoch, opcode := 0x24, cycle := c } := by
  simp only [commitWait, hs.owner]

/-- Whatever the flip has done between, the completed commit empties the staging area and reports. -/
theorem commitDone_empties {m : Nat} {s t : State} (hs : Commits m s) (h : Carries m s t) (n cycle : CycleNo) (tag : BitVec 16) :
    StagingEmptied m tag cycle (commitDone (commitWait s n m tag) cycle t) := by
  have hlate : t.pound.late = false := h.pound ▸ hs.late
  have hfew : (responsesOf (mget t m).f2h).length < 8 := by
    have hdue := h.due
    have hlt := hs.few
    have hscan : b2n (s.stn.scan.any (·.mbx == m)) ≤ 1 := by unfold b2n; split <;> decide
    simp only [responsesDue] at hdue
    omega
  rw [commitWait_eq hs]
  simp only [commitDone, hlate, scheduledResult, StagingEmptied, eventTag_pound, true_and]
  exact eventTag_own_getLast _ _ _ _ hs.mailbox (h.ready.trans hs.ready) ((congrArg Option.isSome h.role).trans hs.session) h.epoch hfew

/-! ### The three lock-throughs (R365, R367) -/

/-- The flip of staged changes that the rules on live state let through. -/
theorem exec_lockThrough_of_live {s : State} {n : CycleNo} {m : Nat} {tag : BitVec 16} {whole : Bool} {c : Cand}
    (hcommit : s.pound.commit = some (n, m, tag, whole)) (hcand : candOf s = some c) (hboundary : atBoundary s = true)
    (hdue : lockDue s = true) (hlive : liveOk s c = true) : exec (.lockThrough true) s =
      .next (commitDone (commitWait s n m tag) n (safetyDigest true (countApplied 0x24 (applyStaged c s)))) := by
  show execLockThrough true s = _
  simp [execLockThrough, hcommit, hcand, hboundary, hdue, hlive]

@[simp] theorem advanceTo_pound (k : Nat) (s : State) : (advanceTo k s).pound = s.pound := (congrArg State.pound (advanceTo_rest k s) :)
@[simp] theorem advanceTo_cyc (k : Nat) (s : State) : (advanceTo k s).cyc = s.cyc := (congrArg State.cyc (advanceTo_rest k s) :)
@[simp] theorem mget_advanceTo (k : Nat) (s : State) (n : Nat) : mget (advanceTo k s) n = mget s n :=
  (congrArg (mget · n) (advanceTo_rest k s) :)

theorem Commits.advanceTo {m : Nat} {s : State} (hs : Commits m s) (k : Nat) : Commits m (advanceTo k s) := by
  obtain ⟨hmailbox, howner, hlate, hsession, hready, hfew⟩ := hs
  constructor <;> simpa

section WholePlate
variable {s : State} {n : CycleNo} {m : Nat} {tag : BitVec 16} {pl : Plate} {c : Cand} {k : Nat}
  (hcommit : s.pound.commit = some (n, m, tag, true)) (hplate : s.pound.plate = some pl) (hcand : candOf (advanceTo k s) = some c)
  (hlive : liveOk (advanceTo k s) c = true)
include hcommit hplate hcand hlive

/-- The flip of a whole plate at its cycle. -/
theorem exec_wholePlateLockThrough_of_live (hstate : s.dev.state = .loaded ∨ s.dev.state = .ready ∨ s.dev.state = .blocked)
    (hboundary : atBoundary s = true) (hn : n = s.cyc.n) : exec (.wholePlateLockThrough k true) s =
      .next (commitDone (commitWait (advanceTo k s) n m tag) n
        (lockPlate pl s.pound.image true (some (cycleStartCt (advanceTo k s) n)) none (advanceTo k s))) := by
  have hboundary' : atBoundary (advanceTo k s) = true := by simpa [atBoundary] using hboundary
  show execWholePlateLockThrough k true s = _
  rcases hstate with hstate | hstate | hstate <;>
    simp [execWholePlateLockThrough, Machine.ok, hcommit, hplate, hcand, hlive, hboundary', hn, hstate]

/-- The flip of a whole plate in IDLE. -/
theorem exec_idlePlateLockThrough_of_live (hidle : s.dev.state = .idle) : exec (.idlePlateLockThrough k true) s =
    .next (commitDone (commitWait (advanceTo k s) n m tag) 0
      (lockPlate pl s.pound.image true none s.cyc.baseAgreed (advanceTo k s))) := by
  show execIdlePlateLockThrough k true s = _
  simp [execIdlePlateLockThrough, Machine.ok, hcommit, hplate, hcand, hlive, hidle]

end WholePlate

/-- Staged changes that lock through leave the staging area empty. -/
theorem lockThrough_empties {s : State} {m : Nat} (hs : Commits m s) (c : Cand) (n : CycleNo) (tag : BitVec 16) :
    StagingEmptied m tag n (commitDone (commitWait s n m tag) n (safetyDigest true (countApplied 0x24 (applyStaged c s)))) := by
  obtain ⟨cfg, happlied⟩ := carries_applyStaged (m := m) (s₀ := s) c .refl
  have hflip : Carries m { s with cfg := cfg } (safetyDigest true (countApplied 0x24 (applyStaged c s))) := by
    rw [safetyDigest_true]
    exact carries_clear 38 (.ite (happlied.of_view rfl) happlied)
  exact commitDone_empties (hs.withCfg cfg) hflip n n tag

/-- A whole plate that locks through leaves the staging area empty. -/
theorem lockPlate_empties {s : State} {m : Nat} {pl : Plate} (hs : Commits m s) (hcalm : Calm { s with cfg := plateCfg pl })
    (k : Nat) (img : List Byte) (inst base : Option Nat) (n cycle : CycleNo) (tag : BitVec 16) :
    StagingEmptied m tag cycle (commitDone (commitWait (advanceTo k s) n m tag) cycle (lockPlate pl img true inst base (advanceTo k s))) :=
  have hcalm' : Calm { advanceTo k s with cfg := plateCfg pl } := calm_of_cfg_eq rfl hcalm
  commitDone_empties ((hs.advanceTo k).withCfg (plateCfg pl)) (carries_lockPlate pl img inst base hcalm' .refl) n cycle tag

/-- Settles O59: what a commit's result needs passes the lock-through unchanged (`Carries`), so the completed commit, which alone writes the
staging area (R366), reports behind its mailbox. -/
theorem lockThroughEmptiesStaging : Obligations.LockThroughEmptiesStaging := by
  unfold Obligations.LockThroughEmptiesStaging
  intro s n m tag whole c k a emptied hcommit hlate howner hm hrole hready hfew
  have hs : Commits m s := ⟨hm, howner, hlate, hrole, hready, hfew⟩
  refine ⟨?_, ?_⟩
  · intro _ hcand hboundary hdue hlive
    exact ⟨_, exec_lockThrough_of_live hcommit hcand hboundary hdue hlive, lockThrough_empties hs c n tag⟩
  · intro pl hwhole hplate hcand hlive hcalm
    subst hwhole
    refine ⟨fun hstate hboundary hn => ?_, fun hidle => ?_⟩
    · exact ⟨_, exec_wholePlateLockThrough_of_live hcommit hplate hcand hlive hstate hboundary hn, lockPlate_empties hs hcalm ..⟩
    · exact ⟨_, exec_idlePlateLockThrough_of_live hcommit hplate hcand hlive hidle, lockPlate_empties hs hcalm ..⟩

end Sys2Proof.Proofs
end

section
/-! The machine as a whole: what every step keeps, from what every command keeps (`exec_kept`). -/

set_option Elab.async false

namespace Sys2Proof.Proofs
open Sys2Proof Sys2Proof.Machine Sys2Proof.Laws

/-- A step is an idle tick, or the command in front run with the rest of the queue. -/
theorem step_cases {s t : State} (h : step s = .next t) :
    s.pending = [] ∧ Kept true s t ∨
    ∃ c rest, s.pending = c :: rest ∧ Kept (keepsLatches c) { s with pending := rest } t := by
  cases hq : s.pending with
  | nil => exact .inl ⟨rfl, idle_kept s t hq h⟩
  | cons c rest =>
    have hs : s = { s with pending := c :: rest } := by rw [← hq]
    exact .inr ⟨c, rest, rfl, step_kept c rest s t (hs ▸ h)⟩

/-- What every step keeps, whatever its command: all of `Kept` but the queue and the latched records. -/
theorem step_keeps {s t : State} (h : step s = .next t) : ∃ u : State, Kept false { s with pending := u.pending } t := by
  rcases step_cases h with ⟨-, hk⟩ | ⟨c, rest, -, hk⟩
  · exact ⟨s, hk.queue, hk.store, hk.clock, hk.key, hk.roll, hk.variant, hk.stepping, fun hf => nomatch hf⟩
  · exact ⟨{ s with pending := rest }, hk.queue, hk.store, hk.clock, hk.key, hk.roll, hk.variant, hk.stepping, fun hf => nomatch hf⟩

/-- Settles O4: what every command keeps of the stacked memory. -/
theorem stepKeepsStore : Obligations.StepKeepsStore := by
  unfold Obligations.StepKeepsStore
  intro s t hs h
  obtain ⟨u, hk⟩ := step_keeps h
  exact hk.store hs

/-- Settles O6: what every command keeps of the one-time memory and of the silicon. -/
theorem otpOnlyGains : Obligations.OtpOnlyGains := by
  unfold Obligations.OtpOnlyGains
  intro s t h
  obtain ⟨u, hk⟩ := step_keeps h
  exact ⟨⟨hk.key, hk.roll⟩, hk.variant, hk.stepping⟩

/-- A command that is no power-on reset and no acknowledgement keeps what is latched. -/
theorem keepsLatches_of_ne {c : Instr} (hpor : c ≠ .porstNAssert) (hrail : c ≠ .railMonitorTrip) (hack : ∀ h n q, c ≠ .faultAck h n q) :
    keepsLatches c = true := by
  unfold keepsLatches
  split
  · exact absurd rfl hpor
  · exact absurd rfl hrail
  · exact absurd rfl (hack _ _ _)
  · rfl

/-- Settles O7: every command but a power-on reset and an acknowledgement keeps what is latched. -/
theorem latchedStays : Obligations.LatchedStays := by
  unfold Obligations.LatchedStays
  intro s t src hlatched h hfront
  rcases step_cases h with ⟨-, hk⟩ | ⟨c, rest, hq, hk⟩
  · exact hk.latch rfl src hlatched
  · obtain ⟨hpor, hrail, hack⟩ := hfront c (by rw [hq]; rfl)
    exact hk.latch (keepsLatches_of_ne hpor hrail hack) src hlatched

/-- Settles O3: the queue that a command leaves is the one it was given, and no command turns the timebase back. -/
theorem stepsTakeOneCommandForward : Obligations.StepsTakeOneCommandForward := by
  unfold Obligations.StepsTakeOneCommandForward
  refine ⟨fun c rest s t h => (step_kept c rest s t h).queue, fun s t h => ?_⟩
  obtain ⟨u, hk⟩ := step_keeps h
  exact hk.clock

end Sys2Proof.Proofs
end

section
/-! One tick, and the state at reset. -/

set_option Elab.async false

namespace Sys2Proof.Proofs
open Sys2Proof Sys2Proof.Machine Sys2Proof.Laws

/-- Settles O1: the definition of a step with a command in front. -/
theorem stepTakesFront : Obligations.StepTakesFront := by
  unfold Obligations.StepTakesFront
  intro c rest s
  rfl

/-- Settles O2: the idle step is one tick. -/
theorem stepIdles : Obligations.StepIdles := by
  unfold Obligations.StepIdles
  intro s hq
  refine ⟨tick s, by simp [step, hq], ?_, ?_⟩
  · simp [tick, advance]
  · simp [tick, advance]

/-- Settles O5: the store at reset is empty. -/
theorem resetStoreSound : Obligations.ResetStoreSound := by
  unfold Obligations.ResetStoreSound Sound
  decide

/-- No mailbox has a session at reset. -/
theorem sessionOf_reset (n : Nat) : sessionOf State.reset n = false := rfl

/-- Every cause record is empty at reset. -/
theorem rec_reset (n : Nat) : rec? State.reset n = {} := rfl

/-- Settles O8: by evaluation of the state at reset. -/
theorem resetValues : Obligations.ResetValues := by
  unfold Obligations.ResetValues
  intro s
  refine ⟨rfl, rfl, rfl, rfl, rfl, rfl, rfl, rfl, rfl, rfl, sessionOf_reset, fun n => by simp [s, rec_reset], rfl, rfl, rfl, rfl, rfl, rfl, ?_,
    by decide, by decide, by decide, by decide, by decide, by decide, by decide, by decide, by decide, by decide⟩
  intro k div hk
  have hlt : k < 12 := by
    by_contra hge
    rw [List.getElem?_eq_none (by simpa using hge)] at hk
    exact nomatch hk
  interval_cases k <;> cases hk <;> decide

end Sys2Proof.Proofs
end

section
/-! What an operation leaves unchanged: the state is cut into parts, and an operation's frame names the parts that it may touch. Frames
compose, so the frame of a command follows from those of its steps. -/

set_option Elab.async false

namespace Sys2Proof.Proofs
open Sys2Proof Sys2Proof.Machine Sys2Proof.Laws

/-! ### Parts of the state -/

/-- The parts of the state: its fields, of which four are cut finer, along what a reaction to a fault may touch (R372). -/
inductive Part where
  | pending | now | otp | time | clk | cfg | graph | arms | obs | ports | moors | points | ptDiscards | get | getLast | pul | host | mbx | pound
  | fcru | srb | tan | cap | gov | jtag | store | free
  /-- The device state, its phase and FAULT_N; a takeover request; block resets; the rest. -/
  | devState | devReq | devBlock | dev
  /-- The requests for the next boundary; what a block reset of the fabric touches; the waiting commands; the rest. -/
  | cycReq | cycFabric | cycWait | cyc
  /-- The eye scan; the station ports; the rest. -/
  | stnScan | stnPorts | stn
deriving DecidableEq

/-- A part's value, or a default where the part is erased. -/
def keep {α : Type} (ps : List Part) (q : Part) (d x : α) : α := if ps.contains q then d else x

/-- The state with some of its parts erased. -/
def erase (ps : List Part) (s : State) : State where
  pending := keep ps .pending [] s.pending
  now := keep ps .now 0 s.now
  dev := { s.dev with
    state := keep ps .devState .reset s.dev.state
    phase := keep ps .devState .none s.dev.phase
    faultN := keep ps .devState false s.dev.faultN
    faultHold := keep ps .devState false s.dev.faultHold
    takeoverReq := keep ps .devReq false s.dev.takeoverReq
    blockReset := keep ps .devBlock [] s.dev.blockReset
    variant := keep ps .dev .sv8x32 s.dev.variant
    stepping := keep ps .dev .b0 s.dev.stepping
    phaseFirst := keep ps .dev false s.dev.phaseFirst
    phaseReq := keep ps .dev none s.dev.phaseReq
    recoveryReq := keep ps .dev false s.dev.recoveryReq
    recoveryNow := keep ps .dev false s.dev.recoveryNow
    phaseRejects := keep ps .dev 0 s.dev.phaseRejects
    porstN := keep ps .dev false s.dev.porstN
    warmN := keep ps .dev false s.dev.warmN
    railHold := keep ps .dev false s.dev.railHold
    coldStart := keep ps .dev false s.dev.coldStart
    unitId := keep ps .dev 0 s.dev.unitId
    testStrap := keep ps .dev false s.dev.testStrap
    keyStep := keep ps .dev 0 s.dev.keyStep
    keyTick := keep ps .dev 0 s.dev.keyTick
    fwVersion := keep ps .dev 0 s.dev.fwVersion
    mpcReady := keep ps .dev false s.dev.mpcReady
    mpcRestarting := keep ps .dev false s.dev.mpcRestarting
    bootRec := keep ps .dev none s.dev.bootRec
    ticksRun := keep ps .dev false s.dev.ticksRun
    calibrated := keep ps .dev false s.dev.calibrated
    bandsDone := keep ps .dev false s.dev.bandsDone
    calFailed := keep ps .dev [] s.dev.calFailed
    idleSeen := keep ps .dev false s.dev.idleSeen
    readbackBad := keep ps .dev false s.dev.readbackBad
    gpioOut := keep ps .dev 0 s.dev.gpioOut
    roleEpoch := keep ps .dev 0 s.dev.roleEpoch
    scratch := keep ps .dev 0 s.dev.scratch }
  otp := keep ps .otp {} s.otp
  time := keep ps .time {} s.time
  clk := keep ps .clk {} s.clk
  cyc := { s.cyc with
    blockReq := keep ps .cycReq false s.cyc.blockReq
    level4 := keep ps .cycReq false s.cyc.level4
    block4 := keep ps .cycReq false s.cyc.block4
    forceMiss := keep ps .cycFabric 0 s.cyc.forceMiss
    armsDone := keep ps .cycFabric [] s.cyc.armsDone
    graphDone := keep ps .cycFabric false s.cyc.graphDone
    waiting := keep ps .cycWait [] s.cyc.waiting
    n := keep ps .cyc 0 s.cyc.n
    wraps := keep ps .cyc 0 s.cyc.wraps
    running := keep ps .cyc false s.cyc.running
    base := keep ps .cyc 0 s.cyc.base
    baseWait := keep ps .cyc false s.cyc.baseWait
    baseAgreed := keep ps .cyc none s.cyc.baseAgreed
    startTick := keep ps .cyc 0 s.cyc.startTick
    frozen := keep ps .cyc false s.cyc.frozen
    launched := keep ps .cyc false s.cyc.launched
    ctInc := keep ps .cyc 0 s.cyc.ctInc
    obsDone := keep ps .cyc false s.cyc.obsDone
    packed := keep ps .cyc [] s.cyc.packed
    packTime := keep ps .cyc 0 s.cyc.packTime
    missed := keep ps .cyc false s.cyc.missed
    missedPrev := keep ps .cyc false s.cyc.missedPrev
    hwslBlock := keep ps .cyc false s.cyc.hwslBlock }
  cfg := keep ps .cfg {} s.cfg
  graph := keep ps .graph {} s.graph
  arms := keep ps .arms [] s.arms
  obs := keep ps .obs {} s.obs
  ports := keep ps .ports [] s.ports
  moors := keep ps .moors [] s.moors
  points := keep ps .points [] s.points
  ptDiscards := keep ps .ptDiscards [] s.ptDiscards
  stn := { s.stn with
    scan := keep ps .stnScan none s.stn.scan
    ports := keep ps .stnPorts [] s.stn.ports
    svs := keep ps .stn [] s.stn.svs
    subs := keep ps .stn [] s.stn.subs
    pubs := keep ps .stn [] s.stn.pubs
    dup := keep ps .stn [] s.stn.dup
    evicted := keep ps .stn [] s.stn.evicted
    wrongLan := keep ps .stn [] s.stn.wrongLan
    prpSeq := keep ps .stn [] s.stn.prpSeq
    prpSup := keep ps .stn [] s.stn.prpSup
    safetyCount := keep ps .stn 0 s.stn.safetyCount
    binds := keep ps .stn [] s.stn.binds
    bindCount := keep ps .stn 0 s.stn.bindCount
    lostHosts := keep ps .stn [] s.stn.lostHosts
    outbox := keep ps .stn [] s.stn.outbox
    sent := keep ps .stn [] s.stn.sent
    scanDone := keep ps .stn none s.stn.scanDone }
  get := keep ps .get [] s.get
  getLast := keep ps .getLast none s.getLast
  pul := keep ps .pul {} s.pul
  host := keep ps .host {} s.host
  mbx := keep ps .mbx [] s.mbx
  pound := keep ps .pound {} s.pound
  fcru := keep ps .fcru {} s.fcru
  srb := keep ps .srb {} s.srb
  tan := keep ps .tan {} s.tan
  cap := keep ps .cap {} s.cap
  gov := keep ps .gov {} s.gov
  jtag := keep ps .jtag {} s.jtag
  store := keep ps .store [] s.store
  free := keep ps .free 0 s.free

/-- Nothing differs from `s` to `t` but the named parts. -/
def Frame (ps : List Part) (s t : State) : Prop := erase ps t = erase ps s

section Rules
variable {ps qs : List Part} {s₀ s t : State}

theorem keep_keep {α : Type} {q : Part} (h : ∀ q ∈ qs, q ∈ ps) (d x : α) : keep ps q d (keep qs q d x) = keep ps q d x := by
  have hq := h q
  unfold keep
  split
  · rfl
  · next hp =>
    rw [if_neg]
    simpa using fun hc => hp (by simpa using hq hc)

theorem erase_erase (h : ∀ q ∈ qs, q ∈ ps) (s : State) : erase ps (erase qs s) = erase ps s := by
  simp only [erase, keep_keep h]

theorem Frame.refl : Frame ps s s := rfl

/-- A further step, within the parts already named. -/
theorem Frame.step (h : Frame ps s₀ s) (g : Frame qs s t) (hsub : ∀ q ∈ qs, q ∈ ps := by decide) : Frame ps s₀ t := by
  have hg := congrArg (erase ps) g
  rw [erase_erase hsub, erase_erase hsub] at hg
  exact hg.trans h

/-- The same, with the last step first: the frame of a composition is read off from the outside. -/
theorem Frame.after (g : Frame qs s t) (h : Frame ps s₀ s) (hsub : ∀ q ∈ qs, q ∈ ps := by decide) : Frame ps s₀ t := h.step g hsub

theorem Frame.mono (g : Frame qs s t) (hsub : ∀ q ∈ qs, q ∈ ps := by decide) : Frame ps s t := Frame.refl.step g hsub

theorem Frame.trans {u : State} (h : Frame ps s t) (g : Frame ps t u) : Frame ps s u := Eq.trans g h

theorem Frame.ite {c : Prop} [Decidable c] {u : State} (ht : Frame ps s t) (hu : Frame ps s u) : Frame ps s (if c then t else u) := by
  split
  · exact ht
  · exact hu

theorem Frame.foldl {α : Type} {f : State → α → State} (xs : List α) (h : Frame ps s₀ s) (hf : ∀ x, ∀ a ∈ xs, Frame ps x (f x a)) :
    Frame ps s₀ (xs.foldl f s) :=
  List.foldlRecOn xs f h fun x hx a ha => hx.trans (hf x a ha)

/-- What does not depend on the parts that a frame names reads the same in both states. -/
theorem Frame.get {β : Type} (h : Frame ps s t) (g : State → β) (hg : ∀ u, g (erase ps u) = g u := by intro u; rfl) : g t = g s :=
  (hg t).symm.trans ((congrArg g h).trans (hg s))

end Rules

end Sys2Proof.Proofs
end

section
/-! Frames of the shared operations: messages, triggers, the device state, and an assertion with its reaction below level 5. -/

set_option Elab.async false

namespace Sys2Proof.Proofs
open Sys2Proof Sys2Proof.Machine Sys2Proof.Laws

variable (s : State)

/-! ### Time and messages (R254, R313, R318, R350) -/

theorem frame_advanceTo (n : Nat) : Frame [.now, .time] s (advanceTo n s) := .ite rfl rfl

theorem frame_vector (v : Nat) : Frame [.host] s (vector v s) := .ite rfl (.ite rfl rfl)

theorem frame_mset (n : Nat) (f : Mbx → Mbx) : Frame [.mbx] s (mset n f s) := rfl

theorem frame_respond (n : Nat) (tag : BitVec 16) (op : Nat) (st : Status) (body : List Byte) : Frame [.mbx] s (respond n tag op st body s) := rfl

theorem frame_respondLate (n : Nat) (epoch : Word) (tag : BitVec 16) (op : Nat) (st : Status) (body : List Byte) :
    Frame [.mbx] s (respondLate n epoch tag op st body s) := .ite rfl rfl

theorem frame_respondParts (n : Nat) (epoch : Word) (tag : BitVec 16) (op : Nat) (bodies : List (List Byte)) :
    Frame [.mbx] s (respondParts n epoch tag op bodies s) := by
  unfold respondParts
  dsimp only
  refine .ite rfl ?_
  split <;> rfl

theorem frame_eventTag (own : Option (Nat × Word)) (tag : BitVec 16) (code bit : Nat) (body : List Byte) :
    Frame [.mbx] s (eventTag own tag code bit body s) :=
  .ite rfl (.foldl _ rfl fun _ _ _ => .ite rfl rfl)

theorem frame_event (code bit : Nat) (body : List Byte) : Frame [.mbx] s (event code bit body s) := frame_eventTag ..

theorem frame_scheduledResult (w : Waiting) (st : Status) (cycle : CycleNo) : Frame [.mbx] s (scheduledResult w st cycle s) := frame_eventTag ..

theorem frame_portChange (p st : Nat) : Frame [.mbx] s (portChange p st s) := frame_event ..

theorem frame_scanDrop (lane : Nat) : Frame [.stnScan, .mbx] s (scanDrop lane s) := by
  unfold scanDrop
  split
  · exact .ite (.after (frame_respondLate ..) rfl) rfl
  · rfl

theorem frame_linkDown (p : Nat) : Frame [.stnPorts, .stnScan, .mbx] s (linkDown p s) :=
  .ite (.after (frame_scanDrop ..) (.after (frame_portChange ..) rfl)) rfl

theorem frame_intBit (n b : Nat) : Frame [.mbx, .host] s (intBit n b s) := by
  unfold intBit
  extract_lets _ rise set raised
  have hset : Frame [.mbx, .host] s set := rfl
  have hraised : Frame [.mbx, .host] s raised := .ite (hset.step (frame_vector ..)) hset
  exact .ite (hraised.step (qs := [.host]) rfl) hraised

theorem frame_udpSend (b : Bind) (k : UdpKind) (st : Status) (n : Nat) (sq : Word) (bs : List Byte) : Frame [.stn] s (udpSend b k st n sq bs s) := rfl

theorem frame_h2fEmpty (n : Nat) (flushed : Bool) : Frame [.mbx, .host, .stn] s (h2fEmpty n flushed s) := by
  unfold h2fEmpty
  extract_lets cleared told _ marked
  have htold : Frame [.mbx, .host, .stn] s told := .after (frame_intBit ..) rfl
  have hmarked : Frame [.mbx, .host, .stn] s marked := .ite (htold.step (qs := [.host]) rfl) htold
  split
  · exact .after (frame_udpSend ..) (hmarked.step (qs := [.stn]) rfl)
  · exact hmarked

/-! ### Sessions (R321, R322, R336) -/

theorem frame_endSession (n : Nat) (lost : Bool) : Frame [.mbx, .host, .pound] s (endSession n lost s) := by
  unfold endSession
  extract_lets _ owner had closed told
  have htold : Frame [.mbx, .host, .pound] s told := .ite (.after (frame_intBit ..) rfl) rfl
  exact .ite (htold.step (qs := [.pound]) rfl) htold

theorem frame_senderEnd (n : Nat) (lost : Bool) : Frame [.mbx, .host, .pound] s (senderEnd n lost s) :=
  .after (frame_endSession ..) rfl

theorem frame_senderReset (n : Nat) : Frame [.mbx, .host, .pound] s (senderReset n s) := frame_senderEnd ..

/-! ### Triggers and the safety die (R403, R412, R452) -/

theorem frame_capPut (n : Nat) (c : CapCh) (hdr : Bool) : Frame [.cap, .store] s (capPut n c hdr s) := rfl

theorem frame_trgFireOne (t n : Nat) : Frame [.cap, .store] s (trgFireOne t n s) := by
  unfold trgFireOne
  extract_lets c live
  refine .ite rfl (.ite (.ite (.after (frame_capPut ..) ?_) (.after (frame_capPut ..) ?_)) (frame_capPut ..)) <;> rfl

theorem frame_trgFire (t : Nat) : Frame [.cap, .store] s (trgFire t s) := .foldl _ rfl fun _ _ _ => frame_trgFireOne ..

theorem frame_trgKind (k : Nat) (p : Nat → Bool) : Frame [.cap, .store] s (trgKind k p s) :=
  .foldl _ rfl fun _ _ _ => .ite (frame_trgFire ..) rfl

theorem frame_trgFault (src cls : Nat) : Frame [.cap, .store] s (trgFault src cls s) := frame_trgKind ..

theorem frame_trgState : Frame [.cap, .store] s (trgState s) := frame_trgKind ..

theorem frame_safetyEvent (cause prof k : Nat) (value e : Int) : Frame [.mbx] s (safetyEvent cause prof k value e s) := frame_event ..

theorem frame_srbGo (st : SrbState) (cause k : Nat) (value e : Int) : Frame [.srb, .mbx, .cap, .store] s (srbGo st cause k value e s) :=
  .ite rfl (.after (frame_trgState _) (.after (frame_safetyEvent ..) rfl))

theorem frame_srbOnState (new : DevState) : Frame [.srb, .mbx, .cap, .store] s (srbOnState new s) := by
  unfold srbOnState
  split
  case h_4 => exact .after (frame_srbGo ..) rfl
  case h_5 => exact frame_srbGo ..
  case h_6 => exact .after (frame_srbGo ..) rfl
  all_goals rfl

/-! ### The device state (R19, R24) -/

theorem frame_moveState (new : DevState) : Frame [.devState, .gov, .host, .mbx, .cap, .store, .srb] s (moveState new s) :=
  .ite rfl (.after (frame_srbOnState ..) (.after (frame_trgState _) (.after (frame_event ..) (.after (frame_vector ..) rfl))))

theorem frame_setPhase (p : Phase) : Frame [.devState, .host, .mbx] s (setPhase p s) :=
  .ite rfl (.after (frame_event ..) (.after (frame_vector ..) rfl))

/-! ### Assertion and reaction below level 5 (R372, R375, R376) -/

theorem frame_clear (src : Nat) : Frame [.fcru] s (clear src s) := .ite rfl rfl

theorem frame_pulStop : Frame [.pul] s (pulStop s) := rfl

theorem frame_portRelock (p : Nat) : Frame [.ports, .mbx] s (portRelock p s) := .ite rfl (.after (frame_portChange ..) rfl)

theorem frame_blockReset (d : BlockDomain) :
    Frame [.fcru, .graph, .free, .arms, .cycFabric, .devBlock, .ports, .mbx, .stnPorts, .stnScan, .pul] s (blockReset d s) := by
  cases d with
  | fabric =>
    unfold blockReset
    dsimp -zeta only
    extract_lets _ back lanes cleared freed home place moved _ placed
    have hcleared : Frame [.fcru, .graph] s cleared := .ite ((frame_clear ..).mono) rfl
    have hplaced : Frame [.fcru, .graph] s placed := .ite (hcleared.step (qs := [.graph]) rfl) hcleared
    exact hplaced.mono.step (qs := [.graph, .free, .arms, .cycFabric, .devBlock]) rfl
  | basinPort p => exact .after (frame_portRelock ..) rfl
  | stationPort p => exact (frame_linkDown ..).mono
  | pulseChannel c => rfl

theorem frame_reactSignal (src : Nat) (f : FaultInfo) (lvl : Nat) : Frame [.host, .mbx] s (reactSignal src f lvl s) := by
  unfold reactSignal
  extract_lets told routed
  have htold : Frame [.host, .mbx] s told := (frame_vector ..).mono
  have hrouted : Frame [.host, .mbx] s routed := .ite (htold.step (frame_vector ..)) htold
  exact hrouted.step (frame_event ..)

theorem frame_reactTrap (src : Nat) : Frame [.fcru] s (reactTrap src s) := .ite rfl rfl

theorem frame_react4 (block : Bool) :
    Frame [.devState, .devReq, .cycReq, .gov, .host, .mbx, .cap, .store, .srb, .pul] s (react4 block s) := by
  unfold react4
  split
  · rfl
  · rfl
  · exact .ite rfl (.after (frame_pulStop _) (.after (frame_moveState ..) rfl))

theorem frame_withFcru (x : Fcru) : Frame [.fcru] s { s with fcru := x } := rfl

theorem frame_logSource (src : Nat) (f : FaultInfo) (inj : Bool) (d : List Byte) : Frame [.fcru] s (logSource src f inj d s) :=
  frame_withFcru s _

/-- What an assertion of a source without a reset domain may touch, below level 5. -/
abbrev signalParts : List Part := [.fcru, .cap, .store, .host, .mbx, .devState, .devReq, .cycReq, .gov, .srb, .pul]

/-- What any assertion may touch, below level 5. -/
abbrev reactParts : List Part := signalParts ++ [.graph, .free, .arms, .cycFabric, .devBlock, .ports, .stnPorts, .stnScan]

/-- The parts that an assertion of a source may touch. -/
def raiseParts (src : Nat) : List Part := if (faultDomain src).isNone then signalParts else reactParts

theorem signalParts_subset_raiseParts (src : Nat) : ∀ q ∈ signalParts, q ∈ raiseParts src := by
  unfold raiseParts
  split <;> decide

theorem raiseParts_subset_reactParts (src : Nat) : ∀ q ∈ raiseParts src, q ∈ reactParts := by
  unfold raiseParts
  split <;> decide

variable {s}

theorem frame_reactDomain (src : Nat) : Frame (raiseParts src) s (reactDomain src s) := by
  unfold reactDomain
  split
  · next d hd =>
    rw [raiseParts, if_neg (by simp [hd])]
    exact (frame_blockReset ..).mono
  · rfl

theorem frame_reactLow (src : Nat) (f : FaultInfo) (lvl : Nat) (block : Bool) : Frame (raiseParts src) s (reactLow src f lvl block s) := by
  have hsub := signalParts_subset_raiseParts src
  unfold reactLow
  extract_lets signalled trapped reset
  have hsignalled : Frame (raiseParts src) s signalled := .ite ((frame_reactSignal s src f lvl).mono.mono hsub) rfl
  have htrapped : Frame (raiseParts src) s trapped :=
    hsignalled.trans (.ite (((frame_reactTrap signalled src).mono (ps := signalParts)).mono hsub) rfl)
  have hreset : Frame (raiseParts src) s reset := htrapped.trans (.ite (frame_reactDomain src) rfl)
  exact .ite (hreset.trans (Frame.mono (qs := signalParts) rfl hsub)) hreset

/-- Below level 5 a reaction stays within the parts of its source. -/
theorem frame_react {lvl : Nat} (hlvl : lvl ≠ 5) (src : Nat) (f : FaultInfo) (block : Bool) :
    Frame (raiseParts src) s (react src f lvl block s) := by
  have hsub := signalParts_subset_raiseParts src
  unfold react
  extract_lets _ logged low
  have hlow : Frame (raiseParts src) s low :=
    .after (frame_reactLow ..) (Frame.mono (qs := signalParts) rfl hsub) fun _ => id
  rw [if_neg hlvl]
  exact .ite (hlow.trans (((frame_react4 low block).mono (ps := signalParts)).mono hsub)) hlow

theorem frame_assertSource {src : Nat} {f : FaultInfo} (hlvl : (appliedLevel s src f).1 ≠ 5) (inj : Bool) (d : List Byte) :
    Frame (raiseParts src) s (assertSource src f inj d s) := by
  have hsub := signalParts_subset_raiseParts src
  unfold assertSource
  extract_lets _ logged
  have hlogged : Frame (raiseParts src) s logged := Frame.mono (qs := signalParts) (.after (frame_trgFault ..) (frame_logSource ..).mono) hsub
  exact .ite hlogged (hlogged.trans (frame_react hlvl ..))

/-- A raise below level 5 stays within the parts of its source. -/
theorem frame_raise_of_level {src : Nat} (hlvl : ∀ f, faultInfo src = some f → (appliedLevel s src f).1 ≠ 5) (d : List Byte) :
    Frame (raiseParts src) s (raise src d s) := by
  unfold raise
  split
  · rfl
  · next f hf => exact .ite rfl (frame_assertSource (hlvl f hf) ..)

/-- Under a calm configuration a raise of any source but the four of default level 4 stays within its parts. -/
theorem frame_raise (hcalm : Calm s) {src : Nat} (hsrc : src ∉ [4, 7, 353, 357]) (d : List Byte) : Frame (raiseParts src) s (raise src d s) :=
  frame_raise_of_level (fun _ hf => appliedLevel_ne_five hcalm hsrc hf) d

theorem frame_raise_any (hcalm : Calm s) {src : Nat} (hsrc : src ∉ [4, 7, 353, 357]) (d : List Byte) : Frame reactParts s (raise src d s) :=
  (frame_raise hcalm hsrc d).mono (raiseParts_subset_reactParts src)

theorem frame_raise_signal (hcalm : Calm s) {src : Nat} (hsrc : src ∉ [4, 7, 353, 357]) (hdom : faultDomain src = none) (d : List Byte) :
    Frame signalParts s (raise src d s) := by
  have hframe := frame_raise hcalm hsrc d
  rwa [raiseParts, if_pos (by simp [hdom])] at hframe

/-- The configuration in force decides whether a state is calm. -/
theorem Frame.calm {ps : List Part} {t : State} (h : Frame ps s t) (hcalm : Calm s)
    (hcfg : ∀ u, State.cfg (erase ps u) = u.cfg := by intro u; rfl) : Calm t := calm_of_cfg_eq (h.get State.cfg hcfg) hcalm

theorem frame_levelSource (hcalm : Calm s) {src : Nat} (hsrc : src ∉ [4, 7, 353, 357]) (on : Bool) (d : List Byte) :
    Frame reactParts s (levelSource src on d s) :=
  .ite (frame_raise_any hcalm hsrc _) (frame_clear ..).mono

theorem frame_judgeCtOffset (hcalm : Calm s) : Frame signalParts s (judgeCtOffset s) :=
  .ite (frame_raise_signal hcalm (by decide) (by decide) _) (.ite (frame_clear ..).mono rfl)

end Sys2Proof.Proofs
end

section
/-! Resets and start-up (R19, R476, R483–R497). -/

set_option Elab.async false

namespace Sys2Proof.Proofs
open Sys2Proof Sys2Proof.Machine Sys2Proof.Laws

/-! ### What a receiver reset leaves (R321) -/

theorem frame_bindCleared (n : Nat) (s : State) : Frame [.stn] s (bindCleared n s) := rfl

theorem frame_receiverResetOne (n : Nat) (s : State) : Frame [.mbx, .host, .stn, .pound] s (receiverResetOne n s) := by
  unfold receiverResetOne
  refine .after (frame_endSession ..) (.after (frame_bindCleared ..) (.after (frame_mset ..) ?_))
  exact .ite (frame_h2fEmpty ..).mono rfl

theorem frame_receiverReset (s : State) : Frame [.mbx, .host, .stn, .pound] s (receiverReset s) :=
  .foldl _ rfl fun _ _ _ => frame_receiverResetOne ..

/-! ### Tables and the store through a warm reset (R380, R456, R485) -/

/-- A table that is changed entry by entry, by a change that keeps the entry of a key that is not listed. -/
theorem get_mapVals {α : Type} (m : SMap α) (f : α → α) (d : α) (hd : f d = d) (k : Nat) : (m.mapVals (fun _ x => f x)).get k d = f (m.get k d) := by
  simp only [SMap.get, find_mapVals]
  cases m.find k <;> simp [hd]

/-- What is dropped reads as the default, and the rest as before. -/
theorem read_filter (p : Nat → Bool) (m : List Host.Cell) (a : Nat) :
    Memory.read (m.filter (fun c => p c.1)) a = if p a then Memory.read m a else 0 := by
  induction m with
  | nil => simp [Memory.read, Memory.dflt]
  | cons c m ih =>
    obtain ⟨b, v⟩ := c
    rw [List.filter_cons]
    by_cases hb : p b <;> by_cases ha : a = b <;> simp_all [Memory.read]

/-- A mailbox through a warm reset. -/
theorem mget_warmState (s : State) (n : Nat) : mget (warmState s) n = mbxThroughReset (mget (receiverReset s) n) := by
  unfold warmState
  generalize receiverReset s = u
  exact get_mapVals u.mbx mbxThroughReset {} rfl n

/-- A latched record through a warm reset. -/
theorem rec_warmState (s : State) (n : Nat) : rec? (warmState s) n = recThroughReset (rec? s n) := by
  have hfcru : (receiverReset s).fcru = s.fcru := (frame_receiverReset s).get State.fcru
  simp only [rec?, ← hfcru]
  unfold warmState
  generalize receiverReset s = u
  exact get_mapVals u.fcru.recs recThroughReset {} rfl n

/-- The store through a warm reset. -/
theorem read_warmState (s : State) (a : Nat) :
    Memory.read (warmState s).store a = if keptAddr a then Memory.read s.store a else 0 := by
  have hstore : (receiverReset s).store = s.store := (frame_receiverReset s).get State.store
  rw [← hstore]
  unfold warmState
  generalize receiverReset s = u
  exact read_filter keptAddr u.store a

/-- The device after a warm reset (R19, R485). -/
theorem warmState_restarts (s : State) : (warmState s).dev.state = .reset ∧ (warmState s).dev.coldStart = false ∧
    (warmState s).otp = s.otp ∧ (warmState s).dev.unitId = s.dev.unitId ∧ (warmState s).tan.role = .isolated ∧
    (warmState s).cfg = {} ∧ (warmState s).pound = {} := by
  have hotp := (frame_receiverReset s).get State.otp
  have hdev := (frame_receiverReset s).get State.dev
  unfold warmState
  generalize receiverReset s = u at hotp hdev ⊢
  exact ⟨rfl, rfl, hotp, (congrArg Dev.unitId hdev :), rfl, rfl, rfl⟩

/-- Settles O9: the three entries to RESET, field by field. -/
theorem powerOnAndWarmReset : Obligations.PowerOnAndWarmReset := by
  unfold Obligations.PowerOnAndWarmReset
  refine ⟨fun s => ⟨⟨_, rfl, rfl, rfl, rfl, rfl, rfl, rfl⟩, fun hporst => ?_, fun hporst => ?_⟩, fun s hheld => ?_⟩
  · have hexec : execRailMonitorTrip s = .next _ := if_neg (by simp [hporst])
    exact ⟨_, hexec, rfl, rfl, rfl, rfl, rfl, rfl⟩
  · exact if_pos (by simp [hporst])
  · have hexec : exec .warmRstNAssert s = .next { warmState s with dev := { (warmState s).dev with warmN := false } } := by
      show execWarmRstNAssert s = _
      simp [execWarmRstNAssert, hheld]
    obtain ⟨hstate, hcold, hotp, hunit, hrole, hcfg, hpound⟩ := warmState_restarts s
    have hm := mget_warmState s
    have hr := rec_warmState s
    have hstore := read_warmState s
    generalize warmState s = w at *
    refine ⟨_, hexec, hstate, rfl, hcold, hotp, hunit, hrole, hcfg, congrArg Pound.owner hpound, congrArg Pound.entries hpound,
      fun n _ => ?_, fun n hn => ?_, hstore⟩
    · exact ⟨congrArg (·.role.isSome) (hm n), congrArg Mbx.f2h (hm n), congrArg Mbx.h2fFull (hm n)⟩
    · have hrec : (rec? w n).latched = true ∧ (rec? w n).preReset = true ∧ (rec? w n).active = false ∧
          (rec? w n).occurrences = (rec? s n).occurrences := by
        have hlatched : (rec? s n).latched = true := hn
        simp [hr, recThroughReset, hlatched]
      exact hrec

/-- Settles O10: each release by whether another reset still holds. -/
theorem resetRelease : Obligations.ResetRelease := by
  unfold Obligations.ResetRelease
  intro s
  refine ⟨fun b tm hporst => ?_, ?_, fun hrail => ?_⟩
  · cases hw : s.dev.warmN <;> cases hr : s.dev.railHold <;>
      exact ⟨_, by simp [exec, execPorstNRelease, hporst, heldInReset, hw, hr]; rfl, by simp [bootState]⟩
  · cases hp : s.dev.porstN <;> cases hr : s.dev.railHold <;> by_cases hst : s.dev.state = .reset <;>
      exact ⟨_, by simp [exec, execWarmRstNRelease, heldInReset, hp, hr, hst]; rfl, by simp [bootState, hst]⟩
  · cases hp : s.dev.porstN <;> cases hw : s.dev.warmN <;>
      exact ⟨_, by simp [exec, execRailMonitorRelease, hrail, heldInReset, hp, hw]; rfl, by simp [bootState]⟩

end Sys2Proof.Proofs
end

section
/-! The device state behind a change (R19, R24) and behind a reaction of level 4 (R372, R376). -/

set_option Elab.async false

namespace Sys2Proof.Proofs
open Sys2Proof Sys2Proof.Machine Sys2Proof.Laws

/-! ### A change of the device state -/

/-- The device after a change of its state. -/
def movedDev (new : DevState) (s : State) : Dev :=
  { s.dev with
    state := new
    phase := if new = .running ∧ s.dev.state = .ready then .startup else s.dev.phase
    faultHold := s.dev.faultHold && new != .idle
    faultN := (s.dev.faultHold && new != .idle) || new == .faulted || s.cyc.level4 }

theorem moveState_dev {new : DevState} {s : State} (hne : s.dev.state ≠ new) : (moveState new s).dev = movedDev new s := by
  unfold moveState
  rw [if_neg hne]
  extract_lets old phase hold _ moved told
  have hafter : Frame [.host, .mbx, .cap, .store, .srb] moved (srbOnState new (trgState told)) :=
    .after (frame_srbOnState ..) (.after (frame_trgState _) (.after (frame_event ..) (.after (frame_vector ..) .refl)))
  exact hafter.get State.dev

@[simp] theorem moveState_state (new : DevState) (s : State) : (moveState new s).dev.state = new := by
  by_cases hne : s.dev.state = new
  · rw [moveState, if_pos hne, hne]
  · rw [moveState_dev hne, movedDev]

theorem moveState_faulted_faultN {s : State} (hne : s.dev.state ≠ .faulted) : (moveState .faulted s).dev.faultN = true := by
  rw [moveState_dev hne, movedDev]
  simp

/-! ### Reactions up to level 3 leave the device state -/

/-- What a reaction may touch before level 4. -/
abbrev lowParts : List Part :=
  [.host, .mbx, .fcru, .cycReq, .graph, .free, .arms, .cycFabric, .devBlock, .ports, .stnPorts, .stnScan, .pul]

theorem frame_reactLow_low (src : Nat) (f : FaultInfo) (lvl : Nat) (block : Bool) (s : State) : Frame lowParts s (reactLow src f lvl block s) := by
  unfold reactLow
  extract_lets signalled trapped reset
  have hsignalled : Frame lowParts s signalled := .ite (frame_reactSignal ..).mono .refl
  have htrapped : Frame lowParts s trapped := hsignalled.trans (.ite (frame_reactTrap ..).mono .refl)
  have hdomain : Frame lowParts trapped (reactDomain src trapped) := by
    unfold reactDomain
    split
    · exact (frame_blockReset ..).mono
    · exact .refl
  have hreset : Frame lowParts s reset := htrapped.trans (.ite hdomain .refl)
  exact .ite (hreset.step (qs := [.cycReq]) rfl) hreset

/-! ### Level 4 -/

/-- A reaction of level 4 where no cycle runs takes FAULTED at once (R376). -/
theorem react4_of_stopped {s : State} (block : Bool) (hreset : s.dev.state ≠ .reset) (hfaulted : s.dev.state ≠ .faulted)
    (hrun : s.cyc.running = false) : (react4 block s).dev.state = .faulted ∧ (react4 block s).dev.faultN = true := by
  unfold react4
  split
  · exact absurd ‹_› hreset
  · exact absurd ‹_› hfaulted
  · extract_lets _ asked
    have hmoved : (moveState .faulted asked).dev.faultN = true := moveState_faulted_faultN hfaulted
    rw [if_neg (by simp [asked, hrun])]
    exact ⟨moveState_state .faulted asked, hmoved⟩

/-- A record with the tick of its reaction (R384). -/
def noteReaction (src lvl : Nat) (s : State) : State :=
  { s with fcru := { s.fcru with recs := s.fcru.recs.upd src {} (fun r => { r with appliedAt := r.appliedAt.set lvl s.now }) } }

theorem frame_noteReaction (src lvl : Nat) (s : State) : Frame [.fcru] s (noteReaction src lvl s) := frame_withFcru s _

theorem react_four (src : Nat) (f : FaultInfo) (block : Bool) (s : State) :
    react src f 4 block s = react4 block (reactLow src f 4 block (noteReaction src 4 s)) := rfl

/-- What an assertion may touch before level 4. -/
abbrev assertedParts : List Part := .cap :: .store :: lowParts

/-- A source at level 4 of a device in operation reacts at once. -/
theorem raise_eq_react4 {src : Nat} {f : FaultInfo} (d : List Byte) {s : State} (hf : faultInfo src = some f)
    (ha : faultAbsent s.dev.variant src = false) (hp : s.dev.porstN = true) (hr : s.dev.railHold = false)
    (hx : (rec? s src).active = false) (hlvl : (appliedLevel s src f).1 = 4) (hreset : s.dev.state ≠ .reset) :
    ∃ low, Frame (assertedParts) s low ∧ raise src d s = react4 (faultBlock s src) low := by
  have hquiet : (inReset s || quietSource src 4 s) = false := by simp [inReset, quietSource, hreset]
  have hraise : raise src d s = assertSource src f false d s := by simp [raise, hf, ha, hp, hr, hx]
  refine ⟨reactLow src f 4 (faultBlock s src) (noteReaction src 4 (trgFault src f.cls (logSource src f false d s))), ?_, hraise.trans ?_⟩
  · exact .after (frame_reactLow_low ..) (.after (frame_noteReaction ..) (.after (frame_trgFault ..) (frame_logSource ..).mono))
  · simp only [assertSource, hlvl, hquiet, Bool.false_eq_true, if_false, react_four]

/-- A source at level 4 takes a device without a running cycle to FAULTED. -/
theorem raise_faults {src : Nat} {f : FaultInfo} (d : List Byte) {s : State} (hf : faultInfo src = some f)
    (ha : faultAbsent s.dev.variant src = false) (hp : s.dev.porstN = true) (hr : s.dev.railHold = false)
    (hx : (rec? s src).active = false) (hlvl : (appliedLevel s src f).1 = 4) (hreset : s.dev.state ≠ .reset)
    (hfaulted : s.dev.state ≠ .faulted) (hrun : s.cyc.running = false) :
    (raise src d s).dev.state = .faulted ∧ (raise src d s).dev.faultN = true := by
  obtain ⟨low, hlow, hraise⟩ := raise_eq_react4 d hf ha hp hr hx hlvl hreset
  rw [hraise]
  have hstate : low.dev.state = s.dev.state := hlow.get (·.dev.state)
  have hrun' : low.cyc.running = s.cyc.running := hlow.get (·.cyc.running)
  exact react4_of_stopped _ (by rwa [hstate]) (by rwa [hstate]) (by rwa [hrun'])

end Sys2Proof.Proofs
end

section
/-! The steps of BOOT and its end (R19, R488, R491–R493, R497). -/

set_option Elab.async false

namespace Sys2Proof.Proofs
open Sys2Proof Sys2Proof.Machine Sys2Proof.Laws

/-- A table changed at each key below a bound. -/
theorem get_foldl_upd_range {α : Type} (m : SMap α) (d : α) (f : Nat → α → α) (n : Nat) : ∀ k,
    ((List.range n).foldl (fun m p => m.upd p d (f p)) m).get k d = if k < n then f k (m.get k d) else m.get k d := by
  induction n with
  | zero => simp
  | succ n ih =>
    intro k
    rw [List.range_succ, List.foldl_append, List.foldl_cons, List.foldl_nil, get_upd, ih]
    rcases lt_trichotomy k n with hlt | rfl | hgt
    · rw [if_neg hlt.ne', ih, if_pos hlt, if_pos (hlt.trans n.lt_succ_self)]
    · rw [if_pos rfl, if_neg (Nat.lt_irrefl k), if_pos k.lt_succ_self]
    · rw [if_neg hgt.ne, ih, if_neg hgt.not_gt, if_neg (by omega)]

/-- FLT_BOOT_AUTH takes a device that boots to FAULTED (R497). -/
theorem bootFail_faults {s : State} (hstate : s.dev.state = .boot) (hp : s.dev.porstN = true) (hr : s.dev.railHold = false)
    (hrun : s.cyc.running = false) (hx : (rec? s 0).active = false) (noRecord : Bool) :
    let t := bootFail noRecord s
    t.dev.state = .faulted ∧ t.dev.faultN = true ∧ Latched t 0 ∧ t.otp = s.otp := by
  have hf : faultInfo 0 = some ⟨0, true, 4, false, true⟩ := by decide
  have ha : faultAbsent s.dev.variant 0 = false := by cases s.dev.variant <;> rfl
  have hlvl : (appliedLevel s 0 ⟨0, true, 4, false, true⟩).1 = 4 := by simp [appliedLevel, faultLevel, hf]
  have hfaults := raise_faults (be 1 (b2n noRecord)) hf ha hp hr hx hlvl (by simp [hstate]) (by simp [hstate]) hrun
  have hlatches : Latched (raise 0 (be 1 (b2n noRecord)) s) 0 := raise_latches _ s hf ha hp hr hx
  intro t
  have ht : t = raise 0 (be 1 (b2n noRecord)) s := if_pos hstate
  rw [ht]
  exact ⟨hfaults.1, hfaults.2, hlatches, raise_otp ..⟩

/-- Of two authentic images the higher release is first, slot A on a tie (R491). -/
theorem bootChoice_of_ok {s : State} {a b : FwImage} (ha : imageOk s a = true) (hb : imageOk s b = true) :
    bootChoice s (some a) (some b) = some (if a.release.toNat < b.release.toNat then b else a, false) := by
  unfold bootChoice
  by_cases hlt : a.release.toNat < b.release.toNat <;> simp [hlt, Option.filter, ha, hb]

/-- Two authentic images at a warm start: IDLE under the one chosen, with no fault. -/
theorem execBybexReady_of_ok {s : State} {a b : FwImage} (hstate : s.dev.state = .boot) (hrec : s.dev.bootRec.isSome = true)
    (ha : imageOk s a = true) (hb : imageOk s b = true) (hcold : s.dev.coldStart = false) :
    execBybexReady (some a) (some b) [] s = .next (rollbackRaise (some a) (some b) (moveState .idle
      { s with dev := { s.dev with fwVersion := (if a.release.toNat < b.release.toNat then b else a).release, mpcReady := true } })) := by
  obtain ⟨r, hr⟩ := Option.isSome_iff_exists.1 hrec
  have hcold' : ∀ x y : State, x.dev = y.dev → (rollbackRaise (some a) (some b) x).dev.coldStart = y.dev.coldStart := by
    intro x y hxy
    unfold rollbackRaise
    dsimp only
    split <;> simp [hxy]
  simp only [execBybexReady, hstate, hr, bootChoice_of_ok ha hb, ne_eq, not_true_eq_false, if_false, Option.isNone_some, Bool.false_eq_true]
  rw [if_neg]
  rw [hcold' _ _ rfl, moveState_dev (by simp)]
  simp [movedDev, hcold]

/-- ROLLBACK rises at the first entry to IDLE, to the lower of the two levels (R493). -/
theorem rollbackRaise_of_ok {s : State} {a b : FwImage} (ha : imageOk s a = true) (hb : imageOk s b = true) :
    (rollbackRaise (some a) (some b) s).dev = { s.dev with idleSeen := true } ∧
    (rollbackRaise (some a) (some b) s).otp =
      { s.otp with rollback := if s.dev.idleSeen then s.otp.rollback else max s.otp.rollback (min a.rollback b.rollback) } := by
  unfold rollbackRaise
  cases hseen : s.dev.idleSeen <;> simp [ha, hb]

/-- Settles O11: the steps of BOOT by their definitions; its end by the image chosen, or by what a reaction of level 4 does
where no cycle runs. That PLL-A, PLL-B and PLL-D are locked at the first lock is the model's reading (log 20). -/
theorem bootStepsAndEnd : Obligations.BootStepsAndEnd := by
  unfold Obligations.BootStepsAndEnd
  refine ⟨fun s hstate => ⟨?_, ?_, ?_, ?_, ?_, ?_⟩, fun s hstate hp hr hrun hx => ⟨?_, ?_, ?_⟩⟩
  · intro hticks
    exact ⟨_, if_neg (by simp [hstate, hticks]), rfl, rfl, rfl, rfl⟩
  · intro txp rxp hcold
    refine ⟨_, if_neg (by simp [hstate, hcold]), rfl, fun p hlt => ?_, rfl⟩
    have hport := get_foldl_upd_range s.ports {} (fun p (x : Port) => { x with t_txp := txp.get p 0, t_rxp := rxp.get p 0 }) (nPorts s) p
    rw [if_pos hlt] at hport
    exact ⟨congrArg Port.t_txp hport, congrArg Port.t_rxp hport⟩
  · intro hcold
    exact if_neg (by simp [hstate, hcold])
  · intro hcold
    exact ⟨fun _ _ _ => if_pos (by simp [hcold]), if_pos (by simp [hcold])⟩
  · intro r hkey
    obtain ⟨k, hk⟩ := Option.isSome_iff_exists.1 hkey
    exact ⟨_, if_neg (by simp [hstate, hk]), rfl, rfl, rfl, rfl⟩
  · intro r hkey
    exact if_pos (by simp [hkey])
  · intro a b hrec ha hb hcold
    refine ⟨_, execBybexReady_of_ok hstate hrec ha hb hcold, ?_⟩
    generalize hu : ({ s with dev := { s.dev with fwVersion := (if a.release.toNat < b.release.toNat then b else a).release, mpcReady := true } } : State) = u
    have hmoved : (moveState .idle u).dev = movedDev .idle u := moveState_dev (by simp [← hu, hstate])
    have hotp : (moveState .idle u).otp = s.otp := ((frame_moveState u .idle).get State.otp).trans (by rw [← hu])
    have hok : ∀ i, imageOk s i = true → imageOk (moveState .idle u) i = true := fun i hi => by rw [imageOk, hotp]; exact hi
    obtain ⟨hdev, hroll⟩ := rollbackRaise_of_ok (s := moveState .idle u) (hok a ha) (hok b hb)
    rw [hdev, hroll, hmoved, hotp]
    subst hu
    refine ⟨rfl, rfl, ?_, rfl⟩
    simp only [movedDev]
    split <;> rfl
  · intro o hrec
    obtain ⟨r, hr'⟩ := Option.isSome_iff_exists.1 hrec
    exact ⟨_, by simp [exec, execBybexReady, hstate, hr', bootChoice, Option.filter], bootFail_faults hstate hp hr hrun hx false⟩
  · intro n
    exact ⟨_, rfl, bootFail_faults hstate hp hr hrun hx n⟩

end Sys2Proof.Proofs
end

section
/-! The test port (R387, R490, R494, R495), the governor and its monitors (R458, R460, R463, R464, R468, R471). -/

set_option Elab.async false

namespace Sys2Proof.Proofs
open Sys2Proof Sys2Proof.Machine Sys2Proof.Laws

/-! ### Assertions -/

/-- An assertion latches its source, where the part has the source's resource whatever its variant. -/
theorem latched_raise {src : Nat} {f : FaultInfo} (hf : faultInfo src = some f) (ha : ∀ v, faultAbsent v src = false) {s : State}
    (hp : s.dev.porstN = true) (hr : s.dev.railHold = false) (hx : (rec? s src).active = false) (d : List Byte) : Latched (raise src d s) src :=
  raise_latches d s hf (ha _) hp hr hx

/-- A claim about the next state of a command that is carried out. -/
theorem goes_of_eq {c : Instr} {s t : State} {P : State → Prop} (hc : exec c s = .next t) (hP : P t) : Goes c s P := ⟨t, hc, hP⟩

/-! ### The test port -/

theorem jtagPins_of_allowed {s : State} (h : s.dev.porstN = false ∨ s.dev.warmN = false) (k : Nat) (float : Bool) :
    jtagPins k float s = { s with jtag := { s.jtag with instr := k, driving := !float, floating := float, tdo := [] } } := by
  have hscan : scanAllowed s = true := by rcases h with h | h <;> simp [scanAllowed, h]
  simp [jtagPins, hscan]

theorem jtagPins_of_refused {s : State} (hp : s.dev.porstN = true) (hw : s.dev.warmN = true) (k : Nat) (float : Bool) :
    jtagPins k float s = jtagRefused s := by
  simp [jtagPins, scanAllowed, hp, hw]

/-- A refused instruction acts as BYPASS and latches FLT_JTAG_REFUSED (R494). -/
theorem jtagRefused_bypasses {s : State} (hp : s.dev.porstN = true) (hr : s.dev.railHold = false) (hx : (rec? s 371).active = false) :
    (jtagRefused s).jtag = (jtagSelect 0 [] s).jtag ∧ Latched (jtagRefused s) 371 := by
  have hf : faultInfo 371 = some ⟨3, false, 0, false, false⟩ := by decide
  exact ⟨raise_jtag .., latched_raise (s := jtagSelect 0 [] s) hf (fun v => by cases v <;> decide) hp hr hx _⟩

/-- A pin-driving instruction in its condition and out of it. -/
theorem goes_jtagPins {c : Instr} {k : Nat} {float : Bool} {s : State} (hc : exec c s = .next (jtagPins k float s)) (hk : float = (k == 7)) :
    ((s.dev.porstN = false ∨ s.dev.warmN = false) →
      Goes c s fun t => t.jtag.instr = k ∧ t.jtag.driving = (k != 7) ∧ t.jtag.floating = (k == 7) ∧ { t with jtag := s.jtag } = s) ∧
    (s.dev.porstN = true → s.dev.warmN = true → s.dev.railHold = false → (rec? s 371).active = false →
      Goes c s fun t => t.jtag.instr = 0 ∧ t.jtag.driving = false ∧ t.jtag.floating = false ∧ Latched t 371) := by
  subst hk
  constructor
  · intro h
    rw [jtagPins_of_allowed h] at hc
    exact ⟨_, hc, rfl, rfl, rfl, rfl⟩
  · intro hp hw hr hx
    obtain ⟨hj, hl⟩ := jtagRefused_bypasses hp hr hx
    rw [jtagPins_of_refused hp hw] at hc
    exact ⟨_, hc, by rw [hj]; rfl, by rw [hj]; rfl, by rw [hj]; rfl, hl⟩

theorem execOtpProgram_blank {s : State} (hp : s.dev.porstN = false) (hk : s.otp.ownerKey = none) (d : List Byte) :
    execOtpProgram d s = .next { jtagSelect 9 [] s with otp := { s.otp with ownerKey := some d } } := by
  simp [execOtpProgram, hp, hk, Machine.ok]

theorem execOtpProgram_refused {s : State} (h : s.dev.porstN = true ∨ s.otp.ownerKey ≠ none) (d : List Byte) :
    execOtpProgram d s = .next (jtagSelect 9 [] s) := by
  have hcond : (s.otp.ownerKey.isNone && !s.dev.porstN) = false := by
    rcases h with h | h
    · simp [h]
    · simp [Option.isNone_eq_false_iff.2 (Option.isSome_iff_ne_none.2 h)]
  simp [execOtpProgram, hcond, Machine.ok]

/-- Settles O25: each instruction in its condition, and its refusal. -/
theorem testPort : Obligations.TestPort := by
  unfold Obligations.TestPort
  refine ⟨fun s => ⟨rfl, ⟨_, rfl, rfl, rfl, rfl, rfl⟩, ⟨_, rfl, rfl, rfl, rfl, ?_, rfl⟩, fun _ => ⟨_, rfl, rfl, rfl, rfl, rfl, rfl⟩,
    ⟨_, rfl, rfl, rfl, rfl, rfl, rfl⟩⟩, fun c k s hck => ?pins, fun s => ⟨fun d hp hk => ?blank, fun d h => ?written, fun hf => ?mode, fun hf hp hr hx => ?debug⟩⟩
  · cases s.dev.stepping <;> simp [jtagSelect]
  case pins =>
    simp only [List.mem_cons, List.not_mem_nil, or_false, Prod.mk.injEq] at hck
    rcases hck with ⟨rfl, rfl⟩ | ⟨rfl, rfl⟩ | ⟨rfl, rfl⟩ | ⟨rfl, rfl⟩ | ⟨rfl, rfl⟩ <;> exact goes_jtagPins rfl rfl
  case blank => exact ⟨_, execOtpProgram_blank hp hk d, rfl, rfl, rfl⟩
  case written => exact ⟨_, execOtpProgram_refused h d, rfl, rfl⟩
  case mode => exact ⟨_, congrArg Host.Outcome.next (if_pos hf), rfl, rfl, rfl⟩
  case debug =>
    obtain ⟨hj, hl⟩ := jtagRefused_bypasses hp hr hx
    exact ⟨_, congrArg Host.Outcome.next (if_neg (ne_true_of_eq_false hf)), by rw [hj]; rfl, by rw [hj]; rfl, hl⟩

end Sys2Proof.Proofs
end

section
/-! What an assertion leaves of the reset lines and of the other sources' records, at every level. -/

set_option Elab.async false

namespace Sys2Proof.Proofs
open Sys2Proof Sys2Proof.Machine Sys2Proof.Laws

/-- The lines that hold a device in reset are no business of the reactions, a reset of level 5 included (R485). -/
def resetLines (s : State) : Bool × Bool := (s.dev.porstN, s.dev.railHold)

theorem resetLines_level5State (s : State) : resetLines (level5State s) = resetLines s := by
  have hdev := (frame_receiverReset s).get State.dev
  unfold level5State warmState
  generalize receiverReset s = u at hdev ⊢
  exact (congrArg (fun x : Dev => (x.porstN, x.railHold)) hdev :)

/-- A record that does not stand stays so: nothing but its own assertion sets ACTIVE (R371). -/
def Quiet (k : Nat) (s : State) : Prop := (rec? s k).active = false

theorem quiet_of_fcru {k : Nat} {s t : State} (h : t.fcru = s.fcru) (hq : Quiet k s) : Quiet k t := by
  rw [Quiet, rec?, h]; exact hq

theorem quiet_clear {k src : Nat} {s : State} (hq : Quiet k s) : Quiet k (clear src s) := by
  by_cases hk : k = src
  · subst hk; exact clear_active k s
  · rw [Quiet, clear_other s hk]; exact hq

theorem quiet_blockReset {k : Nat} {s : State} (d : BlockDomain) (hq : Quiet k s) : Quiet k (blockReset d s) := by
  cases d with
  | fabric =>
    unfold blockReset
    dsimp -zeta only
    extract_lets _ back lanes cleared freed home place moved _ placed
    have hcleared : Quiet k cleared := by
      unfold cleared
      split
      · exact quiet_clear hq
      · exact hq
    have hplaced : placed.fcru = cleared.fcru := ite_keeps State.fcru _ rfl
    exact quiet_of_fcru hplaced hcleared
  | basinPort p => exact quiet_of_fcru ((frame_portRelock _ p).get State.fcru) hq
  | stationPort p => exact quiet_of_fcru ((frame_linkDown s p).get State.fcru) hq
  | pulseChannel c => exact hq

theorem quiet_reactLow {k : Nat} (src : Nat) (f : FaultInfo) (lvl : Nat) (block : Bool) {s : State} (hq : Quiet k s) :
    Quiet k (reactLow src f lvl block s) := by
  unfold reactLow
  extract_lets signalled trapped reset
  have hsignalled : Quiet k signalled := by
    unfold signalled
    split
    · exact quiet_of_fcru ((frame_reactSignal s src f lvl).get State.fcru) hq
    · exact hq
  have htrapped : Quiet k trapped := by
    unfold trapped reactTrap
    (repeat' split) <;> exact hsignalled
  have hreset : Quiet k reset := by
    unfold reset reactDomain
    split
    · split
      · exact quiet_blockReset _ htrapped
      · exact htrapped
    · exact htrapped
  split <;> exact hreset

theorem quiet_level5State {k : Nat} (s : State) : Quiet k (level5State s) := by
  have hrec := rec_warmState s k
  unfold Quiet level5State
  generalize warmState s = w at hrec ⊢
  exact congrArg Cause.active hrec

theorem quiet_react {k src : Nat} (hk : k ≠ src) (f : FaultInfo) (lvl : Nat) (block : Bool) {s : State} (hq : Quiet k s) :
    Quiet k (react src f lvl block s) := by
  unfold react
  extract_lets _ noted low
  have hnoted : Quiet k noted := by
    have hrec : rec? noted k = rec? s k := by simp [rec?, noted, get_upd, Ne.symm hk]
    rw [Quiet, hrec]; exact hq
  have hlow : Quiet k low := quiet_reactLow _ _ _ _ hnoted
  clear_value low
  split
  · exact quiet_level5State low
  · split
    · exact quiet_of_fcru ((frame_react4 low block).get State.fcru) hlow
    · exact hlow

theorem quiet_raise {k src : Nat} (hk : k ≠ src) (d : List Byte) {s : State} (hq : Quiet k s) : Quiet k (raise src d s) := by
  unfold raise
  split
  · exact hq
  · next f hf =>
    split
    · exact hq
    · unfold assertSource
      extract_lets lvl logged
      have hlogged : Quiet k logged := by
        have hfcru : logged.fcru = (logSource src f false d s).fcru := (frame_trgFault _ src f.cls).get State.fcru
        refine quiet_of_fcru hfcru ?_
        simp [Quiet, rec?, logSource, Ne.symm hk]
        exact hq
      split
      · exact hlogged
      · exact quiet_react hk _ _ _ hlogged

theorem resetLines_react (src : Nat) (f : FaultInfo) (lvl : Nat) (block : Bool) (s : State) :
    resetLines (react src f lvl block s) = resetLines s := by
  by_cases hlvl : lvl = 5
  · subst hlvl
    exact (resetLines_level5State _).trans ((frame_reactLow_low src f 5 block (noteReaction src 5 s)).get resetLines)
  · exact ((frame_react hlvl src f block).mono (raiseParts_subset_reactParts src)).get resetLines

theorem resetLines_raise (src : Nat) (d : List Byte) (s : State) : resetLines (raise src d s) = resetLines s := by
  unfold raise
  split
  · rfl
  · next f hf =>
    split
    · rfl
    have hframe : Frame [.cap, .store, .fcru] s (trgFault src f.cls (logSource src f false d s)) :=
      .after (frame_trgFault _ src f.cls) (frame_logSource s src f false d).mono
    have hlogged := hframe.get resetLines
    unfold assertSource
    dsimp only
    split
    · exact hlogged
    · exact (resetLines_react ..).trans hlogged

end Sys2Proof.Proofs
end

section
/-! The supply governor, its bus and the monitors (R458, R460, R463, R464, R468, R471). -/

set_option Elab.async false

namespace Sys2Proof.Proofs
open Sys2Proof Sys2Proof.Machine Sys2Proof.Laws

/-! ### The decision window -/

/-- The command that a move of `d` leads to, inside the limits of R463. -/
def govTarget (d : Int) (s : State) : Nat :=
  (min (max ((s.gov.v : Int) + d) (max (par s 0x60 0 12 * 25) (if s.gov.recover then par s 0x60 0 14 * 25 else 6300))) 8700).toNat

theorem govCommand_v (v : Nat) (g : Gov) : (govCommand v g).v = v := by
  unfold govCommand
  dsimp only
  split <;> rfl

theorem govMove_v (d : Int) (s : State) : (govMove d s).gov.v = govTarget d s := govCommand_v ..

/-- The move of a window by its least slack (R463, R464). -/
def govStep (m : Int) (s : State) : Int :=
  if m < par s 0x60 0 0 * 25 then par s 0x60 0 6 * 25 else if par s 0x60 0 2 * 25 < m then -(par s 0x60 0 8 * 25) else 0

/-- What a window with a least slack does to its source (R463). -/
def govJudge (m : Int) (lo : Int) (t : State) : State :=
  if m < lo then (if t.gov.v = 8700 then raise 354 [] t else t) else clear 354 t

/-- The window's observations start afresh (R468). -/
def govAfresh (t : State) : State :=
  { t with gov := { t.gov with stage := govStage t, sMin := none, canaryMax := 0 }, free := t.free + 1 }

theorem execGovWindowEnd_of_slack {s : State} (hgov : governs s = true) {m : Int} (hm : s.gov.sMin = some m) :
    execGovWindowEnd s = .next (govAfresh (govJudge m (par s 0x60 0 0 * 25) (govMove (govStep m s) s))) := by
  simp only [execGovWindowEnd, hgov, hm]
  rfl

/-- At or above SLACK_LO the window moves the command and nothing else but its source (R463). -/
theorem goes_window_above {s : State} (hgov : governs s = true) {m : Int} (hm : s.gov.sMin = some m) (hlo : par s 0x60 0 0 * 25 ≤ m) :
    Goes .govWindowEnd s fun t => t.gov.sMin = none ∧ t.gov.canaryMax = 0 ∧ t.gov.v = govTarget (govStep m s) s := by
  refine ⟨_, execGovWindowEnd_of_slack hgov hm, rfl, rfl, ?_⟩
  have hgovKept : (clear 354 (govMove (govStep m s) s)).gov = (govMove (govStep m s) s).gov := (frame_clear _ 354).get State.gov
  rw [govJudge, if_neg (not_lt.2 hlo), ← govMove_v, ← hgovKept]
  rfl

/-- Settles O26: the three moves of a window by its least slack. -/
theorem governorWindow : Obligations.GovernorWindow := by
  unfold Obligations.GovernorWindow
  intro s
  refine ⟨fun hgov => by simp [exec, execGovWindowEnd, hgov, Machine.ok], fun m hgov hm hlo hhi => ?between, fun m hgov hm hhi hlo => ?above,
    fun m v hgov hm hlow hv => ⟨fun hmax => ?below, fun hmax hp hr hx => ?headroom⟩, rfl⟩
  case between =>
    have hstep : govStep m s = 0 := by rw [govStep, if_neg (not_lt.2 hlo), if_neg (not_lt.2 hhi)]
    obtain ⟨t, ht, hmin, hcan, hvt⟩ := goes_window_above hgov hm hlo
    refine ⟨t, ht, hmin, hcan, ?_⟩
    rw [hvt, hstep, govTarget, Int.add_zero]
  case above =>
    have hstep : govStep m s = -(par s 0x60 0 8 * 25) := by rw [govStep, if_neg (not_lt.2 hlo), if_pos hhi]
    obtain ⟨t, ht, hmin, -, hvt⟩ := goes_window_above hgov hm hlo
    refine ⟨t, ht, hmin, ?_⟩
    rw [hvt, hstep, govTarget, Int.sub_eq_add_neg]
  case below =>
    have hstep : govTarget (govStep m s) s = v := by rw [govStep, if_pos hlow, hv, govTarget]
    have hv' : (govMove (govStep m s) s).gov.v = v := (govMove_v ..).trans hstep
    refine ⟨_, execGovWindowEnd_of_slack hgov hm, ?_⟩
    rw [govJudge, if_pos hlow, if_neg (by rwa [hv'])]
    exact ⟨rfl, hv', rfl⟩
  case headroom =>
    have hstep : govTarget (govStep m s) s = v := by rw [govStep, if_pos hlow, hv, govTarget]
    have hv' : (govMove (govStep m s) s).gov.v = 8700 := (govMove_v ..).trans (hstep.trans hmax)
    refine ⟨_, execGovWindowEnd_of_slack hgov hm, ?_⟩
    rw [govJudge, if_pos hlow, if_pos hv']
    have hf : faultInfo 354 = some ⟨2, true, 1, false, false⟩ := by decide
    exact latched_raise (s := govMove (govStep m s) s) hf (fun v => by cases v <;> decide) hp hr hx []

/-! ### AVSBus -/

theorem avsFailed_first {s : State} (hpend : s.gov.writePend = true) (hretry : s.gov.retry = false) :
    avsFailed s = { s with gov := { s.gov with retry := true } } := by
  simp [avsFailed, hpend, hretry]

/-- The second failure of a transaction raises FLT_GOV_AVS (R458). -/
theorem avsFailed_again {s : State} (hpend : s.gov.writePend = true) (hretry : s.gov.retry = true) (hp : s.dev.porstN = true)
    (hr : s.dev.railHold = false) (hx : (rec? s 352).active = false) : Latched (avsFailed s) 352 := by
  have hf : faultInfo 352 = some ⟨2, true, 1, false, false⟩ := by decide
  simp only [avsFailed, hpend, hretry, Bool.not_true, Bool.false_eq_true, if_false, if_true]
  exact latched_raise (s := { s with gov := { s.gov with writePend := false, retry := false, blocked := true } })
    hf (fun v => by cases v <;> decide) hp hr hx []

/-- A transaction that is done waits for nothing more, unless the command has changed. -/
theorem avsDone_rest (g : Gov) : (avsDone g).retry = false ∧ (avsDone g).v = g.v := by
  refine ⟨?_, govCommand_v ..⟩
  unfold avsDone govCommand
  dsimp only
  split <;> rfl

/-- After a status read the bar on writes is gone, and the command is written again (R458, log 68). -/
def avsAnswered (t : State) : State :=
  { t with gov := { t.gov with blocked := false, written := t.gov.v, writePend := true, retry := false } }

/-! ### The monitors -/

theorem thermalSource_hot {src : Nat} {hi lo : Int} {dies : List Int} {d : Int} (hmem : d ∈ dies) (hd : hi < d) (s : State) :
    thermalSource src hi lo dies s = raise src (dies.flatMap (beI 2)) s := by
  rw [thermalSource, if_pos (List.any_eq_true.2 ⟨d, hmem, decide_eq_true hd⟩)]

theorem thermalSource_cool {src : Nat} {hi lo : Int} {dies : List Int} (hd : ∀ d ∈ dies, d < lo) (hlo : lo ≤ hi) (s : State) :
    thermalSource src hi lo dies s = clear src s := by
  have hany : ¬ dies.any (fun t => hi < t) = true := by
    simp only [List.any_eq_true, decide_eq_true_eq, not_exists, not_and, not_lt]
    exact fun d hmem => ((hd d hmem).le).trans hlo
  rw [thermalSource, if_neg hany, if_pos (List.all_eq_true.2 fun d hmem => decide_eq_true (hd d hmem))]

/-- A monitor of another source leaves a quiet record quiet and the lines that hold a device in reset as they are. -/
theorem thermalSource_other {src k : Nat} (hk : k ≠ src) (hi lo : Int) (dies : List Int) {s : State} (hq : Quiet k s) :
    Quiet k (thermalSource src hi lo dies s) ∧ resetLines (thermalSource src hi lo dies s) = resetLines s := by
  unfold thermalSource
  split
  · exact ⟨quiet_raise hk _ hq, resetLines_raise ..⟩
  · split
    · exact ⟨quiet_clear hq, (frame_clear s src).get resetLines⟩
    · exact ⟨hq, rfl⟩

/-- Settles O27: each answer of the bus, and each monitor on both sides of its limit. -/
theorem avsBusAndMonitors : Obligations.AvsBusAndMonitors := by
  unfold Obligations.AvsBusAndMonitors
  refine ⟨fun s => ⟨fun v hpend hnear => ?done, fun v hpend hretry hfar => ?read, fun hpend hretry => ?first, fun hpend hretry hp hr hx => ?again,
    fun hb => ?status⟩, fun s hp hr => ⟨fun hx => ?core, ?back, fun dies hhot hx => ?hot, fun dies _ hcool => ?cool⟩⟩
  case done =>
    have hwrite : exec (.avsTransactionDone (.write v)) s = .next { s with gov := avsDone s.gov } := by
      simp [exec, execAvsTransactionDone, hpend, hnear, Machine.ok]
    obtain ⟨hretry, hv⟩ := avsDone_rest s.gov
    exact ⟨⟨_, hwrite, hretry, hv, rfl⟩, rfl⟩
  case read =>
    simp [exec, execAvsTransactionDone, hpend, Nat.not_le.2 hfar, Machine.ok, avsFailed_first hpend hretry]
  case first => exact ⟨_, rfl, by rw [avsFailed_first hpend hretry], by rw [avsFailed_first hpend hretry]⟩
  case again => exact ⟨_, rfl, avsFailed_again hpend hretry hp hr hx⟩
  case status =>
    have hexec : exec (.avsTransactionDone .statusOk) s = .next (avsAnswered (clear 352 s)) := congrArg Host.Outcome.next (if_pos hb)
    have hgov : (clear 352 s).gov = s.gov := (frame_clear s 352).get State.gov
    refine ⟨_, hexec, rfl, (congrArg Gov.v hgov :), rfl, clear_active .., ?_⟩
    exact (frame_clear s 352).get (fun x => { x with gov := s.gov, fcru := s.fcru })
  case core =>
    have hf : faultInfo 353 = some ⟨0, true, 4, true, false⟩ := by decide
    exact ⟨_, rfl, latched_raise hf (fun v => by cases v <;> decide) hp hr hx []⟩
  case back => exact ⟨_, rfl, clear_active .., clear_rest ..⟩
  case hot =>
    obtain ⟨d, hmem, hd⟩ := hhot
    have hf : faultInfo 357 = some ⟨0, true, 4, true, false⟩ := by decide
    obtain ⟨hquiet, hlines⟩ := thermalSource_other (src := 356) (k := 357) (by decide) (par s 0x63 0 0 * 10) (par s 0x63 0 0 * 10 - 50) dies
      (s := { s with gov := { s.gov with temps := dies } }) hx
    refine ⟨_, rfl, ?_⟩
    dsimp only
    rw [thermalSource_hot hmem hd]
    exact latched_raise hf (fun v => by cases v <;> decide) ((congrArg Prod.fst hlines).trans hp) ((congrArg Prod.snd hlines).trans hr) hquiet _
  case cool =>
    refine ⟨_, rfl, ?_⟩
    dsimp only
    rw [thermalSource_cool (src := 357) (fun d hmem => (hcool d hmem).1) (by decide),
      thermalSource_cool (src := 356) (fun d hmem => (hcool d hmem).2) (by omega)]
    have hframe : Frame [.gov, .fcru] s (clear 357 (clear 356 { s with gov := { s.gov with temps := dies } })) :=
      .after (frame_clear _ 357) (.after (frame_clear _ 356) rfl)
    have htemps : (clear 357 (clear 356 { s with gov := { s.gov with temps := dies } })).gov = { s.gov with temps := dies } :=
      ((frame_clear _ 357).get State.gov).trans ((frame_clear _ 356).get State.gov)
    refine ⟨(congrArg Gov.temps htemps :), ?_, clear_active .., hframe.get (fun x => { x with gov := s.gov, fcru := s.fcru })⟩
    rw [clear_other _ (by decide)]
    exact clear_active ..

end Sys2Proof.Proofs
end

section
/-! What each operation of the mailboxes leaves in every mailbox (R315–R319, R321, R322). -/

set_option Elab.async false

namespace Sys2Proof.Proofs
open Sys2Proof Sys2Proof.Machine Sys2Proof.Laws

variable (s : State) (n k : Nat)

@[simp] theorem mget_vector (v : Nat) : mget (vector v s) k = mget s k := (frame_vector s v).get (mget · k)

/-- A mailbox with a bit of INT_STATUS set. -/
def withBit (b : Nat) (m : Mbx) : Mbx := { m with intStatus := m.intStatus ||| BitVec.ofNat 4 (2 ^ b) }

@[simp] theorem mget_withHost (x : HostIf) : mget { s with host := x } k = mget s k := rfl

@[simp] theorem mget_intBit (b : Nat) : mget (intBit n b s) k = if n = k then withBit b (mget s n) else mget s k := by
  unfold intBit
  extract_lets m rise set told
  have hset : mget set k = if n = k then withBit b (mget s n) else mget s k := mget_mset ..
  have htold : mget told k = mget set k := ite_keeps (mget · k) (a := vector n set) _ (mget_vector ..)
  rw [← hset, ← htold]
  exact ite_keeps (mget · k) _ rfl

@[simp] theorem mget_withStn (x : Stn) : mget { s with stn := x } k = mget s k := rfl

/-- A mailbox whose H2F side became empty (R315, R321). -/
def emptied (flushed : Bool) (m : Mbx) : Mbx := withBit 0 { m with h2fFull := false, emptyStatus := flushed }

@[simp] theorem mget_udpSend (b : Bind) (c : UdpKind) (st : Status) (q : Nat) (sq : Word) (bs : List Byte) :
    mget (udpSend b c st q sq bs s) k = mget s k := rfl

@[simp] theorem mget_h2fEmpty (flushed : Bool) : mget (h2fEmpty n flushed s) k = if n = k then emptied flushed (mget s n) else mget s k := by
  unfold h2fEmpty
  extract_lets cleared told _ sticky
  have htold : mget told k = if n = k then emptied flushed (mget s n) else mget s k := by
    simp only [told, cleared, mget_intBit, mget_mset, if_true]
    split_ifs <;> rfl
  have hsticky : mget sticky k = mget told k := ite_keeps (mget · k) _ rfl
  rw [← htold, ← hsticky]
  split <;> rfl

/-- Core power of a mailbox (R317). -/
@[simp] theorem mget_coreAwake (core : Nat) (on : Bool) :
    mget (coreAwake core on s) k = if k / 4 = core then { mget s k with coreAwake := on } else mget s k := by
  simp only [coreAwake, List.foldl_cons, List.foldl_nil, mget_mset]
  split_ifs <;> (try omega) <;> simp_all

/-- A mailbox whose session has ended (R336). -/
def sessionEnded (lost : Bool) (m : Mbx) : Mbx :=
  let ended := { m with sessOpen := false, role := none, mask := 0, credId := 0, party := 0, nonce := none,
                        epoch := if m.role.isSome then m.epoch + 1 else m.epoch }
  if lost then withBit 2 ended else ended

@[simp] theorem mget_withPound (x : Pound) : mget { s with pound := x } k = mget s k := rfl

@[simp] theorem mget_endSession (lost : Bool) : mget (endSession n lost s) k = if n = k then sessionEnded lost (mget s n) else mget s k := by
  unfold endSession
  extract_lets m owner had closed told
  have htold : mget told k = if n = k then sessionEnded lost (mget s n) else mget s k := by
    unfold told sessionEnded
    cases lost <;> simp only [Bool.false_eq_true, if_false, if_true, mget_intBit, closed, mget_mset] <;> split_ifs <;> rfl
  rw [← htold]
  exact ite_keeps (mget · k) _ rfl

/-- A mailbox whose owner's session was ended from outside, before the session's own end (R322). -/
def senderCleared (m : Mbx) : Mbx :=
  let left := m.reserved + b2n m.h2fFull
  { m with
    f2h := [], side := none, f2hFull := false
    intStatus := if m.side.isSome then m.intStatus &&& 0xD#4 else m.intStatus
    respDropped := min 0xFFFFFFFF (m.respDropped + (m.f2h.filter (fun x => !isEvent x)).length +
      b2n (match m.side with | some x => !isEvent x | none => false))
    ghost := match m.role with
      | some r => if left = 0 then none else some { epoch := m.epoch, role := r, party := m.party, left := left }
      | none => m.ghost
    parts := [], h2f := if m.h2fFull then m.h2f else [] }

@[simp] theorem mget_senderEnd (lost : Bool) :
    mget (senderEnd n lost s) k = if n = k then sessionEnded lost (senderCleared (mget s n)) else mget s k := by
  unfold senderEnd
  simp only [mget_endSession, mget_mset]
  by_cases hk : n = k
  · simp only [if_pos hk, if_true]; rfl
  · simp only [if_neg hk]

@[simp] theorem mget_senderReset :
    mget (senderReset n s) k = if n = k then sessionEnded (mget s n).role.isSome (senderCleared (mget s n)) else mget s k :=
  mget_senderEnd ..

/-- A mailbox after a receiver reset (R321). -/
def receiverCleared (m : Mbx) : Mbx := sessionEnded m.role.isSome (mbxCleared (if m.h2fFull then emptied true m else m))

@[simp] theorem mget_bindCleared : mget (bindCleared n s) k = mget s k := rfl

theorem mget_receiverResetOne : mget (receiverResetOne n s) k = if n = k then receiverCleared (mget s n) else mget s k := by
  unfold receiverResetOne receiverCleared
  dsimp only
  cases (mget s n).h2fFull <;> simp only [Bool.false_eq_true, if_false, if_true, mget_endSession, mget_bindCleared, mget_mset, mget_h2fEmpty] <;>
    split_ifs <;> rfl

variable {s n k}

/-- An operation on one mailbox after the other, each touching its own alone. -/
theorem mget_foldl_own {f : State → Nat → State} {g : Mbx → Mbx} (hf : ∀ s n k, mget (f s n) k = if n = k then g (mget s n) else mget s k) :
    ∀ {xs : List Nat} (_ : xs.Nodup) (s : State) (k : Nat), mget (xs.foldl f s) k = if k ∈ xs then g (mget s k) else mget s k
  | [], _, _, _ => rfl
  | x :: xs, hnodup, s, k => by
    obtain ⟨hx, hxs⟩ := List.nodup_cons.1 hnodup
    rw [List.foldl_cons, mget_foldl_own hf hxs, hf]
    by_cases hxk : x = k
    · subst hxk; simp [hx]
    · simp [hxk, Ne.symm hxk]

theorem mget_receiverReset (s : State) (k : Nat) : mget (receiverReset s) k = if k < 16 then receiverCleared (mget s k) else mget s k := by
  have h := mget_foldl_own (f := fun s n => receiverResetOne n s) (fun s n k => mget_receiverResetOne s n k) (List.nodup_range (n := 16))
    { s with pound := { s.pound with checking := none } } k
  simp only [List.mem_range] at h
  exact h

end Sys2Proof.Proofs
end

section
/-! The way of a message through a mailbox, what a mailbox refuses, and the resets of the mailboxes (R314–R322, R336). -/

set_option Elab.async false

namespace Sys2Proof.Proofs
open Sys2Proof Sys2Proof.Machine Sys2Proof.Laws

variable {s : State} {n : Nat}

/-! ### Each doorbell, take and release by its case -/

theorem exec_h2fPayloadWrite {off : Nat} {bytes : List Byte} (hup : pcieUp s = true) (hn : n < 8) (hne : bytes ≠ [])
    (hlen : off + bytes.length ≤ 256) (hempty : (mget s n).h2fFull = false) :
    exec (.h2fPayloadWrite n off bytes) s = .next (mset n (fun m => { m with h2f := splice m.h2f off bytes }) s) := by
  have hbad : ¬(bytes = [] ∨ 256 < off + bytes.length) := by simp [hne, hlen]
  simp [exec, execH2fPayloadWrite, Machine.unit, hup, hempty, show n < 16 by omega, Nat.not_le.2 hn, hbad]

theorem exec_h2fDoorbell (len : Nat) (hup : pcieUp s = true) (hn : n < 8) : exec (.h2fDoorbell n len) s = .next (doorbell n len s) := by
  simp [exec, execH2fDoorbell, Machine.unit, hup, show n < 16 by omega, Nat.not_le.2 hn]

theorem doorbell_posts {len : Nat} (hpos : 0 < len) (hlen : len ≤ 256) (hempty : (mget s n).h2fFull = false) : doorbell n len s = h2fPost n len s := by
  have hbad : ¬(len = 0 ∨ 256 < len) := by omega
  simp [doorbell, hbad, hempty]

theorem doorbell_full {len : Nat} (hpos : 0 < len) (hlen : len ≤ 256) (hfull : (mget s n).h2fFull = true) :
    doorbell n len s = mbxFull n (0x1004 + 0x40 * n) s := by
  have hbad : ¬(len = 0 ∨ 256 < len) := by omega
  simp [doorbell, hbad, hfull]

theorem doorbell_length {len : Nat} (h : len = 0 ∨ 256 < len) : doorbell n len s = mbxReject n 2 s := by
  simp [doorbell, h]

/-- A message that firmware took, before its place is reserved (R315, R317, R319). -/
def taken (n : Nat) (s : State) : State :=
  mset n (fun m => { m with h2fCount := m.h2fCount + 1 }) (coreAwake (coreOf n) true (h2fEmpty n false s))

theorem frame_coreAwake (core : Nat) (on : Bool) (s : State) : Frame [.mbx] s (coreAwake core on s) :=
  .foldl _ .refl fun _ _ _ => frame_mset ..

/-- Within the mailboxes means that nothing but them differs. -/
theorem onlyMail_of_frame {s t : State} (h : Frame [.mbx] s t) : OnlyMail s t := by
  unfold OnlyMail
  exact h.get (fun u => { u with mbx := s.mbx })

theorem frame_h2fPost (n len : Nat) (s : State) : Frame [.mbx] s (h2fPost n len s) := .after (frame_coreAwake ..) (frame_mset ..)

theorem frame_taken (n : Nat) (s : State) : Frame [.mbx, .host, .stn] s (taken n s) :=
  .after (frame_mset ..) (.after (frame_coreAwake ..) (frame_h2fEmpty s n false))

theorem mget_taken (n : Nat) (s : State) :
    mget (taken n s) n = { emptied false (mget s n) with coreAwake := true, h2fCount := (mget s n).h2fCount + 1 } := by
  simp only [taken, mget_mset, mget_coreAwake, mget_h2fEmpty, coreOf, if_true]
  rfl

/-- A place is reserved for the response of a message (R319). -/
def placed (m : Mbx) : Mbx := { m with reserved := m.reserved + 1 }

theorem exec_h2fTake_reserves (hready : s.dev.mpcReady = true) (hn : n < 16) (hfull : (mget s n).h2fFull = true) (hroom : (mget s n).reserved < 8) :
    exec (.h2fTake n) s = .next (mset n placed (taken n s)) := by
  simp [exec, execH2fTake, Machine.unit, hready, hn, hfull, Nat.not_le.2 hroom, taken]
  rfl

/-- A message discarded for want of a place (R319). -/
def overrun (m : Mbx) : Mbx :=
  { m with overruns := cnt32 m.overruns, ghost := m.ghost.map (fun g => if m.reserved < g.left then { g with left := g.left - 1 } else g) }

theorem exec_h2fTake_discards (hready : s.dev.mpcReady = true) (hn : n < 16) (hfull : (mget s n).h2fFull = true) (hroom : 8 ≤ (mget s n).reserved) :
    exec (.h2fTake n) s = .next (intBit n 3 (mset n overrun (taken n s))) := by
  simp only [exec, execH2fTake, Machine.unit, hready, hn, hfull, hroom, Bool.not_true, Bool.or_self, Bool.false_eq_true, if_true, if_false]
  rfl

/-- The oldest queued message enters the side (R318). -/
def entered (x : Msg) (xs : List Msg) (m : Mbx) : Mbx := { m with side := some x, f2hFull := true, f2h := xs }

/-- On Ethernet the message leaves as F2H_DATA (R249, R250). -/
def f2hSent (n : Nat) (x : Msg) (t : State) : State :=
  match onUdp n, t.stn.binds.find n with
  | true, some b =>
    udpSend b .f2hData .ok n (b.f2hSeq + 1) (msgBytes x)
      { t with stn := { t.stn with binds := t.stn.binds.set n { b with f2hSeq := b.f2hSeq + 1, outstanding := true, repeats := 0 } } }
  | _, _ => t

@[simp] theorem mget_f2hSent (n : Nat) (x : Msg) (t : State) (k : Nat) : mget (f2hSent n x t) k = mget t k := by
  unfold f2hSent
  split <;> rfl

theorem frame_f2hSent (n : Nat) (x : Msg) (t : State) : Frame [.stn] t (f2hSent n x t) := by
  unfold f2hSent
  split <;> rfl

theorem exec_f2hMessageEnter {x : Msg} {xs : List Msg} (hready : s.dev.mpcReady = true) (hn : n < 16) (hfree : (mget s n).f2hFull = false)
    (hq : (mget s n).f2h = x :: xs) : exec (.f2hMessageEnter n) s = .next (f2hSent n x (intBit n 1 (mset n (entered x xs) s))) := by
  simp only [exec, execF2hMessageEnter, hready, hfree, hq, Machine.unit, hn, Bool.not_false, Bool.and_true, decide_true, if_true]
  rfl

theorem exec_f2hRelease {x : Msg} (hup : pcieUp s = true) (hn : n < 8) (hfull : (mget s n).f2hFull = true) (hside : (mget s n).side = some x)
    (hmore : x.more = false) : exec (.f2hRelease n) s = .next (mset n (fun m => { m with f2hFull := false, side := none }) s) := by
  simp [exec, execF2hRelease, Machine.unit, hup, show n < 16 by omega, Nat.not_le.2 hn, f2hAck, hfull, hside, hmore]

/-- A rejected write is noted in its mailbox alone (R316). -/
theorem mbxReject_notes (reason : Nat) :
    mget (mbxReject n reason s) n = { mget s n with rejected := true, reason := reason, rejects := cnt32 (mget s n).rejects } ∧
    OnlyMail s (mbxReject n reason s) := ⟨(mget_mset ..).trans (if_pos rfl), rfl⟩

/-- Settles O28: the cases of each command of a mailbox. -/
theorem mailboxFlow : Obligations.MailboxFlow := by
  unfold Obligations.MailboxFlow
  refine ⟨fun s n => ⟨fun off bytes hup hn hne hlen hempty => ?write, fun len hup hn hpos hlen hempty => ?post,
    fun hready hn hfull hroom => ?take, fun x xs hready hn hfree hq => ?enter, fun x hup hn hfull hside hmore => ?release⟩,
    fun s n len hup => ⟨fun hn hpos hlen hfull => ?full, fun hn hlen => ?length, fun hlo hn => ?foreign, fun hn hready hfull hroom => ?overrun⟩⟩
  case write =>
    exact ⟨_, exec_h2fPayloadWrite hup hn hne hlen hempty, by simp, fun k hk => by simp [Ne.symm hk], rfl⟩
  case post =>
    refine ⟨_, (exec_h2fDoorbell len hup hn).trans (congrArg _ (doorbell_posts hpos hlen hempty)), ?_, fun k hk => ?_, onlyMail_of_frame (frame_h2fPost ..)⟩
    · simp [h2fPost, coreOf]
    · by_cases hcore : k / 4 = n / 4
      · simp [h2fPost, coreOf, hcore, Ne.symm hk]
      · simp only [h2fPost, coreOf, mget_coreAwake, mget_mset, if_neg hcore, if_neg (Ne.symm hk), beq_eq_false_iff_ne.2 hcore, Bool.or_false]
  case take =>
    have hm : mget (mset n placed (taken n s)) n = placed (mget (taken n s) n) := (mget_mset ..).trans (if_pos rfl)
    rw [mget_taken] at hm
    have hrest := (frame_taken n s).get (fun u => { u with mbx := s.mbx, host := s.host, stn := s.stn })
    exact ⟨_, exec_h2fTake_reserves hready hn hfull hroom, by rw [hm]; rfl, by rw [hm]; rfl, by rw [hm]; rfl, by rw [hm]; rfl, by rw [hm]; rfl, hrest⟩
  case enter =>
    have hm : mget (f2hSent n x (intBit n 1 (mset n (entered x xs) s))) n = withBit 1 (entered x xs (mget s n)) := by simp
    have hframe : Frame [.mbx, .host, .stn] s (f2hSent n x (intBit n 1 (mset n (entered x xs) s))) :=
      .after (frame_f2hSent ..) (.after (frame_intBit ..) (frame_mset ..).mono)
    exact ⟨_, exec_f2hMessageEnter hready hn hfree hq, by rw [hm]; rfl, by rw [hm]; rfl, by rw [hm]; rfl, by rw [hm]; rfl,
      hframe.get (fun u => { u with mbx := s.mbx, host := s.host, stn := s.stn })⟩
  case release => exact ⟨_, exec_f2hRelease hup hn hfull hside hmore, by simp, fun k hk => by simp [Ne.symm hk], rfl⟩
  case full =>
    refine ⟨_, (exec_h2fDoorbell len hup hn).trans (congrArg _ (doorbell_full hpos hlen hfull)), ?_, fun k hk => ?_, rfl, rfl⟩
    · exact mbxReject_notes 1 |>.1
    · exact (mget_mset ..).trans (if_neg (Ne.symm hk))
  case length => exact ⟨_, (exec_h2fDoorbell len hup hn).trans (congrArg _ (doorbell_length hlen)), mbxReject_notes 2⟩
  case foreign =>
    have hexec : exec (.h2fDoorbell n len) s = .next (mbxReject n 3 s) := by simp [exec, execH2fDoorbell, Machine.unit, hup, hn, hlo]
    exact ⟨_, hexec, mbxReject_notes 3⟩
  case overrun =>
    have hm : mget (intBit n 3 (mset n overrun (taken n s))) n = withBit 3 (overrun (mget (taken n s) n)) := by simp
    have hbit : (withBit 3 (overrun (mget (taken n s) n))).intStatus.getLsbD 3 = true := by simp [withBit]
    rw [mget_taken] at hm hbit
    exact ⟨_, exec_h2fTake_discards hready hn hfull hroom, by rw [hm]; rfl, by rw [hm]; rfl, by rw [hm]; rfl, by rw [hm]; exact hbit⟩

end Sys2Proof.Proofs
end

section
/-! The resets of the mailboxes (R321, R322, R332, R336). -/

set_option Elab.async false

namespace Sys2Proof.Proofs
open Sys2Proof Sys2Proof.Machine Sys2Proof.Laws

variable {s : State} {n : Nat}

theorem exec_mbxReset (hup : pcieUp s = true) (hn : n < 8) (v : Nat) :
    exec (.mbxReset n v) s = .next (if v % 256 = 0xA5 then senderReset n s else s) := by
  simp [exec, execMbxReset, Machine.unit, hup, show n < 16 by omega, Nat.not_le.2 hn]

/-- A change of a mailbox depends on the mailbox as it stands. -/
theorem mset_congr {f g : Mbx → Mbx} (h : f (mget s n) = g (mget s n)) : mset n f s = mset n g s := by
  have hupd : s.mbx.upd n {} f = s.mbx.upd n {} g := congrArg (s.mbx.set n) h
  simp only [mset, hupd]

/-- A mailbox after a receiver reset is empty and without a session, whose epoch has risen (R321). -/
theorem receiverCleared_rest (m : Mbx) : (receiverCleared m).role = none ∧ (receiverCleared m).h2fFull = false ∧
    (receiverCleared m).f2hFull = false ∧ (receiverCleared m).f2h = [] ∧ (receiverCleared m).reserved = 0 ∧
    (receiverCleared m).epoch = m.epoch + (if m.role.isSome then 1 else 0) := by
  unfold receiverCleared sessionEnded mbxCleared
  cases hfull : m.h2fFull <;> cases hrole : m.role <;> simp [emptied, withBit, hfull, hrole]

/-- A sender reset of a mailbox without a session touches the mailboxes alone (R322). -/
theorem onlyMail_senderReset (hrole : (mget s n).role = none) : OnlyMail s (senderReset n s) := by
  have hrole' : (mget (mset n senderCleared s) n).role = none := by simp [senderCleared, hrole]
  have hframe : Frame [.mbx] (mset n senderCleared s) (endSession n false (mset n senderCleared s)) := by
    unfold endSession
    simp only [hrole', Option.isSome_none, Bool.false_and, Bool.false_eq_true, if_false]
    exact frame_mset ..
  have hreset : senderReset n s = endSession n false (mset n senderCleared s) := by
    simp only [senderReset, senderEnd, hrole, Option.isSome_none]
    exact congrArg (endSession n false) (mset_congr (by simp only [senderCleared, hrole] <;> rfl))
  rw [hreset]
  exact onlyMail_of_frame (.after hframe (frame_mset ..))

/-- SESSION_RESET through the clearing of the F2H side (R318, R322). -/
theorem senderCleared_bit (m : Mbx) : (senderCleared m).intStatus.getLsbD 2 = m.intStatus.getLsbD 2 := by
  unfold senderCleared
  dsimp only
  split <;> simp

theorem exec_mpcReceiverReset (h : s.dev.mpcReady = true ∨ s.dev.mpcRestarting = true) :
    exec .mpcReceiverReset s =
      .next { receiverReset s with dev := { (receiverReset s).dev with mpcReady := false, mpcRestarting := true } } := by
  have hc : (s.dev.mpcReady || s.dev.mpcRestarting) = true := by simpa using h
  exact congrArg Host.Outcome.next (if_pos hc)

/-- Settles O29: a sender reset by whether a session stood, and a restart of the MPC mailbox by mailbox. -/
theorem mailboxResets : Obligations.MailboxResets := by
  unfold Obligations.MailboxResets
  refine ⟨fun s n hup hn => ⟨fun r hrole => ?session, fun hrole => ?none, fun v hv => ?other, fun k v hlo hhi => ?foreign⟩,
    fun s => ⟨fun h => ?restart, fun hr hs => ?before, fun h => congrArg Host.Outcome.next (if_pos h), fun h => congrArg Host.Outcome.next (if_neg (by simp [h]))⟩⟩
  case session =>
    have hm : mget (senderReset n s) n = sessionEnded true (senderCleared (mget s n)) := by simp [hrole]
    refine ⟨_, exec_mbxReset hup hn 0xA5, ?_⟩
    have hgo : (if 0xA5 % 256 = 0xA5 then senderReset n s else s) = senderReset n s := if_pos rfl
    rw [hgo]
    dsimp only
    rw [hm]
    refine ⟨rfl, rfl, ?_, ?_, rfl, rfl, rfl, rfl, rfl, fun k hk => by simp [Ne.symm hk], ?_⟩
    · simp [sessionEnded, withBit, hrole, senderCleared]
    · simp [sessionEnded, withBit]
    · exact (frame_senderReset s n).get (fun u => { u with mbx := s.mbx, host := s.host, pound := s.pound })
  case none =>
    have hm : mget (senderReset n s) n = sessionEnded false (senderCleared (mget s n)) := by simp [hrole]
    refine ⟨_, exec_mbxReset hup hn 0xA5, ?_⟩
    have hgo : (if 0xA5 % 256 = 0xA5 then senderReset n s else s) = senderReset n s := if_pos rfl
    rw [hgo]
    dsimp only
    rw [hm]
    refine ⟨?_, rfl, rfl, senderCleared_bit _, onlyMail_senderReset hrole⟩
    simp [sessionEnded, hrole, senderCleared]
  case other => exact (exec_mbxReset hup hn v).trans (congrArg _ (if_neg hv))
  case foreign =>
    have hexec : exec (.mbxReset k v) s = .next (mbxReject k 3 s) := by simp [exec, execMbxReset, Machine.unit, hup, hhi, hlo]
    exact ⟨_, hexec, mbxReject_notes 3⟩
  case restart =>
    have hexec := exec_mpcReceiverReset h
    have hframe := frame_receiverReset s
    have hmget := mget_receiverReset s
    generalize receiverReset s = u at hexec hframe hmget
    have hdev : u.dev = s.dev := hframe.get State.dev
    refine ⟨_, hexec, by rw [hdev], fun n hn => ?_, ?_⟩
    · have hm : mget u n = receiverCleared (mget s n) := (hmget n).trans (if_pos hn)
      have hrest := receiverCleared_rest (mget s n)
      rw [← hm] at hrest
      exact hrest
    · exact hframe.get (fun x => { x with dev := s.dev, mbx := s.mbx, host := s.host, stn := s.stn, pound := s.pound })
  case before => exact congrArg Host.Outcome.next (if_neg (by simp [hr, hs]))

end Sys2Proof.Proofs
end

section
/-! Registers over PCI Express, the time snapshot and the hold (R30, R256, R310–R313, R327, R328, R330). -/

set_option Elab.async false

namespace Sys2Proof.Proofs
open Sys2Proof Sys2Proof.Machine Sys2Proof.Laws

variable {s : State}

/-! ### A write of a register (R310) -/

theorem exec_registerWrite_down (hup : pcieUp s = false) (target : Nat × Nat) (v : Word) : exec (.registerWrite target v) s = .next s := by
  simp [exec, execRegisterWrite, hup, Machine.ok]

theorem exec_registerWrite_reg (hup : pcieUp s = true) {off : Nat} (hoff : off % 4 = 0) (v : Word) :
    exec (.registerWrite (0, off) v) s = .next (regWrite false off v s) := by
  simp [exec, execRegisterWrite, hup, Machine.ok, hoff]

theorem exec_registerWrite_unaligned (hup : pcieUp s = true) {off : Nat} (hoff : off % 4 ≠ 0) (v : Word) :
    exec (.registerWrite (0, off) v) s = .next (aerUnsupported 0 off s) := by
  simp [exec, execRegisterWrite, hup, Machine.ok, hoff]

theorem exec_registerWrite_bulk (hup : pcieUp s = true) (off : Nat) (v : Word) :
    exec (.registerWrite (2, off) v) s = .next (aerUnsupported 2 off s) := by
  simp [exec, execRegisterWrite, hup, Machine.ok]

theorem exec_registerWrite_msix (hup : pcieUp s = true) {off : Nat} (hoff : off % 4 = 0) (v : Word) :
    exec (.registerWrite (4, off) v) s = .next (msixWrite off v s) := by
  simp [exec, execRegisterWrite, hup, Machine.ok, hoff]

theorem word_ofNat_toNat (v : Word) : BitVec.ofNat 32 v.toNat = v := by simp

/-- The bit of one vector in a mask of 32. -/
theorem getLsbD_twoPow32 {k j : Nat} (hk : k < 32) : (BitVec.ofNat 32 (2 ^ k)).getLsbD j = decide (j = k) := by
  rw [BitVec.getLsbD_ofNat, Nat.testBit_two_pow]
  by_cases hj : k = j
  · subst hj; simp [hk]
  · simp [hj, Ne.symm hj]

/-- The mask of vector `k` takes the value written, and no other changes (R313). -/
theorem msixWrite_mask {k : Nat} (hk : k < 32) (v : Word) :
    (msixWrite (16 * k + 12) v s).host.vecMask.getLsbD k = v.getLsbD 0 ∧
    (∀ j, j ≠ k → (msixWrite (16 * k + 12) v s).host.vecMask.getLsbD j = s.host.vecMask.getLsbD j) := by
  have hoff : ¬ 0x200 ≤ 16 * k + 12 := by omega
  have hmod : (16 * k + 12) % 16 = 12 := by omega
  have hdiv : (16 * k + 12) / 16 = k := by omega
  simp only [msixWrite, if_neg hoff, if_pos hmod, hdiv]
  cases hv : v.getLsbD 0 <;>
    simp only [Bool.false_eq_true, if_true, if_false, BitVec.getLsbD_or, BitVec.getLsbD_and, BitVec.getLsbD_not, getLsbD_twoPow32 hk, decide_true,
      Bool.or_true, Bool.not_true, Bool.and_false, true_and]
  all_goals
    intro j hj
    by_cases hj32 : j < 32
    · simp [hj, hj32]
    · simp [hj, BitVec.getLsbD_of_ge _ _ (Nat.not_lt.1 hj32)]

theorem msixWrite_message {k : Nat} (hk : k < 128) (hmod : k % 4 ≠ 3) (v : Word) :
    msixWrite (4 * k) v s = { s with host := { s.host with msix := s.host.msix.set k v } } := by
  have hoff : ¬ 0x200 ≤ 4 * k := by omega
  have hmod' : ¬ 4 * k % 16 = 12 := by omega
  have hdiv : 4 * k / 4 = k := by omega
  simp only [msixWrite, if_neg hoff, if_neg hmod', hdiv]

theorem regWrite_mailbox (spi : Bool) {n r : Nat} (hn : n < 8) (hr : r < 0x40) (v : Word) :
    regWrite spi (0x1000 + 0x40 * n + r) v s = mbxWrite n r v s := by
  have hlo : ¬ 0x1000 + 0x40 * n + r < 0x1000 := by omega
  have hhi : 0x1000 + 0x40 * n + r < 0x1400 := by omega
  have hdiv : (0x1000 + 0x40 * n + r - 0x1000) / 0x40 = n := by omega
  have hmod : (0x1000 + 0x40 * n + r) % 0x40 = r := by omega
  simp only [regWrite, if_neg hlo, if_pos hhi, hdiv, hmod, if_pos (Or.inl hn : n < 8 ∨ _)]

/-! ### The time snapshot (R256, R330) -/

/-- The advance of the counters leaves the snapshot. -/
theorem advanceTime_snapSeq (follow : Bool) (step : Int) (n : Nat) (t : Time) : (advanceTime follow step n t).snapSeq = t.snapSeq := by
  unfold advanceTime
  dsimp only
  split <;> rfl

@[simp] theorem advance_snapSeq (n : Nat) (s : State) : (advance n s).time.snapSeq = s.time.snapSeq := by
  unfold advance
  dsimp only
  split
  · exact advanceTime_snapSeq ..
  · rfl

@[simp] theorem advanceTo_snapSeq (n : Nat) (s : State) : (advanceTo n s).time.snapSeq = s.time.snapSeq := by
  unfold advanceTo
  split
  · exact advance_snapSeq ..
  · rfl

theorem advanceTo_now (n : Nat) (s : State) : (advanceTo n s).now = max s.now n := by
  unfold advanceTo advance
  split
  · dsimp only; omega
  · omega

/-- The fields of a tick, latched (R330). -/
def latchSnap (t : State) : State :=
  let flags := b2n t.time.td0.valid + 2 * b2n t.time.td1.valid + 4 * t.time.active + 8 * b2n t.time.slew
  { t with time := { t.time with snapDone := true, snapSeq := t.time.snapSeq + 1, snapFlags := BitVec.ofNat 32 flags, snapRegs := snapFields t } }

theorem snapFields_ct (t : State) : (snapFields t).get 0x18 0 = t.time.ct.ns.setWidth 32 ∧ (snapFields t).get 0x10 0 = t.time.ct.sec.setWidth 32 ∧
    (snapFields t).get 0x40 0 = t.cyc.n.setWidth 32 := by
  refine ⟨?_, ?_, ?_⟩ <;> simp [snapFields, SMap.get, SMap.find]

theorem exec_snapTrigger (k : Nat) (hstate : s.dev.state ≠ .reset) : exec (.snapTrigger k) s = .next (snapTrigger (advanceTo k s)) := by
  have hup : spiUp (advanceTo k s) = true := by simp [spiUp, hstate]
  exact congrArg Host.Outcome.next (if_pos hup)

/-- Settles O31: each register by its offset, then the snapshot and the hold. -/
theorem hostRegistersAndSnapshot : Obligations.HostRegistersAndSnapshot := by
  unfold Obligations.HostRegistersAndSnapshot
  refine ⟨fun s v => ⟨fun hup bar off => exec_registerWrite_down hup _ v, fun hup off hoff => exec_registerWrite_unaligned hup hoff v,
    fun hup off => exec_registerWrite_bulk hup off v, fun hup k hk => ?mask, fun hup k hk hmod => ?message, fun hup => ?scratch, fun hup => ?bulk0,
    fun hup => ?bulk1, fun hup n hn => ?enable⟩, fun s => ⟨fun k hstate => ?snap, fun b hstate => ?hold, fun hhold hcfg hmask => ?timeout, fun hhold => ?free⟩⟩
  case mask =>
    obtain ⟨hself, hother⟩ := msixWrite_mask (s := s) hk v
    refine ⟨_, exec_registerWrite_msix hup (by omega) v, hself, hother, ?_⟩
    unfold msixWrite
    split
    · rfl
    · split <;> rfl
  case message =>
    have hexec := exec_registerWrite_msix hup (off := 4 * k) (by omega) v
    rw [msixWrite_message hk hmod] at hexec
    exact ⟨_, hexec, by simp, fun j hj => by simp [Ne.symm hj], rfl, rfl⟩
  case scratch => exact ⟨_, exec_registerWrite_reg hup rfl v, word_ofNat_toNat v, rfl⟩
  case bulk0 => exact ⟨_, exec_registerWrite_reg hup rfl v, rfl, rfl, rfl⟩
  case bulk1 => exact ⟨_, exec_registerWrite_reg hup rfl v, rfl, rfl, rfl⟩
  case enable =>
    have hexec := exec_registerWrite_reg hup (off := 0x1000 + 0x40 * n + 0x14) (by omega) v
    rw [regWrite_mailbox false hn (by decide) v] at hexec
    have hoff : 0x1014 + 0x40 * n = 0x1000 + 0x40 * n + 0x14 := by omega
    rw [hoff]
    exact ⟨_, hexec, by simp [mbxWrite], fun k hk => by simp [mbxWrite, Ne.symm hk], rfl⟩
  case snap =>
    have hframe : Frame [.now, .time] s (latchSnap (tick (advanceTo k s))) := .after (qs := [.now, .time]) rfl (frame_advanceTo s k)
    have hv := frame_vector (latchSnap (tick (advanceTo k s))) 14
    have hall : Frame [.now, .time, .host] s (snapTrigger (advanceTo k s)) := .after hv hframe.mono
    have htime : (snapTrigger (advanceTo k s)).time = (latchSnap (tick (advanceTo k s))).time := hv.get State.time
    have hcyc : (snapTrigger (advanceTo k s)).cyc = (latchSnap (tick (advanceTo k s))).cyc := hv.get State.cyc
    have hnow : (snapTrigger (advanceTo k s)).now = (advanceTo k s).now + 1 := hv.get State.now
    obtain ⟨hns, hsec, hn⟩ := snapFields_ct (tick (advanceTo k s))
    refine ⟨_, exec_snapTrigger k hstate, by rw [hnow, advanceTo_now], ?_, ?_, ?_, ?_, ?_, hall.get State.cyc,
      hall.get (fun u => { u with now := s.now, time := s.time, host := s.host })⟩
    · rw [htime]; rfl
    · have hseq : (tick (advanceTo k s)).time.snapSeq = s.time.snapSeq := (advance_snapSeq ..).trans (advanceTo_snapSeq ..)
      rw [htime, ← hseq]; rfl
    · rw [htime]; exact hns
    · rw [htime]; exact hsec
    · rw [htime, hcyc]; exact hn
  case hold =>
    have hup : spiUp s = true := by simp [spiUp, hstate]
    exact congrArg Host.Outcome.next (if_pos hup)
  case timeout =>
    refine (congrArg Host.Outcome.next (if_pos hhold)).trans (congrArg Host.Outcome.next ?_)
    simp only [vector, hcfg, hmask, Bool.not_true, Bool.false_eq_true, if_false]
  case free => exact congrArg Host.Outcome.next (if_neg (by simp [hhold]))

end Sys2Proof.Proofs
end

section
/-! The emergency controls, the SPI management port and the BULK window (R27, R29, R310–R312, R322, R324–R326, R331, R332). -/

set_option Elab.async false

namespace Sys2Proof.Proofs
open Sys2Proof Sys2Proof.Machine Sys2Proof.Laws

variable {s : State}

/-! ### Emergency controls -/

/-- The arming of a transport (R331). -/
def armedOn (spi : Bool) (t : State) : Bool := if spi then t.host.armedSpi else t.host.armedPcie

theorem emergCtrl_of_unarmed {spi : Bool} (harm : armedOn spi s = false) (v : Nat) : emergCtrl spi v s = emergIgnored s := by
  have harm' : (if spi then s.host.armedSpi else s.host.armedPcie) = false := harm
  simp [emergCtrl, harm']

theorem emergCtrl_of_armed {spi : Bool} (harm : armedOn spi s = true) :
    emergCtrl spi 1 s = hostBlockAct (disarm spi s) ∧ emergCtrl spi 2 s = mpcRestart (disarm spi s) ∧
    emergCtrl spi 4 s = warmState (disarm spi s) ∧ emergCtrl spi 0 s = emergIgnored s := by
  have harm' : (if spi then s.host.armedSpi else s.host.armedPcie) = true := harm
  simp [emergCtrl, harm']

theorem armedOn_disarm (spi : Bool) (s : State) : armedOn spi (disarm spi s) = false := by
  cases spi <;> rfl

theorem armedOn_warmState (spi : Bool) (s : State) : armedOn spi (warmState s) = false := by
  unfold warmState
  generalize receiverReset s = u
  cases spi <;> rfl

/-- A restart of a ready MPC (R332). -/
theorem mpcRestart_dev (hready : s.dev.mpcReady = true) : (mpcRestart s).dev = { s.dev with mpcReady := false, mpcRestarting := true } := by
  have hdev : (receiverReset s).dev = s.dev := (frame_receiverReset s).get State.dev
  simp [mpcRestart, hready, hdev]

theorem exec_emergency {spi : Bool} (hreach : reach spi s = true) :
    exec (.hostBlock spi) s = .next (emergCtrl spi 1 s) ∧ exec (.mpcRestart spi) s = .next (emergCtrl spi 2 s) ∧
    exec (.warmReset spi) s = .next (emergCtrl spi 4 s) ∧ exec (.emergCtrlIgnored spi) s = .next (emergCtrl spi 0 s) :=
  ⟨congrArg Host.Outcome.next (if_pos hreach), congrArg Host.Outcome.next (if_pos hreach), congrArg Host.Outcome.next (if_pos hreach),
    congrArg Host.Outcome.next (if_pos hreach)⟩

/-- Settles O32: each control where its transport is armed, and where it is not. -/
theorem emergencyControls : Obligations.EmergencyControls := by
  unfold Obligations.EmergencyControls
  intro s spi hreach
  obtain ⟨hblock, hmpc, hwarm, hnone⟩ := exec_emergency hreach
  refine ⟨?key, fun v hv => ?other, ⟨_, rfl, armedOn_disarm spi s, rfl⟩, fun harm hfol => ?block, fun harm hready => ?restart, fun harm => ?warm,
    fun c hc harm => ?unarmed, ?ignored⟩
  case key =>
    refine ⟨emergKey spi 0x5E8A#32 s, congrArg Host.Outcome.next (if_pos hreach), ?_, rfl⟩
    cases spi <;> rfl
  case other =>
    refine congrArg Host.Outcome.next ((if_pos hreach).trans ?_)
    simp [emergKey, hv]
  case block =>
    have hact : hostBlockAct (disarm spi s) = { disarm spi s with cyc := { s.cyc with blockReq := s.cyc.blockReq || runs s } } := by
      have hfol' : follower (disarm spi s) = false := hfol
      simp only [hostBlockAct, hfol', Bool.false_eq_true, if_false]
      rfl
    refine ⟨_, hblock.trans (congrArg _ ((emergCtrl_of_armed harm).1.trans hact)), ?_, rfl, rfl⟩
    exact armedOn_disarm spi s
  case restart =>
    have hdev := mpcRestart_dev (s := disarm spi s) hready
    exact ⟨_, hmpc.trans (congrArg _ (emergCtrl_of_armed harm).2.1), by rw [hdev], by rw [hdev], by rw [hdev]; rfl⟩
  case warm =>
    obtain ⟨hstate, hcold, hotp, -⟩ := warmState_restarts (disarm spi s)
    exact ⟨_, hwarm.trans (congrArg _ (emergCtrl_of_armed harm).2.2.1), hstate, hotp, hcold, armedOn_warmState spi _⟩
  case unarmed =>
    simp only [List.mem_cons, List.not_mem_nil, or_false] at hc
    rcases hc with rfl | rfl | rfl
    · exact hblock.trans (congrArg _ (emergCtrl_of_unarmed harm 1))
    · exact hmpc.trans (congrArg _ (emergCtrl_of_unarmed harm 2))
    · exact hwarm.trans (congrArg _ (emergCtrl_of_unarmed harm 4))
  case ignored =>
    refine hnone.trans (congrArg _ ?_)
    cases harm : armedOn spi s with
    | false => exact emergCtrl_of_unarmed harm 0
    | true => exact (emergCtrl_of_armed harm).2.2.2

/-! ### The SPI management port -/

theorem spiUp_of_state (hstate : s.dev.state ≠ .reset) : spiUp s = true := by simp [spiUp, hstate]

theorem exec_spiRegRead {off : Nat} (hstate : s.dev.state ≠ .reset) (hreach : spiReach off = true) :
    exec (.spiRegRead off 1) s =
      .next { spiSend ((Config.freeWord s.free).setWidth 8 :: be 4 (regRead s off).toNat ++ be 2 (crc16 (be 4 (regRead s off).toNat)).toNat) s with
        free := s.free + 1 } := by
  simp [exec, execSpiRegRead, spiUp_of_state hstate, hreach, Machine.ok, List.range_succ]

theorem exec_spiRegWrite_bad (hstate : s.dev.state ≠ .reset) {off : Nat} {v : Word} {c : BitVec 16} (hcrc : crc16 (be 3 off ++ be 4 v.toNat) ≠ c) :
    exec (.spiRegWrite off v c) s = .next (spiSend [0xE2#8] s) := by
  simp [exec, execSpiRegWrite, spiUp_of_state hstate, hcrc, Machine.ok]

theorem exec_spiRegWrite_scratch (hstate : s.dev.state ≠ .reset) (v : Word) :
    exec (.spiRegWrite 0x40 v (crc16 (be 3 0x40 ++ be 4 v.toNat))) s = .next (regWrite true 0x40 v (spiSend [0x5A#8] s)) := by
  have hreach : spiReach 0x40 = true := by decide
  simp [exec, execSpiRegWrite, spiUp_of_state hstate, hreach, Machine.ok]

theorem exec_spiH2fWrite (hstate : s.dev.state ≠ .reset) {p : List Byte} (hpos : 0 < p.length) (hlen : p.length ≤ 256)
    (hempty : (mget s 14).h2fFull = false) :
    exec (.spiH2fWrite p.length p (crc16 (be 2 p.length ++ p))) s =
      .next (h2fPost 14 p.length (mset 14 (fun m => { m with h2f := p }) (spiSend [0x5A#8] s))) := by
  have hbad : ¬(p.length = 0 ∨ 256 < p.length) := by omega
  simp only [exec, execSpiH2fWrite, spiUp_of_state hstate, ne_eq, not_true, if_false, hbad, hempty, Bool.not_true, Bool.false_eq_true, Machine.ok]

theorem frame_spiSend (bs : List Byte) (s : State) : Frame [.host] s (spiSend bs s) := rfl

/-- The end of a mailbox's session from outside, but for its epoch. -/
theorem sessionOf_senderReset (n : Nat) (s : State) : sessionOf (senderReset n s) n = false := by
  simp only [sessionOf, mget_senderReset, if_true]
  cases (mget s n).role.isSome <;> rfl

theorem intBit_miso (n b : Nat) (hn : 8 ≤ n) (s : State) : (intBit n b s).host.miso = s.host.miso := by
  have hlt : decide (n < 8) = false := decide_eq_false (by omega)
  simp only [intBit, hlt, Bool.and_false, Bool.false_and, Bool.false_eq_true, if_false]
  exact ite_keeps (fun t : State => t.host.miso) _ rfl

/-- A mailbox of another transport than PCI Express raises no vector at its reset. -/
theorem senderReset_miso {n : Nat} (hn : 8 ≤ n) (s : State) : (senderReset n s).host.miso = s.host.miso := by
  unfold senderReset senderEnd endSession
  extract_lets m inSide queued left g dropped m' owner had closed told
  have htold : told.host.miso = s.host.miso := by
    unfold told
    split
    · exact intBit_miso n 2 hn closed
    · rfl
  rw [← htold]
  exact ite_keeps (fun t : State => t.host.miso) _ rfl

/-- Settles O33: each transaction of the port. -/
theorem spiPort : Obligations.SpiPort := by
  unfold Obligations.SpiPort
  intro s hstate
  have hup := spiUp_of_state hstate
  refine ⟨?status, fun off hreach => ?read, fun v => ?write, fun off v c hcrc => ?crc, fun p hpos hlen hempty => ?post, ?f2h, fun x hfull hside hmore => ?ack,
    fun hempty => ?none, ?close, fun hsess => ?idle⟩
  case status => exact ⟨_, congrArg Host.Outcome.next (if_neg (by simp [hup])), rfl, rfl, rfl⟩
  case read => exact ⟨_, exec_spiRegRead hstate hreach, rfl, rfl, rfl⟩
  case write => exact ⟨_, exec_spiRegWrite_scratch hstate v, word_ofNat_toNat v, rfl, rfl⟩
  case crc => exact ⟨_, exec_spiRegWrite_bad hstate hcrc, rfl, rfl⟩
  case post =>
    have hframe : Frame [.host, .mbx] s (h2fPost 14 p.length (mset 14 (fun m => { m with h2f := p }) (spiSend [0x5A#8] s))) :=
      .after (frame_h2fPost ..) (.after (frame_mset ..) (frame_spiSend ..).mono)
    have hhost : (h2fPost 14 p.length (mset 14 (fun m => { m with h2f := p }) (spiSend [0x5A#8] s))).host = (spiSend [0x5A#8] s).host :=
      (frame_h2fPost ..).get State.host
    refine ⟨_, exec_spiH2fWrite hstate hpos hlen hempty, by rw [hhost]; rfl, ?_, ?_, ?_, hframe.get (fun u => { u with host := s.host, mbx := s.mbx })⟩
    all_goals simp [h2fPost, coreOf]
  case f2h =>
    refine ⟨_, congrArg Host.Outcome.next (if_neg (by simp [hup])), rfl, rfl⟩
  case ack =>
    refine ⟨mset 14 (fun m => { m with f2hFull := false, side := none }) (spiSend [0x5A#8] s), ?_, rfl, by simp, rfl⟩
    have hm : mget (spiSend [0x5A#8] s) 14 = mget s 14 := rfl
    simp [exec, execSpiF2hAck, hup, hfull, f2hAck, hm, hside, hmore, Machine.ok]
  case none =>
    refine ⟨spiSend [0xE5#8] s, ?_, rfl, rfl⟩
    simp [exec, execSpiF2hAck, hup, hempty, Machine.ok]
  case close =>
    refine ⟨_, congrArg Host.Outcome.next (if_neg (by simp [hup])), sessionOf_senderReset 14 _, senderReset_miso (by decide) _, fun k hk => ?_⟩
    simp [Ne.symm hk]
    rfl
  case idle =>
    refine ⟨_, congrArg Host.Outcome.next (if_pos hsess), sessionOf_senderReset 14 s, ?_, fun k hk => by simp [Ne.symm hk]⟩
    have hrole : (mget s 14).role.isSome = true := hsess
    simp [sessionEnded, withBit, senderCleared, hrole]

end Sys2Proof.Proofs
end

section
/-! The BULK window and the read requests of the PCI Express function (R27, R29, R310–R312). -/

set_option Elab.async false

namespace Sys2Proof.Proofs
open Sys2Proof Sys2Proof.Machine Sys2Proof.Laws

variable {s : State}

@[simp] theorem length_le (n v : Nat) : (le n v).length = n := by
  induction n generalizing v with
  | zero => rfl
  | succ n ih => simp [le, ih]

/-! ### Bytes of the BULK window (R312) -/

theorem hostRead_bulk (hup : pcieUp s = true) {off len : Nat} (h : off + len ≤ 0x4000000) : hostRead s 2 off len = some (bulkRead s off len) := by
  simp [hostRead, hup, h]

/-- A byte of either half of the window. -/
theorem hostRead_bulk_byte (hup : pcieUp s = true) {i : Nat} (hi : i < 0x2000000) :
    hostRead s 2 i 1 = some [storeByte s (s.host.bulk0 * 0x100000 + i)] ∧
    hostRead s 2 (0x2000000 + i) 1 = some [storeByte s (s.host.bulk1 * 0x100000 + i)] := by
  constructor
  · rw [hostRead_bulk hup (by omega)]
    simp [bulkRead, bulkAddr, hi]
  · rw [hostRead_bulk hup (by omega)]
    have hhi : ¬ 0x2000000 + i < 0x2000000 := by omega
    have hsub : 0x2000000 + i - 0x2000000 = i := by omega
    simp [bulkRead, bulkAddr]

/-! ### Addresses (R27) -/

theorem storeByte_unreadable {a : Nat} (h : 0x07400000 ≤ a ∧ a < 0x07E00000 ∨ 0x08000000 ≤ a) : storeByte s a = 0 := by
  unfold storeByte
  rcases h with ⟨hlo, hhi⟩ | hlo
  · rw [if_neg (by omega), if_neg (by omega), if_pos (by omega)]
  · rw [if_neg (by omega), if_neg (by omega), if_neg (by omega), if_neg (by omega), if_neg (by omega), if_neg (by omega), if_neg (by omega)]

theorem storeByte_stored {a : Nat} (hlo : 0x04000000 ≤ a) (hhi : a < 0x07400000) : storeByte s a = Memory.read s.store a := by
  unfold storeByte
  rw [if_neg (by omega), if_pos (by omega)]

/-- A byte of a point's record. -/
theorem storeByte_point {p i : Nat} (hp : p < nCells s * 128) (hi : i < 64) (ha : 64 * p < 0x2000000) :
    storeByte s (64 * p + i) = (pointBytes s p).getD i 0 := by
  have hdiv : (64 * p + i) / 64 = p := by omega
  have hmod : (64 * p + i) % 64 = i := by omega
  unfold storeByte
  rw [if_pos (by omega), hdiv, if_pos hp, recByte, hdiv, hmod]

/-- A record of four history entries is 64 bytes long (R220). -/
theorem length_pointBytes {p : Nat} (hhist : (s.points.get p {}).hist.length = 4) : (pointBytes s p).length = 64 := by
  have hentry : ∀ hs : List (BitVec 32 × Nat), (hs.flatMap (fun h => le 4 h.1.toNat ++ le 2 h.2)).length = 6 * hs.length := by
    intro hs
    induction hs with
    | nil => rfl
    | cons h hs ih => simp [ih]; omega
  unfold pointBytes
  simp only [List.length_append, length_le, hentry, hhist]

theorem map_getD_range {α : Type} (l : List α) (d : α) : (List.range l.length).map (fun i => l.getD i d) = l := by
  refine List.ext_getElem (by simp) fun i hi _ => ?_
  simp at hi
  simp [hi]

theorem hostRead_point (hup : pcieUp s = true) {p : Nat} (hbase : s.host.bulk0 = 0) (ha : 64 * p < 0x2000000) (hp : p < nCells s * 128)
    (hhist : (s.points.get p {}).hist.length = 4) : hostRead s 2 (64 * p) 64 = some (pointBytes s p) := by
  rw [hostRead_bulk hup (by omega)]
  have hlen := length_pointBytes hhist
  refine congrArg some (Eq.trans ?_ (map_getD_range (pointBytes s p) 0))
  rw [hlen]
  refine List.map_congr_left fun i hi => ?_
  have hi64 : i < 64 := List.mem_range.1 hi
  rw [bulkAddr, if_pos (by omega), hbase, Nat.zero_mul, Nat.zero_add]
  exact storeByte_point hp hi64 ha

/-! ### Words of the REG window (R310, R311) -/

theorem regRequestOk_word {off : Nat} (hout : off < 0x10000 ∨ 0x12000 ≤ off) (len : Nat) :
    regRequestOk off len = (decide (1 ≤ len) && decide (off % 4 + len ≤ 4)) := by
  rw [regRequestOk, if_neg (by omega)]

theorem regByte_word {off i : Nat} (hoff : off % 4 = 0) (hi : i < 4) : regByte s (off + i) = (regRead s off).extractLsb' (i * 8) 8 := by
  have hdiv : (off + i) / 4 * 4 = off := by omega
  have hmod : (off + i) % 4 = i := by omega
  rw [regByte, hdiv, hmod]

theorem extractLsb_byte (w : Word) (i : Nat) : w.extractLsb' (i * 8) 8 = BitVec.ofNat 8 (w.toNat / 256 ^ i) := by
  refine BitVec.eq_of_toNat_eq ?_
  rw [BitVec.extractLsb'_toNat, BitVec.toNat_ofNat, Nat.shiftRight_eq_div_pow, Nat.mul_comm i 8, Nat.pow_mul]

theorem le_word (w : Word) : le 4 w.toNat = (List.range 4).map (fun i => w.extractLsb' (i * 8) 8) := by
  simp only [extractLsb_byte, le, List.range_succ, List.range_zero, List.nil_append, List.map_cons, List.map_nil, List.cons_append]
  simp [Nat.div_div_eq_div_mul]

theorem hostRead_word (hup : pcieUp s = true) {off : Nat} (hoff : off % 4 = 0) (hout : off < 0x10000 ∨ 0x12000 ≤ off) (hreg : off < 0x80000) :
    hostRead s 0 off 4 = some (le 4 (regRead s off).toNat) := by
  have hok : regRequestOk off 4 = true := by simp [regRequestOk_word hout, hoff]
  simp only [hostRead, hup, hok, hreg, Bool.not_true, Bool.false_eq_true, if_false, decide_true, Bool.and_self, if_true]
  rw [le_word]
  exact congrArg some (List.map_congr_left fun i hi => regByte_word hoff (List.mem_range.1 hi))

theorem hostRead_across {off len : Nat} (hout : off < 0x10000 ∨ 0x12000 ≤ off) (hacross : 4 < off % 4 + len) : hostRead s 0 off len = none := by
  have hbad : regRequestOk off len = false := by simp [regRequestOk_word hout]; omega
  simp [hostRead, hbad]

/-- Settles O60: the two bases, the regions of the memory, and the words of the REG window. -/
theorem bulkWindow : Obligations.BulkWindow := by
  unfold Obligations.BulkWindow
  intro s hup
  refine ⟨fun v => ⟨_, exec_registerWrite_reg hup rfl v, rfl, fun i hi => (hostRead_bulk_byte ?_ hi).1, fun i hi => (hostRead_bulk_byte ?_ hi).2⟩,
    fun v => ⟨_, exec_registerWrite_reg hup rfl v, rfl, fun i hi => (hostRead_bulk_byte ?_ hi).2, fun i hi => (hostRead_bulk_byte ?_ hi).1⟩,
    fun a h => storeByte_unreadable h, fun a hlo hhi => storeByte_stored hlo hhi,
    fun p hbase ha hp hhist => hostRead_point hup hbase ha hp hhist, fun off v => exec_registerWrite_bulk hup off v,
    fun off hoff hout hreg => hostRead_word hup hoff hout hreg, fun off len hout hacross => hostRead_across hout hacross⟩
  all_goals exact hup

end Sys2Proof.Proofs
end

section
/-! The checks of a command and what a rejection leaves (R10, R339, R341, R349). -/

set_option Elab.async false

namespace Sys2Proof.Proofs
open Sys2Proof Sys2Proof.Machine Sys2Proof.Laws

variable {h : BcsHdr} {c : BcsCmd} {s : State}

/-- The session that sent a command of no ended session (R322, R339). -/
theorem sessionFor_of_live (hghost : isGhost h s = false) : sessionFor h s =
    match (mget s h.mbx).role with
    | none => (.noSession, .observer, 0)
    | some r => if h.sessionEpoch = (mget s h.mbx).epoch then (.ok, r, (mget s h.mbx).party) else (.sessionStale, .observer, 0) := by
  cases hrole : (mget s h.mbx).role <;> cases hg : (mget s h.mbx).ghost <;> simp only [sessionFor, hghost, hrole, hg]

/-- Settles O34: check by check. -/
theorem checksInOrder : Obligations.ChecksInOrder := by
  unfold Obligations.ChecksInOrder
  intro h c s hghost
  unfold bcsCheck headCheck formCheck
  rw [sessionFor_of_live hghost]
  by_cases hversion : h.version ≠ 1 ∨ h.kind ≠ 1
  · simp only [if_pos hversion]
  · by_cases hlen : h.bodyLen < c.len
    · simp only [if_neg hversion, if_pos hlen]
    · simp only [if_neg hversion, if_neg hlen]
      cases (mget s h.mbx).role with
      | none => rfl
      | some r =>
        by_cases hepoch : h.sessionEpoch = (mget s h.mbx).epoch
        · cases hrole : roleAllows c r <;> by_cases hcls : c.cls = .a <;> by_cases hre : h.roleEpoch = s.dev.roleEpoch <;>
            by_cases hact : s.tan.role = .active <;> cases hst : c.states s.dev.state <;> simp [hepoch, hrole, hcls, hre, hact]
        · simp [hepoch]

/-! ### Rejections -/

theorem bcsRun_of_fails (hh : Heard h s) (hcheck : bcsCheck h c s ≠ .ok) (act : State → State) :
    bcsRun h c s act = .next (reject h c (bcsCheck h c s) s) := by
  obtain ⟨hmbx, hready, -, -⟩ := hh
  simp only [bcsRun, Machine.unit, hmbx, hready, decide_true, if_true, Bool.not_true, Bool.false_eq_true, if_false, onOk]

/-- A failed check before the device state is the answer of all checks. -/
theorem bcsCheck_of_headFails (hhead : headCheck h c s ≠ .ok) : bcsCheck h c s = headCheck h c s := by
  unfold bcsCheck
  split
  · next hok => exact absurd hok hhead
  · rfl

theorem bcsCheck_of_headPasses (hhead : headCheck h c s = .ok) : bcsCheck h c s = if c.states s.dev.state then .ok else .state := by
  unfold bcsCheck
  rw [hhead]

theorem runF_of_fails (hh : Heard h s) (hcheck : bcsCheck h c s ≠ .ok) (hfol : follower s = false) (args : List Int) (act : State → State) :
    runF h c args act s = .next (reject h c (bcsCheck h c s) s) := by
  obtain ⟨hmbx, hready, -, -⟩ := hh
  unfold runF
  simp only [Machine.unit, hmbx, hready, hfol, decide_true, if_true, Bool.not_true, Bool.false_eq_true, if_false]
  split
  · next hhead =>
    rw [bcsCheck_of_headPasses hhead] at hcheck ⊢
    cases hst : c.states s.dev.state
    · rfl
    · exact absurd (if_pos hst) hcheck
  · next hhead => rw [bcsCheck_of_headFails hhead]

/-- How a row's command is executed: by its checks in order, or forwarded by a follower. -/
theorem exec_of_row {i : Instr} (hrow : bcsRow i = some (h, c)) (s : State) :
    (∃ act, exec i s = bcsRun h c s act) ∨ (c.cls = .f ∧ ∃ args act, exec i s = runF h c args act s) := by
  cases i with
  | block => cases hrow; exact .inr ⟨rfl, _, _, (rfl : execBlock h s = _)⟩
  | srbRequest => cases hrow; exact .inr ⟨rfl, _, _, (rfl : execSrbRequest h _ s = _)⟩
  | srbWithdraw => cases hrow; exact .inr ⟨rfl, _, _, (rfl : execSrbWithdraw h s = _)⟩
  | _ =>
    cases hrow <;> (refine .inl (Exists.intro ?_ ?_); rotate_left; simp only [exec, execSessionClose, execEventMaskSet, execDeviceStatus, execDeblock, execBlockClear, execPhaseSet, execTimeDomainSelect,
      execTimeSet, execBasinRestart, execPlateLoadBegin, execPlateLoadData, execPlateLoadEnd, execStageSet, execStageCheck,
      execStageCountersign, execStageCommit, execStageRead, execParamGet, execSetpointSet, execSetpointGet, execCellExclude,
      execCellRestore, execCellBypassClose, execMooringRange, execMooringRangeAbort, execPresetRead, execNodeFlagsClear,
      execSchedStatsClear, execPointMinmaxClear, execPulseStatus, execPulseFlagsClear, execClockStatus, execEyeScan, execEyeScanAbort,
      execFaultRead, execFaultAck, execCaptureArm, execCaptureAbort, execCaptureStatus, execTandemStatus, execTandemSwitch]; rfl)

/-- Settles O35: a rejection is an answer, whatever the command. -/
theorem rejectedCommandsChangeNothing : Obligations.RejectedCommandsChangeNothing := by
  unfold Obligations.RejectedCommandsChangeNothing
  intro i h c s hrow hh hcheck hfol
  have hexec : exec i s = .next (reject h c (bcsCheck h c s) s) := by
    rcases exec_of_row hrow s with ⟨act, hact⟩ | ⟨hcls, args, act, hact⟩
    · rw [hact]; exact bcsRun_of_fails hh hcheck act
    · rw [hact]; exact runF_of_fails hh hcheck (hfol hcls) args act
  exact ⟨_, hexec, responded_answer hh .., onlyMail_answer hh ..⟩

end Sys2Proof.Proofs
end

section
/-! Messages leave the sessions of their mailboxes (R318, R319, R335, R336), and so do the reactions below level 5. -/

set_option Elab.async false

namespace Sys2Proof.Proofs
open Sys2Proof Sys2Proof.Machine Sys2Proof.Laws

variable {h : BcsHdr} {s : State}

/-- A mailbox but for its queue and what counts its messages. -/
def sessionPart (m : Mbx) : Mbx := { m with f2h := [], reserved := 0, respDropped := 0, eventsLost := 0, parts := [] }

/-- The sessions of all mailboxes, with all that is not the queue's. -/
def fronts (s : State) (n : Nat) : Mbx := sessionPart (mget s n)

theorem fronts_mset {n : Nat} {f : Mbx → Mbx} (hf : ∀ m, sessionPart (f m) = sessionPart m) (s : State) : fronts (mset n f s) = fronts s := by
  funext k
  simp only [fronts, mget_mset]
  split
  · next hk => rw [hf, hk]
  · rfl

theorem sessionPart_enqueue (msg : Msg) (m : Mbx) : sessionPart (enqueue msg m) = sessionPart m := by
  unfold enqueue
  (repeat' split) <;> rfl

theorem fronts_queueMsg (n : Nat) (msg : Msg) (s : State) : fronts (queueMsg n msg s) = fronts s := fronts_mset (sessionPart_enqueue msg) s

theorem fronts_respond (n : Nat) (tag : BitVec 16) (op : Nat) (st : Status) (body : List Byte) (s : State) :
    fronts (respond n tag op st body s) = fronts s := (fronts_queueMsg ..).trans (fronts_mset (fun _ => by rfl) s)

theorem fronts_respondLate (n : Nat) (epoch : Word) (tag : BitVec 16) (op : Nat) (st : Status) (body : List Byte) (s : State) :
    fronts (respondLate n epoch tag op st body s) = fronts s := by
  unfold respondLate
  split
  · exact fronts_respond ..
  · exact fronts_mset (fun _ => by rfl) s

theorem fronts_eventTag (own : Option (Nat × Word)) (tag : BitVec 16) (code bit : Nat) (body : List Byte) (s : State) :
    fronts (eventTag own tag code bit body s) = fronts s := by
  unfold eventTag
  split
  · rfl
  · refine foldl_keeps fronts _ _ _ fun x n => ?_
    exact ite_keeps fronts _ (fronts_queueMsg ..)

theorem fronts_event (code bit : Nat) (body : List Byte) (s : State) : fronts (event code bit body s) = fronts s := fronts_eventTag ..

theorem fronts_srbGo (st : SrbState) (cause k : Nat) (value e : Int) (s : State) : fronts (srbGo st cause k value e s) = fronts s := by
  unfold srbGo
  split
  · rfl
  · exact ((frame_trgState _).get fronts).trans (fronts_event ..)

theorem fronts_srbOnState (new : DevState) (s : State) : fronts (srbOnState new s) = fronts s := by
  unfold srbOnState
  split
  case h_4 => exact fronts_srbGo ..
  case h_5 => exact fronts_srbGo ..
  case h_6 => exact fronts_srbGo ..
  all_goals rfl

theorem fronts_moveState (new : DevState) (s : State) : fronts (moveState new s) = fronts s := by
  unfold moveState
  split
  · rfl
  · refine (fronts_srbOnState ..).trans (((frame_trgState _).get fronts).trans ((fronts_event ..).trans ?_))
    exact (frame_vector _ 11).get fronts

theorem fronts_portRelock (p : Nat) (s : State) : fronts (portRelock p s) = fronts s := by
  unfold portRelock
  dsimp only
  split
  · rfl
  · exact fronts_event ..

theorem fronts_scanDrop (lane : Nat) (s : State) : fronts (scanDrop lane s) = fronts s := by
  unfold scanDrop
  split
  · split
    · exact fronts_respondLate ..
    · rfl
  · rfl

theorem fronts_linkDown (p : Nat) (s : State) : fronts (linkDown p s) = fronts s := by
  unfold linkDown
  split
  · exact (fronts_scanDrop ..).trans (fronts_event ..)
  · rfl

theorem fronts_blockReset (d : BlockDomain) (s : State) : fronts (blockReset d s) = fronts s := by
  cases d with
  | fabric =>
    have hframe : Frame [.fcru, .graph, .free, .arms, .cycFabric, .devBlock] s (blockReset .fabric s) := by
      unfold blockReset
      dsimp -zeta only
      extract_lets _ back lanes cleared freed home place moved _ placed
      have hcleared : Frame [.fcru, .graph] s cleared := .ite ((frame_clear ..).mono) rfl
      have hplaced : Frame [.fcru, .graph] s placed := .ite (hcleared.step (qs := [.graph]) rfl) hcleared
      exact hplaced.mono.step (qs := [.graph, .free, .arms, .cycFabric, .devBlock]) rfl
    exact hframe.get fronts
  | basinPort p => exact fronts_portRelock ..
  | stationPort p => exact fronts_linkDown ..
  | pulseChannel c => rfl

theorem fronts_reactLow (src : Nat) (f : FaultInfo) (lvl : Nat) (block : Bool) (s : State) : fronts (reactLow src f lvl block s) = fronts s := by
  have hsignal : ∀ t, fronts (reactSignal src f lvl t) = fronts t := by
    intro t
    unfold reactSignal
    extract_lets told routed
    have htold : fronts told = fronts t := (frame_vector t _).get fronts
    have hrouted : fronts routed = fronts told := ite_keeps fronts _ ((frame_vector told _).get fronts)
    exact (fronts_event ..).trans (hrouted.trans htold)
  have hdomain : ∀ t, fronts (reactDomain src t) = fronts t := by
    intro t
    unfold reactDomain
    split
    · exact fronts_blockReset ..
    · rfl
  unfold reactLow
  extract_lets signalled trapped reset
  have hsignalled : fronts signalled = fronts s := ite_keeps fronts _ (hsignal s)
  have htrapped : fronts trapped = fronts signalled := ite_keeps fronts _ ((frame_reactTrap signalled src).get fronts)
  have hreset : fronts reset = fronts trapped := ite_keeps fronts _ (hdomain trapped)
  rw [← hsignalled, ← htrapped, ← hreset]
  exact ite_keeps fronts _ rfl

theorem fronts_react4 (block : Bool) (s : State) : fronts (react4 block s) = fronts s := by
  unfold react4
  split
  · rfl
  · rfl
  · dsimp only
    split
    · rfl
    · exact fronts_moveState ..

/-! ### Closed sessions -/

/-- A mailbox without a session and without a nonce. -/
def Closed (n : Nat) (s : State) : Prop := (mget s n).role = none ∧ (mget s n).nonce = none

theorem Closed.of_fronts {n : Nat} {t : State} (hc : Closed n s) (hf : fronts t = fronts s) : Closed n t := by
  have hn := congrFun hf n
  exact ⟨(congrArg Mbx.role hn :).trans hc.1, (congrArg Mbx.nonce hn :).trans hc.2⟩

theorem closed_level5State (n : Nat) (s : State) : Closed n (level5State s) := by
  have hm := mget_warmState s n
  unfold Closed level5State
  generalize warmState s = w at hm ⊢
  exact ⟨congrArg Mbx.role hm, congrArg Mbx.nonce hm⟩

/-- No assertion opens a session, whatever its reaction. -/
theorem closed_raise {n : Nat} (hc : Closed n s) (src : Nat) (d : List Byte) : Closed n (raise src d s) := by
  unfold raise
  split
  · exact hc
  · next f hf =>
    split
    · exact hc
    · have hframe : Frame [.cap, .store, .fcru] s (trgFault src f.cls (logSource src f false d s)) :=
        .after (frame_trgFault _ src f.cls) (frame_logSource s src f false d).mono
      have hlogged := hc.of_fronts (hframe.get fronts)
      unfold assertSource
      dsimp only
      split
      · exact hlogged
      · unfold react
        extract_lets _ noted low
        have hnoted : Closed n noted := hlogged.of_fronts ((frame_withFcru _ _).get fronts)
        have hlow : Closed n low := hnoted.of_fronts (fronts_reactLow ..)
        clear_value low
        split
        · exact closed_level5State n low
        · split
          · exact hlow.of_fronts (fronts_react4 ..)
          · exact hlow

/-! ### Answers -/

theorem answer_of_live (hghost : isGhost h s = false) (op : Nat) (st : Status) (body : List Byte) :
    answer h op st body s = respond h.mbx h.tag op st body s := by simp [answer, hghost]

/-- An answer changes no session. -/
theorem fronts_answer_of_live (hghost : isGhost h s = false) (op : Nat) (st : Status) (body : List Byte) :
    fronts (answer h op st body s) = fronts s := by
  rw [answer_of_live hghost]
  exact fronts_respond ..

/-- Whether a command belongs to an ended session depends on the sessions alone. -/
theorem isGhost_of_fronts {t : State} (hf : fronts t = fronts s) : isGhost h t = isGhost h s := by
  have hg : (mget t h.mbx).ghost = (mget s h.mbx).ghost := (congrArg Mbx.ghost (congrFun hf h.mbx) :)
  rw [isGhost, isGhost, hg]

theorem epoch_of_fronts {t : State} (hf : fronts t = fronts s) (n : Nat) : (mget t n).epoch = (mget s n).epoch :=
  (congrArg Mbx.epoch (congrFun hf n) :)

/-- A message that is no event finds a place. -/
theorem mem_enqueue {msg : Msg} (hmsg : isEvent msg = false) (m : Mbx) : msg ∈ (enqueue msg m).f2h := by
  have hmem : msg ∈ responsesOf (enqueue msg m).f2h := by
    rw [responsesOf_enqueue]
    simp [responsesOf, hmsg]
  exact List.mem_of_mem_filter hmem

/-- A response that waits keeps its place when another message comes. -/
theorem mem_enqueue_of_mem {x msg : Msg} (hx : isEvent x = false) {m : Mbx} (hmem : x ∈ m.f2h) : x ∈ (enqueue msg m).f2h := by
  have hmem' : x ∈ responsesOf (enqueue msg m).f2h := by
    rw [responsesOf_enqueue]
    exact List.mem_append_left _ (List.mem_filter.2 ⟨hmem, by simp [hx]⟩)
  exact List.mem_of_mem_filter hmem'

/-- An answer after changes that leave its session is the answer of the state before them. -/
theorem answered_answer {t : State} (hghost : isGhost h t = false) (hepoch : (mget t h.mbx).epoch = (mget s h.mbx).epoch)
    (hrole : t.dev.roleEpoch = s.dev.roleEpoch) (op : Nat) (st : Status) (body : List Byte) :
    Answered h op st body s (answer h op st body t) := by
  rw [Answered, answer_of_live hghost, mget_respond_same, response, ← hepoch, ← hrole]
  exact mem_enqueue rfl _

/-- A response survives every message that comes after it. -/
theorem answered_queueMsg {op : Nat} {st : Status} {body : List Byte} {t : State} (ha : Answered h op st body s t) (n : Nat) (msg : Msg) :
    Answered h op st body s (queueMsg n msg t) := by
  rw [Answered, queueMsg_eq, mget_mset]
  split
  · next hn => subst hn; exact mem_enqueue_of_mem rfl ha
  · exact ha

theorem answered_eventTag {op : Nat} {st : Status} {body : List Byte} {t : State} (ha : Answered h op st body s t) (own : Option (Nat × Word))
    (tag : BitVec 16) (code bit : Nat) (ebody : List Byte) : Answered h op st body s (eventTag own tag code bit ebody t) := by
  unfold eventTag
  split
  · exact ha
  · refine List.foldlRecOn _ _ ha fun x hx n _ => ?_
    extract_lets m mine
    split
    · exact answered_queueMsg hx ..
    · exact hx

/-- The late end of another command leaves a response (R335). -/
theorem answered_respondLate {op : Nat} {st : Status} {body : List Byte} {t : State} (ha : Answered h op st body s t) (n : Nat) (epoch : Word)
    (tag : BitVec 16) (op' : Nat) (st' : Status) (body' : List Byte) : Answered h op st body s (respondLate n epoch tag op' st' body' t) := by
  have hset : ∀ f : Mbx → Mbx, (∀ m, (f m).f2h = m.f2h) → Answered h op st body s (mset n f t) := by
    intro f hf
    rw [Answered, mget_mset]
    split
    · next hn => subst hn; rw [hf]; exact ha
    · exact ha
  unfold respondLate
  split
  · exact answered_queueMsg (hset _ fun _ => by rfl) ..
  · exact hset _ fun _ => by rfl

end Sys2Proof.Proofs
end

section
/-! Sessions: challenge, opening, closing and expiry (R336, R337, R342). -/

set_option Elab.async false

namespace Sys2Proof.Proofs
open Sys2Proof Sys2Proof.Machine Sys2Proof.Laws

variable {h : BcsHdr} {s : State}

/-- A command that firmware reads belongs to no ended session. -/
theorem live_of_heard (hh : Heard h s) : isGhost h s = false := by
  obtain ⟨-, -, hghost, -⟩ := hh
  exact hghost

/-! ### What a command of a mailbox without a ghost leaves -/

theorem frame_answer_of_live (hghost : isGhost h s = false) (op : Nat) (st : Status) (body : List Byte) :
    Frame [.mbx] s (answer h op st body s) := by
  rw [answer_of_live hghost]
  exact frame_respond ..

theorem mget_answer_other (hghost : isGhost h s = false) (op : Nat) (st : Status) (body : List Byte) {k : Nat} (hk : k ≠ h.mbx) :
    mget (answer h op st body s) k = mget s k := by
  rw [answer_of_live hghost]
  exact mget_respond_other _ _ _ _ _ _ (Ne.symm hk)

/-- The fields of a session stand through an answer. -/
theorem session_answer (hghost : isGhost h s = false) (op : Nat) (st : Status) (body : List Byte) :
    sessionPart (mget (answer h op st body s) h.mbx) = sessionPart (mget s h.mbx) :=
  congrFun (fronts_answer_of_live hghost op st body) h.mbx

/-- A change of a mailbox that leaves its ghost. -/
theorem isGhost_mset {f : Mbx → Mbx} (hf : ∀ m, (f m).ghost = m.ghost) : isGhost h (mset h.mbx f s) = isGhost h s := by
  have hg : (mget (mset h.mbx f s) h.mbx).ghost = (mget s h.mbx).ghost := by rw [mget_mset, if_pos rfl, hf]
  rw [isGhost, isGhost, hg]

/-- An assertion of a source that is no level latches it even where it latched before (R370). -/
theorem latched_raise_edge {src : Nat} {f : FaultInfo} (hf : faultInfo src = some f) (ha : ∀ v, faultAbsent v src = false) (hlevel : f.level = false)
    (hp : s.dev.porstN = true) (hr : s.dev.railHold = false) (d : List Byte) : Latched (raise src d s) src := by
  have hraise : raise src d s = assertSource src f false d s := by simp [raise, hf, ha, hp, hr, hlevel]
  rw [hraise]
  exact assertSource_latches ..

/-- A command that passes its checks has a session (R339). -/
theorem role_of_check {c : BcsCmd} (hghost : isGhost h s = false) (hcheck : bcsCheck h c s = .ok) : (mget s h.mbx).role.isSome = true := by
  cases hrole : (mget s h.mbx).role with
  | some r => rfl
  | none =>
    rw [checksInOrder h c s hghost, hrole] at hcheck
    dsimp only at hcheck
    split at hcheck
    · cases hcheck
    · split at hcheck <;> cases hcheck

/-! ### Openings -/

/-- A command that opens a session, past VERSION, KIND, length and device state. -/
theorem exec_sessionChallenge (hh : Heard h s) (hcheck : openCheck h 0 s = .ok) : exec (.sessionChallenge h) s = .next (challenge h s) := by
  obtain ⟨hmbx, hready, -, -⟩ := hh
  simp only [exec, execSessionChallenge, Machine.unit, hmbx, hready, hcheck, decide_true, if_true, Bool.not_true, Bool.false_eq_true, if_false]

theorem exec_sessionOpen {k : Nat} {r : SessRole} {id mask : Word} {tg : List Byte} (hh : Heard h s) (hcheck : openCheck h 44 s = .ok)
    (hcode : roleOfCode k = some r) (hsess : sessionOf s h.mbx = false) :
    exec (.sessionOpen h k id mask tg) s =
      .next (match authenticate h r id tg s with | some c => openSession h r c mask s | none => authFails h s) := by
  obtain ⟨hmbx, hready, -, -⟩ := hh
  simp only [exec, execSessionOpen, Machine.unit, hmbx, hready, hcheck, hcode, hsess, decide_true, if_true, Bool.not_true, Bool.false_eq_true, if_false]
    <;> rfl

/-- The mailbox of a session that opens (R336). -/
def opened (r : SessRole) (c : Credential) (mask : Word) (m : Mbx) : Mbx :=
  { m with sessOpen := true, role := some r, credId := c.credId, party := c.party, mask := mask, nonce := none, epoch := m.epoch + 1,
           intStatus := m.intStatus &&& 0xB#4 }

theorem openSession_eq (r : SessRole) (c : Credential) (mask : Word) (s : State) :
    ∃ body, openSession h r c mask s = answer h 0x02 .ok body (mset h.mbx (opened r c mask) s) := ⟨_, rfl⟩

/-- The mailbox of a session whose opening failed (R337). -/
def refused (now : Nat) (recent : List Nat) (m : Mbx) : Mbx :=
  { m with nonce := none, authFails := now :: recent, locked := m.locked || decide (3 ≤ (now :: recent).length) }

theorem authFails_eq (h : BcsHdr) (s : State) : authFails h s = answer h 0x02 .auth [] (raise 291 (be 1 h.mbx)
    (mset h.mbx (refused s.now ((mget s h.mbx).authFails.filter (fun t => s.now - t ≤ 24000000000))) s)) := rfl

/-- An answer, dropped or not, leaves the fault records. -/
theorem answer_fcru (op : Nat) (st : Status) (body : List Byte) : (answer h op st body s).fcru = s.fcru := by
  unfold answer ghostDone
  split <;> rfl

/-- An answer, dropped or not, opens no session. -/
theorem closed_answer {n : Nat} (hc : Closed n s) (op : Nat) (st : Status) (body : List Byte) : Closed n (answer h op st body s) := by
  have hset : ∀ (f : Mbx → Mbx) (k : Nat) (t : State), (∀ m, (f m).role = m.role ∧ (f m).nonce = m.nonce) → Closed n t → Closed n (mset k f t) := by
    intro f k t hf ht
    unfold Closed
    rw [mget_mset]
    split
    · next hk => subst hk; rw [(hf _).1, (hf _).2]; exact ht
    · exact ht
  unfold answer
  split
  · next hghost =>
    rw [ghostDone, if_pos hghost]
    exact hset _ _ _ (fun _ => ⟨by rfl, by rfl⟩) (hset _ _ _ (fun _ => ⟨by rfl, by rfl⟩) hc)
  · exact hc.of_fronts (fronts_respond ..)

/-- Settles O36: challenge, opening, failure, close, mask and the two expiries. -/
theorem sessions : Obligations.Sessions := by
  unfold Obligations.Sessions
  intro s h
  refine ⟨fun hh hcheck hlock => ?challenge, fun hh hcheck hlock => ?locked, fun k r id mask tg cr hh hcheck hcode hsess hauth => ?opening,
    fun k r id mask tg hh hcheck hcode hsess hauth hp hr => ?failure, fun hp => ?close, fun mask hp => ?mask, fun n hn => ?nonce, fun n hn => ?lock⟩
  case challenge =>
    have hghost : isGhost h s = false := live_of_heard hh
    have hexec := exec_sessionChallenge hh hcheck
    rw [challenge, if_neg (by simp [hlock])] at hexec
    dsimp only at hexec
    set u := mset h.mbx (fun m => { m with nonce := some (Config.nonce s.free) }) { s with free := s.free + 1 } with hu
    have hghost' : isGhost h u = false := (isGhost_mset fun _ => by rfl).trans hghost
    have hm : mget u h.mbx = { mget s h.mbx with nonce := some (Config.nonce s.free) } := (mget_mset ..).trans (if_pos rfl)
    refine ⟨_, hexec, ?_, answered_answer (s := s) hghost' (congrArg Mbx.epoch hm :) rfl .., fun k hk => ?_, ?_⟩
    · exact (congrArg Mbx.nonce (session_answer hghost' ..) :).trans (congrArg Mbx.nonce hm)
    · rw [mget_answer_other hghost' _ _ _ hk]; exact (mget_mset ..).trans (if_neg (Ne.symm hk))
    · exact (frame_answer_of_live hghost' 0x01 .ok _).get (fun x => { x with mbx := s.mbx, free := s.free })
  case locked =>
    have hexec := exec_sessionChallenge hh hcheck
    rw [challenge, if_pos hlock] at hexec
    exact ⟨_, hexec, responded_answer hh .., onlyMail_answer hh ..⟩
  case opening =>
    have hghost : isGhost h s = false := live_of_heard hh
    have hexec := exec_sessionOpen (id := id) (mask := mask) (tg := tg) hh hcheck hcode hsess
    obtain ⟨body, hopen⟩ := openSession_eq (h := h) r cr mask s
    rw [hauth] at hexec
    dsimp only at hexec
    rw [hopen] at hexec
    have hghost' : isGhost h (mset h.mbx (opened r cr mask) s) = false := (isGhost_mset fun _ => by rfl).trans hghost
    have hm : mget (mset h.mbx (opened r cr mask) s) h.mbx = opened r cr mask (mget s h.mbx) := (mget_mset ..).trans (if_pos rfl)
    have hpart := (session_answer hghost' 0x02 .ok body).trans (congrArg sessionPart hm)
    have hframe : Frame [.mbx] s (answer h 0x02 .ok body (mset h.mbx (opened r cr mask) s)) := .after (frame_answer_of_live hghost' ..) (frame_mset ..)
    refine ⟨_, hexec, (congrArg Mbx.role hpart :), (congrArg Mbx.sessOpen hpart :), (congrArg Mbx.epoch hpart :), (congrArg Mbx.mask hpart :),
      (congrArg Mbx.party hpart :), (congrArg Mbx.nonce hpart :), ?_, fun j hj => ?_, onlyMail_of_frame hframe⟩
    · have hbits : (mget (answer h 0x02 .ok body (mset h.mbx (opened r cr mask) s)) h.mbx).intStatus = (mget s h.mbx).intStatus &&& 0xB#4 :=
        (congrArg Mbx.intStatus hpart :)
      rw [hbits]
      simp
    · rw [mget_answer_other hghost' _ _ _ hj]; exact (mget_mset ..).trans (if_neg (Ne.symm hj))
  case failure =>
    have hghost : isGhost h s = false := live_of_heard hh
    have hexec := exec_sessionOpen (id := id) (mask := mask) (tg := tg) hh hcheck hcode hsess
    rw [hauth] at hexec
    dsimp only at hexec
    rw [authFails_eq] at hexec
    set u := mset h.mbx (refused s.now ((mget s h.mbx).authFails.filter (fun t => s.now - t ≤ 24000000000))) s with hu
    have hm : mget u h.mbx = refused s.now ((mget s h.mbx).authFails.filter (fun t => s.now - t ≤ 24000000000)) (mget s h.mbx) :=
      (mget_mset ..).trans (if_pos rfl)
    have hrole : (mget s h.mbx).role = none := Option.isSome_eq_false_iff.1 hsess |> Option.isNone_iff_eq_none.1
    have hclosed : Closed h.mbx u := ⟨(congrArg Mbx.role hm).trans hrole, congrArg Mbx.nonce hm⟩
    obtain ⟨hrole', hnonce'⟩ := closed_answer (h := h) (closed_raise hclosed 291 (be 1 h.mbx)) 0x02 .auth []
    have hf : faultInfo 291 = some ⟨3, false, 0, false, false⟩ := by decide
    have hlatched : Latched (raise 291 (be 1 h.mbx) u) 291 :=
      latched_raise_edge (s := u) hf (fun v => by cases v <;> decide) rfl hp hr _
    refine ⟨_, hexec, ?_, ?_, hnonce'⟩
    · unfold Latched rec?
      rw [answer_fcru]
      exact hlatched
    · rw [sessionOf, hrole']; rfl
  case close =>
    have ⟨hh, hcheck⟩ := hp
    have hghost : isGhost h s = false := live_of_heard hh
    have hexec : exec (.sessionClose h) s = .next (endSession h.mbx false (answer h 0x03 .ok [] s)) := by
      simp only [exec, execSessionClose, bcsRun_of_passes hp, hghost, Bool.false_eq_true, if_false]
    refine ⟨_, hexec, ?_⟩
    have hpart := session_answer hghost 0x03 .ok []
    have hrole : (mget (answer h 0x03 .ok [] s) h.mbx).role.isSome = true := by
      rw [show (mget (answer h 0x03 .ok [] s) h.mbx).role = (mget s h.mbx).role from (congrArg Mbx.role hpart :)]
      exact role_of_check hghost hcheck
    refine ⟨?_, ?_, ?_, fun k hk => ?_⟩
    · simp [sessionOf, sessionEnded]
    · have hepoch : (mget (answer h 0x03 .ok [] s) h.mbx).epoch = (mget s h.mbx).epoch := (congrArg Mbx.epoch hpart :)
      simp [sessionEnded, hrole, hepoch]
    · have hin := answered_answer hghost rfl rfl 0x03 .ok [] (s := s)
      rw [Answered, mget_endSession, if_pos rfl]
      exact hin
    · rw [mget_endSession, if_neg (Ne.symm hk), mget_answer_other hghost _ _ _ hk]
  case mask =>
    have ⟨hh, hcheck⟩ := hp
    have hghost : isGhost h s = false := live_of_heard hh
    have hexec : exec (.eventMaskSet h mask) s = .next (answer h 0x04 .ok [] (mset h.mbx (fun m => { m with mask := mask }) s)) := by
      simp only [exec, execEventMaskSet, bcsRun_of_passes hp, hghost, Bool.false_eq_true, if_false]
    refine ⟨_, hexec, ?_⟩
    have hghost' : isGhost h (mset h.mbx (fun m => { m with mask := mask }) s) = false := (isGhost_mset fun _ => by rfl).trans hghost
    have hm : mget (mset h.mbx (fun m => { m with mask := mask }) s) h.mbx = { mget s h.mbx with mask := mask } := (mget_mset ..).trans (if_pos rfl)
    have hpart := (session_answer hghost' 0x04 .ok []).trans (congrArg sessionPart hm)
    refine ⟨(congrArg Mbx.mask hpart :), answered_answer (s := s) hghost' (congrArg Mbx.epoch hm :) rfl .., fun k hk => ?_,
      onlyMail_of_frame (.after (frame_answer_of_live hghost' ..) (frame_mset ..))⟩
    rw [mget_answer_other hghost' _ _ _ hk]
    exact (mget_mset ..).trans (if_neg (Ne.symm hk))
  case nonce =>
    refine ⟨mset n (fun m => { m with nonce := none }) s, by simp [exec, execNonceExpiry, Machine.unit, hn], by simp,
      fun k hk => by simp [Ne.symm hk], rfl⟩
  case lock =>
    refine ⟨mset n (fun m => { m with locked := false, authFails := [] }) s, by simp [exec, execAuthLockoutExpiry, Machine.unit, hn], by simp,
      fun k hk => by simp [Ne.symm hk], rfl⟩

end Sys2Proof.Proofs
end

section
/-! Commands that read, that wait for a cycle, and that pass to the twin (R340–R347, R434). -/

set_option Elab.async false

namespace Sys2Proof.Proofs
open Sys2Proof Sys2Proof.Machine Sys2Proof.Laws

variable {h : BcsHdr} {c : BcsCmd} {s : State}

/-! ### Reading -/

/-- A command that answers and does nothing else. -/
theorem goes_answer {i : Instr} {op : Nat} {st : Status} {body : List Byte} (hh : Heard h s) (hexec : exec i s = .next (answer h op st body s)) :
    Goes i s fun t => Responded h op st body s t ∧ OnlyMail s t :=
  ⟨_, hexec, responded_answer hh op st body, onlyMail_answer hh op st body⟩

theorem exec_unknownOpcode (hh : Heard h s) (hform : formCheck h 0 = .ok) (hsess : (sessionFor h s).1 = .ok) (op : Nat) :
    exec (.unknownOpcode h op) s = .next (answer h (op % 256) .opcode [] s) := by
  obtain ⟨hmbx, hready, -, -⟩ := hh
  obtain ⟨x, hx⟩ : ∃ x, sessionFor h s = (.ok, x) := ⟨_, Prod.ext hsess rfl⟩
  simp only [exec, execUnknownOpcode, Machine.unit, hmbx, hready, opcodeUnknown, hform, hx, decide_true, if_true, Bool.not_true,
    Bool.false_eq_true, if_false]

/-- Settles O37: each reading command's answer. -/
theorem readCommands : Obligations.ReadCommands := by
  unfold Obligations.ReadCommands
  intro s h
  refine ⟨fun hp => ?status, fun n hp => ?stageRead, fun ids hp hpos hlen hrow => ?param, fun slot k hp hslot hstage => ?setpoint,
    fun b first count hp hb hpos hcount hend hnamed => ?preset, fun hp => ?pulse, fun hp => ?clock, fun n hp hn => ?capture, fun hp => ?tandem,
    fun op hh hform hsess => goes_answer hh (exec_unknownOpcode hh hform hsess op)⟩
  case status => exact goes_answer hp.1 (by simp only [exec, execDeviceStatus, bcsRun_of_passes hp])
  case stageRead => exact goes_answer hp.1 (by simp only [exec, execStageRead, bcsRun_of_passes hp])
  case param =>
    have hrange : ¬(ids.length = 0 ∨ 19 < ids.length) := by omega
    have hknown : ids.any (fun i => (paramRow s i).isNone) = false := by
      simp only [List.any_eq_false, Bool.not_eq_true, Option.isNone_eq_false_iff]
      exact hrow
    exact goes_answer hp.1 (by simp only [exec, execParamGet, bcsRun_of_passes hp, hrange, hknown, Bool.false_eq_true, if_false])
  case setpoint =>
    exact goes_answer hp.1 (by simp only [exec, execSetpointGet, bcsRun_of_passes hp, Nat.not_lt.2 hslot, hstage, if_false])
  case preset =>
    have hrange : ¬(31 < b ∨ count = 0 ∨ 56 < count ∨ 256 < first + count) := by omega
    exact goes_answer hp.1 (by
      simp only [exec, execPresetRead, bcsRun_of_passes hp, hrange, hnamed, Bool.not_true, Bool.false_eq_true, if_false])
  case pulse => exact goes_answer hp.1 (by simp only [exec, execPulseStatus, bcsRun_of_passes hp])
  case clock => exact goes_answer hp.1 (by simp only [exec, execClockStatus, bcsRun_of_passes hp])
  case capture => exact goes_answer hp.1 (by simp only [exec, execCaptureStatus, bcsRun_of_passes hp, Nat.not_lt.2 hn, if_false])
  case tandem => exact goes_answer hp.1 (by simp only [exec, execTandemStatus, bcsRun_of_passes hp])

/-! ### Waiting for a cycle (R341) -/

/-- A command without a cycle of its own to start in is too far or too late, or there is no room (R341). -/
theorem near_of_mayName {cy : CycleNo} (hmay : MayName s cy) : cycleFar s cy = false := by
  unfold MayName acceptCheck at hmay
  cases hfar : cycleFar s cy with
  | false => rfl
  | true => simp [hfar] at hmay

/-- The opcodes of the commands of class A that act otherwise than by waiting. -/
abbrev actsAtOnce (op : Nat) : Prop := op = 0x24 ∨ op = 0x61 ∨ op = 0x18 ∨ op = 0x25 ∨ op = 0x34 ∨ op = 0x35 ∨ op = 0x36

/-- The state with one more command that waits. -/
def posted (w : Waiting) (s : State) : State := { s with cyc := { s.cyc with waiting := s.cyc.waiting ++ [w] } }

/-- What a response carries beyond the cycle: SP_CLAMPED of a SETPOINT_SET (R115). -/
def clampByte (w : Waiting) (s : State) : List Byte := if w.opcode = 0x30 then be 1 (b2n (spClamps s (w.arg 0) w.elems)) else []

theorem accept_of_waits {w : Waiting} (hop : ¬ actsAtOnce w.opcode) (hmay : MayName s w.cycle) :
    accept w s = (posted w s, .ok, be 6 w.cycle.toNat ++ clampByte w s) := by
  have hcheck : acceptCheck s w.cycle 0 = .ok := hmay
  unfold accept
  dsimp only
  split
  case h_8 =>
    rw [hcheck]
    rfl
  all_goals
    next hw => exact absurd (by unfold actsAtOnce; omega) hop

/-- A command posted for its cycle is answered with it, and nothing else has changed. -/
theorem posted_answer (hh : Heard h s) (op : Nat) (cy : CycleNo) (args : List Int) :
    Posted h op cy args s (answer h op .ok (be 6 cy.toNat) (posted (waitFor h op cy args) s)) := by
  have hh' : Heard h (posted (waitFor h op cy args) s) := hh
  have hmail := onlyMail_answer hh' op .ok (be 6 cy.toNat)
  refine ⟨(congrArg (·.cyc.waiting) hmail :), responded_answer hh' op .ok (be 6 cy.toNat), ?_⟩
  exact (congrArg (fun t : State => { t with mbx := s.mbx, cyc := { t.cyc with waiting := s.cyc.waiting } }) hmail :)

theorem classA_of_waits {w : Waiting} (hfol : hasFollower s = false) (hop : ¬ actsAtOnce w.opcode) (hmay : MayName s w.cycle) :
    classA h w s = answer h w.opcode .ok (be 6 w.cycle.toNat ++ clampByte w s) (posted w s) := by
  have hnow : ([0x18, 0x34, 0x35].contains w.opcode) = false := by
    unfold actsAtOnce at hop
    simp only [List.contains_eq_mem, List.mem_cons, List.not_mem_nil, or_false, decide_eq_false_iff_not]
    omega
  simp only [classA, hfol, accept_of_waits hop hmay, countNow, hnow, Bool.and_false, Bool.false_eq_true, if_false, abortNotice, ne_eq, reduceCtorEq,
    not_false_eq_true, if_true]

/-- A command whose opcode is not SETPOINT_SET's carries its cycle alone. -/
theorem clampByte_of_ne {w : Waiting} (hop : w.opcode ≠ 0x30) : clampByte w s = [] := if_neg hop

theorem whenA_of_ok {w : When} {args : List Int} {pre : State → Status} (hfol : hasFollower s = false) (hop : ¬ actsAtOnce c.op)
    (hset : c.op ≠ 0x30) (hmay : MayName s (whenCycle s w false)) (hpre : pre s = .ok) :
    whenA h c w args pre s = answer h c.op .ok (be 6 (whenCycle s w false).toNat) (posted (waitFor h c.op (whenCycle s w false) args) s) := by
  have hcheck : acceptCheck s (whenCycle s w false) 0 = .ok := hmay
  have hclass := classA_of_waits (h := h) (w := waitFor h c.op (whenCycle s w false) args) hfol hop hmay
  rw [clampByte_of_ne (w := waitFor h c.op (whenCycle s w false) args) hset, List.append_nil] at hclass
  unfold whenA
  dsimp only
  rw [if_neg (by simp [near_of_mayName hmay]), hpre, hcheck]
  exact hclass

theorem whenL_of_ok {w : When} {args : List Int} {pre : State → Status} {cy : CycleNo} (hop : ¬ actsAtOnce c.op) (hset : c.op ≠ 0x30)
    (hcy : cy = (if w.asap then firstCycle s (2 * tccTicks s) else w.cycle)) (hmay : MayName s cy) (hpre : pre s = .ok) :
    whenL h c w args pre s = answer h c.op .ok (be 6 cy.toNat) (posted (waitFor h c.op cy args) s) := by
  have haccept := accept_of_waits (w := waitFor h c.op cy args) hop hmay
  rw [clampByte_of_ne (w := waitFor h c.op cy args) hset, List.append_nil] at haccept
  unfold whenL
  dsimp only
  rw [← hcy, if_neg (by simp [near_of_mayName hmay]), hpre, haccept]
  rfl

/-- A command of class A that waits, where nothing speaks against it. -/
theorem goes_whenA {i : Instr} {w : When} {args : List Int} {pre : State → Status} (hp : Passes h c s)
    (hexec : exec i s = .next (whenA h c w args pre s)) (hfol : hasFollower s = false) (hop : ¬ actsAtOnce c.op)
    (hset : c.op ≠ 0x30) (hmay : MayName s (whenCycle s w false)) (hpre : pre s = .ok) : Goes i s (Posted h c.op (whenCycle s w false) args s) := by
  rw [whenA_of_ok hfol hop hset hmay hpre] at hexec
  exact ⟨_, hexec, posted_answer hp.1 ..⟩

theorem goes_whenL {i : Instr} {w : When} {args : List Int} {pre : State → Status} {cy : CycleNo} (hp : Passes h c s)
    (hexec : exec i s = .next (whenL h c w args pre s)) (hop : ¬ actsAtOnce c.op) (hset : c.op ≠ 0x30)
    (hcy : cy = (if w.asap then firstCycle s (2 * tccTicks s) else w.cycle)) (hmay : MayName s cy) (hpre : pre s = .ok) :
    Goes i s (Posted h c.op cy args s) := by
  rw [whenL_of_ok hop hset hcy hmay hpre] at hexec
  exact ⟨_, hexec, posted_answer hp.1 ..⟩

theorem catCheck_ok {may : State → Nat → Bool} {ci : Nat} (hmember : (memberOf s ci).isSome = true) (hmay : may s ci = true) :
    catCheck may ci s = .ok := by
  simp [catCheck, hmay, Option.isNone_eq_false_iff.2 hmember]

/-- A SETPOINT_SET that waits (R114). -/
def setpointFor (h : BcsHdr) (cy : CycleNo) (slot : Nat) (es : List ElemWord) : Waiting :=
  { waitFor h 0x30 cy [(slot : Int)] with elems := es }

theorem classA_setpoint {cy : CycleNo} (hfol : hasFollower s = false) (hmay : MayName s cy) (slot : Nat) (es : List ElemWord) :
    classA h (setpointFor h cy slot es) s =
      answer h 0x30 .ok (be 6 cy.toNat ++ be 1 (b2n (spClamps s slot es))) (posted (setpointFor h cy slot es) s) := by
  have hop : ¬ actsAtOnce (setpointFor h cy slot es).opcode := show ¬ actsAtOnce 0x30 by decide
  have hclamp : clampByte (setpointFor h cy slot es) s = be 1 (b2n (spClamps s slot es)) := if_pos rfl
  rw [classA_of_waits hfol hop hmay, hclamp]
  rfl

theorem onOk_ok {β : Type} (go : β) (no : Status → β) : onOk .ok go no = go := rfl

/-- SETPOINT_SET, where nothing speaks against it (R114, R115). -/
theorem goes_setpointSet {w : When} {slot : Nat} {es : List ElemWord} (hp : Passes h (cSetpointSet es.length) s) (hfol : hasFollower s = false)
    (hmay : MayName s (whenCycle s w false)) (hslot : slot ≤ 255) (hpos : 0 < es.length) (hlen : es.length ≤ 16)
    (hcheck : slotCheck slot es.length s = .ok) :
    Goes (.setpointSet h w slot es) s fun t =>
      t.cyc.waiting = s.cyc.waiting ++ [setpointFor h (whenCycle s w false) slot es] ∧
      Responded h 0x30 .ok (be 6 (whenCycle s w false).toNat ++ be 1 (b2n (spClamps s slot es))) s t ∧
      { t with mbx := s.mbx, cyc := { t.cyc with waiting := s.cyc.waiting } } = s := by
  have haccept : acceptCheck s (whenCycle s w false) 0 = .ok := hmay
  have hrange : ¬(255 < slot ∨ es.length = 0 ∨ 16 < es.length) := by omega
  have hexec : exec (.setpointSet h w slot es) s = .next (classA h (setpointFor h (whenCycle s w false) slot es) s) := by
    have hnear : ¬ cycleFar s (whenCycle s w false) = true := by simp [near_of_mayName hmay]
    change execSetpointSet h w slot es s = _
    unfold execSetpointSet
    dsimp only
    rw [bcsRun_of_passes hp, if_neg hrange, if_neg hnear, hcheck, haccept, onOk_ok, onOk_ok, setpointFor]
  rw [classA_setpoint hfol hmay] at hexec
  have hh' : Heard h (posted (setpointFor h (whenCycle s w false) slot es) s) := hp.1
  have hmail := onlyMail_answer hh' 0x30 .ok (be 6 (whenCycle s w false).toNat ++ be 1 (b2n (spClamps s slot es)))
  have hresp := responded_answer hh' 0x30 .ok (be 6 (whenCycle s w false).toNat ++ be 1 (b2n (spClamps s slot es)))
  refine ⟨_, hexec, (congrArg (·.cyc.waiting) hmail :), hresp, ?_⟩
  exact (congrArg (fun t : State => { t with mbx := s.mbx, cyc := { t.cyc with waiting := s.cyc.waiting } }) hmail :)

/-- Settles O38: the commands of class A, SETPOINT_SET among them, then those of class L. -/
theorem scheduledCommands : Obligations.ScheduledCommands := by
  unfold Obligations.ScheduledCommands
  intro s h w
  refine ⟨fun hfol hmay => ⟨fun hp hcheck => ?deblock, fun hp => ?blockClear, fun k p hp hcode hstep => ?phase, fun td hp htd hswitch => ?domain,
    fun ci hp hmember hex => ?exclude, fun ci hp hmember hex => ?restore, fun a b hp hpos hle => ?flags,
    fun slot es hp hslot hpos hlen hcheck => ?setpoint⟩, fun cy hcy hmay => ⟨fun hp => ?stats, fun a b hp => ?minmax, fun m hp => ?pulse⟩⟩
  case deblock =>
    exact goes_whenA hp (by simp only [exec, execDeblock, bcsRun_of_passes hp]) hfol (by decide) (by decide) hmay hcheck
  case blockClear =>
    exact goes_whenA (pre := fun _ => .ok) hp (by simp only [exec, execBlockClear, bcsRun_of_passes hp]) hfol (by decide) (by decide) hmay rfl
  case phase =>
    exact goes_whenA (pre := fun s => if phaseStep s.dev.phase p then .ok else .state) hp
      (by simp only [exec, execPhaseSet, bcsRun_of_passes hp, hcode]) hfol (by decide) (by decide) hmay (if_pos hstep)
  case domain =>
    have hok : (switchBad s td).getD .ok = .ok := by rw [hswitch]; rfl
    exact goes_whenA (pre := fun s => (switchBad s td).getD .ok) hp
      (by simp only [exec, execTimeDomainSelect, bcsRun_of_passes hp, Nat.not_lt.2 htd, if_false]) hfol (by decide) (by decide) hmay hok
  case exclude =>
    exact goes_whenA hp (by simp only [exec, execCellExclude, bcsRun_of_passes hp]) hfol (by decide) (by decide) hmay (catCheck_ok hmember hex)
  case restore =>
    exact goes_whenA hp (by simp only [exec, execCellRestore, bcsRun_of_passes hp]) hfol (by decide) (by decide) hmay (catCheck_ok hmember hex)
  case flags =>
    have hrange : ¬(b = 0 ∨ 4096 < b) := by omega
    exact goes_whenA (pre := fun _ => .ok) hp (by simp only [exec, execNodeFlagsClear, bcsRun_of_passes hp, hrange, if_false]) hfol (by decide)
      (by decide) hmay rfl
  case setpoint => exact goes_setpointSet hp hfol hmay hslot hpos hlen hcheck
  case stats =>
    exact goes_whenL (pre := fun _ => .ok) hp (by simp only [exec, execSchedStatsClear, bcsRun_of_passes hp]) (by decide) (by decide) hcy hmay rfl
  case minmax =>
    exact goes_whenL (pre := fun _ => .ok) hp (by simp only [exec, execPointMinmaxClear, bcsRun_of_passes hp]) (by decide) (by decide) hcy hmay rfl
  case pulse =>
    exact goes_whenL (pre := fun _ => .ok) hp (by simp only [exec, execPulseFlagsClear, bcsRun_of_passes hp]) (by decide) (by decide) hcy hmay rfl

/-! ### The twin (R340, R434) -/

theorem classA_of_follower {w : Waiting} (hfol : hasFollower s = true) :
    classA h w s = sendTransfer h w s := if_pos hfol

/-- A command sent to the twin waits for its confirmation, and nothing else has changed. -/
theorem transferred_sendTransfer (hghost : isGhost h s = false) (w : Waiting) : Transferred h w s (sendTransfer h w s) := by
  have hsend : sendTransfer h w s = { s with tan := { s.tan with xfers := s.tan.xfers ++
      [{ tr := transferOf w s, mbx := h.mbx, epoch := h.sessionEpoch, tag := h.tag, w := w }] } } := if_neg (ne_true_of_eq_false hghost)
  rw [hsend]
  exact ⟨rfl, rfl⟩

/-- A command of class A with a cycle, where there is a follower. -/
theorem goes_whenA_transfer {i : Instr} {w : When} {args : List Int} {pre : State → Status} (hp : Passes h c s)
    (hexec : exec i s = .next (whenA h c w args pre s)) (hfol : hasFollower s = true)
    (hmay : MayName s (whenCycle s w false)) (hpre : pre s = .ok) : Goes i s (Transferred h (waitFor h c.op (whenCycle s w false) args) s) := by
  have hcheck : acceptCheck s (whenCycle s w false) 0 = .ok := hmay
  have hghost := live_of_heard hp.1
  have hwhen : whenA h c w args pre s = sendTransfer h (waitFor h c.op (whenCycle s w false) args) s := by
    unfold whenA
    dsimp only
    rw [if_neg (by simp [near_of_mayName hmay]), hpre, hcheck]
    exact classA_of_follower hfol
  rw [hwhen] at hexec
  exact ⟨_, hexec, transferred_sendTransfer hghost _⟩

/-- A follower forwards a command of class F. -/
theorem runF_of_follower (hh : Heard h s) (hhead : headCheck h c s = .ok) (hfol : follower s = true) (args : List Int) (act : State → State) :
    runF h c args act s = .next (sendTransfer h (waitFor h c.op 0 args) s) := by
  obtain ⟨hmbx, hready, -, -⟩ := hh
  simp only [runF, Machine.unit, hmbx, hready, hhead, hfol, decide_true, if_true, Bool.not_true, Bool.false_eq_true, if_false]

/-- Settles O39: class A with and without a cycle, then class F on a follower. -/
theorem transferredCommands : Obligations.TransferredCommands := by
  unfold Obligations.TransferredCommands
  intro s h w
  refine ⟨fun hfol hmay => ⟨fun hp hcheck => ?deblock, fun hp => ?blockClear, fun ci hp hmember hex => ?exclude, fun hp htwin hhand => ?switch⟩,
    fun b hfol hp hb hnamed => ?restart, fun hfol hh hhead => ?block, fun p hfol hh hhead => ?request, fun hfol hh hhead => ?withdraw⟩
  case deblock => exact goes_whenA_transfer hp (by simp only [exec, execDeblock, bcsRun_of_passes hp]) hfol hmay hcheck
  case blockClear =>
    exact goes_whenA_transfer (pre := fun _ => .ok) hp (by simp only [exec, execBlockClear, bcsRun_of_passes hp]) hfol hmay rfl
  case exclude =>
    exact goes_whenA_transfer hp (by simp only [exec, execCellExclude, bcsRun_of_passes hp]) hfol hmay (catCheck_ok hmember hex)
  case switch =>
    have hok : (if twinRole s ≠ some .eligible then Status.state else if s.tan.handover ≠ 0 then .busy else .ok) = .ok := by simp [htwin, hhand]
    exact goes_whenA_transfer (pre := fun s => if twinRole s ≠ some .eligible then .state else if s.tan.handover ≠ 0 then .busy else .ok) hp
      (by simp only [exec, execTandemSwitch, bcsRun_of_passes hp]) hfol hmay hok
  case restart =>
    have hghost := live_of_heard hp.1
    have hexec : exec (.basinRestart h b) s = .next (classA h (waitFor h 0x18 0 [(b : Int)]) s) := by
      simp only [exec, execBasinRestart, bcsRun_of_passes hp, Nat.not_lt.2 hb, hnamed, Bool.not_true, Bool.false_eq_true, if_false]
    rw [classA_of_follower hfol] at hexec
    exact ⟨_, hexec, transferred_sendTransfer hghost _⟩
  case block =>
    have hexec : exec (.block h) s = .next (sendTransfer h (waitFor h 0x11 0 []) s) := by
      simp only [exec, execBlock]
      exact runF_of_follower hh hhead hfol [] _
    exact ⟨_, hexec, transferred_sendTransfer (live_of_heard hh) _⟩
  case request =>
    have hexec : exec (.srbRequest h p) s = .next (sendTransfer h (waitFor h 0x14 0 [(p : Int)]) s) := by
      simp only [exec, execSrbRequest]
      exact runF_of_follower hh hhead hfol [(p : Int)] _
    exact ⟨_, hexec, transferred_sendTransfer (live_of_heard hh) _⟩
  case withdraw =>
    have hexec : exec (.srbWithdraw h) s = .next (sendTransfer h (waitFor h 0x15 0 []) s) := by
      simp only [exec, execSrbWithdraw]
      exact runF_of_follower hh hhead hfol [] _
    exact ⟨_, hexec, transferred_sendTransfer (live_of_heard hh) _⟩

end Sys2Proof.Proofs
end

section
/-! The staging area and the fault records (R344, R352–R363, R369, R380, R385). -/

set_option Elab.async false

namespace Sys2Proof.Proofs
open Sys2Proof Sys2Proof.Machine Sys2Proof.Laws

variable {h : BcsHdr} {s : State}

/-! ### A changed staging area, and its answer -/

section Pound
variable (hh : Heard h s) (x : Pound) (op : Nat) (st : Status) (body : List Byte)
include hh

theorem heard_withPound : Heard h { s with pound := x } := hh

theorem pound_answer : (answer h op st body { s with pound := x }).pound = x :=
  (frame_answer_of_live (live_of_heard (heard_withPound hh x)) op st body).get State.pound

theorem cfg_answer : (answer h op st body { s with pound := x }).cfg = s.cfg :=
  (frame_answer_of_live (live_of_heard (heard_withPound hh x)) op st body).get State.cfg

theorem responded_withPound : Responded h op st body s (answer h op st body { s with pound := x }) :=
  responded_answer (heard_withPound hh x) op st body

theorem rest_withPound : { answer h op st body { s with pound := x } with mbx := s.mbx, pound := s.pound } = s :=
  (frame_answer_of_live (live_of_heard (heard_withPound hh x)) op st body).get (fun u => { u with mbx := s.mbx, pound := s.pound })

end Pound

/-! ### PLATE_LOAD -/

/-- A plate load begins (R352). -/
def loadBegun (h : BcsHdr) (n : Nat) (d : List Byte) (p : Pound) : Pound := { poundTouch h p with load := some (n, d), image := [], plate := none }

theorem exec_plateLoadBegin {n : Nat} {d : List Byte} (hp : Passes h (cPlateLoad 40) s) (hpos : 0 < n) (hle : n ≤ 4194304)
    (hbusy : poundBusy h s = false) (hempty : s.pound.entries = []) :
    exec (.plateLoadBegin h n d) s = .next (answer h 0x20 .ok [] { s with pound := loadBegun h n d s.pound }) := by
  have hrange : ¬(n = 0 ∨ 4194304 < n) := by omega
  simp only [exec, execPlateLoadBegin, bcsRun_of_passes hp, hrange, hbusy, hempty, List.isEmpty_nil, Bool.not_true, Bool.or_self, Bool.false_eq_true,
    if_false]
  rfl

/-- Data of a plate load is appended (R352). -/
def loadAppended (h : BcsHdr) (d : List Byte) (p : Pound) : Pound := { poundTouch h p with image := p.image ++ d }

theorem exec_plateLoadData {o : Nat} {d : List Byte} (hp : Passes h (cPlateLoad 8) s) (hbusy : poundBusy h s = false)
    (hload : s.pound.load.isSome = true) (ho : o = s.pound.image.length) :
    exec (.plateLoadData h o d) s = .next (answer h 0x20 .ok [] { s with pound := loadAppended h d s.pound }) := by
  have hbad : (s.pound.load.isNone || decide (o ≠ s.pound.image.length)) = false := by simp [ho, Option.isNone_eq_false_iff.2 hload]
  simp only [exec, execPlateLoadData, bcsRun_of_passes hp, hbusy, hbad, Bool.false_eq_true, if_false]
  rfl

theorem exec_plateLoadData_bad {o : Nat} {d : List Byte} (hp : Passes h (cPlateLoad 8) s) (hbusy : poundBusy h s = false)
    (hbad : s.pound.load = none ∨ o ≠ s.pound.image.length) : exec (.plateLoadData h o d) s = .next (answer h 0x20 .sequence [] s) := by
  have hbad' : (s.pound.load.isNone || decide (o ≠ s.pound.image.length)) = true := by
    rcases hbad with h | h <;> simp [h]
  simp only [exec, execPlateLoadData, bcsRun_of_passes hp, hbusy, hbad', Bool.false_eq_true, if_false, if_true]
  rfl

/-- A plate load ends with its plate staged (R354). -/
def loadEnded (h : BcsHdr) (d : List Byte) (content : Plate) (p : Pound) : Pound :=
  { poundTouch h p with load := none, plate := some (plateOf p.image d content) }

theorem exec_plateLoadEnd {p : Plate} {n : Nat} {d : List Byte} (hp : Passes h (cPlateLoad 1) s) (hbusy : poundBusy h s = false)
    (hload : s.pound.load = some (n, d)) (hcheck : loadCheck s n d p = .ok) :
    ∃ body, exec (.plateLoadEnd h p) s = .next (answer h 0x20 .ok body { s with pound := loadEnded h d p s.pound }) := by
  simp only [exec, execPlateLoadEnd, bcsRun_of_passes hp, hbusy, hload, hcheck, Bool.false_eq_true, if_false]
  exact ⟨_, rfl⟩

/-- The staging area is emptied, but for a check that runs and the last commit. -/
def areaEmptied (p : Pound) : Pound := { checking := p.checking, target := p.target }

theorem exec_plateLoadEnd_bad {p : Plate} {n : Nat} {d : List Byte} (hp : Passes h (cPlateLoad 1) s) (hbusy : poundBusy h s = false)
    (hload : s.pound.load = some (n, d)) (hcheck : loadCheck s n d p ≠ .ok) :
    exec (.plateLoadEnd h p) s = .next (answer h 0x20 (loadCheck s n d p) [] { s with pound := areaEmptied s.pound }) := by
  simp only [exec, execPlateLoadEnd, bcsRun_of_passes hp, hbusy, hload, Bool.false_eq_true, if_false]
  rfl

/-- Settles O42: each of BEGIN, DATA and END, taken and refused. -/
theorem plateLoad : Obligations.PlateLoad := by
  unfold Obligations.PlateLoad
  intro s h
  refine ⟨fun n d hp hpos hle hbusy hempty => ?begin_, fun o d hp hbusy hload ho => ?data, fun o d hp hbusy hbad => ?order,
    fun p n d hp hbusy hload hcheck => ?end_, fun p n d hp hbusy hload hcheck => ?bad⟩
  case begin_ =>
    have hx := pound_answer hp.1 (loadBegun h n d s.pound) 0x20 .ok []
    exact ⟨_, exec_plateLoadBegin hp hpos hle hbusy hempty, by rw [hx]; rfl, by rw [hx]; rfl, by rw [hx]; rfl, by rw [hx]; rfl, by rw [hx]; rfl,
      by rw [hx]; rfl, responded_withPound hp.1 .., rest_withPound hp.1 ..⟩
  case data =>
    have hx := pound_answer hp.1 (loadAppended h d s.pound) 0x20 .ok []
    exact ⟨_, exec_plateLoadData hp hbusy hload ho, by rw [hx]; rfl, by rw [hx]; rfl, responded_withPound hp.1 .., rest_withPound hp.1 ..⟩
  case order => exact goes_answer hp.1 (exec_plateLoadData_bad hp hbusy hbad)
  case end_ =>
    obtain ⟨body, hexec⟩ := exec_plateLoadEnd hp hbusy hload hcheck
    have hx := pound_answer hp.1 (loadEnded h d p s.pound) 0x20 .ok body
    exact ⟨_, hexec, by rw [hx]; rfl, by rw [hx]; rfl, by rw [hx]; rfl, by rw [hx]; rfl, rest_withPound hp.1 ..⟩
  case bad =>
    have hx := pound_answer hp.1 (areaEmptied s.pound) 0x20 (loadCheck s n d p) []
    exact ⟨_, exec_plateLoadEnd_bad hp hbusy hload hcheck, responded_withPound hp.1 .., by rw [hx]; rfl, by rw [hx]; rfl, by rw [hx]; rfl,
      rest_withPound hp.1 ..⟩

/-! ### FAULT_READ and FAULT_ACK -/

section Fcru
variable (hh : Heard h s) (x : Fcru) (op : Nat) (st : Status) (body : List Byte)
include hh

theorem heard_withFcru : Heard h { s with fcru := x } := hh

theorem responded_withFcru : Responded h op st body s (answer h op st body { s with fcru := x }) :=
  responded_answer (heard_withFcru hh x) op st body

theorem rest_withFcru : { answer h op st body { s with fcru := x } with mbx := s.mbx, fcru := s.fcru } = s :=
  (frame_answer_of_live (live_of_heard (heard_withFcru hh x)) op st body).get (fun u => { u with mbx := s.mbx, fcru := s.fcru })

end Fcru

theorem fcru_answer (x : Fcru) (op : Nat) (st : Status) (body : List Byte) : (answer h op st body { s with fcru := x }).fcru = x := answer_fcru ..

/-- The records with one of them replaced. -/
def withRec (src : Nat) (r : Cause) (f : Fcru) : Fcru := { f with recs := f.recs.set src r }

theorem rec_of_fcru {t : State} {src : Nat} {r : Cause} (hf : t.fcru = withRec src r s.fcru) (k : Nat) :
    rec? t k = if src = k then r else rec? s k := by
  simp [rec?, hf, withRec]

theorem exec_faultRead {src : Nat} (hp : Passes h cFaultRead s) (hsrc : src ≤ 511) (hrow : (faultInfo src).isSome = true)
    (hocc : (rec? s src).occurrences ≠ 0) :
    exec (.faultRead h src) s = .next (answer h 0x48 .ok (be 4 s.fcru.seq.toNat ++ causeBytes src { rec? s src with read := true })
      { s with fcru := withRec src { rec? s src with read := true } s.fcru }) := by
  simp only [exec, execFaultRead, bcsRun_of_passes hp, Nat.not_lt.2 hsrc, Option.isNone_eq_false_iff.2 hrow, hocc, Bool.false_eq_true, if_false,
    ne_eq, not_false_eq_true, decide_true]
  rfl

theorem exec_faultRead_none {src : Nat} (hp : Passes h cFaultRead s) (hsrc : src ≤ 511) (hrow : (faultInfo src).isSome = true)
    (hocc : (rec? s src).occurrences = 0) : exec (.faultRead h src) s = .next (answer h 0x48 .ok (be 4 s.fcru.seq.toNat ++ be 60 0) s) := by
  have hbytes : ∀ r : Cause, r.occurrences = 0 → causeBytes src r = be 60 0 := fun r hr => if_pos hr
  simp only [exec, execFaultRead, bcsRun_of_passes hp, Nat.not_lt.2 hsrc, Option.isNone_eq_false_iff.2 hrow, hocc, hbytes,
    Bool.false_eq_true, if_false, if_true]

theorem exec_faultAck_ok {src : Nat} {q : Word} (hp : Passes h cFaultAck s) (hsrc : src ≤ 511) (hcheck : ackCheck (rec? s src) q = .ok) :
    exec (.faultAck h src q) s = .next (answer h 0x49 .ok [] { s with fcru := withRec src { rec? s src with latched := false } s.fcru }) := by
  simp only [exec, execFaultAck, bcsRun_of_passes hp, Nat.not_lt.2 hsrc, hcheck, onOk_ok, if_false]
  rfl

theorem exec_faultAck_bad {src : Nat} {q : Word} {e : Status} (hp : Passes h cFaultAck s) (hsrc : src ≤ 511) (hcheck : ackCheck (rec? s src) q = e)
    (hne : e ≠ .ok) : exec (.faultAck h src q) s = .next (answer h 0x49 e [] s) := by
  simp only [exec, execFaultAck, bcsRun_of_passes hp, Nat.not_lt.2 hsrc, hcheck, if_false]
  cases e <;> first | rfl | exact absurd rfl hne

/-- Settles O44: a read of a record that occurred and of one that did not, and each answer of an acknowledgement. -/
theorem faultRecords : Obligations.FaultRecords := by
  unfold Obligations.FaultRecords
  intro s h src
  refine ⟨fun hp hsrc hrow hocc => ?read, fun hp hsrc hrow hocc => goes_answer hp.1 (exec_faultRead_none hp hsrc hrow hocc),
    fun hp hsrc hlatched hactive => ?ack, fun q hp hsrc hlatched hq => ?sequence, fun hp hsrc hlatched hactive => ?state, fun q hp hsrc hlatched => ?unknown⟩
  case read =>
    have hrec := rec_of_fcru (fcru_answer (s := s) (h := h) (withRec src { rec? s src with read := true } s.fcru) 0x48 .ok
      (be 4 s.fcru.seq.toNat ++ causeBytes src { rec? s src with read := true }))
    exact ⟨_, exec_faultRead hp hsrc hrow hocc, (hrec src).trans (if_pos rfl), fun k hk => (hrec k).trans (if_neg (Ne.symm hk)),
      responded_withFcru hp.1 .., rest_withFcru hp.1 ..⟩
  case ack =>
    have hcheck : ackCheck (rec? s src) (rec? s src).lastSeq = .ok := by
      have hl : (rec? s src).latched = true := hlatched
      simp [ackCheck, hl, hactive]
    have hrec := rec_of_fcru (fcru_answer (s := s) (h := h) (withRec src { rec? s src with latched := false } s.fcru) 0x49 .ok [])
    exact ⟨_, exec_faultAck_ok hp hsrc hcheck, (hrec src).trans (if_pos rfl), fun k hk => (hrec k).trans (if_neg (Ne.symm hk)),
      responded_withFcru hp.1 .., rest_withFcru hp.1 ..⟩
  case sequence =>
    have hl : (rec? s src).latched = true := hlatched
    exact goes_answer hp.1 (exec_faultAck_bad hp hsrc (by simp [ackCheck, hl, hq]) (by decide))
  case state =>
    have hl : (rec? s src).latched = true := hlatched
    exact goes_answer hp.1 (exec_faultAck_bad hp hsrc (by simp [ackCheck, hl, hactive]) (by decide))
  case unknown =>
    have hl : (rec? s src).latched = false := eq_false_of_ne_true hlatched
    exact goes_answer hp.1 (exec_faultAck_bad hp hsrc (by simp [ackCheck, hl]) (by decide))

end Sys2Proof.Proofs
end

section
/-! Changes through the staging area (R344, R356–R363, R369). -/

set_option Elab.async false

namespace Sys2Proof.Proofs
open Sys2Proof Sys2Proof.Machine Sys2Proof.Laws

variable {h : BcsHdr} {s : State}

/-! ### Answers of a changed state -/

theorem heard_of_mail {t : State} (hm : t.mbx = s.mbx) (hd : t.dev = s.dev) (hh : Heard h s) : Heard h t := by
  unfold Heard isGhost mget at *
  rwa [hm, hd]

theorem responded_of_mail {t : State} (hm : t.mbx = s.mbx) (hd : t.dev = s.dev) (hh : Heard h s) (op : Nat) (st : Status) (body : List Byte) :
    Responded h op st body s (answer h op st body t) := by
  have hr := responded_answer (heard_of_mail hm hd hh) op st body
  unfold Responded Queued response mget at *
  rwa [hm, hd] at hr

theorem frame_answer_of_mail {t : State} (hm : t.mbx = s.mbx) (hd : t.dev = s.dev) (hh : Heard h s) (op : Nat) (st : Status) (body : List Byte) :
    Frame [.mbx] t (answer h op st body t) := frame_answer_of_live (live_of_heard (heard_of_mail hm hd hh)) op st body

/-- A command of class A that the unit alone accepts or refuses, but for one that counts at once and for an operation that ends (R349, R434). -/
theorem classA_of_accept {w : Waiting} {t : State} {st : Status} {body : List Byte} (hfol : hasFollower s = false)
    (haccept : accept w s = (t, st, body)) (hop : w.opcode ∉ [0x18, 0x34, 0x35]) (hst : st ≠ .aborted) :
    classA h w s = answer h w.opcode st body t := by
  have hnow : countNow w st t = t := if_neg (by simpa using fun _ => by simpa using hop)
  simp only [classA, hfol, haccept, hnow, Bool.false_eq_true, if_false, abortNotice, if_pos hst]

/-! ### STAGE_SET -/

/-- The staging area with entries added by a session (R344). -/
def entriesStaged (h : BcsHdr) (es : SMap Int) (p : Pound) : Pound := { poundTouch h p with entries := es }

theorem exec_stageSet {es : List (Nat × Int)} (hp : Passes h (cStageSet es.length) s) (hpos : 0 < es.length) (hlen : es.length ≤ 19)
    (hbusy : poundBusy h s = false) (hplate : s.pound.plate = none) (hload : s.pound.load = none) (hcheck : entriesCheck s es = .ok)
    (hfull : (entriesAdd s es).length ≤ 512) :
    exec (.stageSet h es) s =
      .next (answer h 0x21 .ok (be 2 (entriesAdd s es).length) { s with pound := entriesStaged h (entriesAdd s es) s.pound }) := by
  have hrange : ¬(es.length = 0 ∨ 19 < es.length) := by omega
  change execStageSet h es s = _
  unfold execStageSet
  dsimp only
  rw [bcsRun_of_passes hp, if_neg hrange, if_neg (by simp [hbusy, hplate, hload]), hcheck, onOk_ok, if_neg (Nat.not_lt.2 hfull)]
  rfl

theorem exec_stageSet_busy {es : List (Nat × Int)} (hp : Passes h (cStageSet es.length) s) (hpos : 0 < es.length) (hlen : es.length ≤ 19)
    (hbusy : poundBusy h s = true) : exec (.stageSet h es) s = .next (answer h 0x21 .busy [] s) := by
  have hrange : ¬(es.length = 0 ∨ 19 < es.length) := by omega
  simp only [exec, execStageSet, bcsRun_of_passes hp, hrange, hbusy, Bool.true_or, if_false, if_true]
  rfl

/-! ### STAGE_CHECK -/

theorem exec_stageCheck {c : Cand} (hp : Passes h cStageCheck s) (hbusy : poundBusy h s = false) (hidle : s.pound.checking = none)
    (hcand : candOf s = some c) :
    exec (.stageCheck h) s = .next { s with pound := { s.pound with checking := some (h.mbx, h.sessionEpoch, h.tag) } } := by
  have hghost : isGhost h { s with pound := { s.pound with checking := some (h.mbx, h.sessionEpoch, h.tag) } } = false := live_of_heard hp.1
  simp only [exec, execStageCheck, bcsRun_of_passes hp, hbusy, hidle, hcand, Option.isSome_none, Option.isNone_some, Bool.or_self,
    Bool.false_eq_true, if_false, ghostDone, hghost]

/-- A check that found nothing (R358). -/
def checkPassed (p : Pound) (x : List Byte × Bool) : Pound := { p with checking := none, check := some x }

theorem exec_stageCheckComplete {c : Cand} {x : Nat × Word × BitVec 16} (hcheck : s.pound.checking = some x)
    (hcand : candOf { s with pound := { s.pound with checking := none } } = some c)
    (hpass : (checkFail { s with pound := { s.pound with checking := none } } c).1 = 0) :
    ∃ body, exec .stageCheckComplete s = .next (respondLate x.1 x.2.1 x.2.2 0x22 .ok body
      { s with free := s.free + 1, pound := checkPassed s.pound (changeDigest s, protectionClass s) }) := by
  have hexec : exec .stageCheckComplete s = .next (checkDone x.1 x.2.1 x.2.2 { s with pound := { s.pound with checking := none } }) := by
    simp only [exec, execStageCheckComplete, hcheck]
  rw [hexec, checkDone, hcand]
  dsimp only
  rw [hpass, if_pos rfl]
  exact ⟨_, rfl⟩

/-! ### STAGE_COUNTERSIGN -/

theorem exec_stageCountersign {d : List Byte} {prot : Bool} {r : SessRole} {party : Nat} (hp : Passes h cStageCountersign s)
    (hsess : sessionFor h s = (.ok, r, party)) (hcheck : s.pound.check = some (d, prot)) (hsigns : s.pound.signs = []) :
    exec (.stageCountersign h d) s = .next (answer h 0x23 .ok (be 1 1) { s with pound := { s.pound with signs := [(party, r)] } }) := by
  have hsign : countersign d party r s.pound = (.ok, { s.pound with signs := [(party, r)] }) := by
    simp [countersign, hcheck, hsigns]
  simp only [exec, execStageCountersign, bcsRun_of_passes hp, hsess, hsign]
  rfl

/-! ### STAGE_COMMIT -/

/-- The staging area with a pending commit of staged changes (R363). -/
def commitPending (h : BcsHdr) (cy : CycleNo) (p : Pound) : Pound := { p with commit := some (cy, h.mbx, h.tag, false), target := none }

/-- A commit of staged changes is pending, and the inactive copies are written (R363, R364). -/
def commitPosted (h : BcsHdr) (cy : CycleNo) (s : State) : State := bankWrite { s with pound := commitPending h cy s.pound }

theorem frame_withClk (x : Cfg) (y : Clk) : Frame [.cfg, .clk] s { s with cfg := x, clk := y } := rfl

theorem frame_bankWrite (s : State) : Frame [.cfg, .clk] s (bankWrite s) := by
  unfold bankWrite
  split
  · exact frame_withClk ..
  · exact .refl

/-- The inactive copies are written, and the values in force stand (R364). -/
theorem inForce_bankWrite (s : State) : (bankWrite s).cfg.par = s.cfg.par ∧ (bankWrite s).cfg.stages = s.cfg.stages ∧
    (bankWrite s).clk.active = s.clk.active := by
  cases hcand : candOf s <;> simp only [bankWrite, hcand, and_self]

theorem frame_commitPosted (cy : CycleNo) (s : State) : Frame [.pound, .cfg, .clk] s (commitPosted h cy s) := by
  have hset : Frame [.pound] s { s with pound := commitPending h cy s.pound } := rfl
  exact hset.mono.step (frame_bankWrite { s with pound := commitPending h cy s.pound })

theorem pound_commitPosted (cy : CycleNo) (s : State) : (commitPosted h cy s).pound = commitPending h cy s.pound :=
  (frame_bankWrite { s with pound := commitPending h cy s.pound }).get State.pound

theorem exec_stageCommit {w : When} {d : List Byte} (hp : Passes h cStageCommit s) (hfol : hasFollower s = false) (hplate : s.pound.plate = none)
    (hbusy : poundBusy h s = false) (hcheck : commitCheck d s = .ok) (hmay : acceptCheck s (whenCycle s w false) 800 = .ok) :
    exec (.stageCommit h w d) s = .next (answer h 0x24 .ok (be 6 (whenCycle s w false).toNat) (commitPosted h (whenCycle s w false) s)) := by
  have hwhole : s.pound.plate.isSome = false := by rw [hplate]; rfl
  have hnear : cycleFar s (whenCycle s w false) = false := by
    unfold acceptCheck at hmay
    cases hfar : cycleFar s (whenCycle s w false) with
    | false => rfl
    | true => simp [hfar] at hmay
  have haccept : accept (waitFor h 0x24 (whenCycle s w false) []) s =
      (commitPosted h (whenCycle s w false) s, .ok, be 6 (whenCycle s w false).toNat) := by
    change (if s.pound.plate.isSome && decide (s.dev.state = .idle) then _ else onOk (acceptCheck s (whenCycle s w false) 800) _ _) = _
    rw [hwhole, Bool.false_and, if_neg Bool.false_ne_true, hmay, onOk_ok]
    rfl
  have hclass : classA h (waitFor h 0x24 (whenCycle s w false) []) s =
      answer h 0x24 .ok (be 6 (whenCycle s w false).toNat) (commitPosted h (whenCycle s w false) s) :=
    classA_of_accept hfol haccept (show 0x24 ∉ [0x18, 0x34, 0x35] by decide) (by decide)
  rw [← hclass]
  change execStageCommit h w d s = _
  unfold execStageCommit
  simp only [bcsRun_of_passes hp, hwhole, hnear, hbusy, hcheck, hmay, onOk_ok, Bool.false_and, Bool.not_false, Bool.and_false, Bool.false_eq_true,
    if_false]

theorem exec_stageCommit_bad {w : When} {d : List Byte} (hp : Passes h cStageCommit s) (hplate : s.pound.plate = none)
    (hbusy : poundBusy h s = false) (hnear : cycleFar s (whenCycle s w false) = false) (hcheck : commitCheck d s ≠ .ok) :
    exec (.stageCommit h w d) s = .next (answer h 0x24 (commitCheck d s) (be 6 s.cyc.n.toNat) s) := by
  have hwhole : s.pound.plate.isSome = false := by rw [hplate]; rfl
  have hno : ∀ (e : Status) (go : State), e ≠ .ok → onOk e go (fun e => reject h cStageCommit e s) = reject h cStageCommit e s :=
    fun e go he => by cases e <;> first | rfl | exact absurd rfl he
  simp only [exec, execStageCommit, bcsRun_of_passes hp, hwhole, hnear, hbusy, hno _ _ hcheck, Bool.false_and, Bool.not_false, Bool.and_false,
    Bool.false_eq_true, if_false]
  rfl

/-! ### STAGE_ABORT -/

theorem exec_stageAbort (hp : Passes h cStageAbort s) (hrole : abortRole h s = true) :
    exec (.stageAbort h) s = .next (classA h (waitFor h 0x25 0 []) s) := by
  change execStageAbort h s = _
  unfold execStageAbort
  rw [if_neg (by simp [hrole]), bcsRun_of_passes hp]

/-- Settles O43: each step of the way, and the ones turned away. -/
theorem stagedChanges : Obligations.StagedChanges := by
  unfold Obligations.StagedChanges
  intro s h
  refine ⟨fun es hp hpos hlen hbusy hplate hload hcheck hfull => ?set_, fun es hp hpos hlen hbusy => goes_answer hp.1 (exec_stageSet_busy hp hpos hlen hbusy),
    fun c hp hbusy hidle hcand => ⟨_, exec_stageCheck hp hbusy hidle hcand, rfl, rfl⟩, fun c x hcheck hcand hpass => ?complete,
    fun d prot r party hp hsess hcheck hsigns => ?sign, fun w d hp hfol hplate hbusy hcheck hmay => ?commit,
    fun w d hp hplate hbusy hnear hcheck => goes_answer hp.1 (exec_stageCommit_bad hp hplate hbusy hnear hcheck),
    fun hp hfol hrole hcommit hfull => ?abort, fun hp hfol hrole hcommit hempty htarget => ?nothing⟩
  case set_ =>
    have hx := pound_answer hp.1 (entriesStaged h (entriesAdd s es) s.pound) 0x21 .ok (be 2 (entriesAdd s es).length)
    exact ⟨_, exec_stageSet hp hpos hlen hbusy hplate hload hcheck hfull, by rw [hx]; rfl, by rw [hx]; rfl, by rw [hx]; rfl, by rw [hx]; rfl,
      responded_withPound hp.1 .., rest_withPound hp.1 ..⟩
  case complete =>
    obtain ⟨body, hexec⟩ := exec_stageCheckComplete hcheck hcand hpass
    have hframe := frame_respondLate { s with free := s.free + 1, pound := checkPassed s.pound (changeDigest s, protectionClass s) } x.1 x.2.1 x.2.2
      0x22 .ok body
    have hx := hframe.get State.pound
    exact ⟨_, hexec, by rw [hx]; rfl, by rw [hx]; rfl, by rw [hx]; rfl,
      hframe.get (fun u => { u with mbx := s.mbx, pound := s.pound, free := s.free })⟩
  case sign =>
    have hx := pound_answer hp.1 { s.pound with signs := [(party, r)] } 0x23 .ok (be 1 1)
    exact ⟨_, exec_stageCountersign hp hsess hcheck hsigns, hx, responded_withPound hp.1 .., rest_withPound hp.1 ..⟩
  case commit =>
    have hposted := frame_commitPosted (h := h) (whenCycle s w false) s
    have hmail : (commitPosted h (whenCycle s w false) s).mbx = s.mbx := hposted.get State.mbx
    have hdev : (commitPosted h (whenCycle s w false) s).dev = s.dev := hposted.get State.dev
    have hframe := frame_answer_of_mail hmail hdev hp.1 0x24 .ok (be 6 (whenCycle s w false).toNat)
    obtain ⟨hpar, hstages, hclk⟩ := inForce_bankWrite { s with pound := commitPending h (whenCycle s w false) s.pound }
    exact ⟨_, exec_stageCommit hp hfol hplate hbusy hcheck hmay, (hframe.get (·.pound.commit)).trans (congrArg Pound.commit (pound_commitPosted _ s)),
      (hframe.get (·.cfg.par)).trans hpar, (hframe.get (·.cfg.stages)).trans hstages, (hframe.get (·.clk.active)).trans hclk,
      responded_of_mail hmail hdev hp.1 ..⟩
  case abort =>
    have habort : abortStage s = ({ s with pound := areaEmptied s.pound }, .ok, be 2 256 ++ be 16 0) := by
      simp only [abortStage, hcommit, hfull, Bool.not_false, if_true]
      rfl
    have hexec : exec (.stageAbort h) s = .next (answer h 0x25 .ok (be 2 256 ++ be 16 0) { s with pound := areaEmptied s.pound }) :=
      (exec_stageAbort hp hrole).trans (congrArg _ (classA_of_accept hfol habort (show 0x25 ∉ [0x18, 0x34, 0x35] by decide) (by decide)))
    have hx := pound_answer hp.1 (areaEmptied s.pound) 0x25 .ok (be 2 256 ++ be 16 0)
    exact ⟨_, hexec, by rw [poundEmpty, hx]; rfl, by rw [hx]; rfl, by rw [hx]; rfl, by rw [hx]; rfl, cfg_answer hp.1 .., responded_withPound hp.1 ..⟩
  case nothing =>
    have habort : abortStage s = (s, .nothingToAbort, abortBody 1 0 0 s) := by
      simp only [abortStage, hcommit, hempty, htarget, Bool.not_true, Bool.false_eq_true, if_false]
    have hexec : exec (.stageAbort h) s = .next (answer h 0x25 .nothingToAbort (abortBody 1 0 0 s) s) :=
      (exec_stageAbort hp hrole).trans (congrArg _ (classA_of_accept hfol habort (show 0x25 ∉ [0x18, 0x34, 0x35] by decide) (by decide)))
    exact goes_answer hp.1 hexec

end Sys2Proof.Proofs
end

section
/-! Basin ports and moorings: what their operations leave unchanged (R184, R197, R206). -/

set_option Elab.async false

namespace Sys2Proof.Proofs
open Sys2Proof Sys2Proof.Machine Sys2Proof.Laws

variable {s : State}

/-! ### Frames -/

theorem frame_setPort (p : Nat) (f : Port → Port) (s : State) : Frame [.ports] s (setPort p f s) := rfl

theorem frame_setMoor (ci : Nat) (f : Moor → Moor) (s : State) : Frame [.moors] s (setMoor ci f s) := rfl

theorem frame_rangeDone (p : Nat) (c : RangeCmd) (st : Status) (d u : Int) (s : State) : Frame [.mbx] s (rangeDone p c st d u s) := frame_eventTag ..

theorem frame_rangeCmdLost (p m : Nat) (s : State) : Frame [.ports, .mbx] s (rangeCmdLost p m s) := by
  unfold rangeCmdLost
  split
  · exact .ite (.after (frame_rangeDone ..) (frame_setPort ..).mono) .refl
  · exact .refl

theorem frame_moorGo (p m : Nat) (st : MoorState) (s : State) : Frame [.ports, .mbx, .moors] s (moorGo p m st s) := by
  unfold moorGo
  refine .ite .refl (.after (frame_setMoor ..) ?_)
  exact .ite (frame_rangeCmdLost ..).mono .refl

theorem frame_queueSvc (p : Nat) (m : SvcMsg) (s : State) : Frame [.ports] s (queueSvc p m s) := frame_setPort ..

theorem frame_queueRange (p m : Nat) (train : Bool) (s : State) : Frame [.ports] s (queueRange p m train s) := frame_queueSvc ..

theorem frame_vacate (p m : Nat) (s : State) : Frame [.ports, .mbx, .moors] s (vacate p m s) := by
  unfold vacate
  extract_lets x drop gone left
  have hleft : Frame [.ports, .mbx, .moors] s left :=
    .after (frame_setMoor ..) (.after (frame_setPort ..) (frame_moorGo p m .vacant s))
  exact .ite (.after (frame_queueSvc ..) hleft) hleft

theorem frame_laneGo (p : Nat) (l : LaneState) (s : State) : Frame [.ports, .mbx] s (laneGo p l s) :=
  .ite .refl (.after (frame_portChange ..) (frame_setPort ..).mono)

theorem frame_rangeAll (p : Nat) (s : State) : Frame [.ports] s (rangeAll p s) :=
  .foldl _ .refl fun _ _ _ => .ite (frame_queueRange ..) .refl

theorem frame_toAcquire (p : Nat) (s : State) : Frame [.ports, .mbx] s (toAcquire p s) :=
  .after (frame_rangeAll ..) (.after (frame_laneGo ..) (frame_setPort ..).mono)

theorem frame_rediscover (p : Nat) (s : State) : Frame [.ports, .mbx, .moors] s (rediscover p s) :=
  .after (frame_toAcquire ..) (.after (frame_setPort ..) (.foldl _ .refl fun _ _ _ => frame_vacate ..))

theorem frame_restartPort (p : Nat) (s : State) : Frame [.ports, .mbx, .moors] s (restartPort p s) :=
  .after (frame_rediscover ..) (frame_setPort ..).mono

/-! ### The line of a port -/

/-- A port but for its queue of service messages and the ranging by command. -/
def lineOf (x : Port) : Port := { x with svc := [], rangeCmd := none }

/-- The lines of all ports. -/
def lines (s : State) (p : Nat) : Port := lineOf (port s p)

theorem lines_setPort {p : Nat} {f : Port → Port} (hf : ∀ x, lineOf (f x) = lineOf x) (s : State) : lines (setPort p f s) = lines s := by
  funext k
  simp only [lines, port_setPort]
  split
  · next hk => rw [hf, hk]
  · rfl

theorem lines_rangeCmdLost (p m : Nat) (s : State) : lines (rangeCmdLost p m s) = lines s := by
  unfold rangeCmdLost
  split
  · exact ite_keeps lines _ (((frame_rangeDone ..).get lines).trans (lines_setPort (fun _ => by rfl) s))
  · rfl

theorem lines_moorGo (p m : Nat) (st : MoorState) (s : State) : lines (moorGo p m st s) = lines s := by
  unfold moorGo
  extract_lets x lost
  have hlost : lines lost = lines s := ite_keeps lines _ (lines_rangeCmdLost ..)
  split
  · rfl
  · exact ((frame_setMoor ..).get lines).trans hlost

theorem lines_queueSvc (p : Nat) (m : SvcMsg) (s : State) : lines (queueSvc p m s) = lines s := lines_setPort (fun _ => by rfl) s

theorem lines_vacate (p m : Nat) (s : State) : lines (vacate p m s) = lines s := by
  unfold vacate
  extract_lets x drop gone left
  have hgone : lines gone = lines s := (lines_setPort (fun _ => by rfl) _).trans (lines_moorGo ..)
  have hleft : lines left = lines s := ((frame_setMoor ..).get lines).trans hgone
  split
  · exact (lines_queueSvc ..).trans hleft
  · exact hleft

theorem lines_rangeAll (p : Nat) (s : State) : lines (rangeAll p s) = lines s :=
  foldl_keeps lines _ _ _ fun _ _ => ite_keeps lines _ (lines_queueSvc ..)

/-- A port in its new lane state, and nothing else of it. -/
theorem port_laneGo (p : Nat) (l : LaneState) (s : State) : port (laneGo p l s) p = { port s p with lane := l } := by
  unfold laneGo
  split
  · next hl => rw [← hl]
  · rw [(frame_portChange ..).get (port · p)]
    simp

theorem lines_toAcquire (p : Nat) (s : State) :
    lines (toAcquire p s) p = { lines s p with gen := .bl1, locked := false, squelch := true, acked := [], lane := .acquire } := by
  unfold toAcquire
  rw [lines_rangeAll, lines, port_laneGo, port_setPort, if_pos rfl]
  rfl

/-- A port that restarts is in ACQUIRE at BL1 without a lock, and has made no attempt (R184). -/
theorem lines_restartPort (p : Nat) (s : State) : lines (restartPort p s) p =
    { lines s p with gen := .bl1, locked := false, squelch := true, acked := [], lane := .acquire, reqs := [], attempts := 0, holdUntil := none } := by
  have hvacated : ∀ t, lines ((portOrder t p).foldl (fun s m => vacate p m s) t) = lines t := fun t => foldl_keeps lines _ _ _ fun _ _ => lines_vacate ..
  unfold restartPort rediscover
  rw [lines_toAcquire]
  generalize hfresh : setPort p (fun x => { x with attempts := 0, holdUntil := none }) s = fresh
  have hset : lines fresh p = { lines s p with attempts := 0, holdUntil := none } := by
    rw [← hfresh, lines, port_setPort, if_pos rfl]
    rfl
  have hempty : ∀ t, lines (setPort p (fun x => { x with reqs := [] }) t) p = { lines t p with reqs := [] } := by
    intro t
    rw [lines, port_setPort, if_pos rfl]
    rfl
  rw [hempty, hvacated, hset]

end Sys2Proof.Proofs
end

section
/-! Commands that act when they are accepted, operations, and their aborts (R343, R345, R348, R349). -/

set_option Elab.async false

namespace Sys2Proof.Proofs
open Sys2Proof Sys2Proof.Machine Sys2Proof.Laws

variable {h : BcsHdr} {c : BcsCmd} {s : State}

/-! ### Acceptance and its answer -/

theorem runF_of_passes (hp : Passes h c s) (hfol : follower s = false) (args : List Int) (act : State → State) :
    runF h c args act s = .next (act s) := by
  obtain ⟨⟨hmbx, hready, -, -⟩, hcheck⟩ := hp
  unfold bcsCheck at hcheck
  have hhead : headCheck h c s = .ok := by
    split at hcheck
    · assumption
    · exact hcheck
  have hstate : c.states s.dev.state = true := by
    rw [hhead] at hcheck
    simpa using hcheck
  simp only [runF, Machine.unit, hmbx, hready, hhead, hfol, hstate, decide_true, if_true, Bool.not_true, Bool.false_eq_true, if_false]

theorem frame_answer (op : Nat) (st : Status) (body : List Byte) (s : State) : Frame [.mbx] s (answer h op st body s) := by
  have hghost : Frame [.mbx] s (ghostDone h s) := .ite rfl .refl
  have hdrop : Frame [.mbx] (ghostDone h s) (dropResponse h.mbx (ghostDone h s)) := rfl
  exact .ite (hghost.trans hdrop) (frame_respond ..)

theorem frame_countNow (w : Waiting) (st : Status) (s : State) : Frame [.tan] s (countNow w st s) :=
  .ite (.ite rfl .refl) .refl

/-- What a command of class A does on a unit alone, where it is accepted. -/
theorem classA_of_ok {w : Waiting} {t : State} {body : List Byte} (hfol : hasFollower s = false) (haccept : accept w s = (t, .ok, body)) :
    classA h w s = answer h w.opcode .ok body (countNow w .ok t) := by
  simp only [classA, hfol, haccept, Bool.false_eq_true, if_false, abortNotice, ne_eq, reduceCtorEq, not_false_eq_true, if_true]

/-- What an accepted command leaves, but for the mailboxes and the count of commands applied. -/
theorem frame_accepted (op : Nat) (w : Waiting) (body : List Byte) (t : State) :
    Frame [.mbx, .tan] t (answer h op .ok body (countNow w .ok t)) :=
  .after (frame_answer ..) (frame_countNow ..).mono

/-! ### BLOCK, SRB_REQUEST, SRB_WITHDRAW (R343, R401) -/

theorem exec_block (hp : Passes h cBlock s) (hfol : follower s = false) :
    exec (.block h) s = .next (answer h 0x11 .ok (be 6 (nextBoundary s).toNat) (doBlock s)) := by
  simp only [exec, execBlock, runF_of_passes hp hfol]

/-- The request of a session, registered (R401). -/
def srbRequested (own : Nat × Word) (p : Nat) (s : State) : Srb := { s.srb with
  cmd := s.srb.cmd ++ [own]
  cmdDone := s.srb.cmdDone.filter (fun y => (y.1, y.2.1) ≠ own)
  reqs := s.srb.reqs ++ [{ cause := 3, profile := some p, own := some own, tick := s.now }] }

/-- A request that is not held is registered, with its event; one that is not IMMEDIATE does no more (R401–R403). -/
theorem srbRegister_of_new {r : SrbReq} (hnew : srbSame s r = false) (hmode : srbImmediate s r = false) :
    srbRegister r s = safetyEvent r.cause (srbProfile s r) 0 0 0 { s with srb := { s.srb with reqs := s.srb.reqs ++ [{ r with tick := s.now }] } } := by
  have himm : ∀ t : State, t.cfg = s.cfg → srbImmediate t r = srbImmediate s r := by
    intro t ht
    unfold srbImmediate srbProfile parN par armTab
    rw [ht]
  have hcfg : ∀ x : Srb, (safetyEvent r.cause (srbProfile s r) 0 0 0 { s with srb := x }).cfg = s.cfg := fun x => (frame_safetyEvent ..).get State.cfg
  unfold srbRegister
  dsimp only
  rw [if_neg (show ¬ srbSame s r = true by simp [hnew]), himm _ (hcfg _), hmode, Bool.false_and, if_neg Bool.false_ne_true]

theorem doSrbRequest_eq {m p : Nat} {e : Word} (hmode : par s 0x51 p 0 ≠ 1) (hown : (m, e) ∉ s.srb.cmd)
    (hreqs : ∀ r ∈ s.srb.reqs, r.cause = 3 → r.own ≠ some (m, e)) :
    doSrbRequest m e p s = safetyEvent 3 p 0 0 0 { s with srb := srbRequested (m, e) p s } := by
  have hcmd : s.srb.cmd.contains (m, e) = false := by simpa using hown
  unfold doSrbRequest
  dsimp only
  rw [hcmd, if_neg Bool.false_ne_true, srbRegister_of_new]
  · rfl
  · simp only [srbSame, List.any_eq_false, Bool.and_eq_true, decide_eq_true_eq, not_and]
    exact hreqs
  · exact decide_eq_false hmode

theorem exec_srbRequest {p : Nat} (hp : Passes h cSrbRequest s) (hfol : follower s = false) (hle : p ≤ 3) :
    exec (.srbRequest h p) s = .next (answer h 0x14 .ok (be 6 (firstCycle s 400).toNat) (doSrbRequest h.mbx h.sessionEpoch p s)) := by
  simp only [exec, execSrbRequest, runF_of_passes hp hfol, Nat.not_lt.2 hle, if_false]

/-- The requests without those of a session (R401). -/
def srbLeft (own : Nat × Word) (s : State) : Srb := { s.srb with
  cmd := s.srb.cmd.erase own
  reqs := s.srb.reqs.filter (fun r => r.own ≠ some own) }

theorem exec_srbWithdraw {t : State} {st : Status} {body : List Byte} (hp : Passes h cSrbWithdraw s) (hfol : follower s = false)
    (hdo : doWithdraw h.mbx h.sessionEpoch s = (t, st, body)) : exec (.srbWithdraw h) s = .next (answer h 0x15 st body t) := by
  simp only [exec, execSrbWithdraw, runF_of_passes hp hfol, hdo]

/-- The answer after an event is the answer of the state before it. -/
theorem answered_safetyEvent (hh : Heard h s) (x : Srb) (cause prof k : Nat) (v e : Int) (op : Nat) (st : Status) (body : List Byte) :
    Answered h op st body s (answer h op st body (safetyEvent cause prof k v e { s with srb := x })) := by
  have hfronts : fronts (safetyEvent cause prof k v e { s with srb := x }) = fronts s := fronts_event ..
  refine answered_answer ((isGhost_of_fronts hfronts).trans (live_of_heard hh)) (epoch_of_fronts hfronts h.mbx) ?_ op st body
  exact (frame_safetyEvent ..).get (·.dev.roleEpoch)

theorem responded_withSrb (hh : Heard h s) (x : Srb) (op : Nat) (st : Status) (body : List Byte) :
    Responded h op st body s (answer h op st body { s with srb := x }) := responded_of_mail (t := { s with srb := x }) rfl rfl hh ..

/-! ### TIME_SET, and the commands of class A that act at once -/

/-- SECONDS given for a domain (R271). -/
def secondsSet (td k : Nat) (t : Time) : Time := t.setDom td { t.dom td with setSec := some k }

theorem exec_timeSet {td k : Nat} (hp : Passes h cTimeSet s) (htd : td ≤ 1) (hpps : onPps s td = true) :
    exec (.timeSet h td k) s = .next (answer h 0x17 .ok [] { s with time := secondsSet td k s.time }) := by
  simp only [exec, execTimeSet, bcsRun_of_passes hp, Nat.not_lt.2 htd, hpps, Bool.not_true, Bool.false_eq_true, if_false]
  rfl

theorem dom_secondsSet (td k : Nat) (t : Time) : ((secondsSet td k t).dom td).setSec = some k := by
  unfold secondsSet Time.setDom Time.dom
  split <;> rfl

theorem dom_secondsSet_other {td j : Nat} (k : Nat) (t : Time) (htd : td ≤ 1) (hj : j ≤ 1) (hne : j ≠ td) :
    (secondsSet td k t).dom j = t.dom j := by
  have hcases : (td = 0 ∧ j = 1) ∨ (td = 1 ∧ j = 0) := by omega
  rcases hcases with ⟨rfl, rfl⟩ | ⟨rfl, rfl⟩ <;> rfl

theorem restarted_of_lines {t : State} {b : Nat} (hline : lines t b = { lines s b with
      gen := .bl1, locked := false, squelch := true, acked := [], lane := .acquire, reqs := [], attempts := 0, holdUntil := none }) :
    (port t b).lane = .acquire ∧ (port t b).attempts = 0 ∧ (port t b).locked = false :=
  ⟨(congrArg Port.lane hline :), (congrArg Port.attempts hline :), (congrArg Port.locked hline :)⟩

theorem exec_basinRestart {b : Nat} (hp : Passes h cBasinRestart s) (hfol : hasFollower s = false) (hrole : follower s = false) (hb : b ≤ 31)
    (hnamed : portNamed s b = true) :
    exec (.basinRestart h b) s = .next (answer h 0x18 .ok [] (countNow (waitFor h 0x18 0 [(b : Int)]) .ok (restartPort b s))) := by
  have haccept : accept (waitFor h 0x18 0 [(b : Int)]) s = (restartPort b s, .ok, []) :=
    congrArg (fun t : State => (t, Status.ok, ([] : List Byte))) (if_neg (show ¬ follower s = true by simp [hrole]))
  have hclass := classA_of_ok (h := h) hfol haccept
  refine Eq.trans ?_ (congrArg _ hclass)
  simp only [exec, execBasinRestart, bcsRun_of_passes hp, Nat.not_lt.2 hb, hnamed, Bool.not_true, Bool.false_eq_true, if_false]

/-- A cell is to be bypassed, in two frames (R345). -/
def bypassed (ci : Nat) (s : State) : State := setPort (ci / 256) (fun x => { x with bypass := x.bypass.set (ci % 256) 2 }) s

theorem port_bypassed (ci : Nat) (s : State) (k : Nat) : port (bypassed ci s) k =
    if ci / 256 = k then { port s (ci / 256) with bypass := (port s (ci / 256)).bypass.set (ci % 256) 2 } else port s k := port_setPort ..

theorem exec_cellBypassClose {ci : Nat} (hp : Passes h cCellBypassClose s) (hfol : hasFollower s = false) (hci : ci < 65536)
    (hnamed : cellNamed s ci = true) (hcat : memberCat s ci ≠ some .active) :
    ∃ body, exec (.cellBypassClose h ci (ci ^^^ 0xFFFF)) s =
      .next (answer h 0x34 .ok body (countNow (waitFor h 0x34 0 [(ci : Int)]) .ok (bypassed ci s))) := by
  obtain ⟨body, haccept⟩ : ∃ body, accept (waitFor h 0x34 0 [(ci : Int)]) s = (bypassed ci s, .ok, body) := ⟨_, rfl⟩
  refine ⟨body, ?_⟩
  have hactive : (memberCat s ci == some .active) = false := by simpa using hcat
  have hclass := classA_of_ok (h := h) hfol haccept
  refine Eq.trans ?_ (congrArg _ hclass)
  simp only [exec, execCellBypassClose, bcsRun_of_passes hp, Nat.mod_eq_of_lt hci, hnamed, hactive, ne_eq, not_true_eq_false, Bool.not_true,
    Bool.false_eq_true, if_false]

/-- The handover that a command names (R432). -/
def handoverNamed (h : BcsHdr) (cy : CycleNo) (x : Tan) : Tan := { x with handover := cy, handoverCmd := some (waitFor h 0x61 cy []) }

theorem handover_handoverNamed (cy : CycleNo) (x : Tan) : (handoverNamed h cy x).handover = cy := rfl

theorem exec_tandemSwitch {w : When} (hp : Passes h cTandemSwitch s) (hfol : hasFollower s = false) (hrole : follower s = false)
    (htwin : twinRole s = some .eligible) (hhand : s.tan.handover = 0) (hmay : MayName s (whenCycle s w false)) :
    exec (.tandemSwitch h w) s =
      .next (answer h 0x61 .ok (be 6 (whenCycle s w false).toNat) { s with tan := handoverNamed h (whenCycle s w false) s.tan }) := by
  have hcheck : acceptCheck s (whenCycle s w false) 0 = .ok := hmay
  have haccept : accept (waitFor h 0x61 (whenCycle s w false) []) s =
      ({ s with tan := handoverNamed h (whenCycle s w false) s.tan }, .ok, be 6 (whenCycle s w false).toNat) := by
    change onOk (acceptCheck s (whenCycle s w false) 0) (if follower s then _ else _, _, _) _ = _
    rw [hcheck, onOk_ok, if_neg (by simp [hrole])]
    rfl
  have hpre : (if twinRole s ≠ some .eligible then Status.state else if s.tan.handover ≠ 0 then .busy else .ok) = .ok := by simp [htwin, hhand]
  have hclass := classA_of_accept (h := h) (w := waitFor h 0x61 (whenCycle s w false) []) hfol haccept (show 0x61 ∉ [0x18, 0x34, 0x35] by decide)
    (by decide)
  change execTandemSwitch h w s = _
  unfold execTandemSwitch
  rw [bcsRun_of_passes hp]
  unfold whenA
  dsimp only
  rw [if_neg (by simp [near_of_mayName hmay]), hpre, hcheck, onOk_ok, onOk_ok]
  exact congrArg _ hclass

/-- Settles O40: each command in turn, with the outcomes of a withdrawal. -/
theorem immediateCommands : Obligations.ImmediateCommands := by
  unfold Obligations.ImmediateCommands
  intro s h
  refine ⟨fun hp hfol => ?block, ⟨fun p hp hfol hle hmode hown hreqs => ?request, fun hp hfol hown => ?withdraw, fun x hp hfol hown hdone => ?late,
    fun hp hfol hown hdone => ?nothing⟩, fun td k hp htd hpps => ?time, fun b hp hfol hrole hb hnamed => ?restart,
    fun ci hp hfol hci hnamed hcat => ?bypass, fun w hp hfol hrole htwin hhand hmay => ?switch⟩
  case block =>
    have hframe := frame_answer_of_live (s := doBlock s) (live_of_heard hp.1) 0x11 .ok (be 6 (nextBoundary s).toNat)
    exact ⟨_, exec_block hp hfol, hframe.get (·.cyc.blockReq), responded_of_mail (t := doBlock s) rfl rfl hp.1 ..,
      hframe.get (fun u => { u with mbx := s.mbx, cyc := s.cyc })⟩
  case request =>
    have hframe : Frame [.mbx] { s with srb := srbRequested (h.mbx, h.sessionEpoch) p s } (answer h 0x14 .ok (be 6 (firstCycle s 400).toNat)
        (safetyEvent 3 p 0 0 0 { s with srb := srbRequested (h.mbx, h.sessionEpoch) p s })) := .after (frame_answer ..) (frame_safetyEvent ..)
    have hexec := exec_srbRequest hp hfol hle
    rw [doSrbRequest_eq hmode hown hreqs] at hexec
    exact ⟨_, hexec, hframe.get (·.srb.reqs), hframe.get (·.srb.cmd), answered_safetyEvent hp.1 ..⟩
  case withdraw =>
    have hcmd : s.srb.cmd.contains (h.mbx, h.sessionEpoch) = true := by simpa using hown
    have hexec := exec_srbWithdraw hp hfol (show doWithdraw h.mbx h.sessionEpoch s = _ from if_pos hcmd)
    have hframe : Frame [.mbx] { s with srb := srbLeft (h.mbx, h.sessionEpoch) s }
        (answer h 0x15 .aborted (abortBody 3 (srbBoundary (h.mbx, h.sessionEpoch) s) 0 s) (srbWithdrawn (h.mbx, h.sessionEpoch) s)) :=
      .after (frame_answer ..) (frame_safetyEvent ..)
    exact ⟨_, hexec, hframe.get (·.srb.cmd), hframe.get (·.srb.reqs), answered_safetyEvent hp.1 ..⟩
  case late =>
    have hcmd : s.srb.cmd.contains (h.mbx, h.sessionEpoch) = false := by simpa using hown
    have hdo : doWithdraw h.mbx h.sessionEpoch s =
        ({ s with srb := { s.srb with cmdDone := s.srb.cmdDone.erase x } }, .completedBeforeAbort, abortBody 3 x.2.2 0 s) := by
      simp only [doWithdraw, hcmd, hdone, Bool.false_eq_true, if_false]
    have hframe := frame_answer (h := h) 0x15 .completedBeforeAbort (abortBody 3 x.2.2 0 s)
      { s with srb := { s.srb with cmdDone := s.srb.cmdDone.erase x } }
    exact ⟨_, exec_srbWithdraw hp hfol hdo, hframe.get State.srb, responded_withSrb hp.1 ..,
      hframe.get (fun u => { u with mbx := s.mbx, srb := s.srb })⟩
  case nothing =>
    have hcmd : s.srb.cmd.contains (h.mbx, h.sessionEpoch) = false := by simpa using hown
    have hnone : s.srb.cmdDone.find? (fun x => (x.1, x.2.1) = (h.mbx, h.sessionEpoch)) = none :=
      List.find?_eq_none.2 fun x hx => by simpa using hdone x hx
    have hdo : doWithdraw h.mbx h.sessionEpoch s = (s, .nothingToAbort, abortBody 3 0 0 s) := by
      simp only [doWithdraw, hcmd, hnone, Bool.false_eq_true, if_false]
    exact goes_answer hp.1 (exec_srbWithdraw hp hfol hdo)
  case time =>
    have hframe := frame_answer (h := h) 0x17 .ok [] { s with time := secondsSet td k s.time }
    exact ⟨_, exec_timeSet hp htd hpps, (hframe.get (fun u => (u.time.dom td).setSec)).trans (dom_secondsSet td k s.time),
      fun j hj hne => (hframe.get (fun u => u.time.dom j)).trans (dom_secondsSet_other k s.time htd hj hne),
      responded_of_mail (t := { s with time := secondsSet td k s.time }) rfl rfl hp.1 ..,
      hframe.get (fun u => { u with mbx := s.mbx, time := s.time })⟩
  case restart =>
    have hframe := frame_accepted (h := h) 0x18 (waitFor h 0x18 0 [(b : Int)]) [] (restartPort b s)
    exact ⟨_, exec_basinRestart hp hfol hrole hb hnamed, restarted_of_lines ((congrFun (hframe.get lines) b).trans (lines_restartPort b s))⟩
  case bypass =>
    obtain ⟨body, hexec⟩ := exec_cellBypassClose hp hfol hci hnamed hcat
    have hports := fun k => ((frame_accepted (h := h) 0x34 (waitFor h 0x34 0 [(ci : Int)]) body (bypassed ci s)).get (port · k)).trans (port_bypassed ci s k)
    refine ⟨_, hexec, ?_, fun p hne => (hports p).trans (if_neg (Ne.symm hne))⟩
    rw [hports, if_pos rfl]
  case switch =>
    have hframe := frame_answer (h := h) 0x61 .ok (be 6 (whenCycle s w false).toNat)
      { s with tan := handoverNamed h (whenCycle s w false) s.tan }
    exact ⟨_, exec_tandemSwitch hp hfol hrole htwin hhand hmay, 
      (congrArg Tan.handover (hframe.get State.tan)).trans (handover_handoverNamed ..),
      responded_of_mail (t := { s with tan := handoverNamed h (whenCycle s w false) s.tan }) rfl rfl hp.1 ..⟩

end Sys2Proof.Proofs
end

section
/-! Ranging by command and eye scans, with their aborts (R208, R252, R345, R346, R348). -/

set_option Elab.async false

namespace Sys2Proof.Proofs
open Sys2Proof Sys2Proof.Machine Sys2Proof.Laws

variable {h : BcsHdr} {s : State}

/-! ### MOORING_RANGE -/

/-- The ranging command outstanding on a port (R345). -/
def rangeAsked (h : BcsHdr) (b m : Nat) (s : State) : State :=
  queueRange b m true (setPort b (fun x => { x with rangeCmd := some { mooring := m, mbx := h.mbx, tag := h.tag, epoch := h.sessionEpoch } }) s)

theorem rangeCmd_queueSvc (p : Nat) (x : SvcMsg) (s : State) (k : Nat) : (port (queueSvc p x s) k).rangeCmd = (port s k).rangeCmd := by
  rw [queueSvc, port_setPort]
  split
  · next hk => rw [hk]
  · rfl

theorem port_queueSvc_other {p k : Nat} (hk : k ≠ p) (x : SvcMsg) (s : State) : port (queueSvc p x s) k = port s k :=
  (port_setPort ..).trans (if_neg (Ne.symm hk))

theorem rangeCmd_rangeAsked (b m : Nat) (s : State) :
    (port (rangeAsked h b m s) b).rangeCmd = some { mooring := m, mbx := h.mbx, tag := h.tag, epoch := h.sessionEpoch } := by
  unfold rangeAsked queueRange
  rw [rangeCmd_queueSvc, port_setPort, if_pos rfl]

theorem port_rangeAsked_other {b k : Nat} (hk : k ≠ b) (m : Nat) (s : State) : port (rangeAsked h b m s) k = port s k := by
  unfold rangeAsked queueRange
  rw [port_queueSvc_other hk, port_setPort, if_neg (Ne.symm hk)]

theorem frame_rangeAsked (b m : Nat) (s : State) : Frame [.ports] s (rangeAsked h b m s) := .after (frame_queueRange ..) (frame_setPort ..)

theorem exec_mooringRange {b m : Nat} (hp : Passes h cMooringRange s) (hfol : hasFollower s = false) (hrole : follower s = false) (hb : b ≤ 31)
    (hm : m ≤ 255) (hnamed : portNamed s b = true) (hmoor : moorNamed s b m = true) (hserved : served (moor s (ciOf b m)).st = true)
    (hfree : rangeFree s b = true) :
    exec (.mooringRange h b m) s =
      .next (answer h 0x35 .ok [] (countNow (waitFor h 0x35 0 [(b : Int), (m : Int)]) .ok (rangeAsked h b m s))) := by
  have hrange : ¬(31 < b ∨ 255 < m) := by omega
  have haccept : accept (waitFor h 0x35 0 [(b : Int), (m : Int)]) s = (rangeAsked h b m s, .ok, []) := if_neg (show ¬ follower s = true by simp [hrole])
  have hclass := classA_of_ok (h := h) hfol haccept
  refine Eq.trans ?_ (congrArg _ hclass)
  simp only [exec, execMooringRange, bcsRun_of_passes hp, hrange, hnamed, hmoor, hserved, hfree, Bool.not_true, Bool.false_eq_true, if_false]

/-- The answer after a change that leaves the mailboxes. -/
theorem answered_of_mail {t : State} (hm : t.mbx = s.mbx) (hd : t.dev = s.dev) (hh : Heard h s) (op : Nat) (st : Status) (body : List Byte) :
    Answered h op st body s (answer h op st body t) := by
  obtain ⟨hq, -⟩ := responded_of_mail hm hd hh op st body
  rw [Answered, hq]
  exact List.mem_append_right _ (List.mem_singleton.2 rfl)

theorem answered_accepted {t : State} (hh : Heard h s) (hm : t.mbx = s.mbx) (hd : t.dev = s.dev) (op : Nat) (w : Waiting) (st : Status) (body : List Byte) :
    Answered h op .ok body s (answer h op .ok body (countNow w st t)) := by
  have hframe := frame_countNow w st t
  exact answered_of_mail ((hframe.get State.mbx).trans hm) ((hframe.get State.dev).trans hd) hh op .ok body

/-! ### MOORING_RANGE_ABORT -/

theorem exec_mooringRangeAbort {b : Nat} (hp : Passes h cMooringRangeAbort s) (hb : b ≤ 31) (hnamed : portNamed s b = true) :
    exec (.mooringRangeAbort h b) s = .next (classA h (waitFor h 0x36 0 [(b : Int)]) s) := by
  simp only [exec, execMooringRangeAbort, bcsRun_of_passes hp, Nat.not_lt.2 hb, hnamed, Bool.not_true, Bool.false_eq_true, if_false]

theorem accept_rangeAbort {b : Nat} (hrole : follower s = false) : accept (waitFor h 0x36 0 [(b : Int)]) s = abortRange b s :=
  if_neg (show ¬ follower s = true by simp [hrole])

theorem exec_mooringRangeAbort_none {b : Nat} (hp : Passes h cMooringRangeAbort s) (hfol : hasFollower s = false) (hrole : follower s = false)
    (hb : b ≤ 31) (hnamed : portNamed s b = true) (hnone : (port s b).rangeCmd = none) :
    exec (.mooringRangeAbort h b) s = .next (answer h 0x36 .nothingToAbort (abortBody 4 0 0 s) s) := by
  have habort : abortRange b s = (s, .nothingToAbort, abortBody 4 0 0 s) := by simp only [abortRange, hnone]
  exact (exec_mooringRangeAbort hp hb hnamed).trans (congrArg _ (classA_of_accept hfol ((accept_rangeAbort hrole).trans habort)
    (show 0x36 ∉ [0x18, 0x34, 0x35] by decide) (by decide)))

/-- A port whose ranging by command is aborted. -/
def rangeDropped (c : RangeCmd) (y : Port) : Port := { y with
  rangeCmd := none,
  reqs := y.reqs.map (fun r => if c.reqTag = some r.tag then { r with dead := true } else r),
  svc := if c.reqTag.isSome then y.svc else y.svc.filter (fun z => !(z.type = 0x03 && z.mooring = c.mooring)) }

theorem abortRange_of_live {b : Nat} {c : RangeCmd} (hcmd : (port s b).rangeCmd = some c) (hopen : c.completed = false) :
    abortRange b s = (setPort b (rangeDropped c) s, .aborted, abortBody 4 0 0 s) := by
  simp only [abortRange, hcmd, hopen, Bool.false_eq_true, if_false]
  rfl

theorem classA_rangeAbort {b : Nat} {c : RangeCmd} (hfol : hasFollower s = false) (hrole : follower s = false) (hcmd : (port s b).rangeCmd = some c)
    (hopen : c.completed = false) : classA h (waitFor h 0x36 0 [(b : Int)]) s =
      rangeDone b c .aborted (moor s (ciOf b c.mooring)).dDown (moor s (ciOf b c.mooring)).dUp
        (answer h 0x36 .aborted (abortBody 4 0 0 s) (setPort b (rangeDropped c) s)) := by
  have haccept : accept (waitFor h 0x36 0 [(b : Int)]) s = (setPort b (rangeDropped c) s, .aborted, abortBody 4 0 0 s) :=
    (accept_rangeAbort hrole).trans (abortRange_of_live hcmd hopen)
  have hnow : ∀ t, countNow (waitFor h 0x36 0 [(b : Int)]) .aborted t = t := fun t => if_neg (by simp)
  have hnotice : ∀ t, abortNotice 0x36 b s .aborted t =
      rangeDone b c .aborted (moor s (ciOf b c.mooring)).dDown (moor s (ciOf b c.mooring)).dUp t := by
    intro t
    simp only [abortNotice, hcmd, ne_eq, not_true_eq_false, if_false, Nat.reduceEqDiff]
  unfold classA
  rw [if_neg (by simp [hfol]), haccept]
  dsimp only
  rw [hnow]
  exact hnotice _

/-! ### Eye scans -/

theorem exec_eyeScan {l d : Nat} (hp : Passes h cEyeScan s) (hl : l ≤ 9) (hlo : 20 ≤ d) (hhi : d ≤ 34) (hnone : s.stn.scan = none)
    (hup : scanUp s l = true) :
    ∃ x, exec (.eyeScan h l d) s = .next { s with stn := x } ∧
      x.scan = some { lane := l, dwell := d, mbx := h.mbx, epoch := h.sessionEpoch, tag := h.tag } := by
  have hrange : ¬(9 < l ∨ d < 20 ∨ 34 < d) := by omega
  have hghost : ∀ x, isGhost h { s with stn := x } = false := fun x => live_of_heard hp.1
  simp only [exec, execEyeScan, bcsRun_of_passes hp, hrange, hnone, hup, Option.isSome_none, Bool.not_true, Bool.false_eq_true, if_false, ghostDone,
    hghost]
  exact ⟨_, rfl, rfl⟩

theorem exec_eyeScanAbort {x : EyeScan} (hp : Passes h cEyeScanAbort s) (hscan : s.stn.scan = some x) :
    exec (.eyeScanAbort h) s = .next (respondLate x.mbx x.epoch x.tag 0x46 .aborted []
      (answer h 0x47 .aborted (abortBody 5 0 0 s) { s with stn := { s.stn with scan := none } })) := by
  simp only [exec, execEyeScanAbort, bcsRun_of_passes hp, hscan]

/-- Settles O41: rangings, then scans. -/
theorem operationsAndAborts : Obligations.OperationsAndAborts := by
  unfold Obligations.OperationsAndAborts
  intro s h
  refine ⟨fun b m hp hfol hrole hb hm hnamed hmoor hserved hfree => ?range,
    fun b hp hfol hrole hb hnamed hnone => goes_answer hp.1 (exec_mooringRangeAbort_none hp hfol hrole hb hnamed hnone),
    fun b c hp hfol hrole hb hnamed hcmd hopen => ?abort, fun l d hp hl hlo hhi hnone hup => ?scan, fun x counts hscan => ?complete,
    fun x hp hscan => ?scanAbort, fun hp hscan hdone => goes_answer hp.1 (by simp only [exec, execEyeScanAbort, bcsRun_of_passes hp, hscan, hdone])⟩
  case range =>
    have hports := fun k => (frame_accepted (h := h) 0x35 (waitFor h 0x35 0 [(b : Int), (m : Int)]) [] (rangeAsked h b m s)).get (port · k)
    have hasked := frame_rangeAsked (h := h) b m s
    refine ⟨_, exec_mooringRange hp hfol hrole hb hm hnamed hmoor hserved hfree, ?_,
      answered_accepted hp.1 (hasked.get State.mbx) (hasked.get State.dev) .., fun p hne => (hports p).trans (port_rangeAsked_other hne m s)⟩
    rw [hports]
    exact rangeCmd_rangeAsked b m s
  case abort =>
    have hexec := exec_mooringRangeAbort hp hb hnamed
    rw [classA_rangeAbort hfol hrole hcmd hopen] at hexec
    have hports : ∀ k, port (rangeDone b c .aborted (moor s (ciOf b c.mooring)).dDown (moor s (ciOf b c.mooring)).dUp
        (answer h 0x36 .aborted (abortBody 4 0 0 s) (setPort b (rangeDropped c) s))) k = if b = k then rangeDropped c (port s b) else port s k :=
      fun k => (((frame_rangeDone ..).get (port · k)).trans ((frame_answer ..).get (port · k))).trans (port_setPort ..)
    refine ⟨_, hexec, ?_, answered_eventTag
      (answered_of_mail (t := setPort b (rangeDropped c) s) rfl rfl hp.1 ..) .., fun p hne => (hports p).trans (if_neg (Ne.symm hne))⟩
    rw [hports, if_pos rfl]
    rfl
  case scan =>
    obtain ⟨x, hexec, hx⟩ := exec_eyeScan hp hl hlo hhi hnone hup
    exact ⟨_, hexec, hx, rfl⟩
  case complete =>
    have hframe := frame_respondParts { s with stn := { s.stn with scan := none, scanDone := some (s.cyc.n, tickPhase s) } } x.mbx x.epoch x.tag 0x46
      (bodies ((counts.take 8128).flatMap (fun n => be 2 (min 65535 n))))
    exact ⟨_, by simp only [exec, execEyeScanComplete, hscan], hframe.get (·.stn.scan), hframe.get (·.stn.scanDone),
      hframe.get (fun u => { u with stn := s.stn, mbx := s.mbx })⟩
  case scanAbort =>
    have hframe : Frame [.mbx] { s with stn := { s.stn with scan := none } } (respondLate x.mbx x.epoch x.tag 0x46 .aborted []
        (answer h 0x47 .aborted (abortBody 5 0 0 s) { s with stn := { s.stn with scan := none } })) :=
      .after (frame_respondLate ..) (frame_answer ..)
    exact ⟨_, exec_eyeScanAbort hp hscan, hframe.get (·.stn.scan), answered_respondLate
      (answered_of_mail (t := { s with stn := { s.stn with scan := none } }) rfl rfl hp.1 ..) ..,
      hframe.get (fun u => { u with stn := s.stn, mbx := s.mbx })⟩

end Sys2Proof.Proofs
end

section
/-! Traps, level sources and injection (R2, R371, R372, R381, R387, R388). -/

set_option Elab.async false

namespace Sys2Proof.Proofs
open Sys2Proof Sys2Proof.Machine Sys2Proof.Laws

variable {h : BcsHdr} {s : State}

/-! ### The store -/

/-- Bytes written upwards from an address leave every other byte. -/
theorem read_writes_of_outside {m : List Host.Cell} (hm : Memory.wf m = true) (bs : List Byte) {a x : Nat} (hx : x < a ∨ a + bs.length ≤ x) :
    Memory.read (Memory.writes m a bs) x = Memory.read m x := by
  induction bs generalizing m a with
  | nil => rfl
  | cons b bs ih =>
    simp only [List.length_cons] at hx
    have hne : x ≠ a := by omega
    have hrest : x < a + 1 ∨ a + 1 + bs.length ≤ x := by omega
    rw [Memory.writes, ih (wf_write a b hm) hrest, read_write a x b hm, if_neg hne]

/-! ### Traps -/

/-- A trap that firmware enters (R381). -/
def trapLeft (src : Nat) (f : Fcru) : Fcru := { f with traps := f.traps.erase src }

theorem exec_trapEntry {src : Nat} (hsrc : src < 512) (hready : s.dev.mpcReady = true) (hmem : src ∈ s.fcru.traps) :
    exec (.trapEntry src) s = .next { s with
      fcru := trapLeft src s.fcru
      store := Memory.writes s.store trapBase ((Config.trapBytes src s.fcru.seq.toNat).take trapSize) } := by
  simp only [exec, execTrapEntry, Machine.unit, hsrc, hready, List.contains_iff_mem.2 hmem, Bool.and_self, decide_true, if_true]
  rfl

theorem exec_trapEntry_none {src : Nat} (hsrc : src < 512) (hmem : src ∉ s.fcru.traps) : exec (.trapEntry src) s = .next s := by
  simp [exec, execTrapEntry, Machine.unit, hsrc, hmem]

/-! ### Injection -/

/-- A clearing leaves a latched record latched (R380). -/
theorem latched_clear {src k : Nat} (hl : Latched s k) : Latched (clear src s) k := (kept_clear (l := true) src s (.self true s)).latch rfl k hl

theorem frame_answer_variant (op : Nat) (st : Status) (body : List Byte) (s : State) : (answer h op st body s).dev.variant = s.dev.variant :=
  (frame_answer op st body s).get (·.dev.variant)

theorem exec_faultInject {src : Nat} {f : FaultInfo} (hmode : factoryMode s = true) (hp : Passes h cFaultInject s) (hsrc : src ≤ 511)
    (hrow : faultInfo src = some f) : exec (.faultInject h src) s = .next (injectOnce src f (answer h 0x7F .ok [] s)) := by
  simp only [exec, execFaultInject, hmode, bcsRun_of_passes hp, Nat.not_lt.2 hsrc, hrow, if_true, if_false]

/-- An injected source is latched, whatever its reaction (R388). -/
theorem latched_injectOnce {src : Nat} (f : FaultInfo) (hthere : faultAbsent s.dev.variant src = false) : Latched (injectOnce src f s) src := by
  have hlatched : Latched (assertSource src f true [] s) src := assertSource_latches ..
  unfold injectOnce
  rw [hthere, if_neg Bool.false_ne_true]
  dsimp only
  split
  · exact hlatched
  · exact latched_clear hlatched

/-- The variant lacks the source's resource (R2). -/
theorem injectOnce_of_absent {src : Nat} (f : FaultInfo) (habsent : faultAbsent s.dev.variant src = true) : injectOnce src f s = s := if_pos habsent

/-- Outside factory test mode FAULT_INJECT is no opcode (R387). -/
theorem exec_faultInject_unknown (hmode : factoryMode s = false) (hh : Heard h s) (hform : formCheck h 0 = .ok) (hsess : (sessionFor h s).1 = .ok)
    (src : Nat) : exec (.faultInject h src) s = .next (answer h 0x7F .opcode [] s) := by
  have hunknown := exec_unknownOpcode hh hform hsess 0x7F
  simp only [exec, execUnknownOpcode, execFaultInject, hmode, Bool.false_eq_true, if_false] at hunknown ⊢
  exact hunknown

/-! ### The key -/

theorem exec_injectKey {t : Nat} (ht : t ≤ s.now) (v : Word) : exec (.injectKey v t) s = .next (if pcieUp s then keyWord v s else s) := by
  have hnow : advanceTo t s = s := if_neg (Nat.not_lt.2 ht)
  simp only [exec, execInjectKey, hnow]

theorem keyWord_of_no_strap (hstrap : s.dev.testStrap = false) (v : Word) : keyWord v s = s := by
  simp [keyWord, hstrap]

/-- The state with the sequence of key words carried to a step. -/
def keyAt (k : Nat) (s : State) : State := { s with dev := { s.dev with keyStep := k, keyTick := s.now } }

/-- A right word in its time carries the sequence on; the last one enters factory test mode (R387). -/
theorem keyWord_of_right {v : Word} {k : Nat} (hstrap : s.dev.testStrap = true) (hstep : s.dev.keyStep = k) (hk : k < 3)
    (hword : keyWords[k]? = some v) (htime : k = 0 ∨ s.now - s.dev.keyTick ≤ 400000) :
    keyWord v s = if k + 1 = 3 then setRole .isolated (keyAt (k + 1) s) else keyAt (k + 1) s := by
  have hopen : (!s.dev.testStrap || decide (3 ≤ s.dev.keyStep)) = false := by simp [hstrap]; omega
  have hright : (decide (keyWords[k]? = some v) && (decide (k = 0) || decide (s.now - s.dev.keyTick ≤ 400000))) = true := by
    simpa [hword] using htime
  subst hstep
  simp only [keyWord, hopen, hright, Bool.false_eq_true, if_true, if_false]
  rfl

/-- A wrong word starts the sequence again (R387). -/
theorem keyWord_of_wrong {v : Word} (hstrap : s.dev.testStrap = true) (hstep : s.dev.keyStep < 3) (hword : keyWords[s.dev.keyStep]? ≠ some v) :
    keyWord v s = { s with dev := { s.dev with keyStep := 0 } } := by
  have hopen : (!s.dev.testStrap || decide (3 ≤ s.dev.keyStep)) = false := by simp [hstrap]; omega
  simp only [keyWord, hopen, hword, decide_false, Bool.false_and, Bool.false_eq_true, if_false]

/-- A change of role leaves the straps and the key. -/
theorem factoryMode_setRole (r : Role) (s : State) : factoryMode (setRole r s) = factoryMode s := by
  unfold setRole
  dsimp only
  split
  · rfl
  · exact ((frame_clear ..).get factoryMode).trans (((frame_event ..).get factoryMode).trans ((frame_vector ..).get factoryMode))

theorem role_setRole_isolated (s : State) : (setRole .isolated s).tan.role = .isolated := by
  unfold setRole
  dsimp only
  split
  · next hrole =>
    cases hs : s.tan.role <;> simp [hs] at hrole ⊢
  · exact ((frame_clear ..).get (·.tan.role)).trans (((frame_event ..).get (·.tan.role)).trans ((frame_vector ..).get (·.tan.role)))

/-- Settles O45: traps, clearings, injections, and each word of the key. -/
theorem trapsAndInjection : Obligations.TrapsAndInjection := by
  unfold Obligations.TrapsAndInjection
  refine ⟨fun s src => ⟨fun hsrc hready hmem hsound => ?trap, exec_trapEntry_none, fun f hsrc hrow hlevel => ?level,
    fun h f hmode hp hsrc hrow hthere => ?inject, fun h f hmode hp hsrc hrow habsent => ?absent,
    fun h hmode hh hform hsess => goes_answer hh (exec_faultInject_unknown hmode hh hform hsess src)⟩, fun s t ht => ⟨fun v hstrap => ?none,
    fun hup hstrap hstep => ?first, fun hup hstrap hstep htime => ?second, fun hup hstrap hstep htime => ?last, fun v hup hstrap hstep hwrong => ?wrong⟩⟩
  case trap =>
    refine ⟨_, exec_trapEntry hsrc hready hmem, rfl, fun a ha => read_writes_of_outside hsound _ ?_, rfl⟩
    have hlen := List.length_take_le trapSize (Config.trapBytes src s.fcru.seq.toNat)
    omega
  case level =>
    refine ⟨clear src s, by simp [exec, execLevelSourceClear, Machine.unit, hsrc, hrow, hlevel], clear_active src s,
      fun k hk => clear_other s hk, clear_rest src s⟩
  case inject => exact ⟨_, exec_faultInject hmode hp hsrc hrow, latched_injectOnce f ((congrArg (faultAbsent · src) (frame_answer_variant ..)).trans hthere)⟩
  case absent =>
    have hexec := exec_faultInject hmode hp hsrc hrow
    rw [injectOnce_of_absent f ((congrArg (faultAbsent · src) (frame_answer_variant ..)).trans habsent)] at hexec
    exact goes_answer hp.1 hexec
  case none => rw [exec_injectKey ht, keyWord_of_no_strap hstrap, ite_self]
  case first =>
    rw [exec_injectKey ht, if_pos hup, keyWord_of_right hstrap hstep (by omega) rfl (.inl rfl), if_neg (by omega)]
    rfl
  case second =>
    rw [exec_injectKey ht, if_pos hup, keyWord_of_right hstrap hstep (by omega) rfl (.inr htime), if_neg (by omega)]
    rfl
  case last =>
    refine ⟨_, exec_injectKey ht _, ?_⟩
    rw [if_pos hup, keyWord_of_right hstrap hstep (by omega) rfl (.inr htime), if_pos rfl]
    exact ⟨(factoryMode_setRole ..).trans (by simp [factoryMode, keyAt, hstrap]), role_setRole_isolated _⟩
  case wrong =>
    have hword : keyWords[s.dev.keyStep]? ≠ some v := by
      rw [hstep]
      simpa [keyWords] using Ne.symm hwrong
    rw [exec_injectKey ht, if_pos hup, keyWord_of_wrong hstrap (by omega) hword]

end Sys2Proof.Proofs
end

section
/-! The capture channels (R440–R453). -/

set_option Elab.async false

namespace Sys2Proof.Proofs
open Sys2Proof Sys2Proof.Machine Sys2Proof.Laws

variable {h : BcsHdr} {s : State} {c : Nat}

/-! ### A channel -/

@[simp] theorem capGet_capPut (n : Nat) (x : CapCh) (hdr : Bool) (s : State) (k : Nat) :
    capGet (capPut n x hdr s) k = if n = k then x else capGet s k := get_set ..

theorem length_capHeader (n : Nat) (x : CapCh) : (capHeader n x).length = 64 := by
  unfold capHeader
  repeat rw [List.length_append]
  repeat rw [length_le]

/-- A record of an armed channel has room for its header (R449). -/
theorem header_le_armBytes (a : CapArm) : 64 ≤ armBytes a := by
  unfold armBytes
  split
  · omega
  · split <;> omega

/-! ### CAPTURE_ARM -/

/-- A channel as CAPTURE_ARM starts it (R449). -/
def armedCh (h : BcsHdr) (a : CapArm) (old : CapCh) : CapCh :=
  { st := if a.preCount = 0 then .armed else .preFill, arm := a, armSeq := old.armSeq + 1, mbx := h.mbx, epoch := h.sessionEpoch, tag := h.tag }

/-- The store with empty bins for a histogram or a map (R447). -/
def armedStore (a : CapArm) (c : Nat) (s : State) : List Host.Cell :=
  if a.mode = 0 then s.store else Memory.clear s.store (capBase s c + 64) (armBytes a - 64)

theorem exec_captureArm {a : CapArm} (hp : Passes h cCaptureArm s) (hcheck : armCheck s c a = .ok) :
    exec (.captureArm h c a) s = .next (answer h 0x50 .ok (be 4 (capBase s c) ++ be 4 (armBytes a)) (armChannel h c a s)) := by
  simp only [exec, execCaptureArm, bcsRun_of_passes hp, hcheck, onOk_ok]

theorem capBase_of_cfg {t : State} (ht : t.cfg = s.cfg) (c : Nat) : capBase t c = capBase s c := by
  unfold capBase capShare parN par armTab
  rw [ht]

/-- What CAPTURE_ARM leaves: the channel and the store (R440, R449). -/
theorem armChannel_eq (a : CapArm) : armChannel h c a s = { s with
    cap := { s.cap with ch := s.cap.ch.set c (armedCh h a (capGet s c)) }
    store := Memory.writes (armedStore a c s) (capBase s c) (capHeader c (armedCh h a (capGet s c))) } := by
  unfold armChannel capPut
  dsimp only
  rw [capBase_of_cfg (t := { s with store := _ }) rfl, if_pos rfl]
  rfl

theorem share_of_armCheck {a : CapArm} (hcheck : armCheck s c a = .ok) : armBytes a ≤ capShare s c := by
  unfold armCheck at hcheck
  (repeat' split at hcheck) <;> first | contradiction | omega

theorem wf_armedStore (hsound : Sound s) (a : CapArm) (c : Nat) : Memory.wf (armedStore a c s) = true := by
  unfold armedStore
  split
  · exact hsound
  · exact wf_clear _ _ hsound

theorem read_clear (m : List Host.Cell) (a n x : Nat) : Memory.read (Memory.clear m a n) x = if a ≤ x ∧ x < a + n then 0 else Memory.read m x := by
  have hfilter := read_filter (fun k => !(decide (a ≤ k) && decide (k < a + n))) m x
  refine hfilter.trans ?_
  by_cases hx : a ≤ x ∧ x < a + n <;> simp [hx]

/-- CAPTURE_ARM touches no byte outside the channel's share (R440). -/
theorem read_armed_outside (hsound : Sound s) {a : CapArm} (hshare : armBytes a ≤ capShare s c) (old : CapCh) {x : Nat}
    (hx : x < capBase s c ∨ capBase s c + capShare s c ≤ x) :
    Memory.read (Memory.writes (armedStore a c s) (capBase s c) (capHeader c (armedCh h a old))) x = Memory.read s.store x := by
  have hhead := header_le_armBytes a
  rw [read_writes_of_outside (wf_armedStore hsound a c) _ (by rw [length_capHeader]; omega), armedStore]
  split
  · rfl
  · rw [read_clear, if_neg (by omega)]

/-- The bins of a histogram or a map start empty (R447, R448). -/
theorem read_armed_bins (hsound : Sound s) {a : CapArm} (hmode : a.mode ≠ 0) (old : CapCh) {x : Nat} (hlo : capBase s c + 64 ≤ x)
    (hhi : x < capBase s c + armBytes a) :
    Memory.read (Memory.writes (armedStore a c s) (capBase s c) (capHeader c (armedCh h a old))) x = 0 := by
  rw [read_writes_of_outside (wf_armedStore hsound a c) _ (by rw [length_capHeader]; omega), armedStore, if_neg hmode, read_clear, if_pos (by omega)]

/-! ### The end of a record, and an abort -/

theorem frame_capDoneEvent (c : Nat) (st : Status) (s : State) : Frame [.mbx] s (capDoneEvent c st s) := by
  unfold capDoneEvent
  exact frame_eventTag ..

theorem answered_capDoneEvent {op : Nat} {st : Status} {body : List Byte} {t : State} (ha : Answered h op st body s t) (c : Nat) (e : Status) :
    Answered h op st body s (capDoneEvent c e t) := by
  unfold capDoneEvent
  exact answered_eventTag ha ..

/-- The last sample is looked for on a channel of the part (R453). -/
theorem exec_captureDone_eq (hc : c < 16) : exec (.captureDone c) s = .next
    (if (capGet s c).st == .postTrigger && (capGet s c).left = 0 then capDoneEvent c .ok (capPut c { capGet s c with st := .done } true s) else s) :=
  if_pos (decide_eq_true hc)

theorem exec_captureDone (hc : c < 16) (hst : (capGet s c).st = .postTrigger) (hleft : (capGet s c).left = 0) :
    exec (.captureDone c) s = .next (capDoneEvent c .ok (capPut c { capGet s c with st := .done } true s)) :=
  (exec_captureDone_eq hc).trans (congrArg _ (if_pos (by simp [hst, hleft])))

theorem exec_captureDone_none (hc : c < 16) (hst : (capGet s c).st ≠ .postTrigger) : exec (.captureDone c) s = .next s :=
  (exec_captureDone_eq hc).trans (congrArg _ (if_neg (by simp [hst])))

/-- A channel as an abort closes it (R453). -/
def abortedCh (x : CapCh) : CapCh := { x with st := .idle, aborted := true, fired := 0, lastTick := none, doneAt := none }

theorem exec_captureAbort (hp : Passes h cCaptureAbort s) (hc : c ≤ 15) (hdone : (capGet s c).doneAt = none) (hfree : armFree (capGet s c) = false)
    (hlive : capLive (capGet s c) = true) :
    exec (.captureAbort h c) s = .next (capDoneEvent c .aborted
      (answer h 0x51 .aborted (abortBody 2 0 0 s) (capPut c (abortedCh (capGet s c)) true s))) := by
  simp only [exec, execCaptureAbort, bcsRun_of_passes hp, Nat.not_lt.2 hc, hdone, hfree, hlive, Bool.not_true, Bool.or_self, Bool.false_eq_true, if_false]
  rfl

theorem exec_captureAbort_none (hp : Passes h cCaptureAbort s) (hc : c ≤ 15) (hdone : (capGet s c).doneAt = none)
    (hidle : armFree (capGet s c) = true ∨ capLive (capGet s c) = false) :
    exec (.captureAbort h c) s = .next (answer h 0x51 .nothingToAbort (abortBody 2 0 0 s) s) := by
  have hnone : (armFree (capGet s c) || !capLive (capGet s c)) = true := by rcases hidle with h | h <;> simp [h]
  simp only [exec, execCaptureAbort, bcsRun_of_passes hp, Nat.not_lt.2 hc, hdone, hnone, if_true, if_false]

theorem exec_captureAbort_late {n : CycleNo} {k : Nat} (hp : Passes h cCaptureAbort s) (hc : c ≤ 15) (hdone : (capGet s c).doneAt = some (n, k)) :
    exec (.captureAbort h c) s = .next (answer h 0x51 .completedBeforeAbort (abortBody 2 n k s) (capPut c { capGet s c with doneAt := none } false s)) := by
  simp only [exec, execCaptureAbort, bcsRun_of_passes hp, Nat.not_lt.2 hc, hdone, if_false]

/-! ### Triggers (R451, R452) -/

section Trigger
variable {g n : Nat}

/-- A channel that takes no samples, or does not listen, takes no trigger. -/
theorem trgFireOne_of_deaf (hdeaf : (capGet s n).arm.trgMask.getLsbD g = false) : trgFireOne g n s = s := by
  unfold trgFireOne
  dsimp only
  rw [if_pos]
  cases (capGet s n).st <;> simp [hdeaf]

/-- A trigger of one channel leaves the others. -/
theorem capGet_trgFireOne_other {k : Nat} (hk : n ≠ k) (s : State) : capGet (trgFireOne g n s) k = capGet s k := by
  have hput : ∀ (x : CapCh) (hdr : Bool) (st : List Host.Cell), capGet (capPut n x hdr { s with store := st }) k = capGet s k :=
    fun x hdr st => (capGet_capPut ..).trans (if_neg hk)
  unfold trgFireOne
  dsimp only
  (repeat' split) <;> first | rfl | exact hput ..

/-- A channel listens to a trigger, and takes samples. -/
def Listens (g : Nat) (x : CapCh) : Prop := x.arm.trgMask.getLsbD g = true ∧ (x.st = .preFill ∨ x.st = .armed ∨ x.st = .postTrigger)

theorem trgFireOne_of_listens (hl : Listens g (capGet s n)) : trgFireOne g n s =
    if (capGet s n).lastTick = some s.now then
      if (capGet s n).lastArmed && (capGet s n).st == .armed then
        let (c2, st) := capBin n (capTrigger (capGet s n) (2 ^ g)) (capGet s n).lastV (capGet s n).lastX s
        let st := capMark n c2 g true { s with store := st }
        capPut n { c2 with doneAt := if c2.left = 0 then some (s.cyc.n, tickPhase s) else none } true { s with store := st }
      else
        let now := (capGet s n).st == .postTrigger && (capGet s n).trigW == some ((capGet s n).written - 1)
        let c := if now then { capGet s n with coincident := (capGet s n).coincident ||| 2 ^ g, cause := min (capGet s n).cause g } else capGet s n
        capPut n c false { s with store := capMark n c g false s }
    else capPut n { capGet s n with fired := (capGet s n).fired ||| 2 ^ g } false s := by
  obtain ⟨hmask, hst⟩ := hl
  unfold trgFireOne
  dsimp only
  rw [if_neg]
  · rfl
  · rcases hst with h | h | h <;> simp [h, hmask]

/-- The trigger of a sample still to come waits with the channel (R452). -/
theorem capGet_trgFireOne_waits (hl : Listens g (capGet s n)) (ht : (capGet s n).lastTick ≠ some s.now) :
    capGet (trgFireOne g n s) n = { capGet s n with fired := (capGet s n).fired ||| 2 ^ g } := by
  rw [trgFireOne_of_listens hl, if_neg ht, capGet_capPut, if_pos rfl]

/-- What a sample's bin does to its channel are counts alone. -/
theorem capBin_keeps (n : Nat) (x : CapCh) (v : Int) (col : Option Nat) (s : State) :
    (capBin n x v col s).1.st = x.st ∧ (capBin n x v col s).1.trigCycle = x.trigCycle ∧ (capBin n x v col s).1.trigTick = x.trigTick ∧
    (capBin n x v col s).1.arm = x.arm := by
  unfold capBin
  dsimp only
  (repeat' split) <;> exact ⟨rfl, rfl, rfl, rfl⟩

/-- A channel that took its trigger sample at an instant. -/
def Triggered (cyc : CycleNo) (tk : Nat) (x : CapCh) : Prop := x.st = .postTrigger ∧ x.trigCycle = cyc ∧ x.trigTick = tk

/-- The sample of the same tick becomes an armed channel's trigger sample (R452, R453). -/
theorem triggered_trgFireOne (hl : Listens g (capGet s n)) (hst : (capGet s n).st = .armed) (harmed : (capGet s n).lastArmed = true)
    (ht : (capGet s n).lastTick = some s.now) : Triggered (capGet s n).lastCyc (capGet s n).lastTk (capGet (trgFireOne g n s) n) := by
  obtain ⟨hbst, hbcyc, hbtk, -⟩ := capBin_keeps n (capTrigger (capGet s n) (2 ^ g)) (capGet s n).lastV (capGet s n).lastX s
  rw [trgFireOne_of_listens hl, if_pos ht, if_pos (by simp [hst, harmed])]
  dsimp only
  rw [capGet_capPut, if_pos rfl]
  exact ⟨hbst, hbcyc, hbtk⟩

/-- A triggered channel stays so through further triggers. -/
theorem Triggered.trgFireOne {cyc : CycleNo} {tk : Nat} (hx : Triggered cyc tk (capGet s n)) : Triggered cyc tk (capGet (trgFireOne g n s) n) := by
  obtain ⟨hst, hcyc, htk⟩ := hx
  by_cases hmask : (capGet s n).arm.trgMask.getLsbD g = true
  · rw [trgFireOne_of_listens ⟨hmask, .inr (.inr hst)⟩, if_neg (show ¬((capGet s n).lastArmed && (capGet s n).st == .armed) = true by simp [hst])]
    split
    · dsimp only
      rw [capGet_capPut, if_pos rfl]
      split <;> exact ⟨hst, hcyc, htk⟩
    · rw [capGet_capPut, if_pos rfl]
      exact ⟨hst, hcyc, htk⟩
  · rw [trgFireOne_of_deaf (eq_false_of_ne_true hmask)]
    exact ⟨hst, hcyc, htk⟩

/-- A fold reaches what one of its steps brings about, where the others keep what was before and what it brought. -/
theorem foldl_reaches {f : State → Nat → State} {A B : State → Prop} (hstep : ∀ t, A t → B (f t n)) (hA : ∀ t k, k ≠ n → A t → A (f t k))
    (hB : ∀ t k, B t → B (f t k)) {ks : List Nat} (hn : n ∈ ks) (ha : A s) : B (ks.foldl f s) := by
  induction ks generalizing s with
  | nil => cases hn
  | cons k ks ih =>
    by_cases hk : k = n
    · subst hk
      exact List.foldlRecOn ks f (hstep s ha) fun t ht a _ => hB t a ht
    · rcases List.mem_cons.1 hn with rfl | hn'
      · exact absurd rfl hk
      · exact ih hn' (hA s k hk ha)

/-- A channel that is not at its default is listed. -/
theorem mem_keys_of_get {m : SMap CapCh} {k : Nat} (hk : m.get k {} ≠ {}) : k ∈ m.keys := by
  induction m with
  | nil => exact absurd rfl hk
  | cons x m ih =>
    obtain ⟨j, w⟩ := x
    by_cases hj : j = k
    · subst hj
      exact List.mem_cons_self
    · refine List.mem_cons_of_mem _ (ih ?_)
      rwa [SMap.get, SMap.find, if_neg hj] at hk

theorem mem_keys_of_st (hst : (capGet s n).st ≠ .idle) : n ∈ s.cap.ch.keys :=
  mem_keys_of_get fun hk => hst (congrArg CapCh.st hk)

theorem now_trgFireOne (g k : Nat) (s : State) : (trgFireOne g k s).now = s.now := (frame_trgFireOne s g k).get State.now

/-- A trigger leaves a channel that does not listen. -/
theorem capGet_trgFire_deaf (hdeaf : (capGet s n).arm.trgMask.getLsbD g = false) : capGet (trgFire g s) n = capGet s n := by
  refine List.foldlRecOn (motive := fun t => capGet t n = capGet s n) _ _ rfl fun t ht k _ => ?_
  by_cases hk : k = n
  · subst hk
    rw [trgFireOne_of_deaf (by rw [ht]; exact hdeaf), ht]
  · rw [capGet_trgFireOne_other hk, ht]

/-- A trigger waits for the next sample of a channel without one at its tick (R452). -/
theorem capGet_trgFire_waits (hl : Listens g (capGet s n)) (ht : (capGet s n).lastTick ≠ some s.now) :
    capGet (trgFire g s) n = { capGet s n with fired := (capGet s n).fired ||| 2 ^ g } := by
  have hkeys : n ∈ s.cap.ch.keys := mem_keys_of_st (by rcases hl.2 with h | h | h <;> simp [h])
  have hreach : (trgFire g s).now = s.now ∧ capGet (trgFire g s) n = { capGet s n with fired := (capGet s n).fired ||| 2 ^ g } := by
    refine foldl_reaches (A := fun t => t.now = s.now ∧ capGet t n = capGet s n)
      (B := fun t => t.now = s.now ∧ capGet t n = { capGet s n with fired := (capGet s n).fired ||| 2 ^ g }) ?_ ?_ ?_ hkeys ⟨rfl, rfl⟩
    · rintro t ⟨hnow, hx⟩
      exact ⟨(now_trgFireOne ..).trans hnow, by rw [capGet_trgFireOne_waits (by rwa [hx]) (by rwa [hx, hnow]), hx]⟩
    · rintro t k hk ⟨hnow, hx⟩
      exact ⟨(now_trgFireOne ..).trans hnow, (capGet_trgFireOne_other hk t).trans hx⟩
    · rintro t k ⟨hnow, hx⟩
      refine ⟨(now_trgFireOne ..).trans hnow, ?_⟩
      by_cases hk : k = n
      · subst hk
        rw [capGet_trgFireOne_waits (by rw [hx]; exact hl) (by rw [hx, hnow]; exact ht), hx]
        simp only [Nat.or_assoc, Nat.or_self]
      · rw [capGet_trgFireOne_other hk, hx]
  exact hreach.2

/-- A trigger takes the sample of its tick as an armed channel's trigger sample (R452, R453). -/
theorem triggered_trgFire (hl : Listens g (capGet s n)) (hst : (capGet s n).st = .armed) (harmed : (capGet s n).lastArmed = true)
    (ht : (capGet s n).lastTick = some s.now) : Triggered (capGet s n).lastCyc (capGet s n).lastTk (capGet (trgFire g s) n) := by
  have hkeys : n ∈ s.cap.ch.keys := mem_keys_of_st (by simp [hst])
  refine foldl_reaches (A := fun t => t.now = s.now ∧ capGet t n = capGet s n)
    (B := fun t => Triggered (capGet s n).lastCyc (capGet s n).lastTk (capGet t n)) ?_ ?_ ?_ hkeys ⟨rfl, rfl⟩
  · rintro t ⟨hnow, hx⟩
    have hfired := triggered_trgFireOne (s := t) (g := g) (n := n) (by rwa [hx]) (by rwa [hx]) (by rwa [hx]) (by rwa [hx, hnow])
    rwa [hx] at hfired
  · rintro t k hk ⟨hnow, hx⟩
    exact ⟨(now_trgFireOne ..).trans hnow, (capGet_trgFireOne_other hk t).trans hx⟩
  · intro t k hx
    by_cases hk : k = n
    · subst hk
      exact hx.trgFireOne
    · rwa [capGet_trgFireOne_other hk]

theorem exec_triggerFire {k : Nat} (hg : g < 8) (hk : k ≤ s.now) :
    exec (.triggerFire g k) s = .next (if parN s 0x62 g 0 = 0 then s else trgFire g s) := by
  have hnow : advanceTo k s = s := if_neg (Nat.not_lt.2 hk)
  simp only [exec, execTriggerFire, Machine.unit, hnow, hg, decide_true, if_true]

end Trigger

/-- Settles O46: arm, end, aborts, and the triggers. -/
theorem captureChannels : Obligations.CaptureChannels := by
  unfold Obligations.CaptureChannels
  intro s h c
  refine ⟨fun a hp hsound hcheck => ?arm, fun hc hst hleft => ?done, exec_captureDone_none, fun hp hc hdone hfree hlive => ?abort,
    fun hp hc hdone hidle => goes_answer hp.1 (exec_captureAbort_none hp hc hdone hidle), fun n k hp hc hdone => ?late,
    fun g k hg hk hoff => by rw [exec_triggerFire hg hk, if_pos hoff], fun g k hg hk hon => ?fire⟩
  case arm =>
    have hexec := exec_captureArm hp hcheck
    have hshare := share_of_armCheck hcheck
    have harmed := armChannel_eq (h := h) (c := c) (s := s) a
    generalize armChannel h c a s = t at hexec harmed
    have hch : ∀ k, capGet t k = if c = k then armedCh h a (capGet s c) else capGet s k := fun k => by
      rw [harmed]
      exact get_set ..
    have hstore : t.store = Memory.writes (armedStore a c s) (capBase s c) (capHeader c (armedCh h a (capGet s c))) := by rw [harmed]
    have hmail : t.mbx = s.mbx := by rw [harmed]
    have hdev : t.dev = s.dev := by rw [harmed]
    have hrest : { t with mbx := s.mbx, cap := s.cap, store := s.store } = s := by rw [harmed]
    have hframe := frame_answer (h := h) 0x50 .ok (be 4 (capBase s c) ++ be 4 (armBytes a)) t
    have hown := (hframe.get (capGet · c)).trans ((hch c).trans (if_pos rfl))
    have hread := fun x => congrArg (Memory.read · x) ((hframe.get State.store).trans hstore)
    exact ⟨_, hexec, congrArg CapCh.arm hown, congrArg CapCh.st hown, congrArg CapCh.armSeq hown, congrArg CapCh.written hown,
      fun k hk => (hframe.get (capGet · k)).trans ((hch k).trans (if_neg (Ne.symm hk))),
      fun x hx => (hread x).trans (read_armed_outside hsound hshare _ hx), fun hmode x hlo hhi => (hread x).trans (read_armed_bins hsound hmode _ hlo hhi),
      responded_of_mail hmail hdev hp.1 .., (hframe.get (fun u => { u with mbx := s.mbx, cap := s.cap, store := s.store })).trans hrest⟩
  case done =>
    have hch := fun k => ((frame_capDoneEvent c .ok (capPut c { capGet s c with st := .done } true s)).get (capGet · k)).trans (capGet_capPut ..)
    exact ⟨_, exec_captureDone hc hst hleft, (hch c).trans (if_pos rfl), fun k hk => (hch k).trans (if_neg (Ne.symm hk))⟩
  case abort =>
    have hexec := exec_captureAbort hp hc hdone hfree hlive
    generalize hclosed : capPut c (abortedCh (capGet s c)) true s = t at hexec
    have hch : ∀ k, capGet t k = if c = k then abortedCh (capGet s c) else capGet s k := fun k => by rw [← hclosed, capGet_capPut]
    have hmail : t.mbx = s.mbx := by rw [← hclosed]; rfl
    have hdev : t.dev = s.dev := by rw [← hclosed]; rfl
    have hframe : Frame [.mbx] t (capDoneEvent c .aborted (answer h 0x51 .aborted (abortBody 2 0 0 s) t)) :=
      .after (frame_capDoneEvent ..) (frame_answer ..)
    have hown := (hframe.get (capGet · c)).trans ((hch c).trans (if_pos rfl))
    exact ⟨_, hexec, congrArg CapCh.st hown, congrArg CapCh.aborted hown,
      fun k hk => (hframe.get (capGet · k)).trans ((hch k).trans (if_neg (Ne.symm hk))),
      answered_capDoneEvent (answered_of_mail hmail hdev hp.1 ..) c .aborted⟩
  case late =>
    have hframe := frame_answer (h := h) 0x51 .completedBeforeAbort (abortBody 2 n k s) (capPut c { capGet s c with doneAt := none } false s)
    have hown := (hframe.get (capGet · c)).trans ((capGet_capPut ..).trans (if_pos rfl))
    exact ⟨_, exec_captureAbort_late hp hc hdone, responded_of_mail (t := capPut c { capGet s c with doneAt := none } false s) rfl rfl hp.1 ..,
      (congrArg CapCh.st hown :)⟩
  case fire =>
    refine ⟨trgFire g s, by rw [exec_triggerFire hg hk, if_neg hon], (frame_trgFire s g).get (fun u => { u with cap := s.cap, store := s.store }),
      fun n => ⟨capGet_trgFire_deaf, fun hmask hlive ht => ?_, fun hmask hst harmed ht => triggered_trgFire ⟨hmask, .inr (.inl hst)⟩ hst harmed ht⟩⟩
    have hst : (capGet s n).st = .preFill ∨ (capGet s n).st = .armed ∨ (capGet s n).st = .postTrigger := by
      unfold capLive at hlive
      cases hx : (capGet s n).st <;> simp [hx] at hlive ⊢
    have hx := capGet_trgFire_waits ⟨hmask, hst⟩ ht
    exact ⟨congrArg CapCh.fired hx, (congrArg CapCh.st hx :)⟩

end Sys2Proof.Proofs
end

section
/-! The pulse engine at a block reset of level 3 (R296, R300, R302, R375): a trip that reaches its limit stops the channel whose period has
just started. -/

set_option Elab.async false

namespace Sys2Proof.Proofs
open Sys2Proof Sys2Proof.Machine Sys2Proof.Laws Sys2Proof.Tests

/-- No level that the plate sets for a source reaches 4. -/
def lowLevels (s : State) : Bool := s.cfg.par.all (fun x => x.1 / 2 ^ 24 != 0x50 || decide (x.2 < 4))

theorem find_mem {α : Type} {m : SMap α} {k : Nat} {v : α} (h : m.find k = some v) : (k, v) ∈ m := by
  induction m with
  | nil => cases h
  | cons x m ih =>
    obtain ⟨j, w⟩ := x
    by_cases hj : j = k
    · rw [SMap.find, if_pos hj] at h
      cases h
      exact hj ▸ List.mem_cons_self
    · rw [SMap.find, if_neg hj] at h
      exact List.mem_cons_of_mem _ (ih h)

/-- The default level of a source whose level the plate may set, but for the four of level 4. -/
theorem dflt_lt_four {src : Nat} {f : FaultInfo} (hf : faultInfo src = some f) (hfree : f.fixed = false) (hsrc : src ∉ [4, 7, 353, 357]) : f.dflt < 4 := by
  by_cases hbig : src < 512
  · have hrow := List.all_eq_true.mp dflt_calm src (by simpa using hbig)
    rw [hf] at hrow
    simp only [hfree, Bool.false_or, Bool.or_eq_true, decide_eq_true_eq, List.contains_iff_mem] at hrow
    exact hrow.resolve_left hsrc
  · rw [faultInfo_big src (by omega)] at hf
    cases hf

/-- Levels below 4 in the plate keep every reaction below level 5 (R372). -/
theorem calm_of_lowLevels {s : State} (h : lowLevels s = true) : Calm s := by
  intro src f hf hfree hsrc
  have hbig : src < 512 := Nat.lt_of_not_le fun hle => by rw [faultInfo_big src hle] at hf; cases hf
  have hgroup : pid 0x50 src 0 / 2 ^ 24 = 0x50 := by unfold pid; omega
  have hinst : pid 0x50 src 0 / 2 ^ 8 % 2 ^ 16 = src := by unfold pid; omega
  have hitem : pid 0x50 src 0 % 2 ^ 8 = 0 := by unfold pid; omega
  have hlevel : faultLevel s src = (parOf s.cfg.par (armTab s) (pid 0x50 src 0)).toNat := by simp [faultLevel, hf, hfree, parN, par]
  rw [hlevel, parOf]
  cases hfind : s.cfg.par.find (pid 0x50 src 0) with
  | some v =>
    have hv := List.all_eq_true.mp h _ (find_mem hfind)
    simp only [hgroup, bne_self_eq_false, Bool.false_or, decide_eq_true_eq] at hv
    simp only
    omega
  | none =>
    simp only [parDflt, hgroup, hinst, hitem, hf]
    exact_mod_cast dflt_lt_four hf hfree hsrc

/-- A unit whose channel 0 has a qualified input in its TRIP_MASK and a TRIP_LIMIT of 1, with FLT_PULSE_TRIP of the channel at level 3, and
with a source of restarts. -/
def tripUnit : State := { unitIn .running with
  cfg := { (unitIn .running).cfg with par := [(pid 0x20 0 12, 1), (pid 0x20 0 16, 1), (pid 0x20 0 20, 1), (pid 0x50 208 0, 3)] }
  pul := { State.reset.pul with
    ch := [(0, { running := true, firstSync := true, period := 10 })]
    ti := [(0, { level := false, count := 3, qualified := true })] } }

/-- Whether channel 0 runs after a command that is carried out. -/
def runsAfter (o : Host.Outcome State Fault Refusal) : Option Bool := match o with | .next t => some (pch t 0).running | _ => none

theorem runsAfter_of_goes {i : Instr} {s : State} {P : State → Prop} (hg : Goes i s P) (hP : ∀ t, P t → (pch t 0).running = true) :
    runsAfter (exec i s) = some true := by
  obtain ⟨t, hexec, ht⟩ := hg
  rw [hexec, runsAfter, hP t ht]

/-- Refutes O50: the period start of `tripUnit` trips its channel again, the trip reaches TRIP_LIMIT, and the block reset of level 3 stops the
channel. -/
theorem not_pulsePositions : ¬ Obligations.PulsePositions := by
  unfold Obligations.PulsePositions
  intro h
  obtain ⟨hstart, -⟩ := h tripUnit 0 10 (by decide)
  have hcalm : Calm tripUnit := calm_of_lowLevels (by decide +kernel)
  have hgoes := hstart hcalm rfl rfl (by decide +kernel) (by decide +kernel)
  have hruns := runsAfter_of_goes hgoes fun t ht => by
    obtain ⟨-, -, hrun, -⟩ := ht
    exact hrun
  have hstops : runsAfter (exec (.periodStart 0 10) tripUnit) = some false := by decide +kernel
  rw [hstops] at hruns
  cases hruns

/-- Refutes O51: an accepted restart to 0 of `tripUnit`'s channel is a period start, whose trip ends in the block reset of the channel. -/
theorem not_tripsAndSync : ¬ Obligations.TripsAndSync := by
  unfold Obligations.TripsAndSync
  intro h
  have hcalm : Calm tripUnit := calm_of_lowLevels (by decide +kernel)
  obtain ⟨-, -, hsync, -⟩ := h tripUnit hcalm rfl
  obtain ⟨hhit, -⟩ := hsync 0 0 (by decide) rfl (by decide +kernel)
  have hruns := runsAfter_of_goes (hhit (.inr (.inl rfl))) fun t ht => by
    obtain ⟨-, -, -, hrun, -⟩ := ht
    exact hrun
  have hstops : runsAfter (exec (.syncEvent 0 0) tripUnit) = some false := by decide +kernel
  rw [hstops] at hruns
  cases hruns

end Sys2Proof.Proofs
end

section
/-! The start of a cycle at which a capture is triggered (R19, R31, R443, R451). -/

set_option Elab.async false

namespace Sys2Proof.Proofs
open Sys2Proof Sys2Proof.Machine Sys2Proof.Laws Sys2Proof.Tests

/-- A unit with a reaction of level 4 for its next boundary, and with a capture channel that took a sample in this tick and is armed for a
trigger of kind STATE. Converter time is past the start of the next cycle. -/
def armedUnit : State := { unitIn .running with
  cfg := { (unitIn .running).cfg with par := [(pid 0x62 0 0, 4)] }
  cyc := { (unitIn .running).cyc with level4 := true }
  time := { State.reset.time with ct := { sec := 1, ns := 0, frac := 0 } }
  cap := { State.reset.cap with ch := [(0, { st := .armed, lastArmed := true, lastTick := some 0, arm :=
    { mode := 0, srcKind := 0, element := 0, srcIndex := 0, trgMask := 1, decimation := 1, preCount := 0, postCount := 1 } })] } }

/-- Whether the stacked memory is empty after a command that is carried out. -/
def emptyAfter (o : Host.Outcome State Fault Refusal) : Option Bool := match o with | .next t => some t.store.isEmpty | _ => none

/-- Refutes O12: the entry to FAULTED at the boundary fires the STATE trigger, whose capture channel writes its header and the mark of its last
entry, so the stacked memory does not stay as it was. -/
theorem not_cycleStarts : ¬ Obligations.CycleStarts := by
  unfold Obligations.CycleStarts
  intro h
  obtain ⟨-, hstart, -⟩ := h armedUnit 0
  obtain ⟨u, hexec, -, ⟨-, -, -, -, -, -, -, -, -, hstore, -⟩, -⟩ :=
    hstart rfl (by decide +kernel) (calm_of_lowLevels (by decide +kernel))
  have hempty : emptyAfter (exec (.cycleStart 0) armedUnit) = some true := by
    rw [hexec, emptyAfter, hstore]
    rfl
  have hwritten : emptyAfter (exec (.cycleStart 0) armedUnit) = some false := by decide +kernel
  rw [hwritten] at hempty
  cases hempty

end Sys2Proof.Proofs
end

section
/-! The lock-through of a whole plate with a stray capture channel (R367, R451, R453). -/

set_option Elab.async false

namespace Sys2Proof.Proofs
open Sys2Proof Sys2Proof.Machine Sys2Proof.Laws Sys2Proof.Tests

/-- The small plate with a trigger of kind STATE. -/
def statePlate : Plate := { plate with params := [(pid 2 0 0, 1), (pid 0x62 0 0, 4)] }

/-- A unit in IDLE whose staged plate is to lock through, with a channel beyond the sixteen of the part that listens to the trigger. -/
def strayUnit : State := { plating .idle with
  pound := { (plating .idle).pound with plate := some statePlate }
  cap := { State.reset.cap with ch := [(16, { st := .armed, lastArmed := true, lastTick := some 0, arm :=
    { mode := 0, srcKind := 0, element := 0, srcIndex := 0, trgMask := 1, decimation := 1, preCount := 0, postCount := 1 } })] } }

/-- A plate in force (R367). -/
def inForce (pl : Plate) : Cfg :=
  { plate := some pl, par := pl.params, parI := pl.params, stages := pl.stages, stagesI := pl.stages, plateTag := pl.hdr.plateTag }

/-- Refutes O15: the entry to LOADED fires the STATE trigger, and a channel 16, which the flip does not stop, writes its header into the stacked
memory after the Plate Store has taken the image. -/
theorem not_wholePlate : ¬ Obligations.WholePlate := by
  unfold Obligations.WholePlate
  intro h
  obtain ⟨c, hcand⟩ : ∃ c, candOf (advanceTo 0 strayUnit) = some c := ⟨_, rfl⟩
  have hcalm : Calm { strayUnit with cfg := inForce statePlate } := calm_of_lowLevels (by decide +kernel)
  obtain ⟨-, -, hidle, -⟩ := h strayUnit 0 0 9 statePlate c 5 rfl rfl hcand hcalm
  have hlive : liveOk (advanceTo 0 strayUnit) c = true := by
    cases hcand
    decide +kernel
  obtain ⟨u, hexec, hdone⟩ := hidle rfl hlive
  obtain ⟨-, -, -, -, -, -, -, -, -, -, -, -, -, -, -, -, hstore, -⟩ := hdone
  have hempty : emptyAfter (exec (.idlePlateLockThrough 0 true) strayUnit) = some true := by
    rw [hexec, emptyAfter, hstore]
    decide +kernel
  have hwritten : emptyAfter (exec (.idlePlateLockThrough 0 true) strayUnit) = some false := by decide +kernel
  rw [hwritten] at hempty
  cases hempty

end Sys2Proof.Proofs
end

section
/-! The flip of staged changes (R17, R364–R366). -/

set_option Elab.async false

namespace Sys2Proof.Proofs
open Sys2Proof Sys2Proof.Machine Sys2Proof.Laws

variable {s : State} {c : Cand}

/-! ### The values in force -/

theorem frame_flipStaged (c : Cand) (s : State) : Frame [.cfg, .clk] s (flipStaged c s) := frame_withClk _ _

theorem frame_withGraph (g : Graph) (s : State) : Frame [.graph] s (withGraph s g) := rfl

/-- Past the flip only points and the graph are brought in line (R223, R364). -/
theorem frame_applyStaged (c : Cand) (s : State) : Frame [.points, .graph] (flipStaged c s) (applyStaged c s) := by
  unfold applyStaged
  extract_lets moved flipped ids limited emptied cleared quiet bound
  have hlimited : Frame [.points, .graph] flipped limited := .ite (Frame.mono (qs := [.points]) rfl) .refl
  have hcleared : Frame [.points, .graph] flipped cleared := .ite hlimited (hlimited.step (qs := [.graph]) rfl)
  have hbound : Frame [.points, .graph] flipped bound := hcleared.step (frame_withGraph ..)
  exact .ite (hbound.step (frame_withGraph ..)) hbound

/-- The staged values are in force, in both copies (R364). -/
theorem cfg_flipStaged (c : Cand) (s : State) :
    (flipStaged c s).cfg = { s.cfg with par := c.par, parI := c.par, stages := c.stages, stagesI := c.stages } := rfl

theorem clk_flipStaged (c : Cand) (s : State) : (flipStaged c s).clk.shadow = (flipStaged c s).clk.active := rfl

/-! ### The end of a commit -/

theorem frame_countApplied (op : Nat) (s : State) : Frame [.tan] s (countApplied op s) := .ite rfl .refl

theorem frame_commitDone (w : Waiting) (cy : CycleNo) (s : State) : Frame [.mbx, .pound] s (commitDone w cy s) := by
  unfold commitDone
  dsimp only
  exact .after (frame_scheduledResult ..) (Frame.mono (qs := [.pound]) rfl)

theorem pound_commitDone (w : Waiting) (cy : CycleNo) (s : State) :
    (commitDone w cy s).pound = { checking := s.pound.checking, target := if s.pound.late then none else some cy } :=
  (frame_scheduledResult ..).get State.pound

/-- What a completed flip leaves (R366). -/
def flipped (w : Waiting) (cy : CycleNo) (c : Cand) (s : State) : State := commitDone w cy (safetyDigest true (countApplied 0x24 (applyStaged c s)))

theorem frame_flipped (w : Waiting) (cy : CycleNo) (c : Cand) (s : State) :
    Frame [.mbx, .pound, .fcru, .tan, .points, .graph] (flipStaged c s) (flipped w cy c s) := by
  have happlied : Frame [.mbx, .pound, .fcru, .tan, .points, .graph] (flipStaged c s) (applyStaged c s) := (frame_applyStaged c s).mono
  exact .after (frame_commitDone ..) (.after (safetyDigest_true _ ▸ frame_clear ..) (.after (frame_countApplied ..) happlied))

/-- Nothing else of the state moves at a flip. -/
theorem butMessages_of_flip {t : State} (hf : Frame [.mbx, .pound, .fcru, .tan, .points, .graph, .cfg, .clk] s t) :
    ButMessages { s with cfg := t.cfg, clk := t.clk, points := t.points, graph := t.graph, pound := t.pound, tan := t.tan, fcru := t.fcru } t :=
  (hf.get fun u => { u with
    cfg := t.cfg, clk := t.clk, points := t.points, graph := t.graph, pound := t.pound, tan := t.tan, fcru := t.fcru, mbx := s.mbx,
    host := s.host, stn := s.stn } :)

theorem clear_flipped (w : Waiting) (cy : CycleNo) (c : Cand) (s : State) : (rec? (flipped w cy c s) 38).active = false := by
  have hframe := frame_commitDone w cy (safetyDigest true (countApplied 0x24 (applyStaged c s)))
  rw [flipped, hframe.get (rec? · 38), safetyDigest_true]
  exact clear_active 38 _

theorem transferSeq_flipped (w : Waiting) (cy : CycleNo) (c : Cand) (s : State) :
    (flipped w cy c s).tan.transferSeq = s.tan.transferSeq + 1 := by
  have happlied : (applyStaged c s).tan = s.tan := ((frame_applyStaged c s).get State.tan).trans ((frame_flipStaged c s).get State.tan)
  have hframe : Frame [.mbx, .pound, .fcru] (countApplied 0x24 (applyStaged c s)) (flipped w cy c s) :=
    .after (frame_commitDone ..) (.after (safetyDigest_true _ ▸ frame_clear ..) .refl)
  rw [hframe.get (·.tan.transferSeq), ← happlied]
  rfl

/-! ### A commit that fails -/

/-- What a flip that fails leaves (R365). -/
def flipDropped (s : State) : State := bankRestore { s with pound := { s.pound with commit := none, late := false } }

theorem frame_commitFails (w : Waiting) (st : Status) (s : State) : Frame [.mbx] (flipDropped s) (commitFails w st s) := frame_scheduledResult ..

theorem butMessages_of_drop {t : State} (hf : Frame [.mbx, .pound, .cfg, .clk] s t) :
    ButMessages { s with cfg := t.cfg, clk := t.clk, pound := t.pound } t :=
  (hf.get fun u => { u with cfg := t.cfg, clk := t.clk, pound := t.pound, mbx := s.mbx, host := s.host, stn := s.stn } :)

theorem frame_flipDropped (s : State) : Frame [.pound, .cfg, .clk] s (flipDropped s) := by
  have hpound : Frame [.pound, .cfg, .clk] s { s with pound := { s.pound with commit := none, late := false } } := Frame.mono (qs := [.pound]) rfl
  exact .after (frame_withClk _ _) hpound

/-- Settles O14: a flip, a flip that a rule on live state stops, and no flip. -/
theorem lockThrough : Obligations.LockThrough := by
  unfold Obligations.LockThrough
  intro s n m tag c hcommit hcand
  refine ⟨fun hboundary hdue hlive => ?flip, fun good hboundary hdue hlive => ?drop, fun good hnot => ?none⟩
  case flip =>
    have hframe := frame_flipped (commitWait s n m tag) n c s
    have hpound := pound_commitDone (commitWait s n m tag) n (safetyDigest true (countApplied 0x24 (applyStaged c s)))
    have hcfg := (hframe.get State.cfg).trans (cfg_flipStaged c s)
    have hclk := hframe.get State.clk
    have hall : Frame [.mbx, .pound, .fcru, .tan, .points, .graph, .cfg, .clk] s (flipped (commitWait s n m tag) n c s) :=
      .after hframe (frame_flipStaged c s).mono
    refine ⟨flipped (commitWait s n m tag) n c s, exec_lockThrough_of_live hcommit hcand hboundary hdue hlive, ?_⟩
    exact ⟨congrArg Cfg.par hcfg, congrArg Cfg.parI hcfg, congrArg Cfg.stages hcfg, congrArg Cfg.stagesI hcfg, (congrArg Cfg.plate hcfg :),
      (congrArg Clk.shadow hclk).trans ((clk_flipStaged c s).trans (congrArg Clk.active hclk).symm), congrArg Pound.commit hpound,
      congrArg Pound.entries hpound, congrArg Pound.owner hpound, congrArg Pound.check hpound, congrArg Pound.signs hpound,
      clear_flipped .., transferSeq_flipped .., butMessages_of_flip hall⟩
  case drop =>
    have hexec : exec (.lockThrough good) s = .next (commitFails (commitWait s n m tag) .consistency s) := by
      change execLockThrough good s = _
      simp [execLockThrough, Machine.ok, hcommit, hcand, hboundary, hdue, hlive]
    have hframe := frame_commitFails (commitWait s n m tag) .consistency s
    have hall : Frame [.mbx, .pound, .cfg, .clk] s (commitFails (commitWait s n m tag) .consistency s) := .after hframe (frame_flipDropped s).mono
    exact ⟨_, hexec, hframe.get (·.cfg.par), hframe.get (·.cfg.parI), hframe.get (·.cfg.stages), hframe.get (·.clk.active), hframe.get (·.clk.shadow),
      hframe.get (·.pound.commit), hframe.get (·.pound.entries), hframe.get (·.pound.owner), hframe.get (·.pound.check), butMessages_of_drop hall⟩
  case none =>
    have hoff : (atBoundary s && lockDue s) = false := by rcases hnot with h | h <;> simp [h]
    change execLockThrough good s = _
    simp [execLockThrough, Machine.ok, hcommit, hoff]

end Sys2Proof.Proofs
end

section
/-! The safety die: requests, supervision and readbacks (R395–R407). -/

set_option Elab.async false

namespace Sys2Proof.Proofs
open Sys2Proof Sys2Proof.Machine Sys2Proof.Laws

variable {s : State}

/-! ### Assertions of fixed sources (R413) -/

theorem appliedLevel_of_fixed {src : Nat} {f : FaultInfo} (hf : faultInfo src = some f) (hfix : f.fixed = true) (s : State) :
    (appliedLevel s src f).1 = f.dflt := by
  simp [appliedLevel, faultLevel, hf, hfix]

/-- What an assertion at level 2 or below may touch. -/
abbrev trapParts : List Part := [.fcru, .cap, .store, .host, .mbx, .cycReq]

theorem frame_reactLow_trap {lvl : Nat} (hlvl : lvl ≤ 2) (src : Nat) (f : FaultInfo) (block : Bool) (s : State) :
    Frame trapParts s (reactLow src f lvl block s) := by
  unfold reactLow
  extract_lets signalled trapped reset
  have hsignalled : Frame trapParts s signalled := .ite (frame_reactSignal ..).mono .refl
  have htrapped : Frame trapParts s trapped := hsignalled.trans (.ite (frame_reactTrap ..).mono .refl)
  have hskip : reset = trapped := if_neg (by omega)
  have hreset : Frame trapParts s reset := by rwa [hskip]
  exact .ite (hreset.step (qs := [.cycReq]) rfl) hreset

theorem frame_react_trap {lvl : Nat} (hlvl : lvl ≤ 2) (src : Nat) (f : FaultInfo) (block : Bool) (s : State) :
    Frame trapParts s (react src f lvl block s) := by
  unfold react
  rw [if_neg (by omega), if_neg (by omega)]
  exact .after (frame_reactLow_trap hlvl ..) (frame_noteReaction ..).mono

/-- A fixed source of level 2 or below moves no state of the device. -/
theorem frame_raise_trap {src : Nat} {f : FaultInfo} (hf : faultInfo src = some f) (hfix : f.fixed = true) (hlow : f.dflt ≤ 2) (d : List Byte)
    (s : State) : Frame trapParts s (raise src d s) := by
  unfold raise
  rw [hf]
  refine .ite .refl ?_
  unfold assertSource
  extract_lets lvl logged
  have hlvl : lvl ≤ 2 := by rwa [show lvl = f.dflt from appliedLevel_of_fixed hf hfix s]
  have hlogged : Frame trapParts s logged := .after (frame_trgFault ..) (frame_logSource ..).mono
  exact .ite hlogged (hlogged.trans (frame_react_trap hlvl ..))

theorem frame_srbFault_trap {src : Nat} {f : FaultInfo} (hf : faultInfo src = some f) (hfix : f.fixed = true) (hlow : f.dflt ≤ 2)
    (cause k : Nat) (value e : Int) (s : State) : Frame trapParts s (srbFault src cause k value e s) :=
  .ite .refl (.after (frame_safetyEvent ..) (frame_raise_trap hf hfix hlow ..))

/-- A fixed source below level 5 stays within the parts of any reaction, whatever the configuration. -/
theorem frame_raise_fixed {src : Nat} {f : FaultInfo} (hf : faultInfo src = some f) (hfix : f.fixed = true) (hlvl : f.dflt ≠ 5) (d : List Byte)
    (s : State) : Frame (raiseParts src) s (raise src d s) :=
  frame_raise_of_level (fun g hg => by
    obtain rfl := Option.some.inj (hf.symm.trans hg)
    rwa [appliedLevel_of_fixed hf hfix]) d

theorem latched_safetyEvent {n : Nat} (cause k p : Nat) (v e : Int) : Latched (safetyEvent cause p k v e s) n ↔ Latched s n :=
  Iff.of_eq ((frame_safetyEvent ..).get (Latched · n))

/-- A source of the safety die that was not asserted latches. -/
theorem latched_srbFault {src : Nat} {f : FaultInfo} (hf : faultInfo src = some f) (ha : ∀ v, faultAbsent v src = false)
    (hp : s.dev.porstN = true) (hr : s.dev.railHold = false) (hx : (rec? s src).active = false) (cause k : Nat) (value e : Int) :
    Latched (srbFault src cause k value e s) src := by
  unfold srbFault
  rw [if_neg (by simp [hx]), latched_safetyEvent]
  exact latched_raise hf ha hp hr hx _

/-! ### The HWSL and the requests -/

theorem srb_srbGo (st : SrbState) (cause k : Nat) (value e : Int) (s : State) : (srbGo st cause k value e s).srb = { s.srb with st := st } := by
  unfold srbGo
  split
  · next h => rw [← h]
  · dsimp only
    exact (Frame.after (frame_trgState _) (frame_safetyEvent ..).mono : Frame [.mbx, .cap, .store] _ _).get State.srb

/-- What a block by the HWSL touches (R403). -/
theorem frame_hwslTrip (cause k : Nat) (value e : Int) (s : State) : Frame [.srb, .cyc, .mbx, .cap, .store] s (hwslTrip cause k value e s) :=
  .ite .refl (.after (frame_srbGo ..) (Frame.mono (qs := [.srb, .cyc]) rfl))

/-- The SRB once the HWSL has tripped. -/
def trippedSrb (x : Srb) : Srb := { x with complete := false, timeoutRun := false, t0 := none, inhibit := true, st := .tripped }

theorem hwslTrip_of_tripped (h : s.srb.st = .tripped) (cause k : Nat) (value e : Int) : hwslTrip cause k value e s = s := if_pos h

theorem srb_hwslTrip (h : s.srb.st ≠ .tripped) (cause k : Nat) (value e : Int) : (hwslTrip cause k value e s).srb = trippedSrb s.srb := by
  unfold hwslTrip
  rw [if_neg h, srb_srbGo]
  rfl

theorem hwslBlock_hwslTrip (h : s.srb.st ≠ .tripped) (cause k : Nat) (value e : Int) : (hwslTrip cause k value e s).cyc.hwslBlock = true := by
  unfold hwslTrip
  rw [if_neg h]
  exact (frame_srbGo ..).get (·.cyc.hwslBlock)

/-- The SRB without what a block by the HWSL changes. -/
def unblocked (x : Srb) : Srb := { x with complete := false, timeoutRun := false, t0 := none, inhibit := false, st := .hold }

theorem unblocked_hwslTrip (cause k : Nat) (value e : Int) (s : State) : unblocked (hwslTrip cause k value e s).srb = unblocked s.srb := by
  by_cases h : s.srb.st = .tripped
  · rw [hwslTrip_of_tripped h]
  · rw [srb_hwslTrip h]
    rfl

/-- A request as the SMP takes it. -/
def registered (r : SrbReq) (s : State) : State :=
  if srbSame s r then s
  else safetyEvent r.cause (srbProfile s r) 0 0 0 { s with srb := { s.srb with reqs := s.srb.reqs ++ [{ r with tick := s.now }] } }

theorem srbRegister_eq (r : SrbReq) (s : State) :
    srbRegister r s = if srbImmediate (registered r s) r && runs (registered r s) then hwslTrip 9 0 0 0 (registered r s) else registered r s := rfl

theorem srb_registered (r : SrbReq) (s : State) :
    (registered r s).srb = { s.srb with reqs := if srbSame s r then s.srb.reqs else s.srb.reqs ++ [{ r with tick := s.now }] } := by
  unfold registered
  split
  · rfl
  · exact (frame_safetyEvent ..).get State.srb

theorem frame_registered (r : SrbReq) (s : State) : Frame [.srb, .mbx] s (registered r s) :=
  .ite .refl (.after (frame_safetyEvent ..) (Frame.mono (qs := [.srb]) rfl))

theorem frame_srbRegister (r : SrbReq) (s : State) : Frame [.srb, .cyc, .mbx, .cap, .store] s (srbRegister r s) := by
  rw [srbRegister_eq]
  have hreg : Frame [.srb, .cyc, .mbx, .cap, .store] s (registered r s) := (frame_registered ..).mono
  exact .ite (hreg.step (frame_hwslTrip ..)) hreg

/-- A registered request changes the list of requests, and what a block by the HWSL changes. -/
theorem unblocked_srbRegister (r : SrbReq) (s : State) :
    unblocked (srbRegister r s).srb = { unblocked s.srb with reqs := if srbSame s r then s.srb.reqs else s.srb.reqs ++ [{ r with tick := s.now }] } := by
  have hreg : unblocked (registered r s).srb = _ := congrArg unblocked (srb_registered r s)
  rw [srbRegister_eq]
  split
  · rw [unblocked_hwslTrip, hreg]
    rfl
  · rw [hreg]
    rfl

/-- A request is held once it is registered (R397, R400). -/
theorem srbHas_srbRegister (r : SrbReq) (s : State) : srbHas (srbRegister r s) r.cause = true := by
  have hreqs : (srbRegister r s).srb.reqs = _ := (congrArg Srb.reqs (unblocked_srbRegister r s) :)
  unfold srbHas
  rw [hreqs]
  split
  · next hsame =>
    obtain ⟨x, hx, hsame⟩ := List.any_eq_true.1 hsame
    simp only [Bool.and_eq_true, decide_eq_true_eq] at hsame
    exact List.any_eq_true.2 ⟨x, hx, by simp [hsame.1]⟩
  · simp

end Sys2Proof.Proofs
end

section
/-! Requests to the safety die by pins and telegrams (R397–R400). -/

set_option Elab.async false

namespace Sys2Proof.Proofs
open Sys2Proof Sys2Proof.Machine Sys2Proof.Laws

variable {s : State}

@[simp] theorem advanceTo_srb (t : Nat) (s : State) : (advanceTo t s).srb = s.srb := (frame_advanceTo ..).get State.srb

/-- A step that keeps the latched records (R379). -/
theorem Latched.kept {t : State} {n : Nat} (h : Latched s n) (hk : Kept true s t) : Latched t n := hk.latch rfl n h

/-! ### Requests released (R397, R400) -/

theorem srb_srbRelease (cause : Nat) (s : State) :
    (srbRelease cause s).srb = { s.srb with reqs := s.srb.reqs.filter (fun r => r.cause ≠ cause) } := by
  unfold srbRelease
  split
  · exact (frame_safetyEvent ..).get State.srb
  · next hnone =>
    have hreqs : s.srb.reqs.filter (fun r => r.cause ≠ cause) = s.srb.reqs := by
      rw [List.filter_eq_self]
      intro r hr
      simpa [srbHas] using fun hc => hnone (List.any_eq_true.2 ⟨r, hr, by simp [hc]⟩)
    rw [hreqs]

theorem frame_srbRelease (cause : Nat) (s : State) : Frame [.srb, .mbx] s (srbRelease cause s) :=
  .ite (.after (frame_safetyEvent ..) (Frame.mono (qs := [.srb]) rfl)) .refl

theorem srbHas_srbRelease (cause : Nat) (s : State) (k : Nat) : srbHas (srbRelease cause s) k = (decide (k ≠ cause) && srbHas s k) := by
  rw [srbHas, srb_srbRelease, srbHas]
  by_cases hk : k = cause
  · simp [hk]
  · simp only [ne_eq, hk, not_false_eq_true, decide_true, Bool.true_and]
    induction s.srb.reqs with
    | nil => rfl
    | cons r rs ih => by_cases hr : r.cause = cause <;> simp_all [Ne.symm hk]

/-- The SRB alone changed, and a source that was not asserted asserts. -/
theorem latched_srbFault_withSrb {src : Nat} {f : FaultInfo} (hf : faultInfo src = some f) (ha : ∀ v, faultAbsent v src = false)
    (hp : s.dev.porstN = true) (hr : s.dev.railHold = false) (hx : (rec? s src).active = false) (x : Srb) (cause k : Nat) (value e : Int) :
    Latched (srbFault src cause k value e { s with srb := x }) src := by
  have hframe : Frame [.srb] s { s with srb := x } := rfl
  generalize ({ s with srb := x } : State) = u at hframe ⊢
  exact latched_srbFault hf ha ((hframe.get (·.dev.porstN)).trans hp) ((hframe.get (·.dev.railHold)).trans hr)
    (quiet_of_fcru (hframe.get State.fcru) hx) ..

/-! ### The request pins (R397) -/

/-- The pins as a filtered change leaves them. -/
def pinned (a b : Bool) (s : State) : State :=
  { s with srb := { s.srb with
    pinA := a, pinB := b,
    riseA := if a && !s.srb.pinA then some s.now else if a then s.srb.riseA else none,
    riseB := if b && !s.srb.pinB then some s.now else if b then s.srb.riseB else none,
    barred := s.srb.barred && (a || b) } }

theorem frame_pinned (a b : Bool) (s : State) : Frame [.srb] s (pinned a b s) := rfl

theorem exec_safeReqChange_falling {a b : Bool} {t : Nat} (hfall : (s.srb.pinA = true ∧ a = false) ∨ (s.srb.pinB = true ∧ b = false)) :
    exec (.safeReqChange a b t) s = .next (if a = b then clear 40 (srbRegister { cause := 1 } (pinned a b (advanceTo t s)))
      else srbRegister { cause := 1 } (pinned a b (advanceTo t s))) := by
  have hfell : ((advanceTo t s).srb.pinA && !a || (advanceTo t s).srb.pinB && !b) = true := by
    rw [advanceTo_srb]
    rcases hfall with ⟨hpin, rfl⟩ | ⟨hpin, rfl⟩ <;> simp [hpin]
  have hnot : (a && b) = false := by rcases hfall with ⟨-, rfl⟩ | ⟨-, rfl⟩ <;> simp
  change execSafeReqChange a b t s = _
  unfold execSafeReqChange
  extract_lets u x fall moved asked cleared
  have hasked : asked = srbRegister { cause := 1 } (pinned a b u) := if_pos hfell
  rw [if_neg (by simp [hnot]), ← hasked]

theorem exec_safeReqChange_rising {t : Nat} (hA : s.srb.pinA = false) (hB : s.srb.pinB = false) (hbar : s.srb.barred = false) :
    exec (.safeReqChange true true t) s = .next (srbRelease 1 (clear 40 (pinned true true (advanceTo t s)))) := by
  change execSafeReqChange true true t s = _
  unfold execSafeReqChange
  extract_lets u x fall moved asked cleared
  have hasked : asked = pinned true true u := if_neg (by simp [fall])
  have hsrb : cleared.srb = (pinned true true u).srb := by
    unfold cleared
    rw [if_pos rfl, hasked]
    exact (frame_clear ..).get State.srb
  have htogether : pinsTogether cleared = true := by
    simp [pinsTogether, hsrb, pinned, u, hA, hB]
  have hfree : cleared.srb.barred = false := by simp [hsrb, pinned, u, hbar]
  rw [if_pos (by simp [hfree, htogether])]
  unfold cleared
  rw [if_pos rfl, hasked]

/-- A falling pin registers a stop (R397). -/
theorem safeReq_falls {a b : Bool} {t : Nat} (hfall : (s.srb.pinA = true ∧ a = false) ∨ (s.srb.pinB = true ∧ b = false)) :
    Goes (.safeReqChange a b t) s fun u => srbHas u 1 = true ∧ u.srb.pinA = a ∧ u.srb.pinB = b ∧ u.cfg = s.cfg ∧ u.dev = s.dev := by
  refine ⟨_, exec_safeReqChange_falling hfall, ?_⟩
  generalize hpins : pinned a b (advanceTo t s) = v
  have hv : Frame [.srb, .now, .time] s v := hpins ▸ .after (frame_pinned ..) (frame_advanceTo ..).mono
  have hcleared : Frame [.fcru] (srbRegister { cause := 1 } v) (if a = b then clear 40 (srbRegister { cause := 1 } v) else srbRegister { cause := 1 } v) :=
    .ite (frame_clear ..) .refl
  have hreg := unblocked_srbRegister { cause := 1 } v
  have hsrb := hcleared.get State.srb
  have hall : Frame [.srb, .cyc, .mbx, .cap, .store, .fcru, .now, .time] s _ := (hv.mono.step (frame_srbRegister { cause := 1 } v)).step hcleared
  refine ⟨?_, ?_, ?_, hall.get State.cfg, hall.get State.dev⟩
  · exact (hcleared.get (srbHas · 1)).trans (srbHas_srbRegister ..)
  · rw [hsrb]
    exact (congrArg Srb.pinA hreg).trans (by rw [← hpins]; rfl)
  · rw [hsrb]
    exact (congrArg Srb.pinB hreg).trans (by rw [← hpins]; rfl)

/-- Two pins that rise together release their stop (R397). -/
theorem safeReq_rises {t : Nat} (hA : s.srb.pinA = false) (hB : s.srb.pinB = false) (hbar : s.srb.barred = false) :
    Goes (.safeReqChange true true t) s fun u => srbHas u 1 = false ∧ u.srb.pinA = true ∧ u.srb.pinB = true ∧
      (∀ k, k ≠ 1 → srbHas u k = srbHas s k) ∧ (rec? u 40).active = false ∧ u.dev = s.dev := by
  refine ⟨_, exec_safeReqChange_rising hA hB hbar, ?_⟩
  generalize hpins : pinned true true (advanceTo t s) = v
  have hv : Frame [.srb, .now, .time] s v := hpins ▸ .after (frame_pinned ..) (frame_advanceTo ..).mono
  have hreqs : v.srb.reqs = s.srb.reqs := by rw [← hpins, pinned, advanceTo_srb]
  have hclear := frame_clear v 40
  have hsrb := srb_srbRelease 1 (clear 40 v)
  have hpinA : (srbRelease 1 (clear 40 v)).srb.pinA = (clear 40 v).srb.pinA := (congrArg Srb.pinA hsrb :)
  have hpinB : (srbRelease 1 (clear 40 v)).srb.pinB = (clear 40 v).srb.pinB := (congrArg Srb.pinB hsrb :)
  have hsrb' : (clear 40 v).srb = v.srb := hclear.get State.srb
  have hall : Frame [.srb, .mbx, .fcru, .now, .time] s (srbRelease 1 (clear 40 v)) := (hv.mono.step hclear).step (frame_srbRelease ..)
  refine ⟨?_, ?_, ?_, fun k hk => ?_, ?_, hall.get State.dev⟩
  · simp [srbHas_srbRelease]
  · rw [hpinA, hsrb', ← hpins]
    rfl
  · rw [hpinB, hsrb', ← hpins]
    rfl
  · rw [srbHas_srbRelease, decide_eq_true hk, Bool.true_and, srbHas, hsrb', hreqs, srbHas]
  · have hrec : rec? (srbRelease 1 (clear 40 v)) 40 = rec? (clear 40 v) 40 := (frame_srbRelease ..).get (rec? · 40)
    rw [hrec]
    exact clear_active 40 v

/-! ### Telegrams (R398–R400) -/

theorem faultInfo_40 : faultInfo 40 = some ⟨0, true, 1, false, true⟩ := by decide
theorem faultInfo_41 : faultInfo 41 = some ⟨0, true, 1, false, true⟩ := by decide
theorem faultInfo_42 : faultInfo 42 = some ⟨0, true, 1, false, true⟩ := by decide
theorem faultInfo_43 : faultInfo 43 = some ⟨0, false, 1, false, true⟩ := by decide

theorem frame_judgeDegraded (s : State) : Frame trapParts s (judgeDegraded s) :=
  .ite (frame_srbFault_trap faultInfo_41 rfl (by decide) ..) (frame_clear ..).mono

/-- A LAN that has delivered a copy. -/
theorem srb_lanAlive (lan : Nat) (sq : Word) (s : State) : (lanAlive lan sq s).srb =
    { s.srb with
      lastTel := s.srb.lastTel.set lan sq, timedOut := s.srb.timedOut.set lan false,
      degraded := if s.srb.timedOut.get lan false then s.srb.degraded.set lan false else s.srb.degraded } := by
  unfold lanAlive
  exact ((frame_judgeDegraded _).get State.srb).trans ((frame_clear ..).get State.srb)

theorem frame_lanAlive (lan : Nat) (sq : Word) (s : State) : Frame (.srb :: trapParts) s (lanAlive lan sq s) := by
  unfold lanAlive
  exact .after (frame_judgeDegraded _) (.after (frame_clear ..) (Frame.mono (qs := [.srb]) rfl))

/-- A copy that waits for its partner. -/
def copyWaits (lan : Nat) (sq : Word) (b : List Byte) (s : State) : State :=
  { s with srb := { s.srb with waits := s.srb.waits ++ [{ lan := lan, seq := sq, bytes := b.take 28, tick := s.now }] } }

/-- A first STOP copy waits for its partner and registers a stop (R400). -/
theorem telegramValid_stop {lan : Nat} {b : List Byte} (sq : Word) (hwaits : s.srb.waits = []) (hstop : ofBe ((b.drop 1).take 1) = 0x3C) :
    telegramValid lan b sq s =
      srbRegister { cause := 2, profile := some (ofBe ((b.drop 2).take 1)) } (copyWaits lan sq b (lanAlive lan sq s)) := by
  have halive : (lanAlive lan sq s).srb.waits = [] := (congrArg Srb.waits (srb_lanAlive lan sq s)).trans hwaits
  unfold telegramValid
  generalize lanAlive lan sq s = u at halive
  extract_lets stop prof
  rw [halive]
  exact if_pos hstop

theorem telegramCopy_stop {lan : Nat} {b : List Byte} {sq : Word} (hsq : BitVec.ofNat 32 (ofBe ((b.drop 12).take 4)) = sq) (hok : telegramOk s b = true)
    (hwaits : s.srb.waits = []) (hseq : telegramSeq s lan sq = true) : telegramCopy lan b s = telegramValid lan b sq s := by
  unfold telegramCopy
  extract_lets sq' bad
  have hsq' : sq' = sq := hsq
  rw [hsq', if_neg (by simp [hok, hseq]), hwaits]
  rfl

theorem exec_safetyTelegramCopy {lan : Nat} {b : List Byte} {t : Nat} (hlan : lan < 2) (hpair : hasSafetyPair s = true) :
    exec (.safetyTelegramCopy lan b t) s = .next (telegramCopy lan b (advanceTo t s)) := by
  have hpair' : hasSafetyPair (advanceTo t s) = true := ((frame_advanceTo ..).get hasSafetyPair).trans hpair
  simp [exec, execSafetyTelegramCopy, Machine.unit, hlan, hpair']

theorem exec_safetyTelegramCopy_none {lan : Nat} {b : List Byte} {t : Nat} (hlan : lan < 2) (hpair : hasSafetyPair s = false) :
    exec (.safetyTelegramCopy lan b t) s = .next (advanceTo t s) := by
  have hpair' : hasSafetyPair (advanceTo t s) = false := ((frame_advanceTo ..).get hasSafetyPair).trans hpair
  simp [exec, execSafetyTelegramCopy, Machine.unit, hlan, hpair']

/-- A stop telegram registers a stop (R400). -/
theorem telegram_stops {lan t : Nat} {b : List Byte} (hlan : lan < 2) (hpair : hasSafetyPair s = true) (hok : telegramOk s b = true)
    (hwaits : s.srb.waits = []) (hseq : telegramSeq s lan (BitVec.ofNat 32 (ofBe ((b.drop 12).take 4))) = true)
    (hstop : ofBe ((b.drop 1).take 1) = 0x3C) :
    Goes (.safetyTelegramCopy lan b t) s fun u => srbHas u 2 = true ∧ u.srb.timedOut.get lan false = false ∧
      u.srb.lastTel.get lan 0 = BitVec.ofNat 32 (ofBe ((b.drop 12).take 4)) ∧ u.srb.waits.length = 1 ∧ u.dev.state = s.dev.state := by
  have hadv := frame_advanceTo s t
  have hwaits' : (advanceTo t s).srb.waits = [] := by rw [advanceTo_srb, hwaits]
  generalize hsq : (BitVec.ofNat 32 (ofBe ((b.drop 12).take 4)) : Word) = sq at hseq ⊢
  refine ⟨_, exec_safetyTelegramCopy hlan hpair, ?_⟩
  rw [telegramCopy_stop hsq ((hadv.get (telegramOk · b)).trans hok) hwaits' ((hadv.get (telegramSeq · lan sq)).trans hseq),
    telegramValid_stop sq hwaits' hstop]
  generalize hr : ({ cause := 2, profile := some (ofBe ((b.drop 2).take 1)) } : SrbReq) = r
  have halive := srb_lanAlive lan sq (advanceTo t s)
  have hframe : Frame ([.now, .time, .srb] ++ trapParts) s (lanAlive lan sq (advanceTo t s)) := .after (frame_lanAlive ..) hadv.mono
  generalize lanAlive lan sq (advanceTo t s) = v at halive hframe ⊢
  have hreg := unblocked_srbRegister r (copyWaits lan sq b v)
  refine ⟨?_, ?_, ?_, ?_, ?_⟩
  · rw [← hr]
    exact srbHas_srbRegister ..
  · have htimed : (srbRegister r (copyWaits lan sq b v)).srb.timedOut = v.srb.timedOut := (congrArg Srb.timedOut hreg :)
    simp [htimed, halive]
  · have hlast : (srbRegister r (copyWaits lan sq b v)).srb.lastTel = v.srb.lastTel := (congrArg Srb.lastTel hreg :)
    simp [hlast, halive]
  · have hone : (srbRegister r (copyWaits lan sq b v)).srb.waits = (copyWaits lan sq b v).srb.waits := (congrArg Srb.waits hreg :)
    have hwaited : v.srb.waits = [] := (congrArg Srb.waits halive).trans hwaits'
    rw [hone, copyWaits, hwaited]
    rfl
  · have hstate : (srbRegister r (copyWaits lan sq b v)).dev.state = (copyWaits lan sq b v).dev.state := (frame_srbRegister ..).get (·.dev.state)
    exact hstate.trans (hframe.get (·.dev.state))

/-- A telegram out of form is counted by its source and changes nothing of the SRB (R400). -/
theorem telegram_bad {lan t : Nat} {b : List Byte} (hlan : lan < 2) (hpair : hasSafetyPair s = true) (hok : telegramOk s b = false)
    (hp : s.dev.porstN = true) (hr : s.dev.railHold = false) (hx : (rec? s 43).active = false) :
    Goes (.safetyTelegramCopy lan b t) s fun u => Latched u 43 ∧ u.srb = s.srb := by
  have hadv := frame_advanceTo s t
  have hok' : telegramOk (advanceTo t s) b = false := (hadv.get (telegramOk · b)).trans hok
  have hbad : telegramCopy lan b (advanceTo t s) = srbFault 43 0 0 0 0 (advanceTo t s) := by
    unfold telegramCopy
    exact if_pos (by simp [hok'])
  refine ⟨_, (exec_safetyTelegramCopy hlan hpair).trans (congrArg Host.Outcome.next hbad), ?_, ?_⟩
  · exact latched_srbFault faultInfo_43 (fun v => by cases v <;> decide) (by simpa using hp) (by simpa using hr)
      ((hadv.get (rec? · 43)).symm ▸ hx) ..
  · exact ((frame_srbFault_trap faultInfo_43 rfl (by decide) ..).get State.srb).trans (advanceTo_srb t s)

/-- A partner that has not come degrades its LAN (R400). -/
theorem discWindow_degrades {lan : Nat} {w : TeleWait} (hlan : lan < 2) (hw : s.srb.waits.find? (fun w => w.lan ≠ lan) = some w)
    (hp : s.dev.porstN = true) (hr : s.dev.railHold = false) (hx : (rec? s 41).active = false) :
    Goes (.discWindowExpiry lan) s fun t =>
      t.srb = { s.srb with waits := s.srb.waits.erase w, degraded := s.srb.degraded.set lan true } ∧ Latched t 41 := by
  refine ⟨judgeDegraded { s with srb := { s.srb with waits := s.srb.waits.erase w, degraded := s.srb.degraded.set lan true } }, ?_,
    (frame_judgeDegraded _).get State.srb, ?_⟩
  · simp only [exec, execDiscWindowExpiry, Machine.unit, hlan, hw, decide_true, if_true]
  · have hany : (s.srb.degraded.set lan true).any (fun x => x.2) = true :=
      List.any_eq_true.2 ⟨(lan, true), find_mem (by simp), rfl⟩
    unfold judgeDegraded
    rw [if_pos hany]
    exact latched_srbFault_withSrb faultInfo_41 (fun v => by cases v <;> decide) hp hr hx ..

/-- A LAN without a valid copy within TELE_TIMEOUT. -/
def lanSilent (lan : Nat) (s : State) : State :=
  judgeDegraded { s with srb := { s.srb with timedOut := s.srb.timedOut.set lan true, degraded := s.srb.degraded.set lan true } }

theorem frame_lanSilent (lan : Nat) (s : State) : Frame (.srb :: trapParts) s (lanSilent lan s) :=
  .after (frame_judgeDegraded _) (Frame.mono (qs := [.srb]) rfl)

theorem srb_lanSilent (lan : Nat) (s : State) :
    (lanSilent lan s).srb = { s.srb with timedOut := s.srb.timedOut.set lan true, degraded := s.srb.degraded.set lan true } :=
  (frame_judgeDegraded _).get State.srb

theorem quiet_srbFault {k src : Nat} (hk : k ≠ src) (cause n : Nat) (value e : Int) (hq : Quiet k s) : Quiet k (srbFault src cause n value e s) := by
  unfold srbFault
  split
  · exact hq
  · exact quiet_of_fcru ((frame_safetyEvent ..).get State.fcru) (quiet_raise hk _ hq)

theorem quiet_judgeDegraded {k : Nat} (hk : k ≠ 41) (hq : Quiet k s) : Quiet k (judgeDegraded s) := by
  unfold judgeDegraded
  split
  · exact quiet_srbFault hk _ _ _ _ hq
  · exact quiet_clear hq

/-- With both LANs silent a stop follows where the plate asks it (R400). -/
def silenceStops (s : State) : State :=
  if s.srb.timedOut.get 0 false && s.srb.timedOut.get 1 false && par s 0x51 0x20 16 = 1 then
    srbFault 42 0 0 0 0 (srbRegister { cause := 2 } s)
  else s

theorem exec_teleTimeout {lan : Nat} (hlan : lan < 2) (hpair : hasSafetyPair s = true) :
    exec (.teleTimeout lan) s = .next (silenceStops (lanSilent lan s)) := by
  simp only [exec, execTeleTimeout, Machine.unit, hlan, hpair, Bool.not_true, Bool.false_eq_true, decide_true, if_true, if_false]
  rfl

theorem unblocked_silenceStops (s : State) : unblocked (silenceStops s).srb = { unblocked s.srb with reqs := (silenceStops s).srb.reqs } := by
  unfold silenceStops
  split
  · have hfault : ∀ u, (srbFault 42 0 0 0 0 u).srb = u.srb := fun u => (frame_srbFault_trap faultInfo_42 rfl (by decide) ..).get State.srb
    rw [hfault]
    have hreg := unblocked_srbRegister { cause := 2 } s
    have hreqs : (srbRegister { cause := 2 } s).srb.reqs = _ := (congrArg Srb.reqs hreg :)
    rw [hreg, hreqs]
  · rfl

/-- A LAN that times out (R400). -/
theorem teleTimeout_silences {lan : Nat} (hlan : lan < 2) (hpair : hasSafetyPair s = true) (hp : s.dev.porstN = true) (hr : s.dev.railHold = false) :
    Goes (.teleTimeout lan) s fun t => t.srb.timedOut.get lan false = true ∧ t.srb.degraded.get lan false = true ∧
      (s.srb.timedOut.get (1 - lan) false = true → par s 0x51 0x20 16 = 1 → srbHas t 2 = true ∧ ((rec? s 42).active = false → Latched t 42)) := by
  refine ⟨_, exec_teleTimeout hlan hpair, ?_⟩
  have hsilent := srb_lanSilent lan s
  have hframe := frame_lanSilent lan s
  have hquiet : (rec? s 42).active = false → Quiet 42 (lanSilent lan s) := fun hx => quiet_judgeDegraded (by decide) hx
  generalize lanSilent lan s = v at hsilent hframe hquiet ⊢
  have hunblocked := unblocked_silenceStops v
  have htimed : (silenceStops v).srb.timedOut = v.srb.timedOut := (congrArg Srb.timedOut hunblocked :)
  have hdegraded : (silenceStops v).srb.degraded = v.srb.degraded := (congrArg Srb.degraded hunblocked :)
  refine ⟨by simp [htimed, hsilent], by simp [hdegraded, hsilent], fun hother hask => ?_⟩
  have hask' : par v 0x51 0x20 16 = 1 := (hframe.get (par · 0x51 0x20 16)).trans hask
  have hboth : v.srb.timedOut.get 0 false = true ∧ v.srb.timedOut.get 1 false = true := by
    obtain rfl | rfl : lan = 0 ∨ lan = 1 := by omega
    · exact ⟨by simp [hsilent], by simpa [hsilent, SMap.get] using hother⟩
    · exact ⟨by simpa [hsilent, SMap.get] using hother, by simp [hsilent]⟩
  have hstops : silenceStops v = srbFault 42 0 0 0 0 (srbRegister { cause := 2 } v) := if_pos (by simp [hboth, hask'])
  rw [hstops]
  have hreg := frame_srbRegister { cause := 2 } v
  constructor
  · exact ((frame_srbFault_trap faultInfo_42 rfl (by decide) ..).get (srbHas · 2)).trans (srbHas_srbRegister ..)
  · intro hx
    have hresets : resetLines (srbRegister { cause := 2 } v) = resetLines s := (hreg.get resetLines).trans (hframe.get resetLines)
    simp only [resetLines, hp, hr, Prod.mk.injEq] at hresets
    exact latched_srbFault faultInfo_42 (fun v => by cases v <;> decide) hresets.1 hresets.2 (quiet_of_fcru (hreg.get State.fcru) (hquiet hx)) ..

/-! ### The statement -/

/-- Settles O52: each request and each timer of the requests. -/
theorem safetyRequests : Obligations.SafetyRequests := by
  unfold Obligations.SafetyRequests
  intro s hp hr
  refine ⟨fun _ _ _ hfall => safeReq_falls hfall, fun _ hA hB hbar => safeReq_rises hA hB hbar, fun hapart hheld hx => ?bar, fun hnone => ?free,
    fun lan b t hlan hpair => exec_safetyTelegramCopy_none hlan hpair, fun lan b t hlan hpair hok hx => telegram_bad hlan hpair hok hp hr hx,
    fun lan b t hlan hpair hok hwaits hseq hstop => telegram_stops hlan hpair hok hwaits hseq hstop,
    fun lan w hlan hw hx => discWindow_degrades hlan hw hp hr hx, fun lan hlan hwaits => ?nobody,
    fun lan hlan hpair => teleTimeout_silences hlan hpair hp hr, fun lan hlan hpair => ?noPair⟩
  case bar =>
    refine ⟨srbFault 40 0 0 0 0 { s with srb := { s.srb with barred := true } }, ?_,
      (frame_srbFault_trap faultInfo_40 rfl (by decide) ..).get State.srb, ?_⟩
    · exact congrArg Host.Outcome.next (if_pos (by simp [hapart, hheld]))
    · exact latched_srbFault_withSrb faultInfo_40 (fun v => by cases v <;> decide) hp hr hx ..
  case free => exact congrArg Host.Outcome.next (if_neg (by simp [hnone]))
  case nobody => simp [exec, execDiscWindowExpiry, Machine.unit, hlan, hwaits]
  case noPair => simp [exec, execTeleTimeout, Machine.unit, hlan, hpair]

end Sys2Proof.Proofs
end

section
/-! The safety die's own supervision and reactions (R395, R396, R403–R407). -/

set_option Elab.async false

namespace Sys2Proof.Proofs
open Sys2Proof Sys2Proof.Machine Sys2Proof.Laws

variable {s : State}

theorem faultInfo_33 : faultInfo 33 = some ⟨0, false, 2, true, true⟩ := by decide
theorem faultInfo_34 : faultInfo 34 = some ⟨0, true, 4, true, true⟩ := by decide
theorem faultInfo_36 : faultInfo 36 = some ⟨0, true, 4, true, true⟩ := by decide
theorem faultInfo_37 : faultInfo 37 = some ⟨0, false, 4, true, true⟩ := by decide

/-! ### Level 4 while a cycle runs, and with the SRB in HOLD -/

/-- What an assertion may touch while the boundary of a running cycle is still to come (R376). -/
abbrev boundaryParts : List Part := trapParts ++ [.devState, .devReq]

theorem frame_react4_running (hrun : s.cyc.running = true) (block : Bool) : Frame [.devState, .devReq, .cycReq] s (react4 block s) := by
  unfold react4
  split
  · exact .refl
  · exact .refl
  · dsimp only
    rw [if_pos hrun]
    rfl

theorem frame_reactLow_boundary {src : Nat} (hdom : faultDomain src = none) (f : FaultInfo) (lvl : Nat) (block : Bool) (s : State) :
    Frame trapParts s (reactLow src f lvl block s) := by
  unfold reactLow
  extract_lets signalled trapped reset
  have hsignalled : Frame trapParts s signalled := .ite (frame_reactSignal ..).mono .refl
  have htrapped : Frame trapParts s trapped := hsignalled.trans (.ite (frame_reactTrap ..).mono .refl)
  have hnone : reactDomain src trapped = trapped := by rw [reactDomain, hdom]
  have hreset : Frame trapParts s reset := by
    unfold reset
    rw [hnone]
    exact .ite htrapped htrapped
  exact .ite (hreset.step (qs := [.cycReq]) rfl) hreset

theorem frame_react_running {lvl : Nat} (hlvl : lvl ≠ 5) {src : Nat} (hdom : faultDomain src = none) (hrun : s.cyc.running = true) (f : FaultInfo)
    (block : Bool) : Frame boundaryParts s (react src f lvl block s) := by
  unfold react
  rw [if_neg hlvl]
  have hlow : Frame boundaryParts s (reactLow src f lvl block (noteReaction src lvl s)) :=
    .after (frame_reactLow_boundary hdom ..) (frame_noteReaction ..).mono
  have hrun' : (reactLow src f lvl block (noteReaction src lvl s)).cyc.running = true := (hlow.get (·.cyc.running)).trans hrun
  exact .ite (hlow.step (frame_react4_running hrun' block)) hlow

/-- While a cycle runs, an assertion below level 5 without a domain leaves all but the requests of the next boundary. -/
theorem frame_raise_running {src : Nat} (hlvl : ∀ f, faultInfo src = some f → (appliedLevel s src f).1 ≠ 5) (hdom : faultDomain src = none)
    (hrun : s.cyc.running = true) (d : List Byte) : Frame boundaryParts s (raise src d s) := by
  unfold raise
  split
  · exact .refl
  · next f hf =>
    refine .ite .refl ?_
    unfold assertSource
    extract_lets lvl logged
    have hlogged : Frame boundaryParts s logged := .after (frame_trgFault ..) (frame_logSource ..).mono
    exact .ite hlogged (hlogged.trans (frame_react_running (hlvl f hf) hdom ((hlogged.get (·.cyc.running)).trans hrun) ..))

/-- A change of the device state leaves an SRB in HOLD (R403). -/
theorem srb_moveState_of_hold (hhold : s.srb.st = .hold) (new : DevState) : (moveState new s).srb = s.srb := by
  unfold moveState
  split
  · rfl
  · extract_lets old phase hold _ moved told
    have hframe : Frame [.host, .mbx, .cap, .store] moved (trgState told) :=
      .after (frame_trgState _) (.after (frame_event ..) (frame_vector ..).mono)
    have htold : (trgState told).srb = s.srb := hframe.get State.srb
    unfold srbOnState
    rw [htold, hhold]
    exact htold

theorem srb_react4_of_hold (hhold : s.srb.st = .hold) (block : Bool) : (react4 block s).srb = s.srb := by
  unfold react4
  split
  · rfl
  · rfl
  · extract_lets _ asked
    have hmoved : (moveState .faulted asked).srb = s.srb := srb_moveState_of_hold (s := asked) hhold .faulted
    have hstopped : (pulStop (moveState .faulted asked)).srb = s.srb := hmoved
    split
    · rfl
    · exact hstopped

theorem srb_react_of_hold (hhold : s.srb.st = .hold) {lvl : Nat} (hlvl : lvl ≠ 5) (src : Nat) (f : FaultInfo) (block : Bool) :
    (react src f lvl block s).srb = s.srb := by
  have hlow := (frame_reactLow_low src f lvl block (noteReaction src lvl s)).get State.srb
  have hnoted : (noteReaction src lvl s).srb = s.srb := rfl
  unfold react
  rw [if_neg hlvl]
  change (if lvl = 4 then react4 block (reactLow src f lvl block (noteReaction src lvl s)) else _).srb = _
  split
  · exact (srb_react4_of_hold (by rw [hlow, hnoted, hhold]) block).trans (hlow.trans hnoted)
  · exact hlow.trans hnoted

/-- Below level 5 an assertion leaves an SRB in HOLD. -/
theorem srb_raise_of_hold (hhold : s.srb.st = .hold) {src : Nat} (hlvl : ∀ f, faultInfo src = some f → (appliedLevel s src f).1 ≠ 5) (d : List Byte) :
    (raise src d s).srb = s.srb := by
  unfold raise
  split
  · rfl
  · next f hf =>
    split
    · rfl
    · unfold assertSource
      extract_lets lvl logged
      have hframe : Frame [.fcru, .cap, .store] s logged := .after (frame_trgFault ..) (frame_logSource ..).mono
      have hlogged : logged.srb = s.srb := hframe.get State.srb
      have hlvl5 : lvl ≠ 5 := hlvl f hf
      clear_value lvl logged
      split
      · exact hlogged
      · exact (srb_react_of_hold (by rw [hlogged, hhold]) hlvl5 src f _).trans hlogged

/-! ### Failures of the monitor (R407) -/

/-- A block by the HWSL, as it shows: its state, the inhibit lines, the request for the next boundary and BLOCK_OUT. -/
def Tripped (t : State) : Prop := t.srb.st = .tripped ∧ t.srb.inhibit = true ∧ t.cyc.hwslBlock = true ∧ blockOutRelease t = false

theorem blockOut_of_tripped (h : s.srb.st = .tripped) : blockOutRelease s = false := by simp [blockOutRelease, h]

theorem tripped_hwslTrip (h : s.srb.st ≠ .tripped) (cause k : Nat) (value e : Int) : Tripped (hwslTrip cause k value e s) := by
  have hsrb := srb_hwslTrip h cause k value e
  exact ⟨hwslTrip_st .., (congrArg Srb.inhibit hsrb :), hwslBlock_hwslTrip h .., blockOut_of_tripped (hwslTrip_st ..)⟩

/-- The monitor is bad. -/
def smpBadNow (s : State) : State := { s with srb := { s.srb with smpBad := true } }

theorem smpFail_eq (s : State) : smpFail s =
    if (srbFault 34 8 0 0 0 (smpBadNow s)).srb.st = .hold then srbFault 34 8 0 0 0 (smpBadNow s)
    else hwslTrip 8 0 0 0 (srbFault 34 8 0 0 0 (smpBadNow s)) := rfl

theorem appliedLevel_34 (s : State) : ∀ f, faultInfo 34 = some f → (appliedLevel s 34 f).1 ≠ 5 := by
  intro f hf
  obtain rfl := Option.some.inj (faultInfo_34.symm.trans hf)
  rw [appliedLevel_of_fixed faultInfo_34 rfl]
  decide

theorem latched_srbFault_34 (hp : s.dev.porstN = true) (hr : s.dev.railHold = false) (hx : (rec? s 34).active = false) :
    Latched (srbFault 34 8 0 0 0 (smpBadNow s)) 34 :=
  latched_srbFault_withSrb faultInfo_34 (fun v => by cases v <;> decide) hp hr hx ..

/-- A failed monitor trips an HWSL that is armed or ramps (R407). -/
theorem smpFail_trips (hrun : s.cyc.running = true) (hst : s.srb.st = .armed ∨ s.srb.st = .ramp) (hp : s.dev.porstN = true)
    (hr : s.dev.railHold = false) (hx : (rec? s 34).active = false) :
    Tripped (smpFail s) ∧ Latched (smpFail s) 34 ∧ (smpFail s).srb.smpBad = true := by
  have hlatched := latched_srbFault_34 hp hr hx
  have hframe : Frame boundaryParts (smpBadNow s) (srbFault 34 8 0 0 0 (smpBadNow s)) :=
    .ite .refl (.after (frame_safetyEvent ..) (frame_raise_running (appliedLevel_34 (smpBadNow s)) (by decide) hrun (safetyDetail 8 0 0 0)))
  have hsrb : (srbFault 34 8 0 0 0 (smpBadNow s)).srb = { s.srb with smpBad := true } := hframe.get State.srb
  rw [smpFail_eq]
  generalize srbFault 34 8 0 0 0 (smpBadNow s) = u at hlatched hsrb ⊢
  have hst' : u.srb.st = s.srb.st := (congrArg Srb.st hsrb :)
  have hhold : u.srb.st ≠ .hold := by rw [hst']; rcases hst with h | h <;> simp [h]
  have hfree : u.srb.st ≠ .tripped := by rw [hst']; rcases hst with h | h <;> simp [h]
  rw [if_neg hhold]
  refine ⟨tripped_hwslTrip hfree .., ?_, ?_⟩
  · unfold Latched rec?
    rw [hwslTrip_fcru]
    exact hlatched
  · rw [srb_hwslTrip hfree]
    exact (congrArg Srb.smpBad hsrb :)

/-- A failed monitor of an SRB in HOLD only shows (R407). -/
theorem smpFail_holds (hhold : s.srb.st = .hold) (hp : s.dev.porstN = true) (hr : s.dev.railHold = false) (hx : (rec? s 34).active = false) :
    (smpFail s).srb.st = .hold ∧ (smpFail s).srb.smpBad = true ∧ Latched (smpFail s) 34 := by
  have hlatched := latched_srbFault_34 hp hr hx
  have hraised : (raise 34 (safetyDetail 8 0 0 0) (smpBadNow s)).srb = { s.srb with smpBad := true } :=
    srb_raise_of_hold (s := smpBadNow s) hhold (appliedLevel_34 _) _
  have hsrb : (srbFault 34 8 0 0 0 (smpBadNow s)).srb = { s.srb with smpBad := true } := by
    unfold srbFault
    split
    · rfl
    · exact ((frame_safetyEvent ..).get State.srb).trans hraised
  rw [smpFail_eq]
  generalize srbFault 34 8 0 0 0 (smpBadNow s) = u at hlatched hsrb ⊢
  have hst : u.srb.st = .hold := (congrArg Srb.st hsrb :).trans hhold
  rw [if_pos hst]
  exact ⟨hst, (congrArg Srb.smpBad hsrb :), hlatched⟩

/-! ### The timeout and the readbacks (R396, R405, R406) -/

/-- The timeout of a ramp trips the HWSL (R396). -/
theorem srbTimeout_trips (hst : s.srb.st = .ramp) (hp : s.dev.porstN = true) (hr : s.dev.railHold = false) (hx : (rec? s 33).active = false) :
    let t := srbFault 33 7 0 0 0 (hwslTrip 7 0 0 0 s)
    Tripped t ∧ Latched t 33 ∧ t.srb.timeoutRun = false ∧ t.dev.state = s.dev.state := by
  have hfree : s.srb.st ≠ .tripped := by rw [hst]; decide
  have hsrb := srb_hwslTrip hfree 7 0 0 0
  obtain ⟨htripped, hinhibit, hblock, -⟩ := tripped_hwslTrip hfree 7 0 0 0
  have hdev : (hwslTrip 7 0 0 0 s).dev = s.dev := hwslTrip_dev ..
  have hfcru : (hwslTrip 7 0 0 0 s).fcru = s.fcru := hwslTrip_fcru ..
  generalize hwslTrip 7 0 0 0 s = u at *
  have hframe : Frame trapParts u (srbFault 33 7 0 0 0 u) := frame_srbFault_trap faultInfo_33 rfl (by decide) ..
  have hkept := hframe.get State.srb
  refine ⟨⟨?_, ?_, (hframe.get (·.cyc.hwslBlock)).trans hblock, ?_⟩, ?_, ?_, ?_⟩
  · rw [hkept, htripped]
  · rw [hkept, hinhibit]
  · exact blockOut_of_tripped (by rw [hkept, htripped])
  · exact latched_srbFault faultInfo_33 (fun v => by cases v <;> decide) (by rw [hdev, hp]) (by rw [hdev, hr]) (quiet_of_fcru hfcru hx) ..
  · rw [hkept, hsrb]
    rfl
  · rw [hframe.get (·.dev.state), hdev]

/-- BLOCK_OUT that reads back wrong is forced low (R405). -/
theorem readback_forces_low (hp : s.dev.porstN = true) (hr : s.dev.railHold = false) (hx : (rec? s 36).active = false) :
    Goes .blockOutReadbackFail s fun t => t.dev.readbackBad = true ∧ blockOutRelease t = false ∧ Latched t 36 := by
  refine ⟨srbFault 36 0 0 0 0 { s with dev := { s.dev with readbackBad := true } }, rfl, ?_⟩
  generalize hbad : ({ s with dev := { s.dev with readbackBad := true } } : State) = u
  have hlines : u.dev.porstN = true ∧ u.dev.railHold = false ∧ u.dev.readbackBad = true := by subst hbad; exact ⟨hp, hr, rfl⟩
  have hfcru : u.fcru = s.fcru := by subst hbad; rfl
  have hraised : Frame (raiseParts 36) u (raise 36 (safetyDetail 0 0 0 0) u) := frame_raise_fixed faultInfo_36 rfl (by decide) ..
  have hframe : Frame reactParts u (srbFault 36 0 0 0 0 u) := .ite .refl (.after (frame_safetyEvent ..) (hraised.mono (raiseParts_subset_reactParts 36)))
  have hread : (srbFault 36 0 0 0 0 u).dev.readbackBad = true := (hframe.get (·.dev.readbackBad)).trans hlines.2.2
  refine ⟨hread, by simp [blockOutRelease, hread], ?_⟩
  exact latched_srbFault faultInfo_36 (fun v => by cases v <;> decide) hlines.1 hlines.2.1 (quiet_of_fcru hfcru hx) ..

/-- Settles O53: the timeout, the verdicts, the watchdog and the readbacks. -/
theorem safetySupervision : Obligations.SafetySupervision := by
  unfold Obligations.SafetySupervision
  intro s hp hr tripped
  refine ⟨fun hst hrun hx => ?timeout, fun hrun => ?idle, fun c hseq => ?good, fun c hrun hst hx => ?bad, fun hrun hst hx => ?dog, fun hhold hx => ?hold,
    fun hx => readback_forces_low hp hr hx, fun p w hport hinhibit hlit hw hx => ?lost, fun p hport => ?back⟩
  case timeout => exact ⟨_, congrArg Host.Outcome.next (if_pos (by simp [hst, hrun])), srbTimeout_trips hst hp hr hx⟩
  case idle => exact congrArg Host.Outcome.next (if_neg (by simp [hrun]))
  case good =>
    have hclear := frame_clear { s with srb := { s.srb with lastVerdict := some c, smpBad := false } } 34
    refine ⟨clear 34 { s with srb := { s.srb with lastVerdict := some c, smpBad := false } }, ?_, hclear.get State.srb, clear_active 34 _,
      (hclear.get fun u => { u with srb := s.srb, fcru := s.fcru } :)⟩
    refine congrArg Host.Outcome.next (if_pos ?_)
    cases hlast : s.srb.lastVerdict with
    | none => rfl
    | some l => exact decide_eq_true (hseq l hlast)
  case bad =>
    obtain ⟨htrip, hlatched, hbad⟩ := smpFail_trips (s := { s with srb := { s.srb with lastVerdict := some c } }) hrun hst hp hr hx
    exact ⟨_, congrArg Host.Outcome.next (if_neg (by simp)), htrip, hlatched, hbad⟩
  case dog =>
    obtain ⟨htrip, hlatched, hbad⟩ := smpFail_trips hrun hst hp hr hx
    exact ⟨_, rfl, htrip, hlatched, hbad⟩
  case hold => exact ⟨_, rfl, smpFail_holds hhold hp hr hx⟩
  case lost =>
    refine ⟨srbFault 37 0 0 0 0 s, ?_, latched_srbFault faultInfo_37 (fun v => by cases v <;> decide) hp hr hx ..⟩
    have hcode : w ≠ some (BitVec.ofNat 32 inhibitCode) := hw
    simp only [exec, execInhibitReadback, Machine.unit, hport, hinhibit, hlit, hcode, ne_eq, not_false_eq_true, decide_true, Bool.and_self, if_true]
  case back =>
    have hcode : (some 0xB10C4EF3#32 : Option Word) = some (BitVec.ofNat 32 inhibitCode) := rfl
    simp only [exec, execInhibitReadback, Machine.unit, hport, hcode, ne_eq, not_true, decide_false, Bool.and_false, decide_true, if_true,
      Bool.false_eq_true, if_false]

end Sys2Proof.Proofs
end

section
/-! Time domains, converter time, PPS and PTP (R255–R271). -/

set_option Elab.async false

namespace Sys2Proof.Proofs
open Sys2Proof Sys2Proof.Machine Sys2Proof.Laws

variable {s : State}

/-! ### Domains of the time counters -/

@[simp] theorem dom_setDom_same (i : Nat) (d : TimeDom) (t : Time) : (t.setDom i d).dom i = d := by
  unfold Time.setDom Time.dom
  split <;> rfl

theorem dom_setDom_other {i j : Nat} (d : TimeDom) (t : Time) (hi : i < 2) (hj : j < 2) (hne : j ≠ i) : (t.setDom i d).dom j = t.dom j := by
  unfold Time.setDom Time.dom
  obtain ⟨rfl, rfl⟩ | ⟨rfl, rfl⟩ : i = 0 ∧ j = 1 ∨ i = 1 ∧ j = 0 := by omega
  · rfl
  · rfl

@[simp] theorem ct_setDom (i : Nat) (d : TimeDom) (t : Time) : (t.setDom i d).ct = t.ct := by unfold Time.setDom; split <;> rfl

@[simp] theorem active_setDom (i : Nat) (d : TimeDom) (t : Time) : (t.setDom i d).active = t.active := by unfold Time.setDom; split <;> rfl

@[simp] theorem slew_setDom (i : Nat) (d : TimeDom) (t : Time) : (t.setDom i d).slew = t.slew := by unfold Time.setDom; split <;> rfl

theorem act_eq_dom (t : Time) : t.act = t.dom t.active := rfl

theorem frame_setDom (i : Nat) (f : TimeDom → TimeDom) (s : State) : Frame [.time] s (setDom i f s) := rfl

theorem time_setDom (i : Nat) (f : TimeDom → TimeDom) (s : State) : (setDom i f s).time = s.time.setDom i (f (s.time.dom i)) := rfl

theorem frame_timeChange (auto : Bool) (s : State) : Frame [.mbx] s (timeChange auto s) := frame_event ..

/-! ### CT leaves its target (R265) -/

/-- The slew that starts where the offset is not zero. -/
def slewing (s : State) : State := if ctFollows s || ctOff s.time = 0 then s else { s with time := { s.time with slew := true } }

theorem frame_slewing (s : State) : Frame [.time] s (slewing s) := .ite .refl rfl

theorem ctLeave_eq (s : State) : ctLeave s = judgeCtOffset (slewing s) := rfl

theorem frame_ctLeave (hcalm : Calm s) : Frame (.time :: signalParts) s (ctLeave s) := by
  rw [ctLeave_eq]
  have hslew := frame_slewing s
  exact .after (frame_judgeCtOffset (hslew.calm hcalm)) hslew.mono

theorem time_ctLeave (hcalm : Calm s) : (ctLeave s).time = (slewing s).time := by
  rw [ctLeave_eq]
  exact (frame_judgeCtOffset ((frame_slewing s).calm hcalm)).get State.time

/-- A slew moves no counter. -/
theorem time_slewing (s : State) : (slewing s).time = { s.time with slew := s.time.slew || !(ctFollows s || ctOff s.time = 0) } := by
  unfold slewing
  cases h : (ctFollows s || decide (ctOff s.time = 0)) <;> simp

/-! ### A domain becomes VALID or INVALID (R261) -/

/-- A domain's runs of good offsets and edges start afresh. -/
def freshDom (i : Nat) (t : Time) : Time := t.setDom i { t.dom i with good := 0, ppsGood := 0 }

/-- A domain that was VALID is INVALID. -/
def lostDom (i : Nat) (t : Time) : Time :=
  let off := t.setDom i { t.dom i with valid := false }
  if off.active = i then { off with lostSinceStart := true } else off

/-- The time counters with a domain INVALID. -/
def invalidTime (i : Nat) (t : Time) : Time := if !((freshDom i t).dom i).valid then freshDom i t else lostDom i (freshDom i t)

theorem valid_freshDom (i : Nat) (t : Time) : ((freshDom i t).dom i).valid = (t.dom i).valid := by rw [freshDom, dom_setDom_same]

/-- A domain that turns INVALID asserts its source, and says so. -/
theorem tdInvalid_eq (i : Nat) (s : State) : tdInvalid i s =
    if (s.time.dom i).valid then timeChange false (raise (250 + i) (be 1 i) { s with time := invalidTime i s.time })
    else { s with time := invalidTime i s.time } := by
  have hfresh := valid_freshDom i s.time
  unfold tdInvalid
  extract_lets reset off _ lost
  have hreset : reset = { s with time := freshDom i s.time } := rfl
  have hlost : lost = { s with time := lostDom i (freshDom i s.time) } := by
    by_cases h : off.time.active = i
    · have hdom : lostDom i (freshDom i s.time) = { off.time with lostSinceStart := true } := if_pos h
      rw [hdom]
      exact if_pos h
    · have hdom : lostDom i (freshDom i s.time) = off.time := if_neg h
      rw [hdom]
      exact if_neg h
  rw [hlost, hreset]
  cases hv : (s.time.dom i).valid with
  | false => rw [if_pos (by simp [hfresh, hv]), if_neg (by simp), invalidTime, if_pos (by simp [hfresh, hv])]
  | true => rw [if_neg (by simp [hfresh, hv]), if_pos rfl, invalidTime, if_neg (by simp [hfresh, hv])]

theorem frame_withTime (x : Time) (s : State) : Frame [.time] s { s with time := x } := rfl

theorem frame_raise_domain (hcalm : Calm s) {i : Nat} (hi : i < 2) (d : List Byte) : Frame signalParts s (raise (250 + i) d s) :=
  frame_raise_signal hcalm (by simp; omega) (by obtain rfl | rfl : i = 0 ∨ i = 1 := by omega
                                                · decide
                                                · decide) d

theorem frame_tdInvalid (hcalm : Calm s) {i : Nat} (hi : i < 2) : Frame signalParts { s with time := invalidTime i s.time } (tdInvalid i s) := by
  rw [tdInvalid_eq]
  have hset := frame_withTime (invalidTime i s.time) s
  generalize ({ s with time := invalidTime i s.time } : State) = u at hset ⊢
  exact .ite (.after (frame_timeChange ..) (frame_raise_domain (hset.calm hcalm) hi _)) .refl

theorem time_tdInvalid (hcalm : Calm s) {i : Nat} (hi : i < 2) : (tdInvalid i s).time = invalidTime i s.time :=
  (frame_tdInvalid hcalm hi).get State.time

theorem dom_lostDom (i : Nat) (t : Time) : (lostDom i t).dom i = { t.dom i with valid := false } := by
  unfold lostDom
  dsimp only
  split
  · exact dom_setDom_same i { t.dom i with valid := false } t
  · exact dom_setDom_same ..

theorem dom_lostDom_other {i j : Nat} (t : Time) (hi : i < 2) (hj : j < 2) (hne : j ≠ i) : (lostDom i t).dom j = t.dom j := by
  unfold lostDom
  dsimp only
  split
  · exact dom_setDom_other { t.dom i with valid := false } t hi hj hne
  · exact dom_setDom_other _ _ hi hj hne

theorem ct_lostDom (i : Nat) (t : Time) : (lostDom i t).ct = t.ct := by
  unfold lostDom
  dsimp only
  split
  · exact ct_setDom i { t.dom i with valid := false } t
  · exact ct_setDom ..

theorem dom_invalidTime (i : Nat) (t : Time) : (invalidTime i t).dom i = { t.dom i with good := 0, ppsGood := 0, valid := false } := by
  have hfresh : (freshDom i t).dom i = { t.dom i with good := 0, ppsGood := 0 } := dom_setDom_same ..
  unfold invalidTime
  split
  · next hv =>
    have hoff : (t.dom i).valid = false := by simpa [valid_freshDom] using hv
    rw [hfresh, ← hoff]
  · rw [dom_lostDom, hfresh]

theorem dom_invalidTime_other {i j : Nat} (t : Time) (hi : i < 2) (hj : j < 2) (hne : j ≠ i) : (invalidTime i t).dom j = t.dom j := by
  have hfresh : (freshDom i t).dom j = t.dom j := dom_setDom_other _ _ hi hj hne
  unfold invalidTime
  split
  · exact hfresh
  · exact (dom_lostDom_other _ hi hj hne).trans hfresh

@[simp] theorem ct_invalidTime (i : Nat) (t : Time) : (invalidTime i t).ct = t.ct := by
  have hfresh : (freshDom i t).ct = t.ct := ct_setDom ..
  unfold invalidTime
  split
  · exact hfresh
  · exact (ct_lostDom ..).trans hfresh

theorem lost_invalidTime {i : Nat} {t : Time} (hv : (t.dom i).valid = true) (hactive : t.active = i) : (invalidTime i t).lostSinceStart = true := by
  unfold invalidTime
  rw [if_neg (by simp [valid_freshDom, hv])]
  unfold lostDom
  rw [if_pos (by simp [freshDom, hactive])]

theorem frame_tdValid (i : Nat) (s : State) : Frame [.time, .fcru, .mbx] s (tdValid i s) :=
  .ite .refl (.after (frame_timeChange ..) (.after (frame_clear ..) (Frame.mono (qs := [.time]) rfl)))

theorem time_tdValid (i : Nat) (s : State) :
    (tdValid i s).time = if (s.time.dom i).valid then s.time else s.time.setDom i { s.time.dom i with valid := true, bad := 0 } := by
  unfold tdValid
  split
  · rfl
  · exact ((frame_timeChange ..).get State.time).trans ((frame_clear ..).get State.time)

/-! ### The servo and the slew (R255, R264, R265) -/

theorem exec_tdStep_free {td : Nat} {d : Int} (htd : td < 2) (h : td ≠ s.time.active ∨ follower s = true) :
    exec (.tdStep td d) s = .next (setDom td (fun x => { x with ctr := x.ctr.add d }) s) := by
  have hno : (decide (td = s.time.active) && !follower s) = false := by rcases h with h | h <;> simp [h]
  simp only [exec, execTdStep, Machine.unit, htd, decide_true, if_true, hno, Bool.false_eq_true, if_false]

/-- The other domain, or a follower's: its counter alone moves. -/
theorem tdStep_free {td : Nat} {d : Int} (htd : td < 2) (h : td ≠ s.time.active ∨ follower s = true) :
    Goes (.tdStep td d) s fun t => (t.time.dom td).ctr = (s.time.dom td).ctr.add d ∧ t.time.ct = s.time.ct ∧
      t.time.dom (1 - td) = s.time.dom (1 - td) ∧ { t with time := s.time } = s :=
  ⟨_, exec_tdStep_free htd h, by simp [time_setDom], by simp [time_setDom],
    dom_setDom_other _ _ htd (by omega) (by omega), rfl⟩

theorem exec_tdStep_active {d : Int} (hactive : s.time.active < 2) (hf : follower s = false) :
    exec (.tdStep s.time.active d) s = .next
      (if ctFollows s then { s with time := { s.time.setDom s.time.active { s.time.dom s.time.active with ctr := (s.time.dom s.time.active).ctr.add d } with
          ct := (s.time.setDom s.time.active { s.time.dom s.time.active with ctr := (s.time.dom s.time.active).ctr.add d }).act.ctr } }
       else ctLeave (setDom s.time.active (fun x => { x with ctr := x.ctr.add d }) s)) := by
  simp only [exec, execTdStep, Machine.unit, hactive, hf, decide_true, Bool.not_false, Bool.and_self, if_true]
  rfl

/-- The active domain steps: the counter of `Time.act`. -/
theorem act_setDom_active (t : Time) (x : TimeDom) : (t.setDom t.active x).act = x := by
  rw [act_eq_dom, active_setDom, dom_setDom_same]

theorem tdStep_follow {d : Int} (hactive : s.time.active < 2) (hf : follower s = false) (hfollow : ctFollows s = true) :
    Goes (.tdStep s.time.active d) s fun t => t.time.act.ctr = s.time.act.ctr.add d ∧ t.time.ct = s.time.act.ctr.add d ∧ { t with time := s.time } = s := by
  have hstep : ((s.time.setDom s.time.active { s.time.dom s.time.active with ctr := (s.time.dom s.time.active).ctr.add d }).act).ctr = s.time.act.ctr.add d := by
    rw [act_setDom_active, act_eq_dom]
  exact ⟨_, (exec_tdStep_active hactive hf).trans (congrArg Host.Outcome.next (if_pos hfollow)), hstep, hstep, rfl⟩

theorem tdStep_slew (hcalm : Calm s) {d : Int} (hactive : s.time.active < 2) (hf : follower s = false) (hfollow : ctFollows s = false) :
    Goes (.tdStep s.time.active d) s fun t => t.time.act.ctr = s.time.act.ctr.add d ∧ t.time.ct = s.time.ct ∧
      (ctOff t.time ≠ 0 → t.time.slew = true) ∧ t.cfg = s.cfg := by
  refine ⟨_, (exec_tdStep_active hactive hf).trans (congrArg Host.Outcome.next (if_neg (by simp [hfollow]))), ?_⟩
  generalize hstep : setDom s.time.active (fun x => { x with ctr := x.ctr.add d }) s = u
  have hu : Frame [.time] s u := hstep ▸ frame_setDom ..
  have htime : u.time = s.time.setDom s.time.active { s.time.dom s.time.active with ctr := (s.time.dom s.time.active).ctr.add d } := by rw [← hstep]; rfl
  have hleave := time_ctLeave (hu.calm hcalm)
  have hslew := hleave.trans (time_slewing u)
  have hfollow' : ctFollows u = false := (hu.get ctFollows).trans hfollow
  refine ⟨?_, ?_, fun hoff => ?_, ((frame_ctLeave (hu.calm hcalm)).get State.cfg).trans (hu.get State.cfg)⟩
  · have hact : (ctLeave u).time.act = u.time.act := by rw [hslew]; rfl
    rw [hact, htime, act_setDom_active, act_eq_dom]
  · rw [hslew]
    exact (congrArg Time.ct htime).trans (ct_setDom ..)
  · have hoff' : ctOff u.time ≠ 0 := by
      have hsame : ctOff (ctLeave u).time = ctOff u.time := by rw [hslew]; rfl
      rwa [← hsame]
    rw [hslew]
    simp [hfollow', hoff']

/-- A domain whose INC is written (R255). -/
def incWritten (v : Nat) (d : TimeDom) : TimeDom := { d with inc := incClamp v, clamps := if incClamp v = v then d.clamps else d.clamps + 1 }

theorem exec_incWrite {td : Nat} (htd : td < 2) (v : Nat) : exec (.incWrite td v) s = .next (setDom td (incWritten v) s) := by
  simp only [exec, execIncWrite, Machine.unit, htd, decide_true, if_true]
  rfl

theorem incWrite_clamps {td v : Nat} (htd : td < 2) : Goes (.incWrite td v) s fun t =>
    (t.time.dom td).inc = max 10732049531 (min 10742786949 v) ∧
      (t.time.dom td).clamps = (s.time.dom td).clamps + (if 10732049531 ≤ v ∧ v ≤ 10742786949 then 0 else 1) ∧
      (t.time.dom td).ctr = (s.time.dom td).ctr ∧ t.time.dom (1 - td) = s.time.dom (1 - td) ∧ { t with time := s.time } = s := by
  have hdom : (setDom td (incWritten v) s).time.dom td = incWritten v (s.time.dom td) := dom_setDom_same ..
  have hother : (setDom td (incWritten v) s).time.dom (1 - td) = s.time.dom (1 - td) := dom_setDom_other _ _ htd (by omega) (by omega)
  have hiff : incClamp v = v ↔ 10732049531 ≤ v ∧ v ≤ 10742786949 := by unfold incClamp; omega
  refine ⟨_, exec_incWrite htd v, by rw [hdom]; rfl, ?_, by rw [hdom]; rfl, hother, rfl⟩
  rw [hdom]
  simp only [incWritten, hiff]
  split <;> rfl

theorem ctSlew_completes (hcalm : Calm s) {t : Nat} (hslew : (advanceTo t s).time.slew = true)
    (hoff : ((ctOff (advanceTo t s).time).natAbs : Int) ≤ slewStep (par s 0x32 0 2)) :
    Goes (.ctSlewComplete t) s fun u => u.time.ct = (advanceTo t s).time.ct.add (ctOff (advanceTo t s).time) ∧ u.time.slew = false ∧
      u.time.td0 = (advanceTo t s).time.td0 ∧ u.time.td1 = (advanceTo t s).time.td1 ∧ u.cfg = s.cfg := by
  have hpar : par (advanceTo t s) 0x32 0 2 = par s 0x32 0 2 := (frame_advanceTo s t).get (par · 0x32 0 2)
  have hcalm' : Calm (advanceTo t s) := (frame_advanceTo s t).calm hcalm
  refine ⟨_, congrArg Host.Outcome.next (if_pos (by rw [hslew, hpar, Bool.true_and]; exact decide_eq_true hoff)), ?_⟩
  have hcfg : (advanceTo t s).cfg = s.cfg := advanceTo_cfg t s
  generalize advanceTo t s = a at *
  have hframe := frame_withTime { a.time with ct := a.time.ct.add (ctOff a.time), slew := false, twinOff := a.time.twinOff.map (fun _ => 0) } a
  generalize hv : ({ a with time := { a.time with ct := a.time.ct.add (ctOff a.time), slew := false, twinOff := a.time.twinOff.map (fun _ => 0) } } : State) = v at hframe ⊢
  have htime := (frame_judgeCtOffset (hframe.calm hcalm')).get State.time
  dsimp only
  rw [htime, (frame_judgeCtOffset (hframe.calm hcalm')).get State.cfg, ← hv]
  exact ⟨rfl, rfl, rfl, rfl, hcfg⟩

end Sys2Proof.Proofs
end

section
/-! PPS and PTP (R257–R261, R270, R271). -/

set_option Elab.async false

namespace Sys2Proof.Proofs
open Sys2Proof Sys2Proof.Machine Sys2Proof.Laws

variable {s : State}

/-! ### Edges of PPS_IN (R271) -/

/-- What an accepted edge of PPS_IN leaves of it. -/
def ppsMarks (t : Time) : Option Nat × Nat × List Stamp := (t.ppsTick, t.ppsIgnored, t.ppsStamp)

theorem ppsMarks_setDom (i : Nat) (d : TimeDom) (t : Time) : ppsMarks (t.setDom i d) = ppsMarks t := by unfold Time.setDom; split <;> rfl

theorem ppsMarks_advanceTime (follow : Bool) (step : Int) (n : Nat) (t : Time) : ppsMarks (advanceTime follow step n t) = ppsMarks t := by
  unfold advanceTime ppsMarks
  extract_lets
  split <;> rfl

theorem ppsMarks_advanceTo (k : Nat) (s : State) : ppsMarks (advanceTo k s).time = ppsMarks s.time := by
  unfold advanceTo advance
  split
  · change ppsMarks (if s.dev.ticksRun then _ else _) = _
    split
    · exact ppsMarks_advanceTime ..
    · rfl
  · rfl

/-- A domain that counts an edge of PPS_IN. -/
def ppsCounted (i stamp : Nat) (s : State) : State :=
  setDom i (fun d => { d with
    ppsGood := if ppsDist s i stamp ≤ 100 * 2 ^ 32 then min 16 (d.ppsGood + 1) else 0,
    ctr := match d.setSec with | some x => { d.ctr with sec := BitVec.ofNat 48 x } | none => d.ctr, setSec := none }) s

/-- VALID after sixteen good edges. -/
def ppsJudged (i stamp : Nat) (s : State) : State :=
  if 16 ≤ ((ppsCounted i stamp s).time.dom i).ppsGood then tdValid i (ppsCounted i stamp s) else ppsCounted i stamp s

/-- CT with the active domain's counter, or on its way to it. -/
def ctJoins (i : Nat) (s : State) : State :=
  if s.time.active = i then (if ctFollows s then { s with time := { s.time with ct := s.time.act.ctr } } else ctLeave s) else s

theorem ppsDomain_eq (i stamp : Nat) (s : State) : ppsDomain i stamp s = if !onPps s i then s else ctJoins i (ppsJudged i stamp s) := by
  unfold ppsDomain
  rfl

theorem frame_ctJoins (hcalm : Calm s) (i : Nat) : Frame (.time :: signalParts) s (ctJoins i s) :=
  .ite (.ite (frame_withTime _ s).mono (frame_ctLeave hcalm)) .refl

theorem ppsMarks_ctJoins (hcalm : Calm s) (i : Nat) : ppsMarks (ctJoins i s).time = ppsMarks s.time := by
  unfold ctJoins
  split
  · split
    · rfl
    · rw [time_ctLeave hcalm, time_slewing]
      rfl
  · rfl

theorem frame_ppsJudged (i stamp : Nat) (s : State) : Frame [.time, .fcru, .mbx] s (ppsJudged i stamp s) := by
  have hcounted : Frame [.time] s (ppsCounted i stamp s) := frame_setDom ..
  exact .ite (.after (frame_tdValid ..) hcounted.mono) hcounted.mono

theorem ppsMarks_ppsJudged (i stamp : Nat) (s : State) : ppsMarks (ppsJudged i stamp s).time = ppsMarks s.time := by
  have hcounted : ppsMarks (ppsCounted i stamp s).time = ppsMarks s.time := ppsMarks_setDom ..
  unfold ppsJudged
  split
  · rw [time_tdValid]
    split
    · exact hcounted
    · rw [ppsMarks_setDom, hcounted]
  · exact hcounted

theorem frame_ppsDomain (hcalm : Calm s) (i stamp : Nat) : Frame (.time :: signalParts) s (ppsDomain i stamp s) := by
  rw [ppsDomain_eq]
  have hjudged := frame_ppsJudged i stamp s
  generalize ppsJudged i stamp s = u at hjudged ⊢
  exact .ite .refl (.after (frame_ctJoins (hjudged.calm hcalm) i) hjudged.mono)

theorem ppsMarks_ppsDomain (hcalm : Calm s) (i stamp : Nat) : ppsMarks (ppsDomain i stamp s).time = ppsMarks s.time := by
  rw [ppsDomain_eq]
  have hjudged := frame_ppsJudged i stamp s
  have hmarks := ppsMarks_ppsJudged i stamp s
  generalize ppsJudged i stamp s = u at hjudged hmarks ⊢
  split
  · rfl
  · exact (ppsMarks_ctJoins (hjudged.calm hcalm) i).trans hmarks

theorem exec_ppsInEdge_early {t f u : Nat} (hlast : s.time.ppsTick = some u) (hearly : (advanceTo t s).now - u < 200000000) :
    exec (.ppsInEdge t f) s =
      .next { advanceTo t s with time := { (advanceTo t s).time with ppsIgnored := (advanceTo t s).time.ppsIgnored + 1 } } := by
  have htick : (advanceTo t s).time.ppsTick = some u := (congrArg Prod.fst (ppsMarks_advanceTo t s)).trans hlast
  exact if_pos (by rw [htick]; exact decide_eq_true hearly)

/-- The three timestamps of an edge (R271). -/
def ppsStamps (f : Nat) (a : State) : List Stamp :=
  [stampAt a.time.td0.ctr ((a.time.td0.inc * f / 64 : Nat) : Int), stampAt a.time.td1.ctr ((a.time.td1.inc * f / 64 : Nat) : Int),
    stampAt a.time.ct (((ctIncrement a.time (slewStep (par a 0x32 0 2))).toNat * f / 64 : Nat) : Int)]

/-- An accepted edge, stamped. -/
def ppsTaken (f : Nat) (a : State) : State := vector 15 { a with time := { a.time with ppsTick := some a.now, ppsStamp := ppsStamps f a } }

theorem exec_ppsInEdge {t f : Nat} (hlate : ∀ u, s.time.ppsTick = some u → 200000000 ≤ (advanceTo t s).now - u) :
    exec (.ppsInEdge t f) s = .next (ppsDomain 1 ((advanceTo t s).time.td1.ctr.toNat + (advanceTo t s).time.td1.inc * f / 64)
      (ppsDomain 0 ((advanceTo t s).time.td0.ctr.toNat + (advanceTo t s).time.td0.inc * f / 64) (ppsTaken f (advanceTo t s)))) := by
  have htick : (advanceTo t s).time.ppsTick = s.time.ppsTick := congrArg Prod.fst (ppsMarks_advanceTo t s)
  refine if_neg ?_
  rw [htick]
  cases hlast : s.time.ppsTick with
  | none => simp
  | some u => simpa using hlate u hlast

theorem ppsInEdge_stamps (hcalm : Calm s) {t f : Nat} (hlate : ∀ u, s.time.ppsTick = some u → 200000000 ≤ (advanceTo t s).now - u) :
    Goes (.ppsInEdge t f) s fun u => u.time.ppsTick = some (advanceTo t s).now ∧ u.time.ppsIgnored = s.time.ppsIgnored ∧
      u.time.ppsStamp = ppsStamps f (advanceTo t s) ∧ u.cfg = s.cfg := by
  refine ⟨_, exec_ppsInEdge hlate, ?_⟩
  have hmarked := ppsMarks_advanceTo t s
  have hadv := frame_advanceTo s t
  generalize advanceTo t s = a at hmarked hadv ⊢
  have htaken : Frame [.time, .host] a (ppsTaken f a) := .after (frame_vector ..) (Frame.mono (qs := [.time]) rfl)
  have hmarks : ppsMarks (ppsTaken f a).time = (some a.now, a.time.ppsIgnored, ppsStamps f a) := (frame_vector ..).get fun u => ppsMarks u.time
  have hcfg : (ppsTaken f a).cfg = s.cfg := (htaken.get State.cfg).trans (hadv.get State.cfg)
  generalize ppsTaken f a = v at hmarks hcfg ⊢
  generalize a.time.td0.ctr.toNat + a.time.td0.inc * f / 64 = at0
  generalize a.time.td1.ctr.toNat + a.time.td1.inc * f / 64 = at1
  have hcalm0 : Calm v := calm_of_cfg_eq hcfg hcalm
  have hframe0 := frame_ppsDomain hcalm0 0 at0
  have hcalm1 := hframe0.calm hcalm0
  have hall := (ppsMarks_ppsDomain hcalm1 1 at1).trans ((ppsMarks_ppsDomain hcalm0 0 at0).trans hmarks)
  simp only [ppsMarks, Prod.mk.injEq] at hall hmarked
  obtain ⟨htick, hignored, hstamp⟩ := hall
  obtain ⟨-, hsame, -⟩ := hmarked
  exact ⟨htick, hignored.trans hsame, hstamp, ((frame_ppsDomain hcalm1 1 at1).get State.cfg).trans ((hframe0.get State.cfg).trans hcfg)⟩

theorem faultInfo_domain {td : Nat} (htd : td < 2) : faultInfo (250 + td) = some ⟨2, true, 1, false, false⟩ := by
  obtain rfl | rfl : td = 0 ∨ td = 1 := by omega
  · decide
  · decide

theorem present_domain {td : Nat} (htd : td < 2) (v : Variant) : faultAbsent v (250 + td) = false := by
  obtain rfl | rfl : td = 0 ∨ td = 1 := by omega
  · cases v <;> decide
  · cases v <;> decide

/-- Three seconds without an edge (R271). -/
theorem ppsInTimeout_invalid (hcalm : Calm s) {td : Nat} (htd : td < 2) (hpps : onPps s td = true) (hvalid : (s.time.dom td).valid = true) :
    Goes (.ppsInTimeout td) s fun t => (t.time.dom td).valid = false ∧ (t.time.dom td).ppsGood = 0 ∧ t.time.dom (1 - td) = s.time.dom (1 - td) ∧
      (s.time.active = td → t.time.lostSinceStart = true) ∧
      (s.dev.porstN = true → s.dev.railHold = false → (rec? s (250 + td)).active = false → Latched t (250 + td)) := by
  refine ⟨tdInvalid td s, by simp only [exec, execPpsInTimeout, Machine.unit, htd, hpps, decide_true, if_true], ?_⟩
  have htime := time_tdInvalid hcalm htd
  have hdom := dom_invalidTime td s.time
  refine ⟨by rw [htime, hdom], by rw [htime, hdom], by rw [htime, dom_invalidTime_other _ htd (by omega) (by omega)],
    fun hactive => by rw [htime, lost_invalidTime hvalid hactive], fun hp hr hx => ?_⟩
  rw [tdInvalid_eq, if_pos hvalid]
  have hset := frame_withTime (invalidTime td s.time) s
  generalize ({ s with time := invalidTime td s.time } : State) = u at hset ⊢
  have hlatched : Latched (raise (250 + td) (be 1 td) u) (250 + td) :=
    latched_raise (faultInfo_domain htd) (present_domain htd) ((hset.get (·.dev.porstN)).trans hp) ((hset.get (·.dev.railHold)).trans hr)
      (quiet_of_fcru (hset.get State.fcru) hx) _
  exact Latched.kept hlatched (kept_event _ _ _ _ (.self ..))

/-! ### The best master (R257–R261) -/

theorem find_map_pair {α : Type} (l : List Nat) (f : Nat → α) (p : Nat) :
    SMap.find (l.map fun q => (q, f q)) p = if p ∈ l then some (f p) else none := by
  induction l with
  | nil => rfl
  | cons q l ih =>
    rw [List.map_cons, SMap.find, ih]
    by_cases hq : q = p
    · simp [hq]
    · simp [hq, Ne.symm hq]

/-- A domain whose ports' states are decided anew. -/
def decided (i : Nat) (s : State) : State :=
  let st := (tdPorts s i).map (fun p => (p, { ((s.time.dom i).ports.get p {}) with st := portState s i p }))
  let moved := st.any (fun x => x.2.st == .slave && ((s.time.dom i).ports.get x.1 {}).st != .slave)
  setDom i (fun d => { d with ports := st, slave := (bestHeard s i).isSome && !ownBest s i, master := if ownBest s i then none else (bestHeard s i).map (fun x => x.2.gm),
                              good := if moved then 0 else d.good }) s

/-- The best master clock algorithm leaves the decided states, or a boundary clock's own status. -/
theorem bmca_cases (i : Nat) (s : State) : bmca i s = decided i s ∨
    (onPps s i = false ∧ parN s 0x31 0 0 = 1 ∧ mayMaster s i = true ∧ (bmca i s = tdValid i (decided i s) ∨ bmca i s = tdInvalid i (decided i s))) := by
  unfold bmca
  extract_lets best own st slave moved ports
  have hports : ports = decided i s := rfl
  rw [hports]
  split
  · exact .inl rfl
  · next hcond =>
    have hframe : Frame [.time] s (decided i s) := frame_setDom ..
    have hpps : onPps (decided i s) i = onPps s i := hframe.get (onPps · i)
    have hpar : parN (decided i s) 0x31 0 0 = parN s 0x31 0 0 := hframe.get (parN · 0x31 0 0)
    have hmay : mayMaster (decided i s) i = mayMaster s i := hframe.get (mayMaster · i)
    rw [hpps, hpar, hmay] at hcond
    simp only [Bool.or_eq_true, Bool.not_eq_true', decide_eq_true_eq, not_or, Bool.not_eq_true, Bool.not_eq_false, ne_eq, not_not] at hcond
    obtain ⟨⟨⟨hp, -⟩, hone⟩, hm⟩ := hcond
    refine .inr ⟨hp, hone, hm, ?_⟩
    split
    · exact .inl rfl
    · exact .inr rfl

/-- What every announce timeout keeps: the other domain and CT. -/
structure DomKept (i : Nat) (s t : State) : Prop where
  calm : Calm s → Calm t
  other : i < 2 → t.time.dom (1 - i) = s.time.dom (1 - i)
  ct : t.time.ct = s.time.ct

theorem DomKept.trans {i : Nat} {t u : State} (h : DomKept i s t) (g : DomKept i t u) : DomKept i s u :=
  ⟨g.calm ∘ h.calm, fun hi => (g.other hi).trans (h.other hi), g.ct.trans h.ct⟩

theorem domKept_setDom (i : Nat) (f : TimeDom → TimeDom) (s : State) : DomKept i s (setDom i f s) :=
  ⟨id, fun hi => dom_setDom_other _ _ hi (by omega) (by omega), ct_setDom ..⟩

theorem domKept_tdValid (i : Nat) (s : State) : DomKept i s (tdValid i s) := by
  refine ⟨(frame_tdValid i s).calm, fun hi => ?_, ?_⟩
  · rw [time_tdValid]
    split
    · rfl
    · exact dom_setDom_other _ _ hi (by omega) (by omega)
  · rw [time_tdValid]
    split
    · rfl
    · exact ct_setDom ..

theorem domKept_tdInvalid (hcalm : Calm s) {i : Nat} (hi : i < 2) : DomKept i s (tdInvalid i s) := by
  have htime := time_tdInvalid hcalm hi
  exact ⟨fun h => (frame_tdInvalid hcalm hi).calm h, fun _ => by rw [htime, dom_invalidTime_other _ hi (by omega) (by omega)], by rw [htime, ct_invalidTime]⟩

theorem domKept_decided (i : Nat) (s : State) : DomKept i s (decided i s) := by
  unfold decided
  exact domKept_setDom ..

theorem domKept_bmca (hcalm : Calm s) {i : Nat} (hi : i < 2) : DomKept i s (bmca i s) := by
  have hdecided := domKept_decided i s
  rcases bmca_cases i s with h | ⟨-, -, -, h | h⟩ <;> rw [h]
  · exact hdecided
  · exact hdecided.trans (domKept_tdValid ..)
  · exact hdecided.trans (domKept_tdInvalid (hdecided.calm hcalm) hi)

/-- The data set of a port is the one it had, or none. -/
theorem ann_decided (i p : Nat) (s : State) : (((decided i s).time.dom i).ports.get p {}).ann = ((s.time.dom i).ports.get p {}).ann ∨
    (((decided i s).time.dom i).ports.get p {}).ann = none := by
  have hports : ((decided i s).time.dom i).ports = (tdPorts s i).map (fun p => (p, { ((s.time.dom i).ports.get p {}) with st := portState s i p })) :=
    (congrArg TimeDom.ports (dom_setDom_same ..) :)
  rw [hports, SMap.get, find_map_pair]
  split
  · exact .inl rfl
  · exact .inr rfl

theorem ports_tdValid (i : Nat) (s : State) : ((tdValid i s).time.dom i).ports = (s.time.dom i).ports := by
  rw [time_tdValid]
  split
  · rfl
  · rw [dom_setDom_same]

theorem ports_tdInvalid (hcalm : Calm s) {i : Nat} (hi : i < 2) : ((tdInvalid i s).time.dom i).ports = (s.time.dom i).ports := by
  rw [time_tdInvalid hcalm hi, dom_invalidTime]

theorem ann_bmca (hcalm : Calm s) {i : Nat} (hi : i < 2) {p : Nat} (hnone : ((s.time.dom i).ports.get p {}).ann = none) :
    (((bmca i s).time.dom i).ports.get p {}).ann = none := by
  have hdecided : (((decided i s).time.dom i).ports.get p {}).ann = none := by
    rcases ann_decided i p s with h | h
    · rw [h, hnone]
    · exact h
  have hcalm' : Calm (decided i s) := (domKept_decided i s).calm hcalm
  rcases bmca_cases i s with h | ⟨-, -, -, h | h⟩ <;> rw [h]
  · exact hdecided
  · rw [ports_tdValid, hdecided]
  · rw [ports_tdInvalid hcalm' hi, hdecided]

/-- Outside a boundary clock's own service the status of a domain stands. -/
theorem valid_bmca {i : Nat} (h : onPps s i = true ∨ parN s 0x31 0 0 ≠ 1 ∨ mayMaster s i = false) :
    ((bmca i s).time.dom i).valid = (s.time.dom i).valid := by
  rcases bmca_cases i s with hb | ⟨hpps, hpar, hmay, -⟩
  · rw [hb]
    exact (congrArg TimeDom.valid (dom_setDom_same ..) :)
  · rcases h with h | h | h
    · simp [hpps] at h
    · exact absurd hpar h
    · simp [hmay] at h

/-- A slave port that forgets its master. -/
def forgetMaster (d : TimeDom) : TimeDom :=
  { d with ports := d.ports.mapVals (fun _ x => if x.st == .slave then {} else x), slave := false, master := none }

theorem ann_forgetMaster {d : TimeDom} {p : Nat} (h : (d.ports.get p {}).st = .slave) : ((forgetMaster d).ports.get p {}).ann = none := by
  rw [SMap.get] at h
  rw [forgetMaster, SMap.get, find_mapVals]
  cases hp : d.ports.find p with
  | none => rfl
  | some x =>
    rw [hp] at h
    have hslave : x.st = .slave := h
    simp [hslave]

theorem exec_announceReceiptTimeout {td : Nat} (htd : td < 2) : exec (.announceReceiptTimeout td) s =
    .next (if onPps s td then bmca td (setDom td forgetMaster s) else bmca td (tdInvalid td (setDom td forgetMaster s))) := by
  simp only [exec, execAnnounceReceiptTimeout, Machine.unit, htd, decide_true, if_true]
  rfl

/-- An announce timeout (R261; log 120). -/
theorem announceTimeout_forgets (hcalm : Calm s) {td : Nat} (htd : td < 2) : Goes (.announceReceiptTimeout td) s fun t =>
    (∀ p, ((s.time.dom td).ports.get p {}).st = .slave → ((t.time.dom td).ports.get p {}).ann = none) ∧
    (onPps s td = true → (t.time.dom td).valid = (s.time.dom td).valid) ∧
    (onPps s td = false → (parN s 0x31 0 0 ≠ 1 ∨ mayMaster s td = false) → (t.time.dom td).valid = false) ∧
    t.time.dom (1 - td) = s.time.dom (1 - td) ∧ t.time.ct = s.time.ct := by
  refine ⟨_, exec_announceReceiptTimeout htd, ?_⟩
  have hkept := domKept_setDom td forgetMaster s
  have hframe := frame_setDom td forgetMaster s
  have hdom : (setDom td forgetMaster s).time.dom td = forgetMaster (s.time.dom td) := dom_setDom_same ..
  generalize setDom td forgetMaster s = u at hkept hframe hdom ⊢
  have hcalm' := hkept.calm hcalm
  have hann : ∀ p, ((s.time.dom td).ports.get p {}).st = .slave → ((u.time.dom td).ports.get p {}).ann = none := fun p hp => by
    rw [hdom, ann_forgetMaster hp]
  cases hpps : onPps s td with
  | true =>
    rw [if_pos rfl]
    have hon : onPps u td = true := (hframe.get (onPps · td)).trans hpps
    have hall := hkept.trans (domKept_bmca hcalm' htd)
    refine ⟨fun p hp => ann_bmca hcalm' htd (hann p hp), fun _ => ?_, fun h => by simp at h, hall.other htd, hall.ct⟩
    rw [valid_bmca (.inl hon), hdom, forgetMaster]
  | false =>
    rw [if_neg (by simp)]
    have hlost := domKept_tdInvalid hcalm' htd
    have hlostFrame := frame_tdInvalid hcalm' htd
    have hports := ports_tdInvalid hcalm' htd
    have hvalid : ((tdInvalid td u).time.dom td).valid = false := by rw [time_tdInvalid hcalm' htd, dom_invalidTime]
    have hpar : parN (tdInvalid td u) 0x31 0 0 = parN s 0x31 0 0 := (hlostFrame.get (parN · 0x31 0 0)).trans (hframe.get (parN · 0x31 0 0))
    have hmay : mayMaster (tdInvalid td u) td = mayMaster s td := (hlostFrame.get (mayMaster · td)).trans (hframe.get (mayMaster · td))
    generalize tdInvalid td u = v at *
    have hcalm'' := hlost.calm hcalm'
    have hall := (hkept.trans hlost).trans (domKept_bmca hcalm'' htd)
    refine ⟨fun p hp => ann_bmca hcalm'' htd (by rw [hports, hann p hp]), fun h => by simp at h, fun _ h => ?_, hall.other htd, hall.ct⟩
    rw [valid_bmca (.inr (by rwa [hpar, hmay])), hvalid]

/-! ### Periodic messages (R257, R258) -/

/-- A kind of message that a port sends by itself: peer delay requests, and Announce and Sync in the master state. -/
def ptpDue (td p : Nat) (kind : PtpKind) (s : State) : Bool :=
  match kind with
  | .pdelayReq => true
  | .sync | .announce => portState s td p == .master
  | _ => false

theorem exec_ptpIntervalSend {td p : Nat} {kind : PtpKind} (htd : td < 2) (hp : p < 8) (hsync : judgeSync s = s) :
    exec (.ptpIntervalSend td p kind) s =
      .next (if s.dev.state.idleOn && tdOnPort s td p && (stp s p).up && ptpDue td p kind s then ptpInterval td p kind s else s) := by
  change execPtpIntervalSend td p kind s = _
  unfold execPtpIntervalSend
  rw [hsync]
  simp only [Machine.unit, htd, hp, decide_true, Bool.and_self, if_true]
  cases kind <;> rfl

theorem exec_ptpIntervalSend_due {td p : Nat} {kind : PtpKind} (htd : td < 2) (hp : p < 8) (hsync : judgeSync s = s) (hidle : s.dev.state.idleOn = true)
    (hon : tdOnPort s td p = true) (hup : (stp s p).up = true) (hdue : ptpDue td p kind s = true) :
    exec (.ptpIntervalSend td p kind) s = .next (ptpInterval td p kind s) := by
  rw [exec_ptpIntervalSend htd hp hsync, if_pos (by simp [hidle, hon, hup, hdue])]

theorem exec_ptpIntervalSend_none {td p : Nat} {kind : PtpKind} (htd : td < 2) (hp : p < 8) (hsync : judgeSync s = s)
    (hno : (stp s p).up = false ∨ ptpDue td p kind s = false) : exec (.ptpIntervalSend td p kind) s = .next s := by
  rw [exec_ptpIntervalSend htd hp hsync, if_neg (by rcases hno with h | h <;> simp [h])]

/-- A Sync on its way: the counter of messages and the egress stamp (R256, R258). -/
def syncStamped (p : Nat) (s : State) : State := evStamp p true .sync { s with time := { s.time with seqNo := s.time.seqNo + 1 } }

/-- A Sync as it stands in its header. -/
def syncOut (td : Nat) (s : State) : PtpOut := { kind := .sync, domain := parN s 0x31 td 2, seqId := s.time.seqNo % 65536 }

theorem frame_ptpSend (p : Nat) (m : PtpOut) (s : State) : Frame [.time] s (ptpSend p m s) := rfl

theorem frame_syncStamped (p : Nat) (s : State) : Frame [.time] s (syncStamped p s) := rfl

/-- A message that leaves moves no domain. -/
theorem dom_ptpSend (p : Nat) (m : PtpOut) (s : State) (i : Nat) : (ptpSend p m s).time.dom i = s.time.dom i := rfl

theorem dom_syncStamped (p : Nat) (s : State) (i : Nat) : (syncStamped p s).time.dom i = s.time.dom i := rfl

theorem ptpTwo_syncStamped (p : Nat) (s : State) : ptpTwo (syncStamped p s) p = ptpTwo s p := rfl

theorem ptpInterval_sync (td p : Nat) (s : State) : ptpInterval td p .sync s =
    if ptpTwo (syncStamped p s) p then
      ptpSend p { syncOut td s with kind := .followUp, stamp := some (stampAt (s.time.dom td).ctr (ptpLat s p true)) }
        (ptpSend p { syncOut td s with twoStep := true } (syncStamped p s))
    else ptpSend p { syncOut td s with stamp := some (stampAt (s.time.dom td).ctr (ptpLat s p true)) } (syncStamped p s) := rfl

theorem ptpInterval_sync_one {td p : Nat} (h : ptpTwo s p = false) : ptpInterval td p .sync s =
    ptpSend p { syncOut td s with stamp := some (stampAt (s.time.dom td).ctr (ptpLat s p true)) } (syncStamped p s) := by
  rw [ptpInterval_sync, ptpTwo_syncStamped, h, if_neg Bool.false_ne_true]

theorem ptpInterval_sync_two {td p : Nat} (h : ptpTwo s p = true) : ptpInterval td p .sync s =
    ptpSend p { syncOut td s with kind := .followUp, stamp := some (stampAt (s.time.dom td).ctr (ptpLat s p true)) }
      (ptpSend p { syncOut td s with twoStep := true } (syncStamped p s)) := by
  rw [ptpInterval_sync, ptpTwo_syncStamped, h, if_pos rfl]

/-! ### Edges of PPS_OUT (R270) -/

theorem exec_ppsOutEdge_rising (s : State) : exec (.ppsOutEdge true) s =
    .next (if ppsNow s ≤ s.time.ppsSec then { s with time := { s.time with ppsSec := ppsNow s } }
      else { s with time := { s.time with
        ppsSec := ppsNow s, ppsEdge := rheDiv ((ppsNow s * secUnits + ppsDelay s) * 64) (ppsSource s).2,
        ppsOut := !ppsSquelched s && s.dev.state != .reset } }) := rfl

theorem exec_ppsOutEdge_falling (s : State) : exec (.ppsOutEdge false) s =
    .next (if s.time.ppsOut && decide (s.time.ppsEdge * (ppsSource s).2 + par s 0x33 0 2 * 1000 * 2 ^ 32 * 64 ≤ ((ppsSource s).1 : Int) * 64) then
        { s with time := { s.time with ppsOut := false } }
      else s) := rfl

/-- Settles O24: each step and each slew, each edge, each timeout and each message. -/
theorem converterTimeAndPtp : Obligations.ConverterTimeAndPtp := by
  unfold Obligations.ConverterTimeAndPtp
  refine ⟨fun s hcalm => ⟨fun td d htd h => tdStep_free htd h, fun d ha hf hfol => tdStep_follow ha hf hfol,
    fun d ha hf hfol => tdStep_slew hcalm ha hf hfol, fun td v htd => incWrite_clamps htd, fun t => ctSlew_completes hcalm, fun t hslew => ?slewed⟩,
    fun s hcalm => ⟨fun t f => ⟨fun h => ?early, fun h => ?edge⟩, fun td htd hpps hvalid => ppsInTimeout_invalid hcalm htd hpps hvalid,
      fun td htd hpps => ?offPps, fun hdue => ?rise, fun hnot => ?stays, fun hdue => ?fall, fun hnot => ?high,
      fun td htd => announceTimeout_forgets hcalm htd, fun td p htd hp hsync hidle hon hup => ?ptp, fun td p k htd hp hsync hup =>
        exec_ptpIntervalSend_none htd hp hsync (.inl hup)⟩⟩
  case slewed => exact congrArg Host.Outcome.next (if_neg (by simp [hslew]))
  case early =>
    obtain ⟨u, hlast, hearly⟩ := h
    exact exec_ppsInEdge_early hlast hearly
  case edge =>
    have hpar : par (advanceTo t s) 0x32 0 2 = par s 0x32 0 2 := (frame_advanceTo s t).get (par · 0x32 0 2)
    rw [← hpar]
    exact ppsInEdge_stamps hcalm h
  case offPps => simp [exec, execPpsInTimeout, Machine.unit, htd, hpps]
  case rise => exact ⟨_, (exec_ppsOutEdge_rising s).trans (congrArg Host.Outcome.next (if_neg (by omega))), rfl, rfl, rfl, rfl⟩
  case stays => exact ⟨_, (exec_ppsOutEdge_rising s).trans (congrArg Host.Outcome.next (if_pos hnot)), rfl, rfl, rfl⟩
  case fall =>
    rw [exec_ppsOutEdge_falling]
    cases hout : s.time.ppsOut with
    | true => rw [if_pos (by rw [Bool.true_and]; exact decide_eq_true hdue)]
    | false =>
      have hsame : ({ s with time := { s.time with ppsOut := false } } : State) = s := by rw [← hout]
      rw [hsame, if_neg (by simp)]
  case high =>
    rw [exec_ppsOutEdge_falling, decide_eq_false (Int.not_le.2 hnot), Bool.and_false, if_neg Bool.false_ne_true]
  case ptp =>
    intro m at_ sends
    have hdue : portState s td p = .master → (portState s td p == .master) = true := beq_iff_eq.2
    have hno : portState s td p ≠ .master → (portState s td p == .master) = false := beq_eq_false_iff_ne.2
    refine ⟨⟨_, exec_ptpIntervalSend_due htd hp hsync hidle hon hup rfl, rfl, rfl, rfl, rfl⟩,
      fun hm => ⟨_, exec_ptpIntervalSend_due htd hp hsync hidle hon hup (hdue hm), rfl, rfl, rfl, rfl⟩,
      fun hm hone => ⟨_, exec_ptpIntervalSend_due htd hp hsync hidle hon hup (hdue hm), ?_⟩,
      fun hm htwo => ⟨_, exec_ptpIntervalSend_due htd hp hsync hidle hon hup (hdue hm), ?_⟩,
      fun hm => ⟨exec_ptpIntervalSend_none htd hp hsync (.inr (hno hm)), exec_ptpIntervalSend_none htd hp hsync (.inr (hno hm))⟩⟩
    · rw [ptpInterval_sync_one hone]
      exact ⟨rfl, rfl, (dom_ptpSend ..).trans (dom_syncStamped ..), rfl⟩
    · rw [ptpInterval_sync_two htwo]
      refine ⟨List.append_assoc .., rfl, (dom_ptpSend ..).trans ((dom_ptpSend ..).trans (dom_syncStamped ..)), ?_⟩
      have hframe : Frame [.time] s (ptpSend p { syncOut td s with kind := .followUp, stamp := some (stampAt (s.time.dom td).ctr (ptpLat s p true)) }
          (ptpSend p { syncOut td s with twoStep := true } (syncStamped p s))) := .after (frame_ptpSend ..) (.after (frame_ptpSend ..) (frame_syncStamped p s))
      exact hframe.get fun u => { u with time := s.time }

end Sys2Proof.Proofs
end

section
/-! Changes of role of a tandem unit: what they write and what they leave (R186, R313, R427, R428, R431). -/

set_option Elab.async false

namespace Sys2Proof.Proofs
open Sys2Proof Sys2Proof.Machine Sys2Proof.Laws

variable {s : State}

/-! ### Light and ports -/

theorem frame_relight (s : State) : Frame [.ports] s (relight s) := rfl

theorem frame_takePorts (s : State) : Frame [.ports, .mbx, .moors] s (takePorts s) :=
  .foldl _ .refl fun x p _ => by
    split
    · exact .refl
    · exact .refl
    · exact frame_rediscover p x

theorem frame_takePubs (s : State) : Frame [.stn] s (takePubs s) := rfl

/-! ### Change of role -/

/-- What a change of role writes into the pair's own state. -/
def roleTan (r : Role) (n : CycleNo) (x : Tan) : Tan := { x with
  role := r, roleCycle := n, clean := if r == .resync then 0 else x.clean, notClean := if r == .resync then 0 else x.notClean, veto := false }

/-- The state with its new role, before hosts are told. -/
def withRole (r : Role) (s : State) : State := { s with
  dev := { s.dev with roleEpoch := s.dev.roleEpoch + 1 }
  tan := roleTan r s.cyc.n s.tan
  pul := if r == .active then s.pul else { s.pul with ch := s.pul.ch.mapVals (fun _ c => { c with holdOff := true }), syncOut := none } }

/-- A change of role is open: the role is another one, and factory test mode does not hold the unit ISOLATED (R387). -/
def MayChange (r : Role) (s : State) : Prop := s.tan.role ≠ r ∧ (s.tan.role = .isolated → factoryMode s = false)

theorem setRole_closed {r : Role} (h : (s.tan.role = r || (s.tan.role == .isolated && factoryMode s)) = true) : setRole r s = s := if_pos h

theorem mayChange_open {r : Role} (h : MayChange r s) : (s.tan.role = r || (s.tan.role == .isolated && factoryMode s)) = false := by
  obtain ⟨hne, hfree⟩ := h
  by_cases hiso : s.tan.role = .isolated
  · simp [hne, hfree hiso]
  · simp [hne, hiso]

theorem frame_withRole (r : Role) (s : State) : Frame [.dev, .tan, .pul] s (withRole r s) := rfl

theorem frame_setRole_told {r : Role} (h : MayChange r s) : Frame [.mbx, .host, .fcru, .ports] (withRole r s) (setRole r s) := by
  unfold setRole
  extract_lets old
  rw [if_neg (by rw [mayChange_open h]; decide)]
  exact .after (frame_relight ..) (.after (frame_clear ..) (.after (frame_event ..) (frame_vector (s := withRole r s) 12).mono))

theorem frame_setRole (r : Role) (s : State) : Frame [.dev, .tan, .pul, .mbx, .host, .fcru, .ports] s (setRole r s) := by
  by_cases h : (s.tan.role = r || (s.tan.role == .isolated && factoryMode s)) = true
  · rw [setRole_closed h]
    exact .refl
  · have hopen : MayChange r s := by
      simp only [Bool.or_eq_true, decide_eq_true_eq, Bool.and_eq_true, beq_iff_eq, not_or, not_and, Bool.not_eq_true] at h
      exact h
    exact (frame_setRole_told hopen).after ((frame_withRole r s).mono)

theorem tan_setRole {r : Role} (h : MayChange r s) : (setRole r s).tan = roleTan r s.cyc.n s.tan := (frame_setRole_told h).get State.tan

theorem dev_setRole {r : Role} (h : MayChange r s) : (setRole r s).dev = { s.dev with roleEpoch := s.dev.roleEpoch + 1 } :=
  (frame_setRole_told h).get State.dev

theorem frame_startHoldOff (s : State) : Frame [.tan] s (startHoldOff s) := rfl

theorem frame_toResync (s : State) : Frame [.dev, .tan, .pul, .mbx, .host, .fcru, .ports] s (toResync s) :=
  .after (frame_startHoldOff _) (frame_setRole .resync s)

theorem tan_startHoldOff (s : State) : (startHoldOff s).tan = { s.tan with holdOff := true, holdOffDone := false, holdTick := s.now } := rfl

theorem tan_toResync (h : MayChange .resync s) : (toResync s).tan =
    { roleTan .resync s.cyc.n s.tan with holdOff := true, holdOffDone := false, holdTick := s.now } := by
  have hnow : (setRole .resync s).now = s.now := (frame_setRole .resync s).get State.now
  rw [toResync, tan_startHoldOff, tan_setRole h, hnow]

/-! ### A unit becomes ACTIVE -/

/-- CT takes its own target again, and the twin's active domain where it followed one. -/
def aloneTime (s : State) : Time := match s.tan.last with
  | some r => if s.tan.role == .isolated then { s.time with twinOff := none } else { s.time with twinOff := none, active := b2n r.activeTd }
  | none => { s.time with twinOff := none }

/-- The unit drops its follower's frame and the twin's time. -/
def alone (s : State) : State := { s with obs := { s.obs with pendFrame := none }, time := aloneTime s }

/-- The marks of a follower are gone once the unit is ACTIVE. -/
def leadTan (silence takeover : Bool) (x : Tan) : Tan := { x with
  takeovers := if takeover then x.takeovers + 1 else x.takeovers, silenceTakeover := silence,
  reqTick := none, handover := 0, handed := false, withhold := none, holdOff := false, holdOffDone := false }

def withTan (x : Tan) (s : State) : State := { s with tan := x }

theorem frame_withTan (x : Tan) (s : State) : Frame [.tan] s (withTan x s) := rfl

/-- The unit is ACTIVE under its new epochs, its ports and published blocks taken over. -/
def leading (s : State) : State := takePubs (takePorts (ctLeave (setRole .active (raiseEpoch (alone s)))))

/-- The unit is ACTIVE, before its control phase or BLOCKED follows. -/
def led (silence takeover : Bool) (s : State) : State :=
  let t := clear 308 (withTan (leadTan silence takeover (leading s).tan) (leading s))
  if silence then raise 305 [] t else t

theorem becomeActive_eq (silence takeover : Bool) (s : State) : becomeActive silence takeover s =
    if s.tan.role == .active || (s.tan.role == .isolated && factoryMode s) then s
    else if s.tan.role == .isolated then led silence takeover s
    else if s.tan.role == .resync && takeover then (if runs (led silence takeover s) then moveState .blocked (led silence takeover s) else led silence takeover s)
    else takePhase (led silence takeover s) := by
  unfold becomeActive
  rfl

theorem frame_alone (s : State) : Frame [.obs, .time] s (alone s) := rfl

theorem frame_raiseEpoch (s : State) : Frame [.tan] s (raiseEpoch s) := rfl

/-- What a unit that becomes ACTIVE may touch, besides what a reaction to a fault does. -/
abbrev leadParts : List Part := [.obs, .time, .dev, .tan, .ports, .moors, .stn] ++ signalParts

theorem frame_roleTaken (s : State) : Frame leadParts s (setRole .active (raiseEpoch (alone s))) :=
  .after (frame_setRole ..) (.after (frame_raiseEpoch _) (frame_alone s).mono)

/-- After the change of role only time, ports and published blocks follow. -/
theorem frame_leading_role (hcalm : Calm s) :
    Frame (.time :: .moors :: .ports :: .stn :: signalParts) (setRole .active (raiseEpoch (alone s))) (leading s) :=
  .after (frame_takePubs _) (.after (frame_takePorts _) (frame_ctLeave ((frame_roleTaken s).calm hcalm)).mono)

theorem frame_leading (hcalm : Calm s) : Frame leadParts s (leading s) := (frame_leading_role hcalm).after (frame_roleTaken s)

theorem frame_led (hcalm : Calm s) (silence takeover : Bool) : Frame leadParts s (led silence takeover s) := by
  unfold led
  extract_lets t
  have ht : Frame leadParts s t := .after (frame_clear ..) (.after (frame_withTan ..) (frame_leading hcalm))
  exact .ite (.after (frame_raise_signal (ht.calm hcalm) (by decide) (by decide) []) ht) ht

theorem frame_takePhase (s : State) : Frame [.devState, .dev, .host, .mbx] s (takePhase s) := by
  unfold takePhase
  refine .ite .refl (.ite ?_ ?_)
  · rfl
  · extract_lets t
    have ht : Frame [.devState, .dev, .host, .mbx] s t := (frame_setPhase (s := s) .recovery).mono
    exact ht.step (qs := [.dev]) rfl

theorem frame_becomeActive (hcalm : Calm s) (silence takeover : Bool) : Frame leadParts s (becomeActive silence takeover s) := by
  rw [becomeActive_eq]
  have hled := frame_led hcalm silence takeover
  exact .ite .refl (.ite hled (.ite (.ite (.after (frame_moveState ..) hled) hled) (.after (frame_takePhase _) hled)))

theorem mayChange_raised {r : Role} (h : MayChange r s) : MayChange r (raiseEpoch (alone s)) := h

theorem tan_leading (hcalm : Calm s) (h : MayChange .active s) : (leading s).tan = roleTan .active s.cyc.n (raiseEpoch s).tan := by
  rw [(frame_leading_role hcalm).get State.tan, tan_setRole (mayChange_raised h)]
  rfl

theorem roleEpoch_leading (hcalm : Calm s) (h : MayChange .active s) : (leading s).dev.roleEpoch = s.dev.roleEpoch + 1 := by
  rw [(frame_leading_role hcalm).get (·.dev.roleEpoch), dev_setRole (mayChange_raised h)]
  rfl

theorem frame_led_leading (hcalm : Calm s) (silence takeover : Bool) :
    Frame signalParts (withTan (leadTan silence takeover (leading s).tan) (leading s)) (led silence takeover s) := by
  have hcleared := frame_clear (s := withTan (leadTan silence takeover (leading s).tan) (leading s)) 308
  have hcalm' := hcleared.calm ((frame_withTan (leadTan silence takeover (leading s).tan) (leading s)).calm ((frame_leading hcalm).calm hcalm))
  exact .ite (.after (frame_raise_signal hcalm' (by decide) (by decide) []) hcleared.mono) hcleared.mono

theorem tan_led (hcalm : Calm s) (h : MayChange .active s) (silence takeover : Bool) :
    (led silence takeover s).tan = leadTan silence takeover (roleTan .active s.cyc.n (raiseEpoch s).tan) := by
  rw [← tan_leading hcalm h]
  exact (frame_led_leading hcalm silence takeover).get State.tan

theorem roleEpoch_led (hcalm : Calm s) (h : MayChange .active s) (silence takeover : Bool) :
    (led silence takeover s).dev.roleEpoch = s.dev.roleEpoch + 1 := by
  rw [← roleEpoch_leading hcalm h]
  exact (frame_led_leading hcalm silence takeover).get (·.dev.roleEpoch)

/-- The control phase or BLOCKED follows, and nothing of the pair. -/
theorem frame_becomeActive_led (h : MayChange .active s) (silence takeover : Bool) :
    Frame [.devState, .gov, .host, .mbx, .cap, .store, .srb, .dev] (led silence takeover s) (becomeActive silence takeover s) := by
  have hopen := mayChange_open h
  rw [becomeActive_eq, if_neg (by rw [Bool.or_eq_true, beq_iff_eq]; simpa using hopen)]
  exact .ite .refl (.ite (.ite (frame_moveState ..).mono .refl) (frame_takePhase _).mono)

theorem tan_becomeActive (hcalm : Calm s) (h : MayChange .active s) (silence takeover : Bool) :
    (becomeActive silence takeover s).tan = leadTan silence takeover (roleTan .active s.cyc.n (raiseEpoch s).tan) := by
  rw [← tan_led hcalm h]
  exact (frame_becomeActive_led h silence takeover).get State.tan

theorem roleEpoch_takePhase (s : State) : (takePhase s).dev.roleEpoch = s.dev.roleEpoch := by
  have hphase := (frame_setPhase (s := s) .recovery).get (·.dev.roleEpoch)
  unfold takePhase
  split
  · rfl
  · split
    · rfl
    · exact hphase

theorem roleEpoch_becomeActive (hcalm : Calm s) (h : MayChange .active s) (silence takeover : Bool) :
    (becomeActive silence takeover s).dev.roleEpoch = s.dev.roleEpoch + 1 := by
  have hopen := mayChange_open h
  rw [becomeActive_eq, if_neg (by rw [Bool.or_eq_true, beq_iff_eq]; simpa using hopen), ← roleEpoch_led hcalm h silence takeover]
  split
  · rfl
  · split
    · exact ite_keeps (·.dev.roleEpoch) _ ((frame_moveState (s := led silence takeover s) .blocked).get (·.dev.roleEpoch))
    · exact roleEpoch_takePhase _

/-! ### A running unit -/

theorem state_react4_running (hrun : s.cyc.running = true) (block : Bool) : (react4 block s).dev.state = s.dev.state := by
  unfold react4
  split
  · rfl
  · rfl
  · dsimp only
    rw [if_pos hrun]

theorem state_react_running {lvl : Nat} (hlvl : lvl ≠ 5) {src : Nat} (hdom : faultDomain src = none) (hrun : s.cyc.running = true) (f : FaultInfo)
    (block : Bool) : (react src f lvl block s).dev.state = s.dev.state := by
  unfold react
  rw [if_neg hlvl]
  have hlow : Frame trapParts s (reactLow src f lvl block (noteReaction src lvl s)) :=
    .after (frame_reactLow_boundary hdom ..) (frame_noteReaction ..).mono
  have hrun' : (reactLow src f lvl block (noteReaction src lvl s)).cyc.running = true := (hlow.get (·.cyc.running)).trans hrun
  rw [← hlow.get (·.dev.state)]
  exact ite_keeps (·.dev.state) (lvl = 4) (state_react4_running hrun' block)

/-- While a cycle runs, an assertion below level 5 without a domain moves the device state only at the next boundary (R376). -/
theorem state_raise_running {src : Nat} (hlvl : ∀ f, faultInfo src = some f → (appliedLevel s src f).1 ≠ 5) (hdom : faultDomain src = none)
    (hrun : s.cyc.running = true) (d : List Byte) : (raise src d s).dev.state = s.dev.state := by
  unfold raise
  split
  · rfl
  · next f hf =>
    split
    · rfl
    · unfold assertSource
      extract_lets lvl logged
      have hlogged : Frame trapParts s logged := .after (frame_trgFault ..) (frame_logSource ..).mono
      have hrun' : logged.cyc.running = true := (hlogged.get (·.cyc.running)).trans hrun
      rw [← hlogged.get (·.dev.state)]
      split
      · rfl
      · exact state_react_running (hlvl f hf) hdom hrun' ..

theorem state_ctLeave_running (hcalm : Calm s) (hrun : s.cyc.running = true) : (ctLeave s).dev.state = s.dev.state := by
  have hslew := frame_slewing s
  have hcalm' := hslew.calm hcalm
  have hrun' : (slewing s).cyc.running = true := (hslew.get (·.cyc.running)).trans hrun
  rw [ctLeave_eq, ← hslew.get (·.dev.state)]
  unfold judgeCtOffset
  extract_lets off alarm
  split
  · exact state_raise_running (fun f hf => appliedLevel_ne_five hcalm' (by decide) hf) (by decide) hrun' []
  · exact ite_keeps (·.dev.state) _ ((frame_clear (s := slewing s) 280).get (·.dev.state))

theorem state_leading_running (hcalm : Calm s) (hrun : s.cyc.running = true) : (leading s).dev.state = s.dev.state := by
  have hrole : Frame [.dev, .tan, .pul, .mbx, .host, .fcru, .ports, .obs, .time] s (setRole .active (raiseEpoch (alone s))) :=
    .after (frame_setRole ..) (.after (frame_raiseEpoch _) (frame_alone s).mono)
  have hports : Frame [.ports, .mbx, .moors, .stn] (ctLeave (setRole .active (raiseEpoch (alone s)))) (leading s) :=
    .after (frame_takePubs _) (frame_takePorts _).mono
  rw [hports.get (·.dev.state), state_ctLeave_running (hrole.calm hcalm) ((hrole.get (·.cyc.running)).trans hrun)]
  exact hrole.get (·.dev.state)

theorem state_led_running (hcalm : Calm s) (hrun : s.cyc.running = true) (takeover : Bool) : (led false takeover s).dev.state = s.dev.state := by
  have hcleared : Frame [.fcru, .tan] (leading s) (led false takeover s) := .after (frame_clear ..) (frame_withTan ..).mono
  rw [hcleared.get (·.dev.state), state_leading_running hcalm hrun]

/-- A takeover from RESYNC blocks a running unit (R431). -/
theorem becomeActive_blocks (hcalm : Calm s) (hres : s.tan.role = .resync) (hruns : runs s = true) (hrun : s.cyc.running = true) :
    (becomeActive false true s).dev.state = .blocked := by
  have hopen : MayChange .active s := ⟨by simp [hres], by simp [hres]⟩
  have hstate := state_led_running hcalm hrun true
  have hled : runs (led false true s) = true := by rw [runs, hstate]; exact hruns
  have hne : (led false true s).dev.state ≠ .blocked := by
    intro hb
    rw [runs, hb] at hled
    cases hled
  rw [becomeActive_eq, if_neg (by simp [hres]), if_neg (by simp [hres]), if_pos (by simp [hres]), if_pos hled, moveState_dev hne]
  rfl

end Sys2Proof.Proofs
end

section
/-! Takeovers and the timers of the pair (R427, R428, R430, R431). -/

set_option Elab.async false

namespace Sys2Proof.Proofs
open Sys2Proof Sys2Proof.Machine Sys2Proof.Laws

variable {s : State}

/-- A follower may become ACTIVE. -/
theorem mayChange_of_follower (h : follower s = true) : MayChange .active s := by
  unfold follower at h
  split at h
  · cases h
  · cases h
  · next hact hiso => exact ⟨hact, fun hi => absurd hi hiso⟩

/-- A unit that may pair is out of factory test mode (R387). -/
theorem mayChange_of_mayPair {r : Role} (hiso : s.tan.role = .isolated) (hr : r ≠ .isolated) (h : mayPair s = true) : MayChange r s := by
  refine ⟨hiso ▸ hr.symm, fun _ => ?_⟩
  simp only [mayPair, Bool.and_eq_true, Bool.not_eq_true'] at h
  exact h.2

theorem requestHeard_noted (hf : follower s = true) (hnone : s.tan.reqTick = none) :
    requestHeard s = withTan { s.tan with reqTick := some s.now } s := if_pos (by simp [hf, hnone])

theorem requestHeard_kept (h : follower s = false ∨ s.tan.reqTick.isSome = true) : requestHeard s = s := by
  refine if_neg ?_
  rcases h with h | h
  · simp [h]
  · simp [Option.isNone_eq_false_iff.mpr h]

/-- The instant that a takeover waits for. -/
def takeoverInstant (s : State) : Nat := if s.cyc.running then s.cyc.startTick else s.now

theorem exec_becomeActive {k : Nat} (hk : s.tan.reqTick = some k) : exec .becomeActive s =
    .next (if follower s && decide (k + 800 ≤ takeoverInstant s) then becomeActive false true s else s) := by
  simp only [exec, execBecomeActive, hk, Machine.ok]
  rfl

/-- A request that has waited its 2.0 µs makes a follower ACTIVE. -/
theorem becomeActive_takes (hcalm : Calm s) {k : Nat} (hk : s.tan.reqTick = some k) (hf : follower s = true) (hle : k + 800 ≤ takeoverInstant s) :
    Goes .becomeActive s fun t => t.tan.role = .active ∧ t.tan.reqTick = none ∧ t.tan.takeovers = s.tan.takeovers + 1 ∧ t.tan.silenceTakeover = false ∧
      t.dev.roleEpoch = s.dev.roleEpoch + 1 ∧ t.tan.mirrorEpoch = (raiseEpoch s).tan.mirrorEpoch ∧ t.cfg = s.cfg ∧
      (s.tan.role = .resync → runs s = true → s.cyc.running = true → t.dev.state = .blocked) := by
  have hopen := mayChange_of_follower hf
  have htan := tan_becomeActive hcalm hopen false true
  refine goes_of_eq ((exec_becomeActive hk).trans (congrArg Host.Outcome.next (if_pos (by simp [hf, hle])))) ⟨?_, ?_, ?_, ?_, ?_, ?_, ?_, ?_⟩
  · rw [htan]; rfl
  · rw [htan]; rfl
  · rw [htan]; rfl
  · rw [htan]; rfl
  · exact roleEpoch_becomeActive hcalm hopen ..
  · rw [htan]; rfl
  · exact (frame_becomeActive hcalm false true).get State.cfg
  · exact fun hres hruns hrun => becomeActive_blocks hcalm hres hruns hrun

theorem becomeActive_waits (h : follower s = false ∨ s.tan.reqTick = none ∨ (∀ k, s.tan.reqTick = some k → takeoverInstant s < k + 800)) :
    exec .becomeActive s = .next s := by
  cases hk : s.tan.reqTick with
  | none => simp only [exec, execBecomeActive, hk, Machine.ok]
  | some k =>
    rw [exec_becomeActive hk]
    refine congrArg Host.Outcome.next (if_neg ?_)
    rcases h with h | h | h
    · simp [h]
    · simp [hk] at h
    · have := h k hk
      simp only [Bool.and_eq_true, decide_eq_true_eq, not_and]
      omega

/-- An unpaired unit becomes ACTIVE after SOLO_WAIT (R428). -/
theorem soloWait_takes (hcalm : Calm s) (hiso : s.tan.role = .isolated) (hpair : mayPair s = true) :
    Goes .soloWaitExpiry s fun t => t.tan.role = .active ∧ t.dev.roleEpoch = s.dev.roleEpoch + 1 ∧
    t.tan.takeovers = s.tan.takeovers ∧ t.tan.mirrorEpoch = (raiseEpoch s).tan.mirrorEpoch ∧ t.cfg = s.cfg := by
  have hopen : MayChange .active s := mayChange_of_mayPair hiso (by decide) hpair
  have htan := tan_becomeActive hcalm hopen false false
  refine goes_of_eq (congrArg Host.Outcome.next (if_pos (by simp [hiso, hpair]))) ⟨?_, ?_, ?_, ?_, ?_⟩
  · rw [htan]; rfl
  · exact roleEpoch_becomeActive hcalm hopen ..
  · rw [htan]; rfl
  · rw [htan]; rfl
  · exact (frame_becomeActive hcalm false false).get State.cfg

/-- The hold-off has run out. -/
def holdOver (x : Tan) : Tan := { x with holdOff := false, holdOffDone := true }

/-- After its hold-off a STANDBY unit is ELIGIBLE (R428). -/
theorem holdOff_ends (hold : s.tan.holdOff = true) : Goes .holdOffExpiry s fun t => t.tan.holdOff = false ∧ t.tan.holdOffDone = true ∧
    t.tan.role = (if s.tan.role = .standby then .eligible else s.tan.role) ∧ t.cfg = s.cfg ∧ t.cyc = s.cyc ∧ t.time = s.time := by
  have hexec : exec .holdOffExpiry s = .next (if (withTan (holdOver s.tan) s).tan.role == .standby then setRole .eligible (withTan (holdOver s.tan) s)
      else withTan (holdOver s.tan) s) := congrArg Host.Outcome.next (if_pos hold)
  by_cases hstand : s.tan.role = .standby
  · have hopen : MayChange .eligible (withTan (holdOver s.tan) s) :=
      ⟨by show s.tan.role ≠ _; simp [hstand], fun hi => absurd (hstand.symm.trans hi) (by decide)⟩
    have hframe : Frame [.dev, .tan, .pul, .mbx, .host, .fcru, .ports] s (setRole .eligible (withTan (holdOver s.tan) s)) :=
      .after (frame_setRole ..) (frame_withTan (holdOver s.tan) s).mono
    have htan := tan_setRole hopen
    refine goes_of_eq (hexec.trans (congrArg Host.Outcome.next (if_pos (beq_iff_eq.mpr hstand)))) ?_
    rw [htan, if_pos hstand]
    exact ⟨rfl, rfl, rfl, hframe.get State.cfg, hframe.get State.cyc, hframe.get State.time⟩
  · refine goes_of_eq (hexec.trans (congrArg Host.Outcome.next (if_neg (by simpa [withTan, holdOver] using hstand)))) ?_
    rw [if_neg hstand]
    exact ⟨rfl, rfl, rfl, rfl, rfl, rfl⟩

/-- A requester whose withholding ends lights its outputs again (R430). -/
theorem withhold_ends (hw : s.tan.withhold.isSome = true) : Goes .takeoverWithholdEnd s fun t => t.tan = { s.tan with withhold := none } ∧
    t.obs = { s.obs with pendFrame := none } ∧
    (∀ p x, s.ports.find p = some x → (port t p).squelch = !(transmits t && x.locked && x.lane != .dark)) ∧
    { t with tan := s.tan, ports := s.ports, obs := s.obs } = s := by
  refine goes_of_eq (congrArg Host.Outcome.next (if_pos hw)) ⟨rfl, rfl, fun p x hx => ?_, rfl⟩
  simp only [port, relight, SMap.get, find_mapVals, hx]
  rfl

/-- Settles O55: requests, takeovers and the timers of the pair. -/
theorem takeovers : Obligations.Takeovers := by
  unfold Obligations.Takeovers
  intro s hcalm
  refine ⟨fun hf hnone => congrArg Host.Outcome.next (requestHeard_noted hf hnone), fun h => congrArg Host.Outcome.next (requestHeard_kept h),
    fun k hk hf hle => becomeActive_takes hcalm hk hf hle, becomeActive_waits, soloWait_takes hcalm, fun h => ?_, holdOff_ends, fun h => ?_,
    withhold_ends, fun h => ?_⟩
  · refine congrArg Host.Outcome.next (if_neg ?_)
    rcases h with h | h <;> simp [h]
  · exact congrArg Host.Outcome.next (if_neg (by simp [h]))
  · exact congrArg Host.Outcome.next (if_neg (by simp [h]))

end Sys2Proof.Proofs
end

section
/-! Transfers to the twin and planned handovers (R340, R350, R432, R434). -/

set_option Elab.async false

namespace Sys2Proof.Proofs
open Sys2Proof Sys2Proof.Machine Sys2Proof.Laws

variable {s : State}

/-! ### What settling a transfer keeps -/

/-- What decides the levels of the sources, whether a source can assert, and the transfers that are still open. -/
def settleView (s : State) : SMap Int × Option Plate × (Bool × Bool) × List XferWait := (s.cfg.par, s.cfg.plate, resetLines s, s.tan.xfers)

theorem calm_of_settleView {t : State} (h : settleView t = settleView s) (hcalm : Calm s) : Calm t := by
  have hpar : t.cfg.par = s.cfg.par := (congrArg (·.1) h :)
  have hplate : t.cfg.plate = s.cfg.plate := (congrArg (·.2.1) h :)
  intro src f hf hfix hsrc
  have hlvl : faultLevel t src = faultLevel s src := by simp only [faultLevel, parN, par, armTab, hpar, hplate]
  rw [hlvl]
  exact hcalm src f hf hfix hsrc

theorem onOk_view {β γ : Type} {g : State → γ} {v : γ} {a : State × β} {f : Status → State × β} (st : Status) (h : g a.1 = v)
    (hf : ∀ e, g (f e).1 = v) : g (onOk st a f).1 = v := by
  unfold onOk
  cases st
  · exact h
  all_goals exact hf _

theorem settleView_bankWrite (s : State) : settleView (bankWrite s) = settleView s := by
  cases hcand : candOf s <;> simp only [bankWrite, hcand, settleView, resetLines]

theorem settleView_abortStage (s : State) : settleView (abortStage s).1 = settleView s := by
  unfold abortStage
  split
  · dsimp only
    split
    · split <;> rfl
    · rfl
  · split
    · rfl
    · split <;> rfl

theorem settleView_abortRange (p : Nat) (s : State) : settleView (abortRange p s).1 = settleView s := by
  unfold abortRange
  split
  · rfl
  · split <;> rfl

theorem settleView_acceptCommit (w : Waiting) (whole : Bool) (s : State) : settleView (acceptCommit w whole s) = settleView s := by
  have hpound : ∀ x : Pound, settleView { s with pound := x } = settleView s := fun _ => rfl
  unfold acceptCommit
  dsimp only
  split
  · exact hpound _
  · exact (settleView_bankWrite _).trans (hpound _)

/-- Acceptance settles no other transfer and sets no level. -/
theorem settleView_accept (w : Waiting) (s : State) : settleView (accept w s).1 = settleView s := by
  unfold accept
  dsimp only
  split
  · split
    · exact settleView_acceptCommit ..
    · exact onOk_view _ (settleView_acceptCommit ..) fun _ => rfl
  · refine onOk_view _ ?_ fun _ => rfl
    split <;> rfl
  · split
    · rfl
    · exact (frame_restartPort ..).get settleView
  · exact settleView_abortStage s
  · rfl
  · split
    · rfl
    · exact (frame_queueRange ..).get settleView
  · split
    · rfl
    · exact settleView_abortRange ..
  · exact onOk_view _ rfl fun _ => rfl

theorem frame_confirm (tr : Transfer) (st : Status) (s : State) : Frame [.tan] s (confirm tr st s) := rfl

theorem settleView_agreeBase (x : XferWait) (alone : Bool) (s : State) : settleView (agreeBase x alone s) = settleView s := by
  unfold agreeBase
  split <;> rfl

theorem settleView_countNow (w : Waiting) (st : Status) (s : State) : settleView (countNow w st s) = settleView s := by
  unfold countNow countApplied
  split
  · split <;> rfl
  · rfl

theorem frame_abortNotice (op p : Nat) (s₀ : State) (st : Status) (s : State) : Frame [.mbx] s (abortNotice op p s₀ st s) := by
  unfold abortNotice
  split
  · exact .refl
  · split
    · split
      · exact frame_scheduledResult ..
      · exact .refl
    · split
      · exact frame_rangeDone ..
      · exact .refl

theorem settleView_settleA (x : XferWait) (alone : Bool) (s : State) : settleView (settleA x alone s) = settleView s := by
  unfold settleA
  split
  · exact (frame_respondLate ..).get settleView
  · generalize haccept : accept x.w s = out
    obtain ⟨t, st, body⟩ := out
    have hview : settleView t = settleView s := by
      have hv := settleView_accept x.w s
      rw [haccept] at hv
      exact hv
    dsimp only
    rw [(frame_abortNotice ..).get settleView, (frame_respondLate ..).get settleView]
    split
    · rw [settleView_agreeBase, settleView_countNow, hview]
    · exact hview

/-! ### Transfers that arrive -/

theorem exec_classATransfer_follower {tr : Transfer} (hready : s.dev.mpcReady = true) (hf : follower s = true) (hop : isClassA tr.opcode = true) :
    exec (.classATransferReceived tr) s = .next (followA tr s) := by
  simp only [exec, execClassATransferReceived, hready, hf, hop, Machine.ok, Bool.not_true, Bool.false_eq_true, Bool.and_self, if_false, if_true]

/-- A follower that accepts a command confirms it, and the command waits. -/
theorem followA_accepted {tr : Transfer} {u : State} {b : List Byte} (hop : tr.opcode ≠ 0x24) (haccept : accept (waitOf tr) s = (u, .ok, b)) :
    followA tr s = confirm tr .ok (countNow (waitOf tr) .ok u) := by
  simp only [followA, hop, haccept, if_false]

theorem followA_refused {tr : Transfer} {u : State} {e : Status} {b : List Byte} (hop : tr.opcode ∉ [0x24, 0x25, 0x36])
    (haccept : accept (waitOf tr) s = (u, e, b)) (he : e ≠ .ok) : followA tr s = confirm tr e s := by
  simp only [List.mem_cons, List.not_mem_nil, or_false, not_or] at hop
  obtain ⟨h24, h25, h36⟩ := hop
  have habort : ¬(tr.opcode = 0x25 ∨ tr.opcode = 0x36) := by simp [h25, h36]
  unfold followA
  extract_lets w
  rw [if_neg h24, haccept]
  cases e
  case ok => exact absurd rfl he
  all_goals exact if_neg (by simpa using habort)

theorem exec_classATransfer_block {tr : Transfer} (hready : s.dev.mpcReady = true) (hact : s.tan.role = .active) (hop : tr.opcode = 0x11)
    (hruns : runs s = true) : exec (.classATransferReceived tr) s = .next (confirm tr .ok (doBlock s)) := by
  have hstate : cBlock.states s.dev.state = true := by
    simp only [runs, Bool.or_eq_true, beq_iff_eq] at hruns
    rcases hruns with h | h <;> rw [h] <;> rfl
  have hfol : follower s = false := by rw [follower, hact]
  simp [exec, execClassATransferReceived, hready, hfol, hact, hop, isClassF, forwarded, hstate, Machine.ok]

/-! ### Confirmation and its timeout -/

theorem faultInfo_307 : faultInfo 307 = some ⟨2, false, 1, false, false⟩ := by decide
theorem faultInfo_310 : faultInfo 310 = some ⟨2, false, 1, false, false⟩ := by decide

/-- A transfer without confirmation is settled alone, with FLT_TANDEM_TRANSFER (R434). -/
theorem transferTimeout_alone (hcalm : Calm s) {x : XferWait} {xs : List XferWait} (hx : s.tan.xfers = x :: xs) (hF : isClassF x.tr.opcode = false)
    (hp : s.dev.porstN = true) (hr : s.dev.railHold = false) : Goes .transferConfirmTimeout s fun t => Latched t 307 ∧ t.tan.xfers = xs := by
  let left := withTan { s.tan with xfers := xs } s
  have hexec : exec .transferConfirmTimeout s = .next (raise 307 [] (settleA x true left)) := by
    simp only [exec, execTransferConfirmTimeout, hx, hF, Machine.ok, Bool.false_eq_true, if_false, left, withTan]
  have hview : settleView (settleA x true left) = settleView left := settleView_settleA ..
  generalize hu : settleA x true left = u at hexec hview
  have hxs : u.tan.xfers = xs := (congrArg (·.2.2.2) hview :)
  have hlines : resetLines u = resetLines s := (congrArg (·.2.2.1) hview :)
  have hcalm' : Calm u := calm_of_settleView hview ((frame_withTan _ s).calm hcalm)
  have hframe := frame_raise_any hcalm' (src := 307) (by decide) []
  refine goes_of_eq hexec ⟨latched_raise_edge faultInfo_307 (fun v => by cases v <;> rfl) rfl ?_ ?_ [], ?_⟩
  · exact (congrArg (·.1) hlines :).trans hp
  · exact (congrArg (·.2) hlines :).trans hr
  · rw [hframe.get (·.tan.xfers), hxs]

/-- A refused transfer is dropped, and its command answered with the refusal (R340). -/
theorem transferRefused {q : BitVec 16} {st : Status} {x : XferWait} (hx : s.tan.xfers.find? (fun x => x.tr.seq = q) = some x)
    (hF : isClassF x.tr.opcode = false) (hst : st ≠ .ok) :
    Goes (.transferConfirmReceived q st) s fun t => t.tan = { s.tan with xfers := s.tan.xfers.erase x } ∧
      ButMessages { s with tan := t.tan } t := by
  let left := withTan { s.tan with xfers := s.tan.xfers.erase x } s
  have hexec : exec (.transferConfirmReceived q st) s =
      .next (respondLate x.mbx x.epoch x.tag x.tr.opcode st (failBody x.tr.opcode left) left) := by
    simp only [exec, execTransferConfirmReceived, hx, hF, hst, Machine.ok, Bool.false_eq_true, if_false, left, withTan]
  have hframe : Frame [.mbx] left (respondLate x.mbx x.epoch x.tag x.tr.opcode st (failBody x.tr.opcode left) left) := frame_respondLate ..
  generalize respondLate x.mbx x.epoch x.tag x.tr.opcode st (failBody x.tr.opcode left) left = t at hexec hframe
  exact goes_of_eq hexec ⟨hframe.get State.tan, (hframe.get fun u => { u with tan := t.tan, mbx := s.mbx, host := s.host, stn := s.stn } :)⟩

/-! ### Handovers (R432) -/

/-- The target takes control at its cutoff of cycle S. -/
theorem handover_takes (hcalm : Calm s) {r : MirrorRec} (hlast : s.tan.last = some r) (hrun : s.cyc.running = true) (hfrozen : s.cyc.frozen = true)
    (hlaunched : s.cyc.launched = false) (hok : handoverOk r s = true) :
    Goes .handoverCycle s fun t => t.tan.role = .active ∧ t.tan.handover = 0 ∧ t.tan.takeovers = s.tan.takeovers ∧
      t.dev.roleEpoch = s.dev.roleEpoch + 1 ∧ t.cyc.n = s.cyc.n := by
  have hrole : s.tan.role = .eligible := by
    simp only [handoverOk, Bool.and_eq_true, beq_iff_eq] at hok
    exact hok.1.1.1.1.1.1
  have hopen : MayChange .active s := ⟨by simp [hrole], by simp [hrole]⟩
  have hexec : exec .handoverCycle s = .next (becomeActive false false s) := by
    simp only [exec, execHandoverCycle, hlast, hrun, hfrozen, hlaunched, hok, Machine.ok, Bool.not_false, Bool.and_self, if_true]
  have htan := tan_becomeActive hcalm hopen false false
  refine goes_of_eq hexec ⟨?_, ?_, ?_, roleEpoch_becomeActive hcalm hopen .., (frame_becomeActive hcalm false false).get (·.cyc.n)⟩
  · rw [htan]; rfl
  · rw [htan]; rfl
  · rw [htan]; rfl

theorem handover_waits (h : s.tan.last = none ∨ s.cyc.frozen = false ∨ s.cyc.launched = true) : exec .handoverCycle s = .next s := by
  cases hlast : s.tan.last with
  | none => simp only [exec, execHandoverCycle, hlast, Machine.ok]
  | some r =>
    have hno : (s.cyc.frozen && !s.cyc.launched) = false := by
      rcases h with h | h | h
      · rw [hlast] at h; cases h
      · simp [h]
      · simp [h]
    simp only [exec, execHandoverCycle, hlast, Machine.ok, Bool.and_assoc, hno, Bool.false_and, Bool.and_false,
      Bool.false_eq_true, if_false]

theorem frame_handoverReport (st : Status) (c : CycleNo) (s : State) : Frame [.mbx, .tan] s (handoverReport st c s) := by
  unfold handoverReport
  split
  · next w hw =>
    exact .after (frame_scheduledResult ..) (frame_withTan { s.tan with handoverCmd := none } s).mono
  · exact .refl

theorem tan_handoverReport (st : Status) (c : CycleNo) (s : State) : (handoverReport st c s).tan = { s.tan with handoverCmd := none } := by
  unfold handoverReport
  split
  · next w hw => exact (frame_scheduledResult ..).get State.tan
  · next hw => rw [← hw]

/-- The unit that hands over: its part in the handover is over. -/
def handedOver (s : State) : State := withTan { s.tan with handed := false, handover := 0 } s

theorem handoverResult_stands (hhanded : s.tan.handed = true) (hact : s.tan.role = .active) :
    Goes (.handoverResult true) s fun t => t.tan.role = .standby ∧ t.tan.handed = false ∧ t.tan.handover = 0 ∧ t.tan.holdOff = true ∧
      t.tan.handoverCmd = none ∧ t.dev.roleEpoch = s.dev.roleEpoch + 1 := by
  have hexec : exec (.handoverResult true) s = .next (handoverReport .ok s.tan.handover (startHoldOff (setRole .standby (handedOver s)))) := by
    simp only [exec, execHandoverResult, hhanded, hact, Machine.ok, Bool.not_true, bne_self_eq_false, Bool.or_self, Bool.false_eq_true, if_false,
      if_true, handedOver, withTan]
  have hrole : (handedOver s).tan.role = .active := hact
  have hopen : MayChange .standby (handedOver s) := ⟨by simp [hrole], by simp [hrole]⟩
  have htan := tan_setRole hopen
  have hdev : (handoverReport .ok s.tan.handover (startHoldOff (setRole .standby (handedOver s)))).dev = (setRole .standby (handedOver s)).dev :=
    ((frame_handoverReport ..).get State.dev).trans ((frame_startHoldOff _).get State.dev)
  refine goes_of_eq hexec ?_
  rw [tan_handoverReport, tan_startHoldOff, htan, hdev, dev_setRole hopen]
  exact ⟨rfl, rfl, rfl, rfl, rfl, rfl⟩

/-- The unit stays in control, lit, and waits with a further handover (R432). -/
def handoverKept (s : State) : State := relight { handedOver s with
  obs := { s.obs with pendFrame := none }
  tan := { (handedOver s).tan with revertAfter := s.now + parN s 0x52 0 8 * 400000000 } }

theorem frame_handoverKept (s : State) : Frame [.obs, .tan, .ports] s (handoverKept s) := rfl

theorem exec_handoverResult_false (hhanded : s.tan.handed = true) (hact : s.tan.role = .active) :
    exec (.handoverResult false) s = .next (handoverReport .state s.tan.handover (raise 310 [] (handoverKept s))) := by
  have hopen : ¬(!s.tan.handed || s.tan.role != .active) = true := by simp [hhanded, hact]
  exact congrArg Host.Outcome.next ((if_neg hopen).trans (if_neg Bool.false_ne_true))

/-- Where the twin did not take control, the unit stays ACTIVE with FLT_TANDEM_HANDOVER. -/
theorem handoverResult_stays (hcalm : Calm s) (hhanded : s.tan.handed = true) (hact : s.tan.role = .active) (hp : s.dev.porstN = true)
    (hr : s.dev.railHold = false) :
    Goes (.handoverResult false) s fun t => t.tan.role = .active ∧ t.tan.handed = false ∧ t.tan.handover = 0 ∧ t.tan.handoverCmd = none ∧
      t.tan.revertAfter = s.now + parN s 0x52 0 8 * 400000000 ∧ Latched t 310 := by
  have hkept := frame_handoverKept s
  have hframe : Frame reactParts (handoverKept s) (raise 310 [] (handoverKept s)) := frame_raise_any (hkept.calm hcalm) (by decide) []
  have hlatched : Latched (raise 310 [] (handoverKept s)) 310 :=
    latched_raise_edge faultInfo_310 (fun v => by cases v <;> rfl) rfl (show (handoverKept s).dev.porstN = true from hp) hr []
  have htan : (raise 310 [] (handoverKept s)).tan = (handoverKept s).tan := hframe.get State.tan
  generalize hu : raise 310 [] (handoverKept s) = u at hlatched htan
  refine goes_of_eq ((exec_handoverResult_false hhanded hact).trans (by rw [hu])) ⟨?_, ?_, ?_, ?_, ?_,
    Latched.kept hlatched (kept_handoverReport .state s.tan.handover u (.self true u))⟩
  all_goals rw [tan_handoverReport, htan]
  · exact hact
  all_goals rfl

/-- Settles O56: transfers that arrive, are confirmed, refused or time out, and the handover. -/
theorem transfersAndHandover : Obligations.TransfersAndHandover := by
  unfold Obligations.TransfersAndHandover
  intro s hcalm
  refine ⟨fun tr hno => ?_, fun tr u b hready hf hop h24 haccept => ?_, fun tr u e b hready hf hop hno haccept he => ?_,
    fun tr hready hact hop hruns => ?_, fun q st hnone => ?_, fun q st x hx hF hst => transferRefused hx hF hst, fun hnone => ?_,
    fun x xs hx hF hp hr => transferTimeout_alone hcalm hx hF hp hr,
    fun r hlast hrun hfrozen hlaunched hok => handover_takes hcalm hlast hrun hfrozen hlaunched hok, handover_waits, handoverResult_stands,
    handoverResult_stays hcalm, fun b hno => ?_⟩
  · exact congrArg Host.Outcome.next (if_pos (by simp [hno]))
  · refine goes_of_eq ((exec_classATransfer_follower hready hf hop).trans (congrArg _ (followA_accepted h24 haccept))) ⟨rfl, ?_⟩
    exact ((frame_confirm ..).get (·.cyc.waiting)).trans ((frame_countNow ..).get (·.cyc.waiting))
  · exact (exec_classATransfer_follower hready hf hop).trans (congrArg _ (followA_refused hno haccept he))
  · refine goes_of_eq (exec_classATransfer_block hready hact hop hruns) ⟨?_, rfl, rfl⟩
    show (s.cyc.blockReq || runs s) = true
    simp [hruns]
  · simp only [exec, execTransferConfirmReceived, hnone, Machine.ok]
  · simp only [exec, execTransferConfirmTimeout, hnone, Machine.ok]
  · exact congrArg Host.Outcome.next (if_pos (by simp [hno]))

end Sys2Proof.Proofs
end

section
/-! Records, beacons, heartbeats and links of the tandem pair (R3, R269, R332, R420–R423, R428). -/

set_option Elab.async false

namespace Sys2Proof.Proofs
open Sys2Proof Sys2Proof.Machine Sys2Proof.Laws

variable {s : State}

/-! ### Time taken from the twin (R269, R435) -/

/-- The pair's own state but for the phase error and a request that waits. -/
def pairMarks (x : Tan) : Tan := { x with phaseErr := 0, reqTick := none }

theorem frame_twinPhase (e : Int) (s : State) : Frame [.tan, .time] s (twinPhase e s) := rfl

theorem marks_twinPhase (e : Int) (s : State) : pairMarks (twinPhase e s).tan = pairMarks s.tan := rfl

theorem frame_judgeTandemTime (hcalm : Calm s) : Frame reactParts s (judgeTandemTime s) := frame_levelSource hcalm (by decide) ..

theorem quiet_levelSource {k src : Nat} (hk : k ≠ src) (on : Bool) (d : List Byte) (hq : Quiet k s) : Quiet k (levelSource src on d s) := by
  unfold levelSource
  split
  · exact quiet_raise hk d hq
  · exact quiet_clear hq

theorem frame_requestHeard (s : State) : Frame [.tan] s (requestHeard s) := .ite rfl .refl

theorem marks_requestHeard (s : State) : pairMarks (requestHeard s).tan = pairMarks s.tan := by
  unfold requestHeard
  split <;> rfl

/-- The ACTIVE twin's epoch and, with towpath B silent, its phase. -/
def twinTaken (r : MirrorRec) (s : State) : State :=
  if 0 < s.tan.silentB then
    twinPhase ((Config.freeWord s.free).toInt * ((2 ^ 24 : Nat) : Int)) { withTan { s.tan with mirrorEpoch := r.mirrorEpoch } s with free := s.free + 1 }
  else withTan { s.tan with mirrorEpoch := r.mirrorEpoch } s

theorem recordNow_follower {r : MirrorRec} (hf : follower s = true) (hr : r.role = .active) :
    recordNow r s = judgeTandemTime (twinTaken r s) := if_neg (by simp [hf, hr])

theorem recordNow_other {r : MirrorRec} (hf : follower s = false) : recordNow r s = s := if_pos (by simp [hf])

theorem frame_twinTaken (r : MirrorRec) (s : State) : Frame [.tan, .time, .free] s (twinTaken r s) := .ite rfl rfl

theorem marks_twinTaken (r : MirrorRec) (s : State) : pairMarks (twinTaken r s).tan = pairMarks { s.tan with mirrorEpoch := r.mirrorEpoch } := by
  unfold twinTaken
  split <;> rfl

/-! ### A record arrives (R422, R428) -/

/-- The pair's own state after an intact record. -/
def notedTan (r : MirrorRec) (x : Tan) : Tan := { x with
  last := some r, heardA := true, silenceTakeover := false, recv := if r.beacon then x.recv else x.recv ++ [r] }

theorem noteRecord_eq (r : MirrorRec) (s : State) : noteRecord r s = withTan (notedTan r s.tan) s := rfl

/-- What a record of a twin of the same kind does by its own fields (R332, R430). -/
def recordAsks (r : MirrorRec) (s : State) : State :=
  let s := if r.takeoverReq then requestHeard s else s
  if r.hostBlock && s.tan.role == .active && runs s then { s with cyc := { s.cyc with blockReq := true } } else s

/-- What a record of a twin of the same kind does. -/
def recordUsed (r : MirrorRec) (s : State) : State := recordAsks r (recordNow r (pairWith r (clear 285 s)))

theorem frame_recordAsks (r : MirrorRec) (s : State) : Frame [.tan, .cycReq] s (recordAsks r s) := by
  have hasked : Frame [.tan] s (if r.takeoverReq then requestHeard s else s) := .ite (frame_requestHeard s) .refl
  unfold recordAsks
  exact .ite (hasked.mono.step (qs := [.cycReq]) rfl) hasked.mono

theorem marks_recordAsks (r : MirrorRec) (s : State) : pairMarks (recordAsks r s).tan = pairMarks s.tan := by
  have hasked : pairMarks (if r.takeoverReq then requestHeard s else s).tan = pairMarks s.tan :=
    ite_keeps (fun u : State => pairMarks u.tan) _ (marks_requestHeard s)
  unfold recordAsks
  rw [← hasked]
  exact ite_keeps (fun u : State => pairMarks u.tan) _ rfl

theorem exec_record {r : MirrorRec} {t : Nat} (hin : r.intact = true) (hstate : s.dev.state ≠ .reset) :
    exec (.tandemRecordReceived r t) s = .next (
      if !matchingTwin r (requesterYields r (noteRecord r (advanceTo t s))) then
        (if (requesterYields r (noteRecord r (advanceTo t s))).dev.state.idleOn then raise 285 [] (requesterYields r (noteRecord r (advanceTo t s)))
         else requesterYields r (noteRecord r (advanceTo t s)))
      else recordUsed r (requesterYields r (noteRecord r (advanceTo t s)))) := by
  exact congrArg Host.Outcome.next (if_neg (by simp [hin, hstate]))

theorem requesterYields_kept {r : MirrorRec} (h : s.tan.withhold = none ∨ s.tan.role ≠ .active) : requesterYields r s = s := by
  refine if_neg ?_
  rcases h with h | h <;> simp [h]

/-- The state once an intact record is noted. -/
def recordNoted (r : MirrorRec) (t : Nat) (s : State) : State := withTan (notedTan r s.tan) (advanceTo t s)

theorem noteRecord_advanceTo (r : MirrorRec) (t : Nat) (s : State) : noteRecord r (advanceTo t s) = recordNoted r t s := by
  have htan : (advanceTo t s).tan = s.tan := (frame_advanceTo s t).get State.tan
  rw [noteRecord_eq, htan, recordNoted]

theorem frame_recordNoted (r : MirrorRec) (t : Nat) (s : State) : Frame [.now, .time, .tan] s (recordNoted r t s) :=
  .after (frame_withTan ..) (frame_advanceTo s t).mono

theorem matchingTwin_recordNoted (r : MirrorRec) (t : Nat) (s : State) : matchingTwin r (recordNoted r t s) = matchingTwin r s :=
  (frame_recordNoted r t s).get (matchingTwin r)

/-- A record that is not intact, or comes in RESET, counts for nothing. -/
theorem record_ignored {r : MirrorRec} {t : Nat} (h : r.intact = false ∨ s.dev.state = .reset) :
    exec (.tandemRecordReceived r t) s = .next (advanceTo t s) := by
  refine congrArg Host.Outcome.next (if_pos ?_)
  rcases h with h | h <;> simp [h]

/-- A record of a twin of another kind. -/
theorem exec_record_mismatch {r : MirrorRec} {t : Nat} (hin : r.intact = true) (hstate : s.dev.state ≠ .reset) (hmatch : matchingTwin r s = false)
    (hw : s.tan.withhold = none) : exec (.tandemRecordReceived r t) s =
      .next (if s.dev.state.idleOn then raise 285 [] (recordNoted r t s) else recordNoted r t s) := by
  have hyields : requesterYields r (recordNoted r t s) = recordNoted r t s := requesterYields_kept (.inl hw)
  have hdev : (recordNoted r t s).dev = s.dev := (frame_recordNoted r t s).get State.dev
  rw [exec_record hin hstate, noteRecord_advanceTo, hyields, matchingTwin_recordNoted, hmatch, if_pos (by decide), hdev]

/-- A record of a twin of the same kind. -/
theorem exec_record_match {r : MirrorRec} {t : Nat} (hin : r.intact = true) (hstate : s.dev.state ≠ .reset) (hmatch : matchingTwin r s = true)
    (hw : s.tan.withhold = none ∨ s.tan.role ≠ .active) : exec (.tandemRecordReceived r t) s = .next (recordUsed r (recordNoted r t s)) := by
  have hyields : requesterYields r (recordNoted r t s) = recordNoted r t s := requesterYields_kept hw
  rw [exec_record hin hstate, noteRecord_advanceTo, hyields, matchingTwin_recordNoted, hmatch, if_neg (by decide)]

theorem faultInfo_285 : faultInfo 285 = some ⟨2, true, 1, false, false⟩ := by decide

theorem mismatch_raises (hcalm : Calm s) {r : MirrorRec} {t : Nat} (hin : r.intact = true) (hstate : s.dev.state ≠ .reset)
    (hmatch : matchingTwin r s = false) (hw : s.tan.withhold = none) (hidle : s.dev.state.idleOn = true) (hp : s.dev.porstN = true)
    (hr : s.dev.railHold = false) (hq : Quiet 285 s) :
    Goes (.tandemRecordReceived r t) s fun u => Latched u 285 ∧ u.tan.role = s.tan.role ∧ u.tan.last = some r := by
  have hnoted := frame_recordNoted r t s
  have hdev : (recordNoted r t s).dev = s.dev := hnoted.get State.dev
  have hframe := frame_raise_any (hnoted.calm hcalm) (src := 285) (by decide) []
  have htan : (raise 285 [] (recordNoted r t s)).tan = notedTan r s.tan := hframe.get State.tan
  refine goes_of_eq ((exec_record_mismatch hin hstate hmatch hw).trans (congrArg _ (if_pos hidle)))
    ⟨latched_raise faultInfo_285 (fun v => by cases v <;> rfl) ?_ ?_ ?_ [], ?_, ?_⟩
  · rw [hdev]; exact hp
  · rw [hdev]; exact hr
  · exact quiet_of_fcru (hnoted.get State.fcru) hq
  · rw [htan]; rfl
  · rw [htan]; rfl

theorem mismatch_early {r : MirrorRec} {t : Nat} (hin : r.intact = true) (hstate : s.dev.state ≠ .reset)
    (hmatch : matchingTwin r s = false) (hw : s.tan.withhold = none) (hidle : s.dev.state.idleOn = false) :
    Goes (.tandemRecordReceived r t) s fun u => u.fcru = s.fcru ∧ u.tan.role = s.tan.role ∧ u.tan.last = some r :=
  goes_of_eq ((exec_record_mismatch hin hstate hmatch hw).trans (congrArg _ (if_neg (by simp [hidle]))))
    ⟨(frame_recordNoted r t s).get State.fcru, rfl, rfl⟩

/-! ### An ISOLATED unit hears its ACTIVE twin (R428) -/

/-- A change of role clears FLT_TANDEM_VETO and no other source. -/
theorem quiet_setRole {k : Nat} (r : Role) (hq : Quiet k s) : Quiet k (setRole r s) := by
  unfold setRole
  extract_lets old
  split
  · exact hq
  · exact quiet_of_fcru ((frame_relight _).get State.fcru)
      (quiet_clear (quiet_of_fcru (((frame_event ..).get State.fcru).trans ((frame_vector (s := withRole r s) 12).get State.fcru)) hq))

theorem quiet_toResync {k : Nat} (hq : Quiet k s) : Quiet k (toResync s) := quiet_setRole .resync hq

theorem mayPair_recordNoted (r : MirrorRec) (t : Nat) (s : State) : mayPair (clear 285 (recordNoted r t s)) = mayPair s := by
  have hnoted : ∀ u : State, u.tan = s.tan → mayPair (withTan (notedTan r s.tan) u) = mayPair u := by
    intro u hu
    rw [← hu]
    rfl
  rw [(frame_clear (s := recordNoted r t s) 285).get mayPair, recordNoted, hnoted _ ((frame_advanceTo s t).get State.tan)]
  exact (frame_advanceTo s t).get mayPair

/-- An ACTIVE twin brings an ISOLATED unit to RESYNC, under the twin's epoch. -/
theorem resync_joined (hcalm : Calm s) {r : MirrorRec} (hr : r.role = .active) (hiso : s.tan.role = .isolated) (hpair : mayPair s = true)
    (hq : Quiet 285 s) :
    pairMarks (recordNow r (pairWith r s)).tan =
      pairMarks { roleTan .resync s.cyc.n s.tan with holdOff := true, holdOffDone := false, holdTick := s.now, mirrorEpoch := r.mirrorEpoch } ∧
    (recordNow r (pairWith r s)).dev.roleEpoch = s.dev.roleEpoch + 1 ∧ Quiet 285 (recordNow r (pairWith r s)) := by
  have hopen : MayChange .resync s := mayChange_of_mayPair hiso (by decide) hpair
  have hpaired : pairWith r s = toResync s := (if_neg (by rw [hpair, hiso]; decide)).trans (if_pos (by rw [hr]; decide))
  have htan := tan_toResync hopen
  have hdev : (toResync s).dev.roleEpoch = s.dev.roleEpoch + 1 := by
    rw [toResync, (frame_startHoldOff _).get State.dev, dev_setRole hopen]
  have hcalm' := (frame_toResync s).calm hcalm
  have hquiet := quiet_toResync hq
  rw [hpaired]
  generalize toResync s = p at htan hdev hcalm' hquiet
  have hfol : follower p = true := by rw [follower, htan]; rfl
  have htaken := frame_twinTaken r p
  have hjudged := frame_judgeTandemTime (htaken.calm hcalm')
  rw [recordNow_follower hfol hr, hjudged.get State.tan, marks_twinTaken, htan]
  exact ⟨rfl, (hjudged.get (·.dev.roleEpoch)).trans ((htaken.get (·.dev.roleEpoch)).trans hdev),
    quiet_levelSource (by decide) _ _ (quiet_of_fcru (htaken.get State.fcru) hquiet)⟩

theorem record_resynchronises (hcalm : Calm s) {r : MirrorRec} {t : Nat} (hin : r.intact = true) (hstate : s.dev.state ≠ .reset)
    (hmatch : matchingTwin r s = true) (hiso : s.tan.role = .isolated) (hpair : mayPair s = true) (hr : r.role = .active) :
    Goes (.tandemRecordReceived r t) s fun u => u.tan.role = .resync ∧ u.tan.last = some r ∧ u.tan.heardA = true ∧ u.tan.mirrorEpoch = r.mirrorEpoch ∧
      u.tan.holdOff = true ∧ u.dev.roleEpoch = s.dev.roleEpoch + 1 ∧ (rec? u 285).active = false := by
  have hexec := exec_record_match (t := t) hin hstate hmatch (.inr (by simp [hiso]))
  have hclear : Frame [.now, .time, .tan, .fcru] s (clear 285 (recordNoted r t s)) := .after (frame_clear ..) (frame_recordNoted r t s).mono
  have htan : (clear 285 (recordNoted r t s)).tan = notedTan r s.tan := (frame_clear ..).get State.tan
  have hepoch : (clear 285 (recordNoted r t s)).dev = s.dev := hclear.get State.dev
  have hmay := (mayPair_recordNoted r t s).trans hpair
  have hquiet : Quiet 285 (clear 285 (recordNoted r t s)) := clear_active 285 _
  have hcalm' := hclear.calm hcalm
  rw [recordUsed] at hexec
  generalize clear 285 (recordNoted r t s) = c at hexec htan hepoch hmay hquiet hcalm'
  obtain ⟨hmarks, hdev, hq⟩ := resync_joined hcalm' hr (by rw [htan]; exact hiso) hmay hquiet
  generalize recordNow r (pairWith r c) = j at hexec hmarks hdev hq
  have hframe := frame_recordAsks r j
  rw [← marks_recordAsks r j, htan] at hmarks
  refine goes_of_eq hexec ⟨(congrArg Tan.role hmarks :), (congrArg Tan.last hmarks :), (congrArg Tan.heardA hmarks :),
    (congrArg Tan.mirrorEpoch hmarks :), (congrArg Tan.holdOff hmarks :), ?_, ?_⟩
  · rw [hframe.get (·.dev.roleEpoch), hdev, hepoch]
  · exact quiet_of_fcru (hframe.get State.fcru) hq

/-- A HOST_BLOCK that the twin forwards is a block request of the ACTIVE unit (R332). -/
theorem record_blocks {r : MirrorRec} {t : Nat} (hin : r.intact = true) (hstate : s.dev.state ≠ .reset) (hmatch : matchingTwin r s = true)
    (hw : s.tan.withhold = none) (hact : s.tan.role = .active) (hblock : r.hostBlock = true) (hruns : runs s = true) :
    Goes (.tandemRecordReceived r t) s fun u => u.cyc.blockReq = true ∧ u.tan.role = .active ∧ u.dev.state = s.dev.state := by
  have hexec := exec_record_match (t := t) hin hstate hmatch (.inl hw)
  have hclear : Frame [.now, .time, .tan, .fcru] s (clear 285 (recordNoted r t s)) := .after (frame_clear ..) (frame_recordNoted r t s).mono
  have hrole : (clear 285 (recordNoted r t s)).tan.role = .active := by
    rw [(frame_clear (s := recordNoted r t s) 285).get State.tan]
    exact hact
  have hruns' : runs (clear 285 (recordNoted r t s)) = true := (hclear.get runs).trans hruns
  have hdev : (clear 285 (recordNoted r t s)).dev = s.dev := hclear.get State.dev
  rw [recordUsed] at hexec
  generalize clear 285 (recordNoted r t s) = c at hexec hrole hruns' hdev
  have hfol : follower c = false := by rw [follower, hrole]
  have hpair : pairWith r c = c := if_pos (by simp [hrole])
  have hasked : (if r.takeoverReq then requestHeard c else c) = c := by
    rw [requestHeard_kept (.inl hfol), ite_self]
  rw [hpair, recordNow_other hfol] at hexec
  have hasks : recordAsks r c = { c with cyc := { c.cyc with blockReq := true } } := by
    unfold recordAsks
    rw [hasked]
    exact if_pos (by simp [hblock, hrole, hruns'])
  refine goes_of_eq hexec ?_
  rw [hasks]
  exact ⟨rfl, hrole, congrArg Dev.state hdev⟩

/-! ### Towpaths and silence (R421, R423, R429) -/

/-- The count of a towpath that was heard, or was silent once more. -/
def silentCount (heard : Bool) (n : Nat) : Nat := if heard then 0 else n + 1

theorem pathJudge_count (heard : Bool) (n src : Nat) (s : State) : (pathJudge heard n src s).1 = silentCount heard n := by
  unfold pathJudge silentCount
  split <;> rfl

theorem frame_pathJudge (hcalm : Calm s) (heard : Bool) (n : Nat) {src : Nat} (hsrc : src ∉ [4, 7, 353, 357]) :
    Frame reactParts s (pathJudge heard n src s).2 := by
  unfold pathJudge
  split
  · exact (frame_clear ..).mono
  · exact .ite (frame_raise_any hcalm hsrc []) .refl

/-- Both towpaths are judged: their counts, and otherwise the two sources. -/
theorem frame_towpaths (hcalm : Calm s) (a b : Bool) :
    Frame reactParts (withTan { s.tan with silentA := silentCount a s.tan.silentA, silentB := silentCount b s.tan.silentB } s) (towpaths a b s) := by
  have hA := frame_pathJudge hcalm a s.tan.silentA (src := 301) (by decide)
  have hcountA := pathJudge_count a s.tan.silentA 301 s
  unfold towpaths
  generalize pathJudge a s.tan.silentA 301 s = x at hA hcountA
  obtain ⟨x, u⟩ := x
  dsimp only at hA hcountA ⊢
  have hB := frame_pathJudge (hA.calm hcalm) b u.tan.silentB (src := 302) (by decide)
  have hcountB := pathJudge_count b u.tan.silentB 302 u
  generalize pathJudge b u.tan.silentB 302 u = y at hB hcountB
  obtain ⟨y, v⟩ := y
  dsimp only at hB hcountB ⊢
  have hv : Frame reactParts s v := hA.trans hB
  have htan : v.tan = s.tan := hv.get State.tan
  have htanU : u.tan = s.tan := hA.get State.tan
  rw [hcountA, hcountB, htan, htanU]
  exact hv.get (fun w => erase reactParts (withTan { s.tan with silentA := silentCount a s.tan.silentA, silentB := silentCount b s.tan.silentB } w))

end Sys2Proof.Proofs
end

section
/-! Silence of the twin, heartbeats and links of the tandem pair (R269, R278, R420–R423, R429). -/

set_option Elab.async false

namespace Sys2Proof.Proofs
open Sys2Proof Sys2Proof.Machine Sys2Proof.Laws

variable {s : State}

/-! ### A beacon interval ends (R421, R423, R429) -/

/-- What of the pair's own state shows silence. -/
def silence (x : Tan) : Nat × Nat × Bool × Bool := (x.silentA, x.silentB, x.heardA, x.heardB)

/-- Both towpaths have been silent for the limit. -/
def silentBoth (s : State) : Bool := decide (parN s 0x52 0 6 ≤ s.tan.silentA) && decide (parN s 0x52 0 6 ≤ s.tan.silentB)

/-- A follower that hears nothing becomes ACTIVE, and any other unit keeps its role. -/
theorem silenceJudge_idle (hcalm : Calm s) :
    silence (silenceJudge true s).tan = silence s.tan ∧
    (follower s = true → silentBoth s = true → (silenceJudge true s).tan.role = .active ∧ (silenceJudge true s).tan.silenceTakeover = true) ∧
    (follower s = false → (silenceJudge true s).tan.role = s.tan.role) := by
  cases hf : follower s with
  | false =>
    have hsame : silenceJudge true s = s := if_pos (by simp [hf])
    rw [hsame]
    exact ⟨rfl, fun h => absurd h (by decide), fun _ => rfl⟩
  | true =>
    have hopen := mayChange_of_follower hf
    cases hs : silentBoth s with
    | false =>
      have hheard : silenceJudge true s = clear 309 (withTan { s.tan with veto := false } s) :=
        (if_neg (by simp [hf])).trans (if_pos (congrArg (!·) hs :))
      have htan : (silenceJudge true s).tan = { s.tan with veto := false } := by
        rw [hheard]
        exact (frame_clear ..).get State.tan
      rw [htan]
      exact ⟨rfl, fun _ h => absurd h (by decide), fun h => absurd h (by decide)⟩
    | true =>
      have htakes : silenceJudge true s = becomeActive true true s :=
        (if_neg (by simp [hf])).trans ((if_neg (Bool.eq_false_iff.mp (congrArg (!·) hs :))).trans (if_pos (by simp)))
      rw [htakes, tan_becomeActive hcalm hopen]
      exact ⟨rfl, fun _ _ => ⟨rfl, rfl⟩, fun h => absurd h (by decide)⟩

theorem exec_beaconIntervalJudge (hb : beaconing s = true) (hpair : pairMode s = true) : exec .beaconIntervalJudge s =
    .next (silenceJudge true (withTan { (towpaths s.tan.heardA s.tan.heardB s).tan with heardA := false, heardB := false }
      (towpaths s.tan.heardA s.tan.heardB s))) := congrArg Host.Outcome.next (if_pos (by simp [hb, hpair]))

/-- The pair's own state at the end of a beacon interval. -/
def intervalTan (x : Tan) : Tan := { x with
  silentA := silentCount x.heardA x.silentA, silentB := silentCount x.heardB x.silentB, heardA := false, heardB := false }

theorem beaconInterval_judges (hcalm : Calm s) (hb : beaconing s = true) (hpair : pairMode s = true) : Goes .beaconIntervalJudge s fun t =>
    t.tan.silentA = silentCount s.tan.heardA s.tan.silentA ∧ t.tan.silentB = silentCount s.tan.heardB s.tan.silentB ∧
    t.tan.heardA = false ∧ t.tan.heardB = false ∧
    (follower s = true → parN s 0x52 0 6 ≤ silentCount s.tan.heardA s.tan.silentA → parN s 0x52 0 6 ≤ silentCount s.tan.heardB s.tan.silentB →
      t.tan.role = .active ∧ t.tan.silenceTakeover = true) ∧
    (follower s = false → t.tan.role = s.tan.role) := by
  have hexec := exec_beaconIntervalJudge hb hpair
  have hpaths := frame_towpaths hcalm s.tan.heardA s.tan.heardB
  have htan := hpaths.get State.tan
  have hcfg : (towpaths s.tan.heardA s.tan.heardB s).cfg = s.cfg := hpaths.get State.cfg
  generalize towpaths s.tan.heardA s.tan.heardB s = p at hexec hpaths htan hcfg
  have hjudged : ({ p.tan with heardA := false, heardB := false } : Tan) = intervalTan s.tan := by rw [htan]; rfl
  rw [hjudged] at hexec
  have hcalm' : Calm (withTan (intervalTan s.tan) p) := calm_of_cfg_eq hcfg hcalm
  obtain ⟨hsilence, htakes, hkeeps⟩ := silenceJudge_idle hcalm'
  have hpar : parN (withTan (intervalTan s.tan) p) 0x52 0 6 = parN s 0x52 0 6 := by
    simp only [parN, par, armTab, withTan, hcfg]
  refine goes_of_eq hexec ⟨(congrArg (·.1) hsilence :), (congrArg (·.2.1) hsilence :), (congrArg (·.2.2.1) hsilence :),
    (congrArg (·.2.2.2) hsilence :), fun hf ha hb => htakes hf ?_, hkeeps⟩
  rw [silentBoth, hpar]
  exact (Bool.and_eq_true ..).mpr ⟨decide_eq_true ha, decide_eq_true hb⟩

/-! ### Heartbeats (R420, R435) -/

/-- A heartbeat that counts for a cycle closes a follower's CT on its twin's. -/
def hbJudged (n : CycleNo) (stamp : Nat) (s : State) : State :=
  if follower s then
    judgeTandemTime (twinPhase ((stamp : Int) - ((parN s 0x52 0 16 * 2 ^ 32 / 10 : Nat) : Int) - (cycleStartCt s n : Int)) s)
  else s

theorem hbJudged_keeps (hcalm : Calm s) (n : CycleNo) (stamp : Nat) :
    Frame (.time :: .tan :: reactParts) s (hbJudged n stamp s) ∧ pairMarks (hbJudged n stamp s).tan = pairMarks s.tan := by
  unfold hbJudged
  split
  · have hphase := frame_twinPhase ((stamp : Int) - ((parN s 0x52 0 16 * 2 ^ 32 / 10 : Nat) : Int) - (cycleStartCt s n : Int)) s
    have hjudged := frame_judgeTandemTime (hphase.calm hcalm)
    exact ⟨.after hjudged hphase.mono, (congrArg pairMarks (hjudged.get State.tan)).trans (marks_twinPhase _ s)⟩
  · exact ⟨.refl, rfl⟩

/-- The instant of an edge in CT. -/
def hbStamp (f : Nat) (a : State) : Nat := ctNow a + (ctIncrement a.time (slewStep (par a 0x32 0 2))).toNat * (f % 64) / 64

/-- What an edge of HB_RX does. -/
def hbTaken (f : Nat) (a : State) : State :=
  if !a.cyc.running then withTan { a.tan with heardB := true } a
  else if hbNear a a.cyc.n (hbStamp f a) then hbJudged a.cyc.n (hbStamp f a) (withTan { a.tan with heardB := true } a)
  else if hbNear a (a.cyc.n + 1) (hbStamp f a) then hbJudged (a.cyc.n + 1) (hbStamp f a) (withTan { a.tan with heardBNext := true } a)
  else a

theorem exec_hbRxEdge (t f : Nat) (s : State) : exec (.hbRxEdge t f) s = .next (hbTaken f (advanceTo t s)) := rfl

/-- Settles the clause of O54 on the edges of HB_RX: one within 1.0 µs of its instant is heard. -/
theorem hbRxEdge_heard (hcalm : Calm s) (t f : Nat) : let a := advanceTo t s
    let stamp := ctNow a + (ctIncrement a.time (slewStep (par s 0x32 0 2))).toNat * (f % 64) / 64
    (s.cyc.running = false → exec (.hbRxEdge t f) s = .next { a with tan := { a.tan with heardB := true } }) ∧
    (s.cyc.running = true → hbNear s s.cyc.n stamp = true → Goes (.hbRxEdge t f) s fun u => u.tan.heardB = true ∧ u.tan.role = s.tan.role ∧ u.cyc.n = s.cyc.n) ∧
    (s.cyc.running = true → hbNear s s.cyc.n stamp = false → hbNear s (s.cyc.n + 1) stamp = true →
      Goes (.hbRxEdge t f) s fun u => u.tan.heardBNext = true ∧ u.tan.heardB = s.tan.heardB ∧ u.cyc.n = s.cyc.n) ∧
    (s.cyc.running = true → hbNear s s.cyc.n stamp = false → hbNear s (s.cyc.n + 1) stamp = false → exec (.hbRxEdge t f) s = .next a) := by
  have hexec := exec_hbRxEdge t f s
  have hframe := frame_advanceTo s t
  have hcalm' := hframe.calm hcalm
  have hcyc : (advanceTo t s).cyc = s.cyc := hframe.get State.cyc
  have htan : (advanceTo t s).tan = s.tan := hframe.get State.tan
  have hpar : par (advanceTo t s) 0x32 0 2 = par s 0x32 0 2 := hframe.get (par · 0x32 0 2)
  have hnear : ∀ n k, hbNear (advanceTo t s) n k = hbNear s n k := fun n k => hframe.get (hbNear · n k)
  intro a stamp
  have hstamp : hbStamp f (advanceTo t s) = stamp := by rw [hbStamp, hpar]
  rw [hbTaken, hstamp, hcyc, hnear, hnear, htan] at hexec
  refine ⟨fun hstop => ?_, fun hrun hnow => ?_, fun hrun hnot hnext => ?_, fun hrun hnot hno => ?_⟩
  · rw [hexec, hstop, if_pos (by decide)]
    exact congrArg (fun x => Host.Outcome.next (withTan { x with heardB := true } (advanceTo t s))) htan.symm
  · rw [hrun, if_neg (by decide), if_pos hnow] at hexec
    obtain ⟨hj, hmarks⟩ := hbJudged_keeps (s := withTan { s.tan with heardB := true } (advanceTo t s)) hcalm' s.cyc.n stamp
    exact goes_of_eq hexec ⟨(congrArg Tan.heardB hmarks :), (congrArg Tan.role hmarks :), (hj.get (·.cyc.n)).trans (congrArg Cyc.n hcyc)⟩
  · rw [hrun, if_neg (by decide), if_neg (by simp [hnot]), if_pos hnext] at hexec
    obtain ⟨hj, hmarks⟩ := hbJudged_keeps (s := withTan { s.tan with heardBNext := true } (advanceTo t s)) hcalm' (s.cyc.n + 1) stamp
    exact goes_of_eq hexec ⟨(congrArg Tan.heardBNext hmarks :), (congrArg Tan.heardB hmarks :), (hj.get (·.cyc.n)).trans (congrArg Cyc.n hcyc)⟩
  · rw [hexec, hrun, if_neg (by decide), if_neg (by simp [hnot]), if_neg (by rw [hno]; decide)]

/-! ### Links (R252, R278, R419) -/

theorem faultInfo_300 : faultInfo 300 = some ⟨2, true, 1, false, false⟩ := by decide

/-- A lane without its link: its scan ends, and the session of its mailbox. -/
def tp1Lost (s : State) : State := scanDrop 9 (portChange 41 0 (withTan { s.tan with tp1Up := false } s))

theorem frame_tp1Lost (s : State) : Frame [.tan, .mbx, .stnScan] s (tp1Lost s) :=
  .after (frame_scanDrop ..) (.after (frame_portChange ..) (frame_withTan ..).mono)

theorem tan_tp1Lost (s : State) : (tp1Lost s).tan = { s.tan with tp1Up := false } :=
  ((frame_scanDrop ..).get State.tan).trans ((frame_portChange ..).get State.tan)

theorem closed_senderReset (n : Nat) (s : State) : Closed n (senderReset n s) := by
  have hrole := sessionOf_senderReset n s
  refine ⟨Option.isSome_eq_false_iff.mp hrole |> Option.isNone_iff_eq_none.mp, ?_⟩
  rw [mget_senderReset, if_pos rfl, sessionEnded]
  split <;> rfl

theorem tp1LinkLoss_ends (hcalm : Calm s) : Goes .tp1LinkLoss s fun t => t.tan.tp1Up = false ∧ sessionOf t 15 = false ∧
    (s.dev.porstN = true → s.dev.railHold = false → (rec? s 300).active = false → Latched t 300) := by
  have hlost : Frame [.tan, .mbx, .stnScan, .host, .pound] s (senderReset 15 (tp1Lost s)) := .after (frame_senderReset ..) (frame_tp1Lost s).mono
  have htan : (senderReset 15 (tp1Lost s)).tan = { s.tan with tp1Up := false } := ((frame_senderReset ..).get State.tan).trans (tan_tp1Lost s)
  have hclosed := closed_senderReset 15 (tp1Lost s)
  have hexec : exec .tp1LinkLoss s = .next (raise 300 [] (senderReset 15 (tp1Lost s))) := rfl
  generalize senderReset 15 (tp1Lost s) = u at hexec hlost htan hclosed
  have hraised := frame_raise_any (hlost.calm hcalm) (src := 300) (by decide) []
  obtain ⟨hrole, -⟩ := closed_raise hclosed 300 []
  refine goes_of_eq hexec ⟨?_, ?_, fun hp hr hx => latched_raise faultInfo_300 (fun v => by cases v <;> rfl) ?_ ?_ ?_ []⟩
  · rw [hraised.get State.tan, htan]
  · rw [sessionOf, hrole]; rfl
  · exact (hlost.get (·.dev.porstN)).trans hp
  · exact (hlost.get (·.dev.railHold)).trans hr
  · exact quiet_of_fcru (hlost.get State.fcru) hx

theorem tandemLinkUp_tp0 (hlock : s.clk.locked.getD 3 false = true) :
    Goes (.tandemLinkUp 0) s fun t => t.tan = { s.tan with tp0Up := true } ∧ ButMessages { s with tan := t.tan } t := by
  have hexec : exec (.tandemLinkUp 0) s = .next (portChange 40 1 (withTan { s.tan with tp0Up := true } s)) :=
    congrArg Host.Outcome.next (if_neg (by rw [hlock]; decide))
  have hframe := frame_portChange (s := withTan { s.tan with tp0Up := true } s) 40 1
  generalize portChange 40 1 (withTan { s.tan with tp0Up := true } s) = t at hexec hframe
  exact goes_of_eq hexec ⟨hframe.get State.tan, (hframe.get fun u => { u with tan := t.tan, mbx := s.mbx, host := s.host, stn := s.stn } :)⟩

theorem tandemLinkUp_tp1 (hlock : s.clk.locked.getD 3 false = true) :
    Goes (.tandemLinkUp 1) s fun t => t.tan = { s.tan with tp1Up := true } ∧ (rec? t 300).active = false ∧
      ButMessages { s with tan := t.tan, fcru := t.fcru } t := by
  have hexec : exec (.tandemLinkUp 1) s = .next (clear 300 (portChange 41 1 (withTan { s.tan with tp1Up := true } s))) :=
    congrArg Host.Outcome.next (if_neg (by rw [hlock]; decide))
  have hframe : Frame [.mbx, .fcru] (withTan { s.tan with tp1Up := true } s) (clear 300 (portChange 41 1 (withTan { s.tan with tp1Up := true } s))) :=
    .after (frame_clear ..) (frame_portChange ..).mono
  have hquiet := clear_active 300 (portChange 41 1 (withTan { s.tan with tp1Up := true } s))
  generalize clear 300 (portChange 41 1 (withTan { s.tan with tp1Up := true } s)) = t at hexec hframe hquiet
  exact goes_of_eq hexec ⟨hframe.get State.tan, hquiet,
    (hframe.get fun u => { u with tan := t.tan, fcru := t.fcru, mbx := s.mbx, host := s.host, stn := s.stn } :)⟩

/-- Settles O54: records, beacons, silence, heartbeats and links. -/
theorem tandemRecords : Obligations.TandemRecords := by
  unfold Obligations.TandemRecords
  intro s hcalm
  refine ⟨fun r t h => record_ignored h, fun r t hin hstate hmatch hiso hpair hr => record_resynchronises hcalm hin hstate hmatch hiso hpair hr,
    fun r t hin hstate hmatch hw hidle hp hr hq => mismatch_raises hcalm hin hstate hmatch hw hidle hp hr hq,
    fun r t hin hstate hmatch hw hidle => mismatch_early hin hstate hmatch hw hidle,
    fun r t hin hstate hmatch hw hact hblock hruns => record_blocks hin hstate hmatch hw hact hblock hruns,
    fun hb => goes_of_eq (congrArg Host.Outcome.next (if_pos hb)) ⟨rfl, rfl, rfl, rfl⟩,
    fun hb => ⟨congrArg Host.Outcome.next (if_neg (by simp [hb])), congrArg Host.Outcome.next (if_neg (by simp [hb]))⟩,
    fun hb hpair => beaconInterval_judges hcalm hb hpair, fun t f => hbRxEdge_heard hcalm t f, tp1LinkLoss_ends hcalm, fun l hl hlock => ?_,
    tandemLinkUp_tp0, tandemLinkUp_tp1⟩
  exact (if_pos (by simpa using hl)).trans (congrArg Host.Outcome.next (if_pos (by rw [hlock]; rfl)))

end Sys2Proof.Proofs
end

section
/-! What every assertion of a source keeps, beyond the frame of its parts: a property that the block resets keep (R372, R375). -/

set_option Elab.async false

namespace Sys2Proof.Proofs
open Sys2Proof Sys2Proof.Machine Sys2Proof.Laws

variable {s : State}

/-- A property that depends on nothing that a reaction writes outside its block reset, and that the block reset of a source keeps. -/
structure ResetProof (src : Nat) (P : State → Prop) : Prop where
  frame : ∀ {s t}, Frame signalParts s t → P s → P t
  reset : ∀ {s} d, faultDomain src = some d → P s → P (blockReset d s)

variable {P : State → Prop} {src : Nat}

theorem ResetProof.reactLow (hP : ResetProof src P) (f : FaultInfo) (lvl : Nat) (block : Bool) (h : P s) : P (reactLow src f lvl block s) := by
  unfold Machine.reactLow
  extract_lets signalled trapped reset
  have hsignalled : P signalled := hP.frame (.ite (frame_reactSignal s src f lvl).mono .refl) h
  have htrapped : P trapped := hP.frame (.ite (frame_reactTrap signalled src).mono .refl) hsignalled
  have hdomain : P (reactDomain src trapped) := by
    unfold reactDomain
    split
    · next d hd => exact hP.reset d hd htrapped
    · exact htrapped
  have hreset : P reset := by
    unfold reset
    split
    · exact hdomain
    · exact htrapped
  have hasked : Frame signalParts reset { reset with cyc := { reset.cyc with blockReq := true } } := Frame.mono (qs := [.cycReq]) rfl
  exact hP.frame (.ite hasked .refl) hreset

/-- An assertion below level 5 keeps what its block reset keeps. -/
theorem ResetProof.raise (hP : ResetProof src P) (hlvl : ∀ f, faultInfo src = some f → (appliedLevel s src f).1 ≠ 5) (d : List Byte)
    (h : P s) : P (raise src d s) := by
  unfold Machine.raise
  split
  · exact h
  · next f hf =>
    split
    · exact h
    · unfold assertSource
      extract_lets lvl logged
      have hlogged : P logged := hP.frame (.after (frame_trgFault ..) (frame_logSource ..).mono) h
      split
      · exact hlogged
      · have hlow : P (Machine.reactLow src f lvl (faultBlock s src) (noteReaction src lvl logged)) :=
          hP.reactLow _ _ _ (hP.frame (frame_noteReaction ..).mono hlogged)
        have hreact : P (if lvl = 5 then level5State (Machine.reactLow src f lvl (faultBlock s src) (noteReaction src lvl logged))
            else if lvl = 4 then react4 (faultBlock s src) (Machine.reactLow src f lvl (faultBlock s src) (noteReaction src lvl logged))
            else Machine.reactLow src f lvl (faultBlock s src) (noteReaction src lvl logged)) := by
          rw [if_neg (hlvl f hf)]
          exact hP.frame (.ite ((frame_react4 _ _).mono) .refl) hlow
        exact hreact

/-! ### Lanes and links at an assertion -/

theorem frame_fabricReset (s : State) : Frame [.fcru, .graph, .free, .arms, .cycFabric, .devBlock] s (blockReset .fabric s) := by
  unfold blockReset
  dsimp -zeta only
  extract_lets _ back lanes cleared freed home place moved _ placed
  have hcleared : Frame [.fcru, .graph] s cleared := .ite ((frame_clear ..).mono) rfl
  have hplaced : Frame [.fcru, .graph] s placed := .ite (hcleared.step (qs := [.graph]) rfl) hcleared
  exact hplaced.mono.step (qs := [.graph, .free, .arms, .cycFabric, .devBlock]) rfl

/-- A port that is not dark is not made so by a relock, and one in RELOCK stays there (R180, R375). -/
theorem lane_portRelock (q : Nat) (s : State) (p : Nat) : (port (portRelock q s) p).lane = (port s p).lane ∨
    ((port s p).lane ≠ .dark ∧ (port (portRelock q s) p).lane = .relock) := by
  unfold portRelock
  extract_lets x
  split
  · exact .inl rfl
  · next hx =>
    rw [(frame_portChange ..).get (port · p)]
    by_cases hp : p = q
    · subst hp
      refine .inr ⟨fun hd => hx (.inl hd), ?_⟩
      simp [port]
    · exact .inl (by simp [port, Ne.symm hp])

theorem resetProof_lane {C : LaneState → Prop} (p : Nat) (hrelock : ∀ l, l ≠ .dark → C l → C .relock) :
    ResetProof src fun s => C (port s p).lane where
  frame h hC := by rwa [h.get (fun s => (port s p).lane)]
  reset := by
    intro s d _ hC
    cases d with
    | basinPort q =>
      rcases lane_portRelock q { s with dev := { s.dev with blockReset := s.dev.blockReset ++ [.basinPort q] } } p with h | ⟨hdark, h⟩
      · exact h ▸ hC
      · exact h ▸ hrelock _ hdark hC
    | stationPort q => rwa [blockReset, (frame_linkDown ..).get (fun s => (port s p).lane)]
    | pulseChannel c => exact hC
    | fabric => rwa [(frame_fabricReset s).get (fun s => (port s p).lane)]

/-- A station port that is down comes up by no fall of a link. -/
theorem down_linkDown (q : Nat) {p : Nat} (h : (stp s p).up = false) : (stp (linkDown q s) p).up = false := by
  unfold linkDown
  split
  · rw [(frame_scanDrop ..).get (stp · p), (frame_portChange ..).get (stp · p)]
    by_cases hq : q = p
    · subst hq
      simp [stp, SMap.upd]
    · simpa [stp, SMap.upd, hq] using h
  · exact h

theorem down_linkDown_same (p : Nat) (s : State) : (stp (linkDown p s) p).up = false := by
  unfold linkDown
  split
  · rw [(frame_scanDrop ..).get (stp · p), (frame_portChange ..).get (stp · p)]
    simp [stp, SMap.upd]
  · next h => exact Bool.eq_false_iff.mpr h

theorem resetProof_down (p : Nat) : ResetProof src fun s => (stp s p).up = false where
  frame h hdown := by rwa [h.get (fun s => (stp s p).up)]
  reset := by
    intro s d _ hdown
    cases d with
    | basinPort q =>
      rw [blockReset, (frame_portRelock ..).get (fun s => (stp s p).up)]
      exact hdown
    | stationPort q => exact down_linkDown q hdown
    | pulseChannel c => exact hdown
    | fabric => rwa [(frame_fabricReset s).get (fun s => (stp s p).up)]

end Sys2Proof.Proofs
end

section
/-! Loss and relock of the phase-locked loops (R273, R275–R278). -/

set_option Elab.async false

namespace Sys2Proof.Proofs
open Sys2Proof Sys2Proof.Machine Sys2Proof.Laws

variable {s : State}

/-- The steps of a fold compose where each starts from a calm configuration. -/
theorem Frame.foldl_calm {α : Type} {ps : List Part} {f : State → α → State} (xs : List α) (hcalm : Calm s)
    (hf : ∀ x, Calm x → ∀ a ∈ xs, Frame ps x (f x a)) (hcfg : ∀ u, State.cfg (erase ps u) = u.cfg := by intro u; rfl) : Frame ps s (xs.foldl f s) :=
  List.foldlRecOn xs f .refl fun x hx a ha => hx.trans (hf x (calm_of_cfg_eq (hx.get State.cfg hcfg) hcalm) a ha)

/-! ### The assertion of a loop's loss -/

theorem frame_setLock (l : Pll) (v : Bool) (s : State) : Frame [.clk] s (setLock l v s) := rfl

theorem locked_setLock {l : Pll} (hlen : s.clk.locked.length = 5) (v d : Bool) : (setLock l v s).clk.locked.getD (pllIndex l) d = v := by
  have hl : pllIndex l < s.clk.locked.length := by rw [hlen]; cases l <;> decide
  simp [setLock, hl]

/-- The state once the loss of a loop alone is asserted. -/
def loopGone (l : Pll) (s : State) : State := raise (pllSource l) (be 1 (pllIndex l)) (setLock l false s)

/-- No level of a loop's source brings a reset: for PLL-A its own level decides. -/
def LoopCalm (l : Pll) (s : State) : Prop := l = .a → faultLevel s 7 < 4 ∨ faultLevel s 7 = 4 ∧ pendingOf s 0 = 0

theorem faultInfo_7 : faultInfo 7 = some ⟨0, true, 4, true, false⟩ := by decide

theorem appliedLevel_loop (hcalm : Calm s) {l : Pll} (ha : LoopCalm l s) : ∀ f, faultInfo (pllSource l) = some f → (appliedLevel s (pllSource l) f).1 ≠ 5 := by
  intro f hf
  cases l
  case a =>
    rcases ha rfl with h | ⟨h, hnone⟩
    · have hle : (appliedLevel s (pllSource .a) f).1 ≤ faultLevel s 7 + 1 := appliedLevel_le s 7 f
      omega
    · obtain rfl := Option.some.inj (faultInfo_7.symm.trans hf)
      show (appliedLevel s 7 _).1 ≠ 5
      simp [appliedLevel, h, hnone]
  all_goals exact appliedLevel_ne_five hcalm (by decide) hf

theorem frame_loopGone (hcalm : Calm s) {l : Pll} (ha : LoopCalm l s) : Frame signalParts (setLock l false s) (loopGone l s) := by
  have hframe : Frame (raiseParts (pllSource l)) (setLock l false s) (loopGone l s) :=
    frame_raise_of_level (appliedLevel_loop (calm_setLock hcalm l false) ha) _
  rwa [raiseParts, if_pos (by cases l <;> decide)] at hframe

theorem latched_loopGone {l : Pll} (hp : s.dev.porstN = true) (hr : s.dev.railHold = false) (hx : (rec? s (pllSource l)).active = false) :
    Latched (loopGone l s) (pllSource l) := by
  have hrow : ∃ f, faultInfo (pllSource l) = some f := by
    cases l
    exacts [⟨_, faultInfo_timebaseLoop (.inl rfl)⟩, ⟨_, faultInfo_timebaseLoop (.inr rfl)⟩, ⟨_, faultInfo_7⟩, ⟨⟨2, true, 1, false, false⟩, by decide⟩,
      ⟨⟨2, true, 1, false, false⟩, by decide⟩]
  obtain ⟨f, hf⟩ := hrow
  have hpresent : ∀ v, faultAbsent v (pllSource l) = false := fun v => by cases l <;> cases v <;> rfl
  unfold loopGone
  exact latched_raise (s := setLock l false s) hf hpresent hp hr hx _

theorem nPorts_loopGone (hcalm : Calm s) {l : Pll} (ha : LoopCalm l s) : nPorts (loopGone l s) = nPorts s :=
  (frame_loopGone hcalm ha).get nPorts

/-! ### What the loss of each loop brings (R276, R277) -/

/-- The loss of the timebase takes both loops. -/
def BothLost (l : Pll) (s : State) : Prop :=
  (l = .c ∧ s.clk.onE = false ∧ s.clk.locked.getD 1 false = false) ∨ (l = .e ∧ s.clk.onE = true ∧ s.clk.locked.getD 0 false = false)

/-- A timebase loop hands over where it drives. -/
def handOver (l : Pll) (s t : State) : State := if (s.clk.onE == (l == .e)) then { t with clk := { t.clk with onE := !t.clk.onE } } else t

theorem pllLost_timebase {l : Pll} (hl : l = .c ∨ l = .e) (hone : ¬BothLost l s) : pllLost l s = handOver l s (loopGone l s) := by
  rcases hl with rfl | rfl
  · cases honE : s.clk.onE with
    | false =>
      have htwin : s.clk.locked.getD 1 false = true := by
        rw [← Bool.not_eq_false]
        exact fun h => hone (.inl ⟨rfl, honE, h⟩)
      simp only [pllLost, honE, htwin, handOver]
      rfl
    | true =>
      simp only [pllLost, honE, handOver]
      rfl
  · cases honE : s.clk.onE with
    | true =>
      have htwin : s.clk.locked.getD 0 false = true := by
        rw [← Bool.not_eq_false]
        exact fun h => hone (.inr ⟨rfl, honE, h⟩)
      simp only [pllLost, honE, htwin, handOver]
      rfl
    | false =>
      simp only [pllLost, honE, handOver]
      rfl

/-- The loss of a loop that does not drive the timebase (R276). -/
theorem pllLost_other {l : Pll} (hc : l ≠ .c) (he : l ≠ .e) : pllLost l s = match l with
    | .a => (List.range (nPorts (loopGone .a s))).foldl (fun s q => portLol q s) (loopGone .a s)
    | .b => stationDrop (loopGone .b s)
    | .d => (List.range 8).foldl (fun s n => senderReset n s) { loopGone .d s with host := { (loopGone .d s).host with cfgReady := false } }
    | _ => loopGone l s := by
  unfold pllLost
  extract_lets drives twin unlocked gone
  have hidle : ¬(drives && !twin) = true := by simp [drives, hc, he]
  rw [if_neg hidle]
  cases l
  case c => exact absurd rfl hc
  case e => exact absurd rfl he
  all_goals rfl

/-! ### PLL-A: every lit lane relocks (R180, R276) -/

theorem frame_portLol (hcalm : Calm s) {q : Nat} (hq : q < 32) : Frame reactParts s (portLol q s) := by
  have hrelock := frame_portRelock (s := s) q
  exact .ite .refl (.after (frame_raise_any (hrelock.calm hcalm) (by simp; omega) _) hrelock.mono)

theorem lane_portLol {C : LaneState → Prop} {p : Nat} (hrelock : ∀ l, l ≠ .dark → C l → C .relock) (hcalm : Calm s) {q : Nat} (hq : q < 32)
    (hC : C (port s p).lane) : C (port (portLol q s) p).lane := by
  unfold portLol
  split
  · exact hC
  · have hcalm' := (frame_portRelock (s := s) q).calm hcalm
    have hC' : C (port (portRelock q s) p).lane := by
      rcases lane_portRelock q s p with h | ⟨hdark, h⟩
      · exact h ▸ hC
      · exact h ▸ hrelock _ hdark hC
    exact (resetProof_lane p hrelock).raise (fun f hf => appliedLevel_ne_five hcalm' (by simp; omega) hf) _ hC'

theorem relock_portLol (hcalm : Calm s) {p : Nat} (hp : p < 32) (hlit : (port s p).lane ≠ .dark) : (port (portLol p s) p).lane = .relock := by
  unfold portLol
  rw [if_neg hlit]
  have hcalm' := (frame_portRelock (s := s) p).calm hcalm
  have hlane : (port (portRelock p s) p).lane = .relock := by
    unfold portRelock
    extract_lets x
    split
    · next hx => exact hx.resolve_left hlit
    · rw [(frame_portChange ..).get (port · p)]
      simp [port]
  exact (resetProof_lane p (C := (· = .relock)) fun _ _ _ => rfl).raise (fun f hf => appliedLevel_ne_five hcalm' (by simp; omega) hf) _ hlane

theorem relock_foldl {xs : List Nat} (hxs : ∀ q ∈ xs, q < 32) (hcalm : Calm s) {p : Nat} (hlit : (port s p).lane ≠ .dark)
    (hp : p ∈ xs ∨ (port s p).lane = .relock) : (port (xs.foldl (fun s q => portLol q s) s) p).lane = .relock := by
  induction xs generalizing s with
  | nil => exact hp.resolve_left (by simp)
  | cons q xs ih =>
    have hq : q < 32 := hxs q List.mem_cons_self
    have hcalm' := (frame_portLol hcalm hq).calm hcalm
    have hlit' : (port (portLol q s) p).lane ≠ .dark := lane_portLol (C := (· ≠ .dark)) (fun _ _ _ => by decide) hcalm hq hlit
    refine ih (fun k hk => hxs k (List.mem_cons_of_mem q hk)) hcalm' hlit' ?_
    by_cases hpq : p = q
    · exact .inr (hpq ▸ relock_portLol hcalm (hpq ▸ hq) hlit)
    · rcases hp with hp | hp
      · exact .inl ((List.mem_cons.mp hp).resolve_left hpq)
      · exact .inr (lane_portLol (C := (· = .relock)) (fun _ _ _ => rfl) hcalm hq hp)

/-! ### PLL-B: every station port and both tandem lanes drop (R276) -/

theorem frame_stationDown (hcalm : Calm s) {p : Nat} (hp : p < 8) :
    Frame reactParts s (if (s.stn.ports.get p {}).up then raise (252 + p) (be 1 p) (linkDown p s) else s) := by
  have hdown := frame_linkDown (s := s) p
  exact .ite (.after (frame_raise_any (hdown.calm hcalm) (by simp; omega) _) hdown.mono) .refl

/-- Every station port goes down. -/
def stationsDown (s : State) : State :=
  (List.range 8).foldl (fun s p => if (s.stn.ports.get p {}).up then raise (252 + p) (be 1 p) (linkDown p s) else s) s

theorem frame_stationsDown (hcalm : Calm s) : Frame reactParts s (stationsDown s) :=
  .foldl_calm _ hcalm fun _ hx _ hp => frame_stationDown hx (List.mem_range.mp hp)

theorem down_foldl {xs : List Nat} (hxs : ∀ q ∈ xs, q < 8) (hcalm : Calm s) {p : Nat} (hp : p ∈ xs ∨ (stp s p).up = false) :
    (stp (xs.foldl (fun s p => if (s.stn.ports.get p {}).up then raise (252 + p) (be 1 p) (linkDown p s) else s) s) p).up = false := by
  induction xs generalizing s with
  | nil => exact hp.resolve_left (by simp)
  | cons q xs ih =>
    have hq : q < 8 := hxs q List.mem_cons_self
    refine ih (fun k hk => hxs k (List.mem_cons_of_mem q hk)) ((frame_stationDown hcalm hq).calm hcalm) ?_
    have hcalm' := (frame_linkDown (s := s) q).calm hcalm
    have hraise : (stp (linkDown q s) p).up = false → (stp (raise (252 + q) (be 1 q) (linkDown q s)) p).up = false :=
      (resetProof_down p).raise (fun f hf => appliedLevel_ne_five hcalm' (by simp; omega) hf) _
    by_cases hpq : p = q
    · subst hpq
      right
      dsimp only
      split
      · exact hraise (down_linkDown_same p s)
      · next h => exact Bool.eq_false_iff.mpr h
    · rcases hp with hp | hp
      · exact .inl ((List.mem_cons.mp hp).resolve_left hpq)
      · right
        dsimp only
        split
        · exact hraise (down_linkDown q hp)
        · exact hp

/-- After the ports only the scan and the marks of the tandem lanes follow. -/
theorem frame_stationDrop (s : State) : Frame [.stnScan, .mbx, .tan] (stationsDown s) (stationDrop s) := by
  unfold stationDrop
  extract_lets down t u
  have ht : Frame [.stnScan, .mbx] down t := .ite (.after (frame_portChange ..) (frame_scanDrop ..)) .refl
  have hu : Frame [.stnScan, .mbx] down u := ht.trans (.ite (.after (frame_portChange ..) (frame_scanDrop ..)) .refl)
  exact .after (frame_withTan ..) hu.mono

theorem stationDrop_down (hcalm : Calm s) : (∀ p, p < 8 → (stp (stationDrop s) p).up = false) ∧ (stationDrop s).tan.tp0Up = false ∧
    (stationDrop s).tan.tp1Up = false := by
  refine ⟨fun p hp => ?_, rfl, rfl⟩
  rw [(frame_stationDrop s).get (stp · p)]
  exact down_foldl (fun q hq => List.mem_range.mp hq) hcalm (.inl (List.mem_range.mpr hp))

/-! ### PLL-D: the configuration of the endpoint goes (R276, R322) -/

theorem cfgReady_vector (v : Nat) (s : State) : (vector v s).host.cfgReady = s.host.cfgReady := by
  unfold vector
  split
  · rfl
  · split <;> rfl

theorem cfgReady_intBit (n b : Nat) (s : State) : (intBit n b s).host.cfgReady = s.host.cfgReady := by
  unfold intBit
  extract_lets m rise marked told
  have htold : told.host.cfgReady = s.host.cfgReady := ite_keeps (fun t : State => t.host.cfgReady) _ (cfgReady_vector n marked)
  rw [← htold]
  exact ite_keeps (fun t : State => t.host.cfgReady) _ rfl

theorem cfgReady_senderReset (n : Nat) (s : State) : (senderReset n s).host.cfgReady = s.host.cfgReady := by
  unfold senderReset senderEnd endSession
  extract_lets m inSide queued left g dropped m' owner had closed told
  have htold : told.host.cfgReady = s.host.cfgReady := by
    unfold told
    split
    · exact cfgReady_intBit n 2 closed
    · rfl
  rw [← htold]
  exact ite_keeps (fun t : State => t.host.cfgReady) _ rfl

end Sys2Proof.Proofs
end

section
/-! The losses and relocks of the phase-locked loops, loop by loop (R273, R275–R278). -/

set_option Elab.async false

namespace Sys2Proof.Proofs
open Sys2Proof Sys2Proof.Machine Sys2Proof.Laws

variable {s : State}

theorem exec_pllLossOfLock {l : Pll} (hlock : s.clk.locked.getD (pllIndex l) false = true) : exec (.pllLossOfLock l) s = .next (pllLost l s) :=
  congrArg Host.Outcome.next (if_pos hlock)

theorem clk_loopGone (hcalm : Calm s) {l : Pll} (ha : LoopCalm l s) : (loopGone l s).clk = (setLock l false s).clk :=
  (frame_loopGone hcalm ha).get State.clk

theorem frame_handOver (l : Pll) (s t : State) : Frame [.clk] t (handOver l s t) := .ite rfl .refl

theorem locked_handOver (l : Pll) (s t : State) : (handOver l s t).clk.locked = t.clk.locked := by
  unfold handOver
  split <;> rfl

/-- The driver changes where the loop that is lost drives. -/
theorem onE_handOver (l : Pll) {s t : State} (h : t.clk.onE = s.clk.onE) :
    (handOver l s t).clk.onE = if (s.clk.onE == (l == .e)) then !s.clk.onE else s.clk.onE := by
  unfold handOver
  split
  · exact congrArg not h
  · exact h

/-- A timebase loop is lost alone. -/
theorem timebaseLoop_lost (hcalm : Calm s) (hlen : s.clk.locked.length = 5) {l : Pll} (hl : l = .c ∨ l = .e) (hone : ¬BothLost l s)
    (hp : s.dev.porstN = true) (hr : s.dev.railHold = false) (hx : (rec? s (pllSource l)).active = false) :
    Latched (pllLost l s) (pllSource l) ∧ (pllLost l s).clk.locked.getD (pllIndex l) true = false ∧ (pllLost l s).cfg = s.cfg ∧
    (pllLost l s).clk.onE = (if (s.clk.onE == (l == .e)) then !s.clk.onE else s.clk.onE) ∧ (pllLost l s).cyc.running = s.cyc.running := by
  have ha : LoopCalm l s := fun h => by rcases hl with rfl | rfl <;> cases h
  have hgone := frame_loopGone hcalm ha
  have hclk := clk_loopGone hcalm ha
  have hhand := frame_handOver l s (loopGone l s)
  have hlatched := latched_loopGone hp hr hx
  rw [pllLost_timebase hl hone, onE_handOver l (s := s) (congrArg Clk.onE hclk :), locked_handOver, hclk]
  exact ⟨(Iff.of_eq (hhand.get (Latched · (pllSource l)))).mpr hlatched, locked_setLock hlen false true, (hhand.get State.cfg).trans (hgone.get State.cfg), rfl,
    (hhand.get (·.cyc.running)).trans (hgone.get (·.cyc.running))⟩

theorem pllA_lost (hcalm : Calm s) (hlen : s.clk.locked.length = 5) (ha : LoopCalm .a s)
    (hp : s.dev.porstN = true) (hr : s.dev.railHold = false) (hx : (rec? s (pllSource .a)).active = false) :
    Latched (pllLost .a s) (pllSource .a) ∧ (pllLost .a s).clk.locked.getD (pllIndex .a) true = false ∧ (pllLost .a s).cfg = s.cfg ∧
    ∀ p, p < nPorts s → (port s p).lane ≠ .dark → (port (pllLost .a s) p).lane = .relock := by
  have hgone := frame_loopGone hcalm ha
  have hclk := clk_loopGone hcalm ha
  have hcalm' : Calm (loopGone .a s) := hgone.calm hcalm
  have hports := nPorts_loopGone hcalm ha
  have hsmall : ∀ q ∈ List.range (nPorts (loopGone .a s)), q < 32 := by
    intro q hq
    have := List.mem_range.mp hq
    have : nPorts (loopGone .a s) ≤ 32 := by unfold nPorts; split <;> omega
    omega
  have hfold : Frame reactParts (loopGone .a s) (pllLost .a s) := by
    rw [pllLost_other (by decide) (by decide)]
    exact .foldl_calm _ hcalm' fun x hx q hq => frame_portLol hx (hsmall q hq)
  refine ⟨?_, ?_, (hfold.get State.cfg).trans (hgone.get State.cfg), fun p hp hlit => ?_⟩
  · rw [pllLost_other (by decide) (by decide)]
    exact Latched.kept (latched_loopGone hp hr hx) (.foldl _ _ (.self true (loopGone .a s)) fun x q hx => kept_portLol q x hx)
  · rw [hfold.get State.clk, hclk]
    exact locked_setLock hlen false true
  · rw [pllLost_other (by decide) (by decide)]
    refine relock_foldl hsmall hcalm' ?_ (.inl (List.mem_range.mpr (hports ▸ hp)))
    rwa [hgone.get (fun t => (port t p).lane)]

theorem pllB_lost (hcalm : Calm s) (hlen : s.clk.locked.length = 5)
    (hp : s.dev.porstN = true) (hr : s.dev.railHold = false) (hx : (rec? s (pllSource .b)).active = false) :
    Latched (pllLost .b s) (pllSource .b) ∧ (pllLost .b s).clk.locked.getD (pllIndex .b) true = false ∧ (pllLost .b s).cfg = s.cfg ∧
    (∀ p, p < 8 → (stp (pllLost .b s) p).up = false) ∧ (pllLost .b s).tan.tp0Up = false ∧ (pllLost .b s).tan.tp1Up = false := by
  have ha : LoopCalm .b s := fun h => by cases h
  have hgone := frame_loopGone hcalm ha
  have hclk := clk_loopGone hcalm ha
  have hcalm' : Calm (loopGone .b s) := hgone.calm hcalm
  have hdrop : Frame (.tan :: reactParts) (loopGone .b s) (pllLost .b s) := by
    rw [pllLost_other (by decide) (by decide)]
    exact .after (frame_stationDrop _) (frame_stationsDown hcalm').mono
  have hlatched : Latched (pllLost .b s) (pllSource .b) := by
    rw [pllLost_other (by decide) (by decide)]
    exact Latched.kept (latched_loopGone hp hr hx) (kept_stationDrop _ (.self ..))
  have hdown : (∀ p, p < 8 → (stp (pllLost .b s) p).up = false) ∧ (pllLost .b s).tan.tp0Up = false ∧ (pllLost .b s).tan.tp1Up = false := by
    rw [pllLost_other (by decide) (by decide)]
    exact stationDrop_down hcalm'
  refine ⟨hlatched, ?_, (hdrop.get State.cfg).trans (hgone.get State.cfg), hdown⟩
  rw [hdrop.get State.clk, hclk]
  exact locked_setLock hlen false true

/-- The endpoint's configuration is gone. -/
def unconfigured (s : State) : State := { s with host := { s.host with cfgReady := false } }

theorem frame_unconfigured (s : State) : Frame [.host] s (unconfigured s) := rfl

theorem pllD_lost (hcalm : Calm s) (hlen : s.clk.locked.length = 5)
    (hp : s.dev.porstN = true) (hr : s.dev.railHold = false) (hx : (rec? s (pllSource .d)).active = false) :
    Latched (pllLost .d s) (pllSource .d) ∧ (pllLost .d s).clk.locked.getD (pllIndex .d) true = false ∧ (pllLost .d s).cfg = s.cfg ∧
    (pllLost .d s).host.cfgReady = false := by
  have ha : LoopCalm .d s := fun h => by cases h
  have hgone := frame_loopGone hcalm ha
  have hclk := clk_loopGone hcalm ha
  have hlost : pllLost .d s = (List.range 8).foldl (fun s n => senderReset n s) (unconfigured (loopGone .d s)) := pllLost_other (by decide) (by decide)
  have hreset : Frame [.mbx, .host, .pound] (unconfigured (loopGone .d s)) (pllLost .d s) := by
    rw [hlost]
    exact .foldl _ .refl fun _ _ _ => frame_senderReset ..
  have hgoes : Frame [.mbx, .host, .pound] (loopGone .d s) (pllLost .d s) := hreset.after (frame_unconfigured _).mono
  refine ⟨(Iff.of_eq (hgoes.get (Latched · (pllSource .d)))).mpr (latched_loopGone hp hr hx), ?_, (hgoes.get State.cfg).trans (hgone.get State.cfg), ?_⟩
  · rw [hgoes.get State.clk, hclk]
    exact locked_setLock hlen false true
  · rw [hlost]
    exact foldl_keeps (fun t : State => t.host.cfgReady) _ _ _ fun _ _ => cfgReady_senderReset ..

/-! ### Both timebase loops are lost (R276) -/

theorem state_react4_stopped (block : Bool) (hreset : s.dev.state ≠ .reset) (hrun : s.cyc.running = false) :
    (react4 block s).dev.state = .faulted := by
  by_cases hf : s.dev.state = .faulted
  · have hsame : react4 block s = s := by unfold react4; rw [hf]
    rw [hsame, hf]
  · exact (react4_of_stopped block hreset hf hrun).1

def cycleOff (s : State) : State := { s with cyc := { s.cyc with running := false } }

/-- The cycle stops, and the HWSL blocks. -/
def cycleStopped (s : State) : State := pulStop (cycleOff (hwslTrip 0 0 0 0 s))

theorem frame_cycleOff (s : State) : Frame [.cyc] s (cycleOff s) := rfl

theorem frame_cycleStopped (s : State) : Frame [.srb, .cyc, .mbx, .cap, .store, .pul] s (cycleStopped s) :=
  .after (frame_pulStop _) (.after (frame_cycleOff _) (frame_hwslTrip 0 0 0 0 s).mono)

theorem timebaseLost_eq (s : State) : timebaseLost s = raise 6 [] (cycleStopped s) := rfl

theorem frame_timebaseLost (s : State) : Frame (.cyc :: reactParts) s (timebaseLost s) := by
  rw [timebaseLost_eq]
  have hraise : Frame reactParts (cycleStopped s) (raise 6 [] (cycleStopped s)) :=
    (frame_raise_fixed faultInfo_timebaseLost rfl (by decide) [] (cycleStopped s)).mono (raiseParts_subset_reactParts 6)
  exact .after hraise (frame_cycleStopped s).mono

theorem timebaseLost_faults (hp : s.dev.porstN = true) (hr : s.dev.railHold = false) (hx : (rec? s 6).active = false)
    (hreset : s.dev.state ≠ .reset) : (timebaseLost s).dev.state = .faulted := by
  have hstop := frame_cycleStopped s
  have hdev : (cycleStopped s).dev = s.dev := hstop.get State.dev
  have hrun : (cycleStopped s).cyc.running = false := rfl
  have hx' : (rec? (cycleStopped s) 6).active = false := quiet_of_fcru (hstop.get State.fcru) hx
  rw [timebaseLost_eq]
  generalize cycleStopped s = u at hdev hrun hx'
  obtain ⟨low, hlow, hraise⟩ := raise_eq_react4 (s := u) [] faultInfo_timebaseLost (by cases u.dev.variant <;> rfl) (by rw [hdev]; exact hp)
    (by rw [hdev]; exact hr) hx' (by rw [appliedLevel_of_fixed faultInfo_timebaseLost rfl]) (by rw [hdev]; exact hreset)
  have hstate : low.dev.state = u.dev.state := hlow.get (·.dev.state)
  have hrun' : low.cyc.running = u.cyc.running := hlow.get (·.cyc.running)
  rw [hraise]
  exact state_react4_stopped _ (by rw [hstate, hdev]; exact hreset) (hrun'.trans hrun)

theorem both_lost (hlen : s.clk.locked.length = 5) {l : Pll} (hboth : BothLost l s) (hp : s.dev.porstN = true) (hr : s.dev.railHold = false)
    (hx : (rec? s (pllSource l)).active = false) :
    (pllLost l s).clk.locked.getD (pllIndex l) true = false ∧ (pllLost l s).cfg = s.cfg ∧
    ((rec? s 6).active = false → s.dev.state ≠ .reset →
      (pllLost l s).cyc.running = false ∧ Latched (pllLost l s) 6 ∧ (pllLost l s).dev.state = .faulted ∧ (rec? (pllLost l s) (pllSource l)).active = false) := by
  have hne : pllSource l ≠ 6 := by cases l <;> decide
  have hlost := frame_timebaseLost (setLock l false s)
  obtain ⟨hrun, -⟩ := timebaseLost_stops_and_trips (setLock l false s)
  rw [pllLost_eq_timebaseLost hboth, hlost.get State.clk, hlost.get State.cfg]
  refine ⟨locked_setLock hlen false true, rfl, fun h6 hreset => ⟨hrun, timebaseLost_latches hp hr h6, timebaseLost_faults hp hr h6 hreset, ?_⟩⟩
  rw [timebaseLost_eq]
  have hstop := frame_cycleStopped (setLock l false s)
  exact quiet_raise hne [] (quiet_of_fcru (hstop.get State.fcru) hx)

/-! ### A loop relocks (R275, R277, R278) -/

/-- The loop is locked again, its band from the cache or from a full search. -/
def loopLocked (l : Pll) (miss : Bool) (s : State) : State :=
  clear (pllSource l) (setLock l true (if miss then bandMiss (16 * (42 + pllIndex l)) s else s))

theorem frame_loopLocked (l : Pll) (miss : Bool) (s : State) : Frame [.clk, .fcru] s (loopLocked l miss s) := by
  have hband : Frame [.clk] s (if miss then bandMiss (16 * (42 + pllIndex l)) s else s) := .ite rfl .refl
  exact .after (frame_clear ..) (.after (frame_setLock ..) hband.mono)

theorem clk_loopLocked (l : Pll) (miss : Bool) (s : State) :
    (loopLocked l miss s).clk = (setLock l true (if miss then bandMiss (16 * (42 + pllIndex l)) s else s)).clk := (frame_clear ..).get State.clk

theorem length_bandMiss (k : Nat) (miss : Bool) (s : State) : (if miss then bandMiss k s else s).clk.locked = s.clk.locked := by
  cases miss <;> rfl

/-- What the relock of a loop brings besides its own lock (R277). -/
def loopServes (l : Pll) (s : State) : State := match l with
  | .c => if (rec? s 6).active then clear 6 { s with clk := { s.clk with onE := false } } else s
  | .e => if (rec? s 6).active then clear 6 { s with clk := { s.clk with onE := true } } else s
  | .d => { s with host := { s.host with cfgReady := s.host.perstHigh && s.dev.bootRec.isSome } }
  | _ => s

/-- The clocks but for the driver of the timebase. -/
def clkRest (s : State) : Clk := { s.clk with onE := false }

def drivenBy (onE : Bool) (s : State) : State := { s with clk := { s.clk with onE := onE } }

/-- The relocked loop drives where both were lost. -/
theorem drivenBy_keeps (onE : Bool) (s : State) :
    Frame [.clk, .fcru] s (clear 6 (drivenBy onE s)) ∧ clkRest (clear 6 (drivenBy onE s)) = clkRest s ∧ (clear 6 (drivenBy onE s)).clk.onE = onE := by
  have hset : Frame [.clk] s (drivenBy onE s) := rfl
  have hclk : (clear 6 (drivenBy onE s)).clk = { s.clk with onE := onE } := (frame_clear ..).get State.clk
  exact ⟨.after (frame_clear ..) hset.mono, (congrArg (fun c : Clk => { c with onE := false }) hclk :), (congrArg Clk.onE hclk :)⟩

theorem loopServes_keeps (l : Pll) (s : State) : Frame [.clk, .fcru, .host] s (loopServes l s) ∧ clkRest (loopServes l s) = clkRest s ∧
    ∀ k, Quiet k s → Quiet k (loopServes l s) := by
  have hdriven : ∀ onE, Frame [.clk, .fcru, .host] s (if (rec? s 6).active then clear 6 (drivenBy onE s) else s) ∧
      clkRest (if (rec? s 6).active then clear 6 (drivenBy onE s) else s) = clkRest s ∧
      ∀ k, Quiet k s → Quiet k (if (rec? s 6).active then clear 6 (drivenBy onE s) else s) := by
    intro onE
    obtain ⟨hframe, hrest, -⟩ := drivenBy_keeps onE s
    split
    · exact ⟨hframe.mono, hrest, fun k hq => quiet_clear hq⟩
    · exact ⟨.refl, rfl, fun _ => id⟩
  cases l with
  | c => exact hdriven false
  | e => exact hdriven true
  | d => exact ⟨rfl, rfl, fun _ => id⟩
  | a => exact ⟨.refl, rfl, fun _ => id⟩
  | b => exact ⟨.refl, rfl, fun _ => id⟩

theorem loopServes_drives {l : Pll} (hl : l = .c ∨ l = .e) (h6 : (rec? s 6).active = true) :
    (loopServes l s).clk.onE = (l == .e) ∧ (rec? (loopServes l s) 6).active = false := by
  rcases hl with rfl | rfl
  · have hserves : loopServes .c s = clear 6 (drivenBy false s) := if_pos h6
    rw [hserves]
    exact ⟨(drivenBy_keeps false s).2.2, clear_active ..⟩
  · have hserves : loopServes .e s = clear 6 (drivenBy true s) := if_pos h6
    rw [hserves]
    exact ⟨(drivenBy_keeps true s).2.2, clear_active ..⟩

theorem exec_pllRelock {l : Pll} {miss : Bool} (hlock : s.clk.locked.getD (pllIndex l) false = false) (hticks : s.dev.ticksRun = true) :
    exec (.pllRelock l miss) s = .next (loopServes l (loopLocked l miss s)) := by
  have hopen : ¬(s.clk.locked.getD (pllIndex l) false || !s.dev.ticksRun) = true := by rw [hlock, hticks]; decide
  exact if_neg hopen

theorem pll_relocks (hlen : s.clk.locked.length = 5) {l : Pll} {miss : Bool} (hlock : s.clk.locked.getD (pllIndex l) false = false)
    (hticks : s.dev.ticksRun = true) :
    Goes (.pllRelock l miss) s fun t => t.clk.locked.getD (pllIndex l) false = true ∧ (rec? t (pllSource l)).active = false ∧
      t.clk.cacheMisses = s.clk.cacheMisses + (if miss then 1 else 0) ∧
      t.clk.bands = (if miss then (bandMiss (16 * (42 + pllIndex l)) s).clk.bands else s.clk.bands) ∧
      (l = .d → t.host.cfgReady = (s.host.perstHigh && s.dev.bootRec.isSome)) ∧
      (l = .c → (rec? s 6).active = true → t.clk.onE = false ∧ (rec? t 6).active = false) ∧
      (l = .e → (rec? s 6).active = true → t.clk.onE = true ∧ (rec? t 6).active = false) ∧
      { t with clk := s.clk, fcru := s.fcru, host := s.host } = s := by
  have hframe := frame_loopLocked l miss s
  have hclk := clk_loopLocked l miss s
  have hlocked : (loopLocked l miss s).clk.locked.getD (pllIndex l) false = true := by
    rw [hclk]
    exact locked_setLock (by rw [length_bandMiss]; exact hlen) true false
  have hmisses : (loopLocked l miss s).clk.cacheMisses = s.clk.cacheMisses + (if miss then 1 else 0) := by
    rw [hclk]
    cases miss
    · exact (BitVec.add_zero _).symm
    · rfl
  have hbands : (loopLocked l miss s).clk.bands = (if miss then (bandMiss (16 * (42 + pllIndex l)) s).clk.bands else s.clk.bands) := by
    rw [hclk]
    cases miss <;> rfl
  have hquiet : (rec? (loopLocked l miss s) (pllSource l)).active = false := clear_active _ _
  have h6 : rec? (loopLocked l miss s) 6 = rec? s 6 := by
    have hrec : rec? (if miss then bandMiss (16 * (42 + pllIndex l)) s else s) 6 = rec? s 6 := by cases miss <;> rfl
    rw [loopLocked, clear_other _ (by cases l <;> decide)]
    exact hrec
  have hexec := exec_pllRelock (miss := miss) hlock hticks
  generalize loopLocked l miss s = u at hexec hframe hclk hlocked hmisses hbands hquiet h6
  obtain ⟨hserves, hrest, hq⟩ := loopServes_keeps l u
  have hall : Frame [.clk, .fcru, .host] s (loopServes l u) := hframe.mono.trans hserves
  have hhost : u.host = s.host := hframe.get State.host
  have hdev : u.dev = s.dev := hframe.get State.dev
  refine goes_of_eq hexec ⟨?_, hq _ hquiet, ?_, ?_, ?_, ?_, ?_, hall.get fun t => { t with clk := s.clk, fcru := s.fcru, host := s.host }⟩
  · have hsame : (loopServes l u).clk.locked = u.clk.locked := (congrArg Clk.locked hrest :)
    rw [hsame, hlocked]
  · exact (congrArg Clk.cacheMisses hrest :).trans hmisses
  · exact (congrArg Clk.bands hrest :).trans hbands
  · rintro rfl
    show (u.host.perstHigh && u.dev.bootRec.isSome) = _
    rw [hhost, hdev]
  · rintro rfl hactive
    exact loopServes_drives (.inl rfl) (by rw [h6]; exact hactive)
  · rintro rfl hactive
    exact loopServes_drives (.inr rfl) (by rw [h6]; exact hactive)

/-- Settles O23: losses loop by loop, the loss of both, relocks, and the comparison with the safety die's oscillator. -/
theorem clockLoops : Obligations.ClockLoops := by
  unfold Obligations.ClockLoops
  intro s hcalm hlen
  refine ⟨fun l hlock => congrArg Host.Outcome.next (if_neg (by rw [hlock]; decide)), fun l hlock hp hr hx ha => ?loss,
    fun l miss hlock hticks => pll_relocks hlen hlock hticks, fun l miss hlock => if_pos (by rw [hlock]; rfl), fun ppm hticks hfar h6 hreset hp hr => ?far,
    fun ppm hnear => ?near⟩
  case loss =>
    intro both
    have hexec := exec_pllLossOfLock hlock
    by_cases hboth : BothLost l s
    · obtain ⟨hunlocked, hcfg, hlost⟩ := both_lost hlen hboth hp hr hx
      refine goes_of_eq hexec ⟨fun h => absurd hboth h, hunlocked, hcfg, ?_, ?_, ?_, fun _ => hlost, ?_, ?_, ?_⟩
      · rintro rfl honE htwin
        rcases hboth with ⟨-, -, hno⟩ | ⟨h, -⟩
        · rw [htwin] at hno; cases hno
        · cases h
      · rintro rfl honE htwin
        rcases hboth with ⟨h, -⟩ | ⟨-, -, hno⟩
        · cases h
        · rw [htwin] at hno; cases hno
      · rintro rfl honE
        rcases hboth with ⟨h, -⟩ | ⟨-, hon, -⟩
        · cases h
        · rw [honE] at hon; cases hon
      all_goals
        rintro rfl
        rcases hboth with ⟨h, -⟩ | ⟨h, -⟩ <;> cases h
    · cases l with
      | c =>
        obtain ⟨hlatched, hunlocked, hcfg, honE, hrun⟩ := timebaseLoop_lost hcalm hlen (.inl rfl) hboth hp hr hx
        refine goes_of_eq hexec ⟨fun _ => hlatched, hunlocked, hcfg, fun _ hon _ => ⟨?_, hrun⟩, nofun, nofun, fun h => absurd h hboth, nofun, nofun, nofun⟩
        rw [honE, hon]
        rfl
      | e =>
        obtain ⟨hlatched, hunlocked, hcfg, honE, hrun⟩ := timebaseLoop_lost hcalm hlen (.inr rfl) hboth hp hr hx
        refine goes_of_eq hexec ⟨fun _ => hlatched, hunlocked, hcfg, nofun, fun _ hon _ => ⟨?_, hrun⟩, fun _ hon => ?_, fun h => absurd h hboth, nofun, nofun, nofun⟩
        · rw [honE, hon]
          rfl
        · rw [honE, hon]
          rfl
      | a =>
        obtain ⟨hlatched, hunlocked, hcfg, hlanes⟩ := pllA_lost hcalm hlen ha hp hr hx
        exact goes_of_eq hexec ⟨fun _ => hlatched, hunlocked, hcfg, nofun, nofun, nofun, fun h => absurd h hboth, fun _ => hlanes, nofun, nofun⟩
      | b =>
        obtain ⟨hlatched, hunlocked, hcfg, hdown⟩ := pllB_lost hcalm hlen hp hr hx
        exact goes_of_eq hexec ⟨fun _ => hlatched, hunlocked, hcfg, nofun, nofun, nofun, fun h => absurd h hboth, nofun, fun _ => hdown, nofun⟩
      | d =>
        obtain ⟨hlatched, hunlocked, hcfg, hready⟩ := pllD_lost hcalm hlen hp hr hx
        exact goes_of_eq hexec ⟨fun _ => hlatched, hunlocked, hcfg, nofun, nofun, nofun, fun h => absurd h hboth, nofun, nofun, fun _ => hready⟩
  case far =>
    have hexec : exec (.safetyOscTimebaseCheck ppm) s = .next (timebaseLost s) := congrArg Host.Outcome.next (if_pos (by simp [hticks, hfar, h6]))
    exact goes_of_eq hexec ⟨(timebaseLost_stops_and_trips s).1, timebaseLost_latches hp hr h6, timebaseLost_faults hp hr h6 hreset⟩
  case near => exact congrArg Host.Outcome.next (if_neg (by simp; omega))

end Sys2Proof.Proofs
end

section
/-! Edges of the Grid Edge Timer, coasting and standstill (R280–R286). -/

set_option Elab.async false

namespace Sys2Proof.Proofs
open Sys2Proof Sys2Proof.Machine Sys2Proof.Laws

variable {s : State}

/-! ### The device state at an assertion -/

theorem state_react4_or (block : Bool) (s : State) : (react4 block s).dev.state = s.dev.state ∨ (react4 block s).dev.state = .faulted := by
  unfold react4
  split
  · exact .inl rfl
  · exact .inl rfl
  · dsimp only
    split
    · exact .inl rfl
    · exact .inr (moveState_state .faulted _)

/-- An assertion below level 5 leaves the device state or takes FAULTED (R372, R376). -/
theorem state_raise_or {src : Nat} (hlvl : ∀ f, faultInfo src = some f → (appliedLevel s src f).1 ≠ 5) (d : List Byte) :
    (raise src d s).dev.state = s.dev.state ∨ (raise src d s).dev.state = .faulted := by
  unfold raise
  split
  · exact .inl rfl
  · next f hf =>
    split
    · exact .inl rfl
    · unfold assertSource
      extract_lets lvl logged
      have hlogged : Frame trapParts s logged := .after (frame_trgFault ..) (frame_logSource ..).mono
      have hlow : Frame assertedParts s (reactLow src f lvl (faultBlock s src) (noteReaction src lvl logged)) :=
        .after (frame_reactLow_low ..) (.after (frame_noteReaction ..) hlogged.mono)
      rw [← hlogged.get (·.dev.state)]
      split
      · exact .inl rfl
      · have hreact : react src f lvl (faultBlock s src) logged =
            if lvl = 4 then react4 (faultBlock s src) (reactLow src f lvl (faultBlock s src) (noteReaction src lvl logged))
            else reactLow src f lvl (faultBlock s src) (noteReaction src lvl logged) := if_neg (hlvl f hf)
        rw [hreact, hlogged.get (·.dev.state), ← hlow.get (·.dev.state)]
        split
        · exact state_react4_or ..
        · exact .inl rfl

/-- A state with a plate keeps its plate. -/
theorem loadedOn_raise {src : Nat} (hlvl : ∀ f, faultInfo src = some f → (appliedLevel s src f).1 ≠ 5) (d : List Byte)
    (h : s.dev.state.loadedOn = true) : (raise src d s).dev.state.loadedOn = true := by
  rcases state_raise_or hlvl d with hs | hs
  · rw [hs]; exact h
  · rw [hs]; rfl

/-! ### The end of a sample (R285) -/

theorem appliedLevel_sequence (hcalm : Calm s) {p : Nat} (hp : p < 2) : ∀ f, faultInfo (248 + p) = some f → (appliedLevel s (248 + p) f).1 ≠ 5 :=
  fun _ hf => appliedLevel_ne_five hcalm (by simp; omega) hf

theorem frame_raise_sequence (hcalm : Calm s) {p : Nat} (hp : p < 2) (d : List Byte) : Frame signalParts s (raise (248 + p) d s) :=
  frame_raise_signal hcalm (by simp; omega) (faultDomain_get (by omega) (by omega)) d

/-- What the end of a sample keeps: all but what a report of a change of sequence may touch. -/
structure SampleEnd (s t : State) : Prop where
  frame : Frame (.getLast :: signalParts) s t
  loaded : s.dev.state.loadedOn = true → t.dev.state.loadedOn = true
  quiet : ∀ k, k < 248 → Quiet k s → Quiet k t

theorem sampleEnd_getClose (hcalm : Calm s) : SampleEnd s (getClose s) := by
  unfold getClose
  split
  · exact ⟨.refl, id, fun _ _ => id⟩
  · next g _ =>
    refine List.foldlRecOn (motive := SampleEnd s) _ _ ⟨rfl, id, fun _ _ => id⟩ fun u hu p hp => ?_
    obtain ⟨hframe, hloaded, hquiet⟩ := hu
    have hp2 : p < 2 := by simp only [List.mem_cons, List.not_mem_nil, or_false] at hp; omega
    have hcalm' := hframe.calm hcalm
    dsimp only
    split
    · refine ⟨.after (frame_raise_sequence hcalm' hp2 _) hframe, fun h => loadedOn_raise (appliedLevel_sequence hcalm' hp2) _ (hloaded h), fun k hk h => ?_⟩
      exact quiet_raise (by omega) _ (hquiet k hk h)
    · exact ⟨hframe, hloaded, hquiet⟩

theorem getPt_getClose (hcalm : Calm s) (q : Nat) : getPt (getClose s) q = getPt s q := by
  obtain ⟨-, hget, -⟩ := sampleClosed_getClose hcalm
  rw [getPt, hget]
  rfl

/-! ### The first edge of a sample (R283) -/

theorem getClose_of_none (h : s.getLast = none) : getClose s = s := by simp only [getClose, h]

theorem takeEdge_first_eq (hcalm : Calm s) {i t : Nat} (hother : ∀ g, s.getLast = some g → g.tick ≠ s.now) :
    takeEdge i t s = clear (244 + i / 3) (applySample (openSample i t (getClose s)) (getClose s)) := by
  cases hlast : s.getLast with
  | none =>
    rw [getClose_of_none hlast]
    simp only [takeEdge, hlast]
    rfl
  | some g =>
    obtain ⟨hnone, -, -⟩ := sampleClosed_getClose hcalm
    simp only [takeEdge, hlast, if_neg (hother g hlast), hnone]
    rfl

theorem frame_applySample (g : GetSample) (s : State) : Frame [.get, .getLast] s (applySample g s) := by
  have hpoint : ∀ x : State, ∀ p, Frame [.get] x (samplePointInto g x p) := fun _ _ => .ite rfl .refl
  have hopen : Frame [.get, .getLast] s { s with getLast := some g } := rfl
  exact hopen.trans ((Frame.foldl (ps := [.get]) _ .refl fun x p _ => hpoint x p).mono)

theorem getLast_applySample (g : GetSample) (s : State) : (applySample g s).getLast = some g := by
  have hpoint : ∀ x : State, ∀ p, (samplePointInto g x p).getLast = x.getLast := fun x p => by unfold samplePointInto; split <;> rfl
  exact foldl_keeps State.getLast _ _ _ hpoint

/-- A point without an edge in the sample stands. -/
theorem getPt_applySample_other {g : GetSample} {q : Nat} (hnone : g.edges.any (fun e => e.1 / 3 = q) = false) (s : State) :
    getPt (applySample g s) q = getPt s q := by
  refine foldl_keeps (getPt · q) _ _ _ fun x p => ?_
  by_cases hp : p = q
  · subst hp
    rw [samplePointInto, if_neg (by rw [hnone]; decide)]
  · exact getPt_samplePointInto_other hp

/-- The one edge of a sample, accepted. -/
theorem samplePoint_one (s v : State) (i t : Nat) :
    (samplePoint v (openSample i t s) (i / 3)).newest = some (t, i % 3, false) ∧ (samplePoint v (openSample i t s) (i / 3)).coasting = false ∧
    (samplePoint v (openSample i t s) (i / 3)).standstill = false := by
  have hmine : (openSample i t s).edges.filter (fun e => e.1 / 3 = i / 3) = [(i, t)] := by simp [openSample]
  unfold samplePoint
  extract_lets low mine x cur
  have hx : x = edgeAccept v (i / 3) (i % 3) t false ((openSample i t s).pt (i / 3)) := by
    show mine.foldl _ _ = _
    unfold mine
    rw [hmine]
    rfl
  rw [hx]
  exact ⟨rfl, rfl, rfl⟩

theorem geEdge_first (hcalm : Calm s) {i : Nat} {rise : Bool} {eu : Nat} (hi : i < 6) (hon : EdgeCounts s i rise)
    (hslow : isFast (advanceTo (eu / 64) s) (i / 3) (i % 3) (edgeInstant s eu) (getPt s (i / 3)) = false)
    (hother : ∀ g, s.getLast = some g → g.tick ≠ (advanceTo (eu / 64) s).now) : Goes (.geEdge i rise eu) s fun t =>
      (∃ g, t.getLast = some g ∧ g.tick = (advanceTo (eu / 64) s).now ∧ g.edges = [(i, edgeInstant s eu)]) ∧
      (getPt t (i / 3)).last.find (i % 3) = some (edgeInstant s eu) ∧ (getPt t (i / 3)).newest = some (edgeInstant s eu, i % 3, false) ∧
      (getPt t (i / 3)).coasting = false ∧ (getPt t (i / 3)).standstill = false ∧ (getPt t (i / 3)).fast = (getPt s (i / 3)).fast ∧
      getPt t (1 - i / 3) = getPt s (1 - i / 3) ∧ (rec? t (244 + i / 3)).active = false ∧ t.cfg = s.cfg := by
  have hexec := exec_geEdge_of_accepted hi hon hslow
  generalize edgeInstant s eu = inst at hexec
  have ha := frame_advanceTo s (eu / 64)
  have hpt : ∀ q, getPt (advanceTo (eu / 64) s) q = getPt s q := getPt_advanceTo (eu / 64) s
  have hother' : ∀ g, (advanceTo (eu / 64) s).getLast = some g → g.tick ≠ (advanceTo (eu / 64) s).now := by
    rw [ha.get State.getLast]
    exact hother
  have hcalm' := ha.calm hcalm
  have hcfg := ha.get State.cfg
  generalize advanceTo (eu / 64) s = a at hexec hpt hother' hcalm' hcfg
  have hend := (sampleEnd_getClose hcalm').frame
  have hopen : (openSample i inst (getClose a)).edges = [(i, inst)] := rfl
  have happly := frame_applySample (openSample i inst (getClose a)) (getClose a)
  have hlast := getLast_applySample (openSample i inst (getClose a)) (getClose a)
  have hnone : (openSample i inst (getClose a)).edges.any (fun e => e.1 / 3 = 1 - i / 3) = false := by
    simp [hopen]
    omega
  obtain ⟨v, hsame, -⟩ := getPt_applySample (g := openSample i inst (getClose a)) (s := getClose a) hi (List.mem_singleton.mpr rfl)
  obtain ⟨hnewest, hcoast, hstand⟩ := samplePoint_one (getClose a) v i inst
  obtain ⟨hfind, hfast⟩ := find_last_applySample (g := openSample i inst (getClose a)) (s := getClose a) hi (List.mem_singleton.mpr rfl)
  have hrest := getPt_applySample_other hnone (getClose a)
  rw [takeEdge_first_eq hcalm' hother'] at hexec
  have hclear := frame_clear (s := applySample (openSample i inst (getClose a)) (getClose a)) (244 + i / 3)
  refine goes_of_eq hexec ⟨⟨openSample i inst (getClose a), (hclear.get State.getLast).trans hlast, hend.get State.now, hopen⟩, ?_, ?_, ?_, ?_, ?_, ?_,
    clear_active .., ?_⟩
  · rw [getPt_clear, hfind]
    rfl
  · rw [getPt_clear, hsame, hnewest]
  · rw [getPt_clear, hsame, hcoast]
  · rw [getPt_clear, hsame, hstand]
  · rw [getPt_clear, hfast, getPt_getClose hcalm', hpt]
  · rw [getPt_clear, hrest, getPt_getClose hcalm', hpt]
  · rw [hclear.get State.cfg, happly.get State.cfg, hend.get State.cfg, hcfg]

/-! ### Fast edges, coasting and standstill -/

theorem geEdge_fast (hcalm : Calm s) {i : Nat} {rise : Bool} {eu : Nat} (hi : i < 6) (hon : EdgeCounts s i rise)
    (hfast : isFast (advanceTo (eu / 64) s) (i / 3) (i % 3) (edgeInstant s eu) (getPt s (i / 3)) = true) : Goes (.geEdge i rise eu) s fun t =>
      (getPt t (i / 3)).fast = (getPt s (i / 3)).fast + 1 ∧ (getPt t (i / 3)).last = (getPt s (i / 3)).last ∧
      (getPt t (i / 3)).freq = (getPt s (i / 3)).freq ∧ getPt t (1 - i / 3) = getPt s (1 - i / 3) ∧ t.getLast = s.getLast ∧
      ((getPt s (i / 3)).fastTick = none → s.dev.porstN = true → s.dev.railHold = false → Latched t (246 + i / 3)) := by
  have hexec := exec_geEdge_of_fast hi hon hfast
  have ha := frame_advanceTo s (eu / 64)
  have hp : i / 3 < 2 := Nat.div_lt_of_lt_mul hi
  have hpt : ∀ q, getPt (advanceTo (eu / 64) s) q = getPt s q := getPt_advanceTo (eu / 64) s
  have hcalm' := ha.calm hcalm
  have hlast := ha.get State.getLast
  have hdev := ha.get State.dev
  generalize advanceTo (eu / 64) s = a at hexec hpt hcalm' hlast hdev
  obtain ⟨tick, -, hpts⟩ := getPt_fastEdge hcalm' hp
  have hself : getPt (fastEdge (i / 3) a) (i / 3) = countFast tick (getPt s (i / 3)) := by rw [hpts, if_pos rfl, hpt]
  refine goes_of_eq hexec ⟨?_, ?_, ?_, ?_, ?_, fun hnone hporst hrail => ?_⟩
  · rw [hself]; rfl
  · rw [hself]; rfl
  · rw [hself]; rfl
  · rw [hpts, if_neg (by omega), hpt]
  · rw [← hlast]
    unfold fastEdge
    extract_lets x due counted
    split
    · exact (raise_get_keeps (s := counted) hcalm' (by omega) (by omega) (faultInfo_getFast hp) rfl (be 1 (i / 3))).2.1
    · rfl
  · have hdue : ∀ k, (getPt a (i / 3)).fastTick = some k → 400000000 ≤ a.now - k := by
      intro k hk
      rw [hpt, hnone] at hk
      cases hk
    exact (fastEdge_reports hcalm' hp hdue (by rwa [hdev]) (by rwa [hdev])).1

theorem exec_getCoasting {p : Nat} (hp : p < 2) : exec (.getCoasting p) s = .next (
    if (getPt (getClose s) p).standstill || !(getClose s).dev.state.loadedOn then getClose s
    else setPt p { getPt (getClose s) p with coasting := true } (getClose s)) := if_pos (by simpa using hp)

/-- A point at standstill (R284–R286). -/
def stoodStill (x : GetPt) : GetPt := { x with
  standstill := true, coasting := false, valid := false, freq := 0, goodRun := 0, seq := 0, runDir := 0, runLen := 0
  phaseEdge := (x.last.find 0).map (fun t => (t, 0)) }

theorem exec_getStandstill {p : Nat} (hp : p < 2) : exec (.getStandstill p) s = .next (
    if (getPt (getClose s) p).standstill || !(getClose s).dev.state.loadedOn then getClose s
    else raise (244 + p) (be 1 p) (setPt p (stoodStill (getPt (getClose s) p)) (getClose s))) := if_pos (by simpa using hp)

theorem faultInfo_standstill {p : Nat} (hp : p < 2) : faultInfo (244 + p) = some ⟨2, true, 1, false, false⟩ := by
  interval_cases p <;> decide

/-- Settles O49: edges that count, fast edges, coasting and standstill. -/
theorem gridEdges : Obligations.GridEdges := by
  unfold Obligations.GridEdges
  intro s hcalm
  refine ⟨fun i rise eu hi => ?edge, fun p hp hmoves hloaded => ?stop, fun p hp hstood => ?stays⟩
  case edge =>
    intro a p inst on
    refine ⟨fun hno => ?_, fun hon hfast => geEdge_fast hcalm hi hon hfast, fun hon hslow hother => geEdge_first hcalm hi hon hslow hother⟩
    have hdev : a.dev = s.dev := (frame_advanceTo s (eu / 64)).get State.dev
    have hpar : ∀ k, par a 0x34 i k = par s 0x34 i k := fun k => (frame_advanceTo s (eu / 64)).get (par · 0x34 i k)
    have hoff : (a.dev.state.loadedOn && decide (par a 0x34 i 0 = 1) && (rise == (par a 0x34 i 2 == 0))) = false := by
      rw [hdev, hpar, hpar, Bool.eq_false_iff]
      intro hall
      simp only [Bool.and_eq_true, decide_eq_true_eq, beq_iff_eq] at hall
      exact hno ⟨hall.1.1, hall.1.2, hall.2⟩
    exact (if_pos (by simpa using hi)).trans (congrArg Host.Outcome.next (if_pos (congrArg (!·) hoff :)))
  case stop =>
    obtain ⟨hframe, hload, hquiet⟩ := sampleEnd_getClose hcalm
    obtain ⟨hnone, -, hcfg⟩ := sampleClosed_getClose hcalm
    have hpt := getPt_getClose hcalm
    have hrun : ¬((getPt (getClose s) p).standstill || !(getClose s).dev.state.loadedOn) = true := by
      rw [hpt, hmoves, hload hloaded]
      decide
    have hcalm' := hframe.calm hcalm
    have hcoast := exec_getCoasting (s := s) hp
    have hstill := exec_getStandstill (s := s) hp
    rw [if_neg hrun] at hcoast hstill
    have hquiet' := hquiet (244 + p) (by omega)
    have hdev : (getClose s).dev.porstN = s.dev.porstN ∧ (getClose s).dev.railHold = s.dev.railHold := ⟨hframe.get (·.dev.porstN), hframe.get (·.dev.railHold)⟩
    generalize getClose s = c at hnone hcfg hpt hcalm' hcoast hstill hquiet' hdev
    rw [hpt] at hcoast hstill
    obtain ⟨hget, hlast, -⟩ := raise_get_keeps (s := setPt p (stoodStill (getPt s p)) c) hcalm' (n := 244 + p) (by omega) (by omega)
      (faultInfo_standstill hp) rfl (be 1 p)
    have hsame : ∀ q, getPt (raise (244 + p) (be 1 p) (setPt p (stoodStill (getPt s p)) c)) q = if p = q then stoodStill (getPt s p) else getPt s q := by
      intro q
      rw [getPt, hget]
      exact (getPt_setPt ..).trans (by rw [hpt])
    refine ⟨goes_of_eq hcoast ⟨?_, ?_, hnone, hcfg⟩, goes_of_eq hstill ⟨?_, ?_, ?_, ?_, ?_, ?_, ?_, hlast.trans hnone, fun hporst hrail hx => ?_⟩⟩
    · rw [getPt_setPt, if_pos rfl]
    · rw [getPt_setPt, if_neg (by omega), hpt]
    · rw [hsame, if_pos rfl]; rfl
    · rw [hsame, if_pos rfl]; rfl
    · rw [hsame, if_pos rfl]; rfl
    · rw [hsame, if_pos rfl]; rfl
    · rw [hsame, if_pos rfl]; rfl
    · rw [hsame, if_pos rfl]; rfl
    · rw [hsame, if_neg (by omega)]
    · exact latched_raise (s := setPt p (stoodStill (getPt s p)) c) (faultInfo_standstill hp) (fun v => by interval_cases p <;> cases v <;> rfl)
        (hdev.1.trans hporst) (hdev.2.trans hrail) (hquiet' hx) _
  case stays =>
    have hpt := getPt_getClose hcalm p
    have hstop : ((getPt (getClose s) p).standstill || !(getClose s).dev.state.loadedOn) = true := by rw [hpt, hstood]; rfl
    exact ⟨(exec_getCoasting hp).trans (congrArg _ (if_pos hstop)), (exec_getStandstill hp).trans (congrArg _ (if_pos hstop))⟩

end Sys2Proof.Proofs
end

section
/-! Supervision of the station ports (R229, R232, R240, R246, R251). -/

set_option Elab.async false

namespace Sys2Proof.Proofs
open Sys2Proof Sys2Proof.Machine Sys2Proof.Laws

variable {s : State}

/-! ### A subscription's time to live (R240) -/

theorem faultInfo_278 : faultInfo 278 = some ⟨2, true, 1, false, false⟩ := by decide

theorem subGet_subSet (k j : Nat) (x : GooseSub) (s : State) : subGet (subSet k x s) j = if k = j then x else subGet s j := get_set ..

theorem frame_subSet (k : Nat) (x : GooseSub) (s : State) : Frame [.stn] s (subSet k x s) := rfl

theorem exec_gooseTimeout {k : Nat} (hk : k < 128) : exec (.gooseTimeout k) s = .next (
    if (subGet s k).seen && !(subGet s k).lost then raise 278 (be 1 k) (subSet k { subGet s k with lost := true } s) else s) :=
  if_pos (by simpa using hk)

theorem gooseTimeout_lost (hcalm : Calm s) (hp : s.dev.porstN = true) (hr : s.dev.railHold = false) {k : Nat} (hk : k < 128)
    (hseen : (subGet s k).seen = true) (hlost : (subGet s k).lost = false) : Goes (.gooseTimeout k) s fun t => (subGet t k).lost = true ∧
      (∀ j, j ≠ k → subGet t j = subGet s j) ∧ ((rec? s 278).active = false → Latched t 278) := by
  have hset := frame_subSet k { subGet s k with lost := true } s
  have hraise := frame_raise_any (hset.calm hcalm) (src := 278) (by decide) (be 1 k)
  have hsub : ∀ j, subGet (raise 278 (be 1 k) (subSet k { subGet s k with lost := true } s)) j = if k = j then { subGet s k with lost := true } else subGet s j :=
    fun j => (hraise.get (subGet · j)).trans (subGet_subSet ..)
  refine goes_of_eq ((exec_gooseTimeout hk).trans (congrArg _ (if_pos (by rw [hseen, hlost]; rfl)))) ⟨?_, fun j hj => ?_, fun hx => ?_⟩
  · rw [hsub, if_pos rfl]
  · rw [hsub, if_neg (Ne.symm hj)]
  · exact latched_raise faultInfo_278 (fun v => by cases v <;> rfl) (show (subSet k _ s).dev.porstN = true from hp) hr hx _

/-! ### Silent LANs and links (R232, R246) -/

theorem faultInfo_lan {q l : Nat} (hq : q < 2) (hl : l < 2) : faultInfo (260 + 2 * q + l) = some ⟨2, true, 1, false, false⟩ := by
  interval_cases q <;> interval_cases l <;> decide

theorem present_lan {q l : Nat} (hq : q < 2) (hl : l < 2) (v : Variant) : faultAbsent v (260 + 2 * q + l) = false := by
  interval_cases q <;> interval_cases l <;> cases v <;> rfl

theorem exec_prpLanSilent {q l : Nat} (hq : q < 2) (hl : l < 2) : exec (.prpLanSilent q l) s = .next (
    if pairOn s q then raise (260 + 2 * q + l) (be 1 q ++ be 1 l) s else s) := if_pos (by simp [hq, hl])

theorem faultInfo_link {p : Nat} (hp : p < 8) : faultInfo (252 + p) = some ⟨2, true, 1, false, false⟩ := by
  interval_cases p <;> decide

theorem present_link {p : Nat} (hp : p < 8) (v : Variant) : faultAbsent v (252 + p) = false := by
  interval_cases p <;> cases v <;> rfl

theorem faultDomain_link {p : Nat} (hp : p < 8) : faultDomain (252 + p) = some (.stationPort p) := by
  interval_cases p <;> decide

/-- The fall of one link leaves every other port. -/
theorem stp_linkDown_other {p q : Nat} (hq : q ≠ p) (s : State) : stp (linkDown p s) q = stp s q := by
  unfold linkDown
  split
  · rw [(frame_scanDrop ..).get (stp · q), (frame_portChange ..).get (stp · q)]
    simp [stp, SMap.upd, Ne.symm hq]
  · rfl

/-- The source of a link resets its own port alone (R375). -/
theorem resetProof_stp {p q : Nat} (hp : p < 8) (hq : q ≠ p) (x : StPort) : ResetProof (252 + p) fun s => stp s q = x where
  frame h hx := by rwa [h.get (stp · q)]
  reset := by
    intro s d hd hx
    rw [faultDomain_link hp] at hd
    cases hd
    exact (stp_linkDown_other hq s).trans hx

theorem exec_stationLinkDown {p : Nat} (hp : p < 8) : exec (.stationLinkDown p) s = .next (
    if (stp s p).up then raise (252 + p) (be 1 p) (linkDown p s) else s) := if_pos (by simpa using hp)

theorem stationLinkDown_falls (hcalm : Calm s) (hporst : s.dev.porstN = true) (hrail : s.dev.railHold = false) {p : Nat} (hp : p < 8)
    (hup : (stp s p).up = true) : Goes (.stationLinkDown p) s fun t => (stp t p).up = false ∧ (∀ q, q ≠ p → stp t q = stp s q) ∧
      ((rec? s (252 + p)).active = false → Latched t (252 + p)) := by
  have hdown := frame_linkDown (s := s) p
  have hcalm' := hdown.calm hcalm
  have hlvl : ∀ f, faultInfo (252 + p) = some f → (appliedLevel (linkDown p s) (252 + p) f).1 ≠ 5 :=
    fun f hf => appliedLevel_ne_five hcalm' (by simp; omega) hf
  refine goes_of_eq ((exec_stationLinkDown hp).trans (congrArg _ (if_pos hup))) ⟨?_, fun q hq => ?_, fun hx => ?_⟩
  · exact (resetProof_down p).raise hlvl _ (down_linkDown_same p s)
  · exact (resetProof_stp hp hq (stp s q)).raise hlvl _ (stp_linkDown_other hq s)
  · exact latched_raise (faultInfo_link hp) (present_link hp) ((hdown.get (·.dev.porstN)).trans hporst) ((hdown.get (·.dev.railHold)).trans hrail)
      (quiet_of_fcru (hdown.get State.fcru) hx) _

/-- A port that has come up. -/
def linked (p : Nat) (s : State) : State := setStp p (fun x => { x with up := true }) s

theorem frame_setStp (p : Nat) (f : StPort → StPort) (s : State) : Frame [.stnPorts] s (setStp p f s) := rfl

theorem stp_setStp (p q : Nat) (f : StPort → StPort) (s : State) : stp (setStp p f s) q = if p = q then f (stp s p) else stp s q := by
  simp [stp, setStp, SMap.upd]

theorem exec_stationLinkUp {p : Nat} (hp : p < 8) : exec (.stationLinkUp p) s = .next (
    if (stp s p).up || par s 0x30 p 0 = 0 || !s.dev.state.idleOn || !s.clk.locked.getD 3 false then s
    else portChange (32 + p) 1 (clear (252 + p) (linked p s))) := if_pos (by simpa using hp)

theorem stationLinkUp_rises {p : Nat} (hp : p < 8) (hdown : (stp s p).up = false) (hmode : par s 0x30 p 0 ≠ 0) (hidle : s.dev.state.idleOn = true)
    (hlock : s.clk.locked.getD 3 false = true) : Goes (.stationLinkUp p) s fun t => (stp t p).up = true ∧ (∀ q, q ≠ p → stp t q = stp s q) ∧
      (rec? t (252 + p)).active = false ∧ { t with stn := s.stn, fcru := s.fcru, mbx := s.mbx, host := s.host } = s := by
  have hopen : ¬((stp s p).up || par s 0x30 p 0 = 0 || !s.dev.state.idleOn || !s.clk.locked.getD 3 false) = true := by
    rw [hdown, hidle, hlock]
    simpa using hmode
  have htold : Frame [.fcru, .mbx] (linked p s) (portChange (32 + p) 1 (clear (252 + p) (linked p s))) :=
    .after (frame_portChange ..) (frame_clear ..).mono
  have hall : Frame [.stnPorts, .fcru, .mbx] s (portChange (32 + p) 1 (clear (252 + p) (linked p s))) := htold.after (frame_setStp p _ s).mono
  have hquiet : Quiet (252 + p) (portChange (32 + p) 1 (clear (252 + p) (linked p s))) :=
    quiet_of_fcru ((frame_portChange ..).get State.fcru) (clear_active ..)
  have hstp : ∀ q, stp (portChange (32 + p) 1 (clear (252 + p) (linked p s))) q = if p = q then { stp s p with up := true } else stp s q :=
    fun q => (htold.get (stp · q)).trans (stp_setStp ..)
  refine goes_of_eq ((exec_stationLinkUp hp).trans (congrArg _ (if_neg hopen))) ⟨?_, fun q hq => ?_, hquiet,
    hall.get fun t => { t with stn := s.stn, fcru := s.fcru, mbx := s.mbx, host := s.host }⟩
  · rw [hstp, if_pos rfl]
  · rw [hstp, if_neg (Ne.symm hq)]

/-! ### The mailbox transport (R251) -/

theorem find_del {α : Type} (m : SMap α) (k : Nat) : (m.del k).find k = none := by
  induction m with
  | nil => rfl
  | cons x m ih =>
    obtain ⟨j, w⟩ := x
    by_cases hj : j = k
    · subst hj
      simpa [SMap.del] using ih
    · have hcons : SMap.del ((j, w) :: m) k = (j, w) :: SMap.del m k := by simp [SMap.del, hj]
      rw [hcons, SMap.find, if_neg hj, ih]

theorem exec_f2hDataResend {n : Nat} (hn : n < 16) {b : Bind} (hb : s.stn.binds.find n = some b) : exec (.f2hDataResend n) s = .next (
    if !b.outstanding then s
    else if 5 ≤ b.repeats then udpLost n b s
    else udpSend b .f2hData .ok n b.f2hSeq (f2hBytes (mget s n))
      { s with stn := { s.stn with binds := s.stn.binds.set n { b with repeats := b.repeats + 1 } } }) := by
  simp only [exec, execF2hDataResend, Machine.unit, hn, hb, decide_true, if_true]

theorem exec_udpSessionTimeout {n : Nat} (hn : n < 16) {b : Bind} (hb : s.stn.binds.find n = some b) :
    exec (.udpSessionTimeout n) s = .next (udpLost n b s) := by
  simp only [exec, execUdpSessionTimeout, Machine.unit, hn, hb, decide_true, if_true]

/-- A session of the transport is lost: its binding, its mailbox's session, and its host's mark (R250, R322). -/
theorem udpLost_ends (n : Nat) (b : Bind) (s : State) : (udpLost n b s).stn.binds.find n = none ∧ sessionOf (udpLost n b s) n = false ∧
    b.host ∈ (udpLost n b s).stn.lostHosts ∧ ∀ k, k ≠ n → mget (udpLost n b s) k = mget s k := by
  have hmbx : ∀ k, mget (udpLost n b s) k = mget (mset n (fun m => { m with sessTag := 0 }) (senderReset n s)) k := fun _ => rfl
  refine ⟨find_del .., ?_, ?_, fun k hk => ?_⟩
  · rw [sessionOf, hmbx, mget_mset, if_pos rfl]
    exact sessionOf_senderReset n s
  · show b.host ∈ (if (unbind n (senderReset n s)).stn.lostHosts.contains b.host then _ else _)
    split
    · next h => exact List.contains_iff_mem.mp h
    · exact List.mem_append_right _ List.mem_cons_self
  · rw [hmbx, mget_mset, if_neg (Ne.symm hk), mget_senderReset, if_neg (Ne.symm hk)]

theorem f2hData_repeats {n : Nat} (hn : n < 16) {b : Bind} (hb : s.stn.binds.find n = some b) (hout : b.outstanding = true) (hfew : b.repeats < 5) :
    Goes (.f2hDataResend n) s fun t => t.stn.binds.find n = some { b with repeats := b.repeats + 1 } ∧ t.mbx = s.mbx ∧
      (∃ x, t.stn.outbox.getLast? = some x ∧ x.kind = .f2hData ∧ x.mbx = n ∧ x.sq = b.f2hSeq) ∧ { t with stn := s.stn } = s := by
  refine goes_of_eq ((exec_f2hDataResend hn hb).trans (congrArg _ ((if_neg (by rw [hout]; decide)).trans (if_neg (by omega))))) ⟨?_, rfl, ⟨_, List.getLast?_concat .., rfl, rfl, rfl⟩, rfl⟩
  exact (find_set ..).trans (if_pos rfl)

/-- Settles O48: subscriptions, LANs, links and datagrams. -/
theorem stationSupervision : Obligations.StationSupervision := by
  unfold Obligations.StationSupervision
  intro s hcalm hp hr
  refine ⟨fun k hk hseen hlost => gooseTimeout_lost hcalm hp hr hk hseen hlost, fun k hk hno => ?_, fun q l hq hl hon hx => ?_, fun q l hq hl hoff => ?_,
    fun p hp8 hup => stationLinkDown_falls hcalm hp hr hp8 hup, fun p hp8 hdown => ?_,
    fun p hp8 hdown hmode hidle hlock => stationLinkUp_rises hp8 hdown hmode hidle hlock, fun p hp8 hlock => ?_,
    fun n b hn hb hout hfew => f2hData_repeats hn hb hout hfew, fun n b hn hb hout hmany => ?_, fun n b hn hb => ?_, fun n hn hnone => ?_⟩
  · exact (exec_gooseTimeout hk).trans (congrArg _ (if_neg (by simp [hno])))
  · exact goes_of_eq ((exec_prpLanSilent hq hl).trans (congrArg _ (if_pos hon))) (latched_raise (faultInfo_lan hq hl) (present_lan hq hl) hp hr hx _)
  · exact (exec_prpLanSilent hq hl).trans (congrArg _ (if_neg (by rw [hoff]; decide)))
  · exact (exec_stationLinkDown hp8).trans (congrArg _ (if_neg (by rw [hdown]; decide)))
  · exact (exec_stationLinkUp hp8).trans (congrArg _ (if_pos (by rw [hlock]; simp)))
  · have hexec := exec_f2hDataResend hn hb
    rw [hout, if_neg (by decide), if_pos hmany] at hexec
    obtain ⟨hbind, hsession, hhost, -⟩ := udpLost_ends n b s
    exact goes_of_eq hexec ⟨hbind, hsession, hhost⟩
  · exact goes_of_eq (exec_udpSessionTimeout hn hb) (udpLost_ends n b s)
  · simp only [exec, execF2hDataResend, execUdpSessionTimeout, Machine.unit, hn, hnone, decide_true, if_true, and_self]

end Sys2Proof.Proofs
end

section
/-! Frames of the station ports on their way in (R231, R233–R235, R239, R240, R248). -/

set_option Elab.async false

namespace Sys2Proof.Proofs
open Sys2Proof Sys2Proof.Machine Sys2Proof.Laws

variable {s : State} {p : Nat} {f : StFrame}

/-! ### Checks and counts (R231, R233) -/

/-- A frame that is received. -/
def frameHeard (p : Nat) (s : State) : State := setStp p (fun x => { x with rxFrames := x.rxFrames + 1 }) s

/-- A frame of a sound form, on a port that is no pair's. -/
def frameSound (p : Nat) (f : StFrame) (s : State) : State :=
  if !dstNamed (frameHeard p s) p f.dst then frameHeard p s else classify p f (frameHeard p s)

theorem frame_frameHeard (p : Nat) (s : State) : Frame [.stnPorts] s (frameHeard p s) := frame_setStp ..

theorem exec_stationFrame_idle (hp : p < 8) {t : Nat} (h : (stp s p).up = false ∨ s.dev.state.idleOn = false) :
    exec (.stationFrameReceived p f t) s = .next (advanceTo t s) := by
  have ha := frame_advanceTo s t
  have hstp : stp (advanceTo t s) p = stp s p := ha.get (stp · p)
  have hdev : (advanceTo t s).dev = s.dev := ha.get State.dev
  refine (if_pos (by simpa using hp)).trans (congrArg Host.Outcome.next (if_pos ?_))
  rw [hstp, hdev]
  rcases h with h | h <;> simp [h]

/-- What a frame of a right form does. -/
def frameTaken (p : Nat) (f : StFrame) (s : State) : State :=
  match f.payload with
  | .pause => setStp p (fun x => { x with pauses := x.pauses + 1 }) s
  | _ =>
    let s := frameHeard p s
    let s := if inPair s p then clear (260 + p) s else s
    if !dstNamed s p f.dst then s else (let (pass, s) := prpTrailer p f s; if pass then classify p f s else s)

/-- What a frame does on a port that is up, from IDLE on. -/
def frameUp (p : Nat) (f : StFrame) (s : State) : State :=
  if 1522 < f.len then setStp p (fun x => { x with long := x.long + 1 }) s
  else if 1 < f.tags then setStp p (fun x => { x with tagged := x.tagged + 1 }) s
  else if !f.fcsGood then setStp p (fun x => { x with badFcs := x.badFcs + 1 }) s
  else if f.len < 64 then s
  else frameTaken p f s

theorem exec_stationFrame (hp : p < 8) {t : Nat} (hup : (stp s p).up = true) (hidle : s.dev.state.idleOn = true) :
    exec (.stationFrameReceived p f t) s = .next (frameUp p f (advanceTo t s)) := by
  have ha := frame_advanceTo s t
  have hstp : stp (advanceTo t s) p = stp s p := ha.get (stp · p)
  have hdev : (advanceTo t s).dev = s.dev := ha.get State.dev
  refine (if_pos (by simpa using hp)).trans (congrArg Host.Outcome.next ((if_neg ?_).trans rfl))
  rw [hstp, hdev, hup, hidle]
  decide

/-- Length, tags and check sequence of a frame are right. -/
def Framed (f : StFrame) : Prop := f.len ≤ 1522 ∧ f.tags ≤ 1 ∧ f.fcsGood = true ∧ 64 ≤ f.len

theorem frameUp_framed (h : Framed f) (p : Nat) (s : State) : frameUp p f s = frameTaken p f s := by
  obtain ⟨hlen, htags, hfcs, hmin⟩ := h
  exact (if_neg (by omega)).trans ((if_neg (by omega)).trans ((if_neg (by rw [hfcs]; decide)).trans (if_neg (by omega))))

theorem prpTrailer_single (h : inPair s p = false) : prpTrailer p f s = (true, s) := by
  simp only [prpTrailer, h, Bool.false_and]

theorem frameTaken_pause (h : f.payload = .pause) : frameTaken p f s = setStp p (fun x => { x with pauses := x.pauses + 1 }) s := by
  rw [frameTaken, h]

theorem frameTaken_single (hpair : inPair s p = false) (hpause : f.payload ≠ .pause) : frameTaken p f s = frameSound p f s := by
  have hpair' : inPair (frameHeard p s) p = false := hpair
  unfold frameTaken
  split
  · next hp => exact absurd hp hpause
  · simp only [hpair', prpTrailer_single hpair', Bool.false_eq_true, if_false, if_true]
    rfl

/-! ### A frame that no function takes (R233) -/

theorem stDiscard_heard (p q : Nat) (s : State) : stp (stDiscard p (frameHeard p s)) q =
    if p = q then { stp s p with rxFrames := (stp s p).rxFrames + 1, discards := (stp s p).discards + 1 } else stp s q := by
  rw [stDiscard, stp_setStp, frameHeard, stp_setStp, stp_setStp, if_pos rfl]
  split <;> rfl

theorem frame_discarded (p : Nat) (s : State) : Frame [.stnPorts] s (stDiscard p (frameHeard p s)) :=
  .after (frame_setStp ..) (frame_frameHeard p s)

theorem classify_unknown (h : f.payload = .unknown) : classify p f s = stDiscard p s := by
  unfold classify
  rw [h]
  split
  · rfl
  · split
    case h_8 => rfl
    all_goals contradiction

/-! ### GOOSE (R239, R240) -/

theorem classify_goose {g : GooseMsg} (h : f.payload = .goose g) (het : f.etherType = 0x88B8) (hsafe : safetyType s ≠ 0x88B8) :
    classify p f s = portDoes p 1 (gooseReceive p f.dst g) s := by
  unfold classify
  rw [h, het, if_neg (Ne.symm hsafe)]
  rfl

theorem goose_discards {g : GooseMsg} (h : portServes s p 1 = false ∨
    (∀ x ∈ gooseDefs s, gooseSub p f.dst g x.2 = false) ∧ ∀ x ∈ pubDefs s, gooseTwin s p f.dst g x.2 = false) :
    portDoes p 1 (gooseReceive p f.dst g) s = stDiscard p s := by
  unfold portDoes
  split
  · next hserves =>
    rcases h with h | ⟨hsubs, htwins⟩
    · rw [h] at hserves
      cases hserves
    · have hnone : (gooseDefs s).filter (fun x => gooseSub p f.dst g x.2) = [] := List.filter_eq_nil_iff.mpr fun x hx => by simp [hsubs x hx]
      have hno : (pubDefs s).filter (fun x => gooseTwin s p f.dst g x.2) = [] := List.filter_eq_nil_iff.mpr fun x hx => by simp [htwins x hx]
      simp only [gooseReceive, hnone, hno, List.isEmpty_nil, Bool.and_self, if_true]
  · rfl

theorem frame_gooseClear (s : State) : Frame [.fcru] s (gooseClear s) := .ite .refl (frame_clear ..)

/-- The first message of a subscription, taken. -/
def gooseTaken (g : GooseMsg) (x : GooseSub) : GooseSub :=
  { x with seen := true, stNum := g.stNum, sqNum := g.sqNum, ttl := g.ttl, lost := false, pend := x.pend ++ [g] }

theorem gooseReceive_first {g : GooseMsg} {k : Nat} {d : GooseSubDef}
    (hsubs : (gooseDefs s).filter (fun x => gooseSub p f.dst g x.2) = [(k, d)]) (htwins : ∀ x ∈ pubDefs s, gooseTwin s p f.dst g x.2 = false)
    (hrev : g.confRev = d.confRev) (hsim : g.simulation = false) (hseen : (subGet s k).seen = false) :
    gooseReceive p f.dst g s = gooseClear (subSet k (gooseTaken g (subGet s k)) s) := by
  have hno : (pubDefs s).filter (fun x => gooseTwin s p f.dst g x.2) = [] := List.filter_eq_nil_iff.mpr fun x hx => by simp [htwins x hx]
  simp only [gooseReceive, hsubs, hno, List.isEmpty_cons, List.isEmpty_nil, Bool.false_and, Bool.false_eq_true, if_false, List.foldl_cons, List.foldl_nil]
  simp only [gooseMatch, hrev, hsim, hseen, ne_eq, not_true, Bool.false_and, Bool.false_eq_true, if_false]
  rfl

/-! ### Sampled values (R234, R235) -/

theorem classify_sv {appid : Nat} {xs : List Asdu} (h : f.payload = .sv appid xs) (het : f.etherType = 0x88BA) (hsafe : safetyType s ≠ 0x88BA) :
    classify p f s = portDoes p 0 (svFrame p f.dst appid xs) s := by
  unfold classify
  rw [h, het, if_neg (Ne.symm hsafe)]
  rfl

theorem svFrame_one {appid : Nat} {x : Asdu} {k : Nat} {d : SvDef} (hmatch : (svDefs s).filter (fun y => svMatch p f.dst appid x y.2) = [(k, d)]) :
    svFrame p f.dst appid [x] s = svAsdu k d x s := by
  have hmem : (k, d) ∈ (svDefs s).filter (fun y => svMatch p f.dst appid x y.2) := by rw [hmatch]; exact List.mem_cons_self
  obtain ⟨hin, hd⟩ := List.mem_filter.mp hmem
  have hsome : ((svDefs s).all fun y => !svMatch p f.dst appid x y.2) = false :=
    List.all_eq_false.mpr ⟨(k, d), hin, by simpa using hd⟩
  simp only [svFrame, List.all_cons, List.all_nil, hsome, Bool.false_and, Bool.false_eq_true, if_false, List.foldl_cons, List.foldl_nil, hmatch]

theorem svAsdu_taken {k : Nat} {d : SvDef} {x : Asdu} (hrev : x.confRev = d.confRev) :
    (svGet (svAsdu k d x s) k).lastCnt = some x.smpCnt ∧ (svGet (svAsdu k d x s) k).synch = x.smpSynch ∧
    (∃ y, (svGet (svAsdu k d x s) k).buf.head? = some y ∧ y.2.1 = x.qtys) ∧ Frame [.stn, .free] s (svAsdu k d x s) := by
  have hget : ∀ (y : Sv) (t : State), svGet (svSet k y t) k = y := fun y t => (get_set ..).trans (if_pos rfl)
  have hframe : ∀ (y : Sv) (n : Nat), Frame [.stn, .free] s (svSet k y { s with free := n }) := fun _ _ => rfl
  unfold svAsdu
  extract_lets old gap new
  rw [if_neg (by simp [hrev]), hget]
  exact ⟨rfl, rfl, ⟨_, rfl, rfl⟩, hframe _ _⟩

/-! ### Echo requests (R248) -/

theorem classify_icmp {src : Nat} {data : List Byte} (h : f.payload = .icmpEcho src (ownIp s p) data) (het : f.etherType = 0x0800)
    (hsafe : safetyType s ≠ 0x0800) : classify p f s = toMpc p 2 (answerOn p f.srcMac 0x0800 (.icmpReply src data)) s := by
  unfold classify
  rw [h, het, if_neg (Ne.symm hsafe)]
  exact if_pos rfl

/-- A frame for the MPC that is within its limit is counted and passes. -/
theorem rateTake_passes {k : Nat} (h : (stp s p).rateSec ≠ s.now / 400000000 ∨ (stp s p).rateCount.get k 0 < 2000) :
    ∃ g : StPort → StPort, rateTake p k s = (true, setStp p g s) ∧ ∀ x, (g x).icmpArp = x.icmpArp ∧ (g x).up = x.up := by
  unfold rateTake
  extract_lets sec x n cs
  have hn : n < 2000 := by
    unfold n
    split
    · next hsec => exact h.resolve_left (fun hne => hne hsec)
    · omega
  rw [if_pos hn]
  exact ⟨_, rfl, fun _ => ⟨rfl, rfl⟩⟩

theorem toMpc_passes {k : Nat} {act : State → State} (hserves : portServes s p 3 = true) (haddr : hasAddress s p = true)
    (h : (stp s p).rateSec ≠ s.now / 400000000 ∨ (stp s p).rateCount.get k 0 < 2000) :
    ∃ g : StPort → StPort, toMpc p k act s = act (setStp p g s) ∧ ∀ x, (g x).icmpArp = x.icmpArp ∧ (g x).up = x.up := by
  obtain ⟨g, hrate, hg⟩ := rateTake_passes (s := s) (p := p) h
  refine ⟨g, ?_, hg⟩
  simp only [toMpc, hserves, haddr, hrate, Bool.not_true, Bool.or_self, Bool.false_eq_true, if_false, if_true]

end Sys2Proof.Proofs
end

section
/-! What a frame of a sound form does on a port that is no pair's (R233–R235, R239, R248). -/

set_option Elab.async false

namespace Sys2Proof.Proofs
open Sys2Proof Sys2Proof.Machine Sys2Proof.Laws

variable {s : State} {p t : Nat} {f : StFrame}

/-- A frame that the port takes up and that is named there. -/
structure Arrives (p : Nat) (f : StFrame) (s : State) : Prop where
  port : p < 8
  up : (stp s p).up = true
  idle : s.dev.state.idleOn = true
  framed : Framed f
  single : inPair s p = false

theorem Arrives.exec (h : Arrives p f s) (hpause : f.payload ≠ .pause) (t : Nat) :
    exec (.stationFrameReceived p f t) s = .next (frameSound p f (advanceTo t s)) := by
  have hpair : inPair (advanceTo t s) p = false := ((frame_advanceTo s t).get (inPair · p)).trans h.single
  rw [exec_stationFrame h.port h.up h.idle, frameUp_framed h.framed, frameTaken_single hpair hpause]

theorem frame_frameTime (p t : Nat) (s : State) : Frame [.now, .time, .stnPorts] s (frameHeard p (advanceTo t s)) :=
  .after (frame_frameHeard ..) (frame_advanceTo s t).mono

theorem Arrives.exec_named (h : Arrives p f s) (hpause : f.payload ≠ .pause) (hnamed : dstNamed s p f.dst = true) (t : Nat) :
    Machine.exec (.stationFrameReceived p f t) s = .next (classify p f (frameHeard p (advanceTo t s))) := by
  have hdst : dstNamed (frameHeard p (advanceTo t s)) p f.dst = true := ((frame_frameTime p t s).get (dstNamed · p f.dst)).trans hnamed
  rw [h.exec hpause, frameSound, hdst]
  rfl

/-- What stands outside the station ports' state is that of a state with the same one. -/
theorem same_but_stn {a u : State} (hstn : a.stn = s.stn) (h : Frame [.stn, .stnPorts] a u) : { u with stn := s.stn } = a := by
  rw [← hstn]
  exact h.get fun v => { v with stn := a.stn }

theorem stn_advanceTo (t : Nat) (s : State) : (advanceTo t s).stn = s.stn := (frame_advanceTo s t).get State.stn

/-- A frame that is discarded is counted twice on its port, and nothing else (R233). -/
theorem Arrives.dropped (h : Arrives p f s) (hpause : f.payload ≠ .pause) (hnamed : dstNamed s p f.dst = true)
    (hdrop : classify p f (frameHeard p (advanceTo t s)) = stDiscard p (frameHeard p (advanceTo t s))) :
    Goes (.stationFrameReceived p f t) s fun u =>
      stp u p = { stp s p with rxFrames := (stp s p).rxFrames + 1, discards := (stp s p).discards + 1 } ∧
      (∀ q, q ≠ p → stp u q = stp s q) ∧ { u with stn := s.stn } = advanceTo t s := by
  have hstp : ∀ q, stp (advanceTo t s) q = stp s q := fun q => (frame_advanceTo s t).get (stp · q)
  refine goes_of_eq ((h.exec_named hpause hnamed t).trans (congrArg _ hdrop)) ⟨?_, fun q hq => ?_, same_but_stn (stn_advanceTo t s) (frame_discarded ..).mono⟩
  · rw [stDiscard_heard, if_pos rfl, hstp]
  · rw [stDiscard_heard, if_neg (Ne.symm hq), hstp]

/-- The first message of a subscription waits for the cutoff (R239, R240). -/
theorem Arrives.goose_pends (h : Arrives p f s) {g : GooseMsg} {k : Nat} {d : GooseSubDef} (hnamed : dstNamed s p f.dst = true)
    (hg : f.payload = .goose g) (het : f.etherType = 0x88B8) (hsafe : safetyType s ≠ 0x88B8) (hserves : portServes s p 1 = true)
    (hsubs : (gooseDefs s).filter (fun x => gooseSub p f.dst g x.2) = [(k, d)]) (htwins : ∀ x ∈ pubDefs s, gooseTwin s p f.dst g x.2 = false)
    (hrev : g.confRev = d.confRev) (hsim : g.simulation = false) (hseen : (subGet s k).seen = false) :
    Goes (.stationFrameReceived p f t) s fun u => (subGet u k).pend = (subGet s k).pend ++ [g] ∧ (subGet u k).stNum = g.stNum ∧
      (subGet u k).sqNum = g.sqNum ∧ (subGet u k).seen = true ∧ (subGet u k).lost = false ∧
      { u with stn := s.stn, fcru := s.fcru } = advanceTo t s := by
  have hf := frame_frameTime p t s
  have hsub : subGet (frameHeard p (advanceTo t s)) k = subGet s k := hf.get (subGet · k)
  have hexec := h.exec_named (by rw [hg]; nofun) hnamed t
  rw [classify_goose hg het (by rw [hf.get safetyType]; exact hsafe), portDoes, if_pos (by rw [hf.get (portServes · p 1)]; exact hserves),
    gooseReceive_first (by rw [hf.get gooseDefs]; exact hsubs) (fun x hx => (hf.get (gooseTwin · p f.dst g x.2)).trans (htwins x (by rwa [hf.get pubDefs] at hx)))
      hrev hsim (by rw [hsub]; exact hseen), hsub] at hexec
  have hclear := frame_gooseClear (subSet k (gooseTaken g (subGet s k)) (frameHeard p (advanceTo t s)))
  refine goes_of_eq hexec ?_
  rw [hclear.get (subGet · k), subGet_subSet, if_pos rfl]
  have hframe : Frame [.stn, .stnPorts, .fcru] (advanceTo t s) (gooseClear (subSet k (gooseTaken g (subGet s k)) (frameHeard p (advanceTo t s)))) :=
    .after hclear (.after (frame_subSet ..) (frame_frameHeard ..).mono)
  have hfcru : (advanceTo t s).fcru = s.fcru := (frame_advanceTo s t).get State.fcru
  refine ⟨rfl, rfl, rfl, rfl, rfl, ?_⟩
  rw [← hfcru, ← stn_advanceTo t s]
  exact hframe.get fun v => { v with stn := (advanceTo t s).stn, fcru := (advanceTo t s).fcru }

/-- A sample of a stream enters its buffer (R234, R235). -/
theorem Arrives.sample (h : Arrives p f s) {appid k : Nat} {x : Asdu} {d : SvDef} (hnamed : dstNamed s p f.dst = true)
    (hx : f.payload = .sv appid [x]) (het : f.etherType = 0x88BA) (hsafe : safetyType s ≠ 0x88BA) (hserves : portServes s p 0 = true)
    (hmatch : (svDefs s).filter (fun y => svMatch p f.dst appid x y.2) = [(k, d)]) (hrev : x.confRev = d.confRev) :
    Goes (.stationFrameReceived p f t) s fun u => (svGet u k).lastCnt = some x.smpCnt ∧ (svGet u k).synch = x.smpSynch ∧
      (∃ y, (svGet u k).buf.head? = some y ∧ y.2.1 = x.qtys) ∧ { u with stn := s.stn, free := s.free } = advanceTo t s := by
  have hf := frame_frameTime p t s
  have hexec := h.exec_named (by rw [hx]; nofun) hnamed t
  rw [classify_sv hx het (by rw [hf.get safetyType]; exact hsafe), portDoes, if_pos (by rw [hf.get (portServes · p 0)]; exact hserves),
    svFrame_one (by rw [hf.get svDefs]; exact hmatch)] at hexec
  obtain ⟨hcnt, hsynch, hbuf, hframe⟩ := svAsdu_taken (s := frameHeard p (advanceTo t s)) (k := k) hrev
  refine goes_of_eq hexec ⟨hcnt, hsynch, hbuf, ?_⟩
  have hfree : (advanceTo t s).free = s.free := (frame_advanceTo s t).get State.free
  have hall : Frame [.stn, .stnPorts, .free] (advanceTo t s) (svAsdu k d x (frameHeard p (advanceTo t s))) := .after hframe (frame_frameHeard ..).mono
  rw [← hfree, ← stn_advanceTo t s]
  exact hall.get fun v => { v with stn := (advanceTo t s).stn, free := (advanceTo t s).free }

/-! ### Answers and frames that leave (R229, R244, R248) -/

theorem txPorts_single (hpair : inPair s p = false) (hup : (stp s p).up = true) : txPorts s p = [p] := by
  have hup' : (s.stn.ports.get p {}).up = true := hup
  simp [txPorts, hpair, hup']

theorem answerOn_sent {dst : BitVec 48} {et : Nat} {body : TxBody} (hpair : inPair s p = false) (hup : (stp s p).up = true) :
    (stp (answerOn p dst et body s) p).icmpArp = (stp s p).icmpArp + 1 ∧
    (∃ x, (answerOn p dst et body s).stn.sent = s.stn.sent ++ [x] ∧ x.port = p ∧ x.dst = dst ∧ x.body = body) ∧
    Frame [.stn, .stnPorts] s (answerOn p dst et body s) := by
  refine ⟨?_, ?_, rfl⟩
  · rw [answerOn, stp_setStp, if_pos rfl]
    rfl
  · have hsent : (answerOn p dst et body s).stn.sent = (stSend p dst (fun _ => none) et body s).sent := rfl
    rw [hsent, stSend, txPorts_single hpair hup]
    exact ⟨_, rfl, rfl, rfl, rfl⟩

/-- An echo request is answered on the port it came by (R248). -/
theorem Arrives.echo (h : Arrives p f s) {src : Nat} {data : List Byte} (hnamed : dstNamed s p f.dst = true)
    (hp : f.payload = .icmpEcho src (ownIp s p) data) (het : f.etherType = 0x0800) (hsafe : safetyType s ≠ 0x0800)
    (hserves : portServes s p 3 = true) (haddr : hasAddress s p = true)
    (hrate : (stp s p).rateSec ≠ (advanceTo t s).now / 400000000 ∨ (stp s p).rateCount.get 2 0 < 2000) :
    Goes (.stationFrameReceived p f t) s fun u => (stp u p).icmpArp = (stp s p).icmpArp + 1 ∧
      (∃ x, u.stn.sent = s.stn.sent ++ [x] ∧ x.port = p ∧ x.dst = f.srcMac ∧ x.body = .icmpReply src data) ∧
      { u with stn := s.stn } = advanceTo t s := by
  have hf := frame_frameTime p t s
  have hexec := h.exec_named (by rw [hp]; nofun) hnamed t
  have hstp : stp (frameHeard p (advanceTo t s)) p = { stp s p with rxFrames := (stp s p).rxFrames + 1 } := by
    have ha : stp (advanceTo t s) p = stp s p := (frame_advanceTo s t).get (stp · p)
    rw [frameHeard, stp_setStp, if_pos rfl, ha]
  have hsent : (frameHeard p (advanceTo t s)).stn.sent = s.stn.sent := hf.get fun v => v.stn.sent
  have hframe := frame_frameHeard p (advanceTo t s)
  generalize hu : frameHeard p (advanceTo t s) = u at hf hexec hstp hsent hframe
  have hnow : u.now = (advanceTo t s).now := hframe.get State.now
  obtain ⟨g, hto, hg⟩ := toMpc_passes (s := u) (p := p) (k := 2) (act := answerOn p f.srcMac 0x0800 (.icmpReply src data))
    (by rw [hf.get (portServes · p 3)]; exact hserves) (by rw [hf.get (hasAddress · p)]; exact haddr) (by rw [hstp, hnow]; exact hrate)
  rw [classify_icmp (by rw [hf.get (ownIp · p)]; exact hp) het (by rw [hf.get safetyType]; exact hsafe), hto] at hexec
  have hport : stp (setStp p g u) p = g (stp u p) := (stp_setStp ..).trans (if_pos rfl)
  have hpair : inPair (setStp p g u) p = false := (((frame_setStp p g u).get (inPair · p)).trans (hf.get (inPair · p))).trans h.single
  have hgp := hg (stp u p)
  obtain ⟨hicmp, hgone, hans⟩ := answerOn_sent (s := setStp p g u) (dst := f.srcMac) (et := 0x0800) (body := .icmpReply src data) hpair
    (by rw [hport, hgp.2, hstp]; exact h.up)
  have hsame : (setStp p g u).stn.sent = s.stn.sent := hsent
  rw [hport, hgp.1, hstp] at hicmp
  rw [hsame] at hgone
  exact goes_of_eq hexec ⟨hicmp, hgone, same_but_stn (stn_advanceTo t s) (.after hans (.after (frame_setStp ..) hframe.mono))⟩

end Sys2Proof.Proofs
end

section
/-! Frames that leave the station ports (R229, R241, R244, R246). -/

set_option Elab.async false

namespace Sys2Proof.Proofs
open Sys2Proof Sys2Proof.Machine Sys2Proof.Laws

variable {s : State} {p : Nat} {f : StFrame} {dst : BitVec 48} {tag : Nat → Option (BitVec 16)} {et : Nat} {body : TxBody}

/-- A frame leaves for a port. -/
def portSend (dst : BitVec 48) (tag : Nat → Option (BitVec 16)) (et : Nat) (body : TxBody) (s : State) (p : Nat) : State :=
  { s with stn := stSend p dst tag et body s }

theorem frame_portSend (s : State) (p : Nat) : Frame [.stn] s (portSend dst tag et body s p) := rfl

theorem sent_portSend {x : TxFrame} (h : x ∈ s.stn.sent) (p : Nat) : x ∈ (portSend dst tag et body s p).stn.sent :=
  List.mem_append_left _ h

/-- Each port that a frame leaves on has it among what is sent. -/
theorem portSend_sends {q : Nat} (hq : q ∈ txPorts s p) :
    ∃ x ∈ (portSend dst tag et body s p).stn.sent, x.port = q ∧ x.dst = dst ∧ x.etherType = et ∧ x.body = body :=
  ⟨_, List.mem_append_right _ (List.mem_map_of_mem hq), rfl, rfl, rfl, rfl⟩

theorem sent_portSends {x : TxFrame} (ps : List Nat) (h : x ∈ s.stn.sent) : x ∈ (ps.foldl (portSend dst tag et body) s).stn.sent :=
  List.foldlRecOn (motive := fun t : State => x ∈ t.stn.sent) ps _ h fun _ hx a _ => sent_portSend hx a

theorem portSends_sends (ps : List Nat) (hp : p ∈ ps) (hq : p ∈ txPorts s p) :
    ∃ x ∈ (ps.foldl (portSend dst tag et body) s).stn.sent, x.port = p ∧ x.dst = dst ∧ x.body = body := by
  induction ps generalizing s with
  | nil => cases hp
  | cons a ps ih =>
    rcases List.mem_cons.mp hp with rfl | hin
    · obtain ⟨x, hx, hport, hdst, -, hbody⟩ := portSend_sends (dst := dst) (tag := tag) (et := et) (body := body) hq
      exact ⟨x, sent_portSends ps hx, hport, hdst, hbody⟩
    · exact ih hin (by rw [(frame_portSend s a).get (txPorts · p)]; exact hq)

/-- What a mask's frame leaves: nothing but the station ports' state, and the published blocks there. -/
theorem frame_maskSend (mask : Nat) (s : State) : Frame [.stn] s (maskSend mask dst tag et body s) :=
  .foldl _ .refl fun s p _ => frame_portSend s p

theorem pubs_maskSend (mask : Nat) (s : State) : (maskSend mask dst tag et body s).stn.pubs = s.stn.pubs :=
  List.foldlRecOn (motive := fun t : State => t.stn.pubs = s.stn.pubs) _ _ rfl fun _ h _ _ => h

theorem maskSend_sends {mask : Nat} (hp : p < 8) (hbit : mask.testBit p = true) (hup : (stp s p).up = true) (hpair : inPair s p = false) :
    ∃ x ∈ (maskSend mask dst tag et body s).stn.sent, x.port = p ∧ x.dst = dst ∧ x.body = body :=
  portSends_sends _ (List.mem_filter.mpr ⟨List.mem_range.mpr hp, by simp [hbit, hpair]⟩) (by simp [txPorts_single hpair hup])

/-- A published block as it is repeated (R241). -/
def repeated (t0 : Nat) (x : GoosePub) : GoosePub :=
  { x with sqNum := x.sqNum + 1, interval := min (2 * x.interval) (t0 * 1000), ttl := 2 * min (2 * x.interval) (t0 * 1000) }

theorem exec_gooseRetransmit {k : Nat} (hk : k < 32) {d : GoosePubDef} (hd : (pubDefs s).find k = some d) :
    exec (.gooseRetransmit k) s = .next (
      if !maySend s d || (s.stn.pubs.get k {}).sent.isNone then s else pubSend k d (repeated d.t0 (s.stn.pubs.get k {})) s) := by
  simp only [exec, execGooseRetransmit, Machine.unit, hk, hd, decide_true, if_true]
  rfl

theorem gooseRetransmit_repeats {k : Nat} (hk : k < 32) {d : GoosePubDef} (hd : (pubDefs s).find k = some d) (hmay : maySend s d = true)
    (hsent : (s.stn.pubs.get k {}).sent.isSome = true) : Goes (.gooseRetransmit k) s fun t =>
      let x := s.stn.pubs.get k {}
      let y := t.stn.pubs.get k {}
      y.sqNum = x.sqNum + 1 ∧ y.stNum = x.stNum ∧ y.interval = min (2 * x.interval) (d.t0 * 1000) ∧ y.messages = x.messages + 1 ∧
      (∀ p, p < 8 → d.ports.testBit p = true → (stp s p).up = true → inPair s p = false →
        ∃ f ∈ t.stn.sent, f.port = p ∧ f.dst = d.dst ∧ f.body = .goose k y.stNum y.sqNum y.ttl (x.sent.getD [])) ∧
      { t with stn := s.stn } = s := by
  have hnone : (s.stn.pubs.get k {}).sent.isNone = false := by rw [← Option.not_isSome, hsent]; rfl
  refine goes_of_eq ((exec_gooseRetransmit hk hd).trans (congrArg _ (if_neg (by rw [hmay, hnone]; decide)))) ?_
  generalize hx : s.stn.pubs.get k {} = x
  have hy : (pubSend k d (repeated d.t0 x) s).stn.pubs.get k {} = { repeated d.t0 x with messages := x.messages + 1 } := by
    rw [pubSend, pubs_maskSend]
    exact (get_set ..).trans (if_pos rfl)
  dsimp only
  rw [hy]
  have hset : Frame [.stn] s (setPub k { repeated d.t0 x with messages := x.messages + 1 } s) := rfl
  refine ⟨rfl, rfl, rfl, rfl, fun p hp hbit hup hpair => ?_, ?_⟩
  · exact maskSend_sends hp hbit hup ((hset.get (inPair · p)).trans hpair)
  · exact ((frame_maskSend ..).after hset).get fun v => { v with stn := s.stn }

theorem exec_gooseRetransmit_unsent {k : Nat} (hk : k < 32) (hsent : (s.stn.pubs.get k {}).sent = none) : exec (.gooseRetransmit k) s = .next s := by
  cases hd : (pubDefs s).find k with
  | none => simp only [exec, execGooseRetransmit, Machine.unit, hk, hd, decide_true, if_true]
  | some d => exact (exec_gooseRetransmit hk hd).trans (congrArg _ (if_pos (by rw [hsent]; simp)))

/-! ### Supervision frames of a pair (R246) -/

/-- A pair's supervision frame leaves, and is counted. -/
def supervised (q : Nat) (s : State) : State :=
  { s with stn := { stSend (2 * q) supAddr (fun _ => none) 0x88FB .prpSupervision s with prpSup := s.stn.prpSup.upd q 0 (· + 1) } }

theorem exec_prpSupervisionSend {q : Nat} (hq : q < 2) : exec (.prpSupervisionSend q) s = .next (if pairOn s q then supervised q s else s) :=
  if_pos (by simpa using hq)

theorem inPair_of_pairOn {q : Nat} (hq : q < 2) (hon : pairOn s q = true) : inPair s (2 * q) = true := by
  have hhalf : 2 * q / 2 = q := by omega
  rw [inPair, hhalf, hon]
  simp
  omega

theorem txPorts_pair {q l : Nat} (hq : q < 2) (hon : pairOn s q = true) (hl : l < 2) (hup : (stp s (2 * q + l)).up = true) :
    2 * q + l ∈ txPorts s (2 * q) := by
  have hmem : 2 * q + l ∈ [2 * q / 2 * 2, 2 * q / 2 * 2 + 1] := by
    rw [List.mem_cons, List.mem_singleton]
    omega
  exact List.mem_filter.mpr ⟨by rw [if_pos (inPair_of_pairOn hq hon)]; exact hmem, hup⟩

theorem prpSupervisionSend_sends {q : Nat} (hq : q < 2) (hon : pairOn s q = true) : Goes (.prpSupervisionSend q) s fun t =>
      t.stn.prpSup.get q 0 = s.stn.prpSup.get q 0 + 1 ∧ t.stn.prpSeq.get q 0 = s.stn.prpSeq.get q 0 + 1 ∧
      (∀ l, l < 2 → (stp s (2 * q + l)).up = true → ∃ f ∈ t.stn.sent, f.port = 2 * q + l ∧ f.dst = supAddr ∧ f.etherType = 0x88FB) ∧
      { t with stn := s.stn } = s := by
  have hhalf : 2 * q / 2 = q := by omega
  refine goes_of_eq ((exec_prpSupervisionSend hq).trans (congrArg _ (if_pos hon))) ⟨?_, ?_, fun l hl hup => ?_, rfl⟩
  · exact (get_upd ..).trans (if_pos rfl)
  · have hseq : (supervised q s).stn.prpSeq = s.stn.prpSeq.set (2 * q / 2) (s.stn.prpSeq.get (2 * q / 2) 0 + 1) :=
      if_pos (inPair_of_pairOn hq hon)
    rw [hseq, hhalf]
    exact (get_set ..).trans (if_pos rfl)
  · obtain ⟨x, hx, hport, hdst, het, -⟩ := portSend_sends (dst := supAddr) (tag := fun _ => none) (et := 0x88FB) (body := .prpSupervision)
      (txPorts_pair hq hon hl hup)
    exact ⟨x, hx, hport, hdst, het⟩

/-- Settles O47: what a station port does with a frame that arrives, and the frames of blocks and pairs that leave. -/
theorem stationFrames : Obligations.StationFrames := by
  unfold Obligations.StationFrames
  intro s
  refine ⟨fun p f t hp h => exec_stationFrame_idle hp h, fun p f t hp hup hidle => ?_, fun k d hk hd hmay hsent => gooseRetransmit_repeats hk hd hmay hsent,
    fun k hk hsent => exec_gooseRetransmit_unsent hk hsent, fun q hq hon => prpSupervisionSend_sends hq hon,
    fun q hq hoff => (exec_prpSupervisionSend hq).trans (congrArg _ (if_neg (by rw [hoff]; decide)))⟩
  intro a counted sound dropped
  have harrives : sound → Arrives p f s := fun ⟨hlen, htags, hfcs, hmin, hpair⟩ => ⟨hp, hup, hidle, ⟨hlen, htags, hfcs, hmin⟩, hpair⟩
  have hexec : exec (.stationFrameReceived p f t) s = .next (frameUp p f a) := exec_stationFrame hp hup hidle
  refine ⟨fun hlong => ?_, fun hlen htags => ?_, fun hlen htags hfcs => ?_, fun hlen htags hfcs hmin hpause => ?_, fun hsound hpause hdst => ?_,
    fun hsound hnamed hun => ?_, fun g hsound hnamed hg het hsafe hno => ?_,
    fun g k d hsound hnamed hg het hsafe hserves hsubs htwins hrev hsim hseen =>
      (harrives hsound).goose_pends hnamed hg het hsafe hserves hsubs htwins hrev hsim hseen,
    fun appid x k d hsound hnamed hx het hsafe hserves hmatch hrev => (harrives hsound).sample hnamed hx het hsafe hserves hmatch hrev,
    fun src data hsound hnamed hecho het hsafe hserves haddr hrate => (harrives hsound).echo hnamed hecho het hsafe hserves haddr hrate⟩
  · exact hexec.trans (congrArg _ (if_pos hlong))
  · exact hexec.trans (congrArg _ ((if_neg (by omega)).trans (if_pos htags)))
  · exact hexec.trans (congrArg _ ((if_neg (by omega)).trans ((if_neg (by omega)).trans (if_pos (by rw [hfcs]; rfl)))))
  · exact hexec.trans (congrArg _ ((frameUp_framed ⟨hlen, htags, hfcs, hmin⟩ p a).trans (frameTaken_pause hpause)))
  · have hnamed : dstNamed (frameHeard p a) p f.dst = false := ((frame_frameTime p t s).get (dstNamed · p f.dst)).trans hdst
    exact ((harrives hsound).exec hpause t).trans (congrArg _ (if_pos (by rw [hnamed]; rfl)))
  · exact (harrives hsound).dropped (by rw [hun]; nofun) hnamed (classify_unknown hun)
  · have hf := frame_frameTime p t s
    refine (harrives hsound).dropped (by rw [hg]; nofun) hnamed ((classify_goose hg het (by rw [hf.get safetyType]; exact hsafe)).trans (goose_discards ?_))
    rw [hf.get (portServes · p 1), hf.get gooseDefs, hf.get pubDefs]
    exact hno.imp_right fun ⟨hsubs, htwins⟩ => ⟨hsubs, fun x hx => (hf.get (gooseTwin · p f.dst g x.2)).trans (htwins x hx)⟩

end Sys2Proof.Proofs
end

section
/-! The dataflow graph and the arm engines (R53–R55, R80, R82, R84): what dispatch leaves, the steps of a lane, output steps. -/

set_option Elab.async false

namespace Sys2Proof.Proofs
open Sys2Proof Sys2Proof.Machine Sys2Proof.Laws

variable {s : State} {g h k : Graph} {l n : Nat}

/-! ### Dispatch (R80–R82) -/

/-- The graph without its queues and lanes. -/
def unqueued (g : Graph) : Graph := { g with lanes := [], queues := [], pendCount := [], waitObs := [], qmax := [], hist := [] }

/-- Nothing differs but queues and lanes. -/
def Requeued (g h : Graph) : Prop := unqueued h = unqueued g

theorem Requeued.trans (hgh : Requeued g h) (hhk : Requeued h k) : Requeued g k := Eq.trans hhk hgh

theorem Requeued.get {β : Type} (hgh : Requeued g h) (f : Graph → β) (hf : ∀ x, f (unqueued x) = f x := by intro x; rfl) : f h = f g :=
  (hf h).symm.trans ((congrArg f hgh).trans (hf g))

theorem requeued_foldl {α : Type} {f : Graph → α → Graph} (xs : List α) (hf : ∀ x a, Requeued x (f x a)) (g : Graph) : Requeued g (xs.foldl f g) :=
  List.foldlRecOn (motive := Requeued g) xs f rfl fun x hx a _ => hx.trans (hf x a)

theorem requeued_enqueue (s : State) (t : Nat) (ns : List Nat) (g : Graph) : Requeued g (Machine.enqueue s t ns g) :=
  requeued_foldl ns (fun x a => by split <;> rfl) g

theorem requeued_fillSlot (s : State) (l : Nat) (g : Graph) : Requeued g (fillSlot s l g) := by
  unfold fillSlot
  extract_lets x
  split
  · rfl
  · split
    · rfl
    · extract_lets steps now filled
      split
      · rfl
      · rfl

theorem requeued_dispatchAll (s : State) (g : Graph) : Requeued g (dispatchAll s g) :=
  requeued_foldl _ (fun x l => (requeued_fillSlot s l x).trans (requeued_fillSlot s l _)) g

theorem requeued_release (s : State) (p t : Nat) (g : Graph) : Requeued g (release s p t g) :=
  Requeued.trans (h := { g with pendCount := _, waitObs := _ }) rfl (requeued_enqueue ..)

/-- What a lane's current node shows: node, steps left, busy time and time. -/
def laneRun (x : Lane) : Option Nat × Nat × Nat × Nat := (x.exec, x.stepsLeft, x.busy, x.time)

/-- A lane that executes a node keeps executing it, whatever is dispatched. -/
theorem laneRun_fillSlot (s : State) (j : Nat) (hrun : (g.lanes.get l {}).exec.isSome = true) :
    laneRun ((fillSlot s j g).lanes.get l {}) = laneRun (g.lanes.get l {}) := by
  unfold fillSlot
  extract_lets x
  split
  · rfl
  · split
    · rfl
    · by_cases hj : j = l
      · subst hj
        have hbusy : x.exec.isNone = false := by
          rw [← Option.not_isSome]
          simp [x, hrun]
        dsimp only
        rw [if_neg (by rw [hbusy]; decide)]
        dsimp only
        rw [get_set, if_pos rfl]
        rfl
      · dsimp only
        split
        · dsimp only
          rw [get_set, if_neg hj]
        · dsimp only
          rw [get_set, if_neg hj]

theorem laneRun_dispatchAll (s : State) (hrun : (g.lanes.get l {}).exec.isSome = true) :
    laneRun ((dispatchAll s g).lanes.get l {}) = laneRun (g.lanes.get l {}) := by
  have hstep : ∀ x : Graph, laneRun (x.lanes.get l {}) = laneRun (g.lanes.get l {}) → ∀ j,
      laneRun ((fillSlot s j x).lanes.get l {}) = laneRun (g.lanes.get l {}) := fun x hx j => by
    have hexec : (x.lanes.get l {}).exec = (g.lanes.get l {}).exec := congrArg Prod.fst hx
    exact (laneRun_fillSlot s j (by rw [hexec]; exact hrun)).trans hx
  exact List.foldlRecOn (motive := fun x : Graph => laneRun (x.lanes.get l {}) = laneRun (g.lanes.get l {})) _ _ rfl
    fun x hx j _ => hstep _ (hstep x hx j) j

/-! ### Steps of a lane (R53, R55) -/

theorem exec_laneStep_rest {dur : Nat} {r : Option Nat} (hl : l < 64) (h : graphLive s = false) : exec (.laneStepComplete l dur r) s = .next s :=
  (if_pos (by simp [h])).trans (if_pos (by simpa using hl))

/-- What a step of a lane that executes a node does, after a mismatch of residues. -/
def stepTaken (l dur : Nat) (s : State) : State :=
  if graphLive s && ((s.graph.lanes.get l {}).exec).isSome then withGraph s (dispatchAll s (laneTick l dur s.graph)) else s

theorem exec_laneStep {dur : Nat} (r : Option Nat) (hl : l < 64) (hlive : graphLive s = true) (hexec : (s.graph.lanes.get l {}).exec = some n)
    (hsteps : 1 < (s.graph.lanes.get l {}).stepsLeft) : exec (.laneStepComplete l dur r) s =
      .next (stepTaken l dur (match r with | some sl => laneMismatch l sl s | none => s)) := by
  refine (if_neg ?_).trans (if_pos (by simpa using hl))
  simp [hlive, hexec, hsteps]

theorem laneStep_passes {dur : Nat} (hl : l < 64) (hlive : graphLive s = true) (hexec : (s.graph.lanes.get l {}).exec = some n)
    (hsteps : 1 < (s.graph.lanes.get l {}).stepsLeft) : Goes (.laneStepComplete l dur none) s fun t =>
      let x := s.graph.lanes.get l {}
      let y := t.graph.lanes.get l {}
      y.exec = some n ∧ y.stepsLeft = x.stepsLeft - 1 ∧ y.busy = x.busy + dur ∧ y.time = x.time + dur ∧ t.graph.stepsRun = s.graph.stepsRun + 1 ∧
      t.graph.work = s.graph.work ∧ t.graph.cur = s.graph.cur ∧ { t with graph := s.graph } = s := by
  have htick : (laneTick l dur s.graph).lanes.get l {} = { s.graph.lanes.get l {} with
      time := (s.graph.lanes.get l {}).time + dur, opBusy := (s.graph.lanes.get l {}).opBusy + dur,
      busy := (s.graph.lanes.get l {}).busy + dur, stepsLeft := (s.graph.lanes.get l {}).stepsLeft - 1 } := (get_set ..).trans (if_pos rfl)
  have hrun := laneRun_dispatchAll (g := laneTick l dur s.graph) (l := l) s (by rw [htick, hexec]; rfl)
  rw [htick] at hrun
  have hq := requeued_dispatchAll s (laneTick l dur s.graph)
  have hc := exec_laneStep (dur := dur) none hl hlive hexec hsteps
  have hlive' : (graphLive s && ((s.graph.lanes.get l {}).exec).isSome) = true := by rw [hlive, hexec]; rfl
  dsimp only at hc
  rw [stepTaken, if_pos hlive'] at hc
  generalize hu : dispatchAll s (laneTick l dur s.graph) = u at hrun hq hc
  obtain ⟨hexec', hleft, hbusy, htime⟩ : (u.lanes.get l {}).exec = (s.graph.lanes.get l {}).exec ∧
      (u.lanes.get l {}).stepsLeft = (s.graph.lanes.get l {}).stepsLeft - 1 ∧ (u.lanes.get l {}).busy = (s.graph.lanes.get l {}).busy + dur ∧
      (u.lanes.get l {}).time = (s.graph.lanes.get l {}).time + dur := by
    simpa [laneRun] using hrun
  exact goes_of_eq hc ⟨hexec'.trans hexec, hleft, hbusy, htime, hq.get Graph.stepsRun, hq.get Graph.work, hq.get Graph.cur, rfl⟩

/-- The states in force stand, and the cycle counts as missed. -/
def Spoiled (c : SMap NodeSt) (s : State) : Prop := s.graph.cur = c ∧ 0 < s.cyc.forceMiss

theorem cur_fabricReset (s : State) : (blockReset .fabric s).graph.cur = s.graph.cur := by
  unfold blockReset
  dsimp -zeta only
  extract_lets _ back lanes cleared freed home place moved _ placed
  have hcleared : cleared.graph.cur = s.graph.cur := ((Frame.ite (frame_clear s 3) .refl : Frame [.fcru] s cleared)).get fun u => u.graph.cur
  have hplaced : placed.graph.cur = cleared.graph.cur := by
    unfold placed
    split <;> rfl
  exact hplaced.trans hcleared

theorem resetProof_spoiled {src : Nat} (c : SMap NodeSt) : ResetProof src (Spoiled c) where
  frame hf hs := by
    obtain ⟨hcur, hmiss⟩ := hs
    exact ⟨(hf.get fun u => u.graph.cur).trans hcur, by rw [hf.get fun u => u.cyc.forceMiss]; exact hmiss⟩
  reset := by
    intro s d _ hs
    obtain ⟨hcur, hmiss⟩ := hs
    cases d with
    | basinPort q =>
      have hf := frame_portRelock { s with dev := { s.dev with blockReset := s.dev.blockReset ++ [.basinPort q] } } q
      exact ⟨(hf.get fun u => u.graph.cur).trans hcur, by rw [blockReset, hf.get fun u => u.cyc.forceMiss]; exact hmiss⟩
    | stationPort q => exact ⟨((frame_linkDown ..).get fun u => u.graph.cur).trans hcur, by rw [blockReset, (frame_linkDown ..).get fun u => u.cyc.forceMiss]; exact hmiss⟩
    | pulseChannel q => exact ⟨hcur, hmiss⟩
    | fabric => exact ⟨(cur_fabricReset s).trans hcur, (by decide : 0 < 2)⟩

/-- A lane with a mismatch is retired, and the cycle is spoiled (R55). -/
def laneRetired (l : Nat) (s : State) : State :=
  { s with graph := { s.graph with lanes := s.graph.lanes.set l { s.graph.lanes.get l {} with retired := true } },
           cyc := { s.cyc with forceMiss := max 1 s.cyc.forceMiss } }

/-- A third retired lane is FLT_LANE_DEPLETED (R55). -/
def depleted (s : State) : State := if 3 ≤ (s.graph.lanes.filter (fun x => x.2.retired)).length then raise 3 [] s else s

theorem laneMismatch_eq (l sl : Nat) (s : State) : ∃ d, laneMismatch l sl s = depleted (raise 2 d (laneRetired l s)) := ⟨_, rfl⟩

theorem depleted_keeps {c : SMap NodeSt} (hcalm : Calm s) (hs : Spoiled c s) (hl : Latched s 2) : Latched (depleted s) 2 ∧ Spoiled c (depleted s) := by
  unfold depleted
  split
  · exact ⟨Latched.kept hl (kept_raise _ _ _ (.self ..)),
      (resetProof_spoiled (src := 3) c).raise (fun f hf => appliedLevel_ne_five hcalm (by decide) hf) _ hs⟩
  · exact ⟨hl, hs⟩

theorem laneMismatch_spoils {sl : Nat} (hcalm : Calm s) (hp : s.dev.porstN = true) (hr : s.dev.railHold = false) :
    Latched (laneMismatch l sl s) 2 ∧ Spoiled s.graph.cur (laneMismatch l sl s) := by
  obtain ⟨d, hd⟩ := laneMismatch_eq l sl s
  rw [hd]
  have hspoilt : Spoiled s.graph.cur (laneRetired l s) := ⟨rfl, Nat.lt_of_lt_of_le Nat.zero_lt_one (Nat.le_max_left ..)⟩
  have hcalm' : Calm (laneRetired l s) := calm_of_cfg_eq rfl hcalm
  have hp' : (laneRetired l s).dev.porstN = true := hp
  have hr' : (laneRetired l s).dev.railHold = false := hr
  generalize laneRetired l s = u at hspoilt hcalm' hp' hr'
  have hb : Frame signalParts u (raise 2 d u) := frame_raise_signal hcalm' (by decide) (by decide) d
  exact depleted_keeps (hb.calm hcalm') ((resetProof_spoiled (src := 2) _).frame hb hspoilt)
    (latched_raise_edge (src := 2) (f := ⟨0, false, 1, false, false⟩) (by decide) (fun v => by cases v <;> rfl) rfl hp' hr' d)

theorem frame_stepTaken (l dur : Nat) (s : State) : Frame [.graph] s (stepTaken l dur s) := .ite (frame_withGraph ..) .refl

theorem cur_stepTaken (l dur : Nat) (s : State) : (stepTaken l dur s).graph.cur = s.graph.cur := by
  unfold stepTaken
  split
  · exact (requeued_dispatchAll s (laneTick l dur s.graph)).get Graph.cur
  · rfl

theorem laneStep_spoils {dur sl : Nat} (hl : l < 64) (hlive : graphLive s = true) (hexec : (s.graph.lanes.get l {}).exec = some n)
    (hsteps : 1 < (s.graph.lanes.get l {}).stepsLeft) (hp : s.dev.porstN = true) (hr : s.dev.railHold = false) (hcalm : Calm s) :
    Goes (.laneStepComplete l dur (some sl)) s fun t => Latched t 2 ∧ 0 < t.cyc.forceMiss ∧ t.graph.cur = s.graph.cur := by
  obtain ⟨hlatched, hcur, hmiss⟩ := laneMismatch_spoils (l := l) (sl := sl) hcalm hp hr
  have hf := frame_stepTaken l dur (laneMismatch l sl s)
  refine goes_of_eq (exec_laneStep (some sl) hl hlive hexec hsteps) ⟨?_, ?_, (cur_stepTaken ..).trans hcur⟩
  · exact (hf.get (Latched · 2)).mpr hlatched
  · rw [hf.get fun u => u.cyc.forceMiss]
    exact hmiss

end Sys2Proof.Proofs
end

section
/-! Output steps of the nodes and the arm engines (R54, R80, R84, R132–R139). -/

set_option Elab.async false

namespace Sys2Proof.Proofs
open Sys2Proof Sys2Proof.Machine Sys2Proof.Laws

variable {s : State} {l n dur : Nat} {d : NodeDef}

/-! ### Output steps (R54, R80) -/

/-- What a node evaluates to does not depend on the lanes. -/
theorem nodeEval_laneTick (l dur : Nat) (d : NodeDef) (s : State) : nodeEval (withGraph s (laneTick l dur s.graph)) d = nodeEval s d := rfl

theorem phaseNode_cases (d : NodeDef) (out : Stage) (s : State) : ∃ r k, phaseNode d out s = { s with dev := { s.dev with phaseReq := r, phaseRejects := k } } := by
  unfold phaseNode
  extract_lets v x
  split
  · exact ⟨s.dev.phaseReq, s.dev.phaseRejects, rfl⟩
  · split
    · exact ⟨s.dev.phaseReq, s.dev.phaseRejects, rfl⟩
    · split
      · split
        · exact ⟨_, s.dev.phaseRejects, rfl⟩
        · exact ⟨s.dev.phaseReq, _, rfl⟩
      · exact ⟨s.dev.phaseReq, _, rfl⟩

/-- The working copy after a node's results, with a transfer record of another node. -/
def workWith (n : Nat) (st : NodeSt) (rec : Option (Nat × Stage)) (work : SMap NodeSt) : SMap NodeSt :=
  match rec with
  | some (k, ds) => (work.set n { st with xfer := none }).upd k {} (fun o => { o with xfer := some ds })
  | none => work.set n { st with xfer := none }

theorem nodeOut_workWith (n k : Nat) (st : NodeSt) (rec : Option (Nat × Stage)) (work : SMap NodeSt) :
    nodeOut (workWith n st rec work) k = if n = k then st.out else nodeOut work k := by
  have hset : nodeOut (work.set n { st with xfer := none }) k = if n = k then st.out else nodeOut work k := by
    rw [nodeOut, get_set]
    split <;> rfl
  rcases rec with _ | ⟨j, ds⟩
  · exact hset
  · rw [← hset]
    simp only [workWith, nodeOut, get_upd]
    split
    · next h => rw [h]
    · rfl

/-- Steps of the node that a lane takes up next. -/
def stepsOf (s : State) (staged : Option Nat) : Nat :=
  match staged with
  | some m => (match node? s m with | some e => e.steps | none => 0)
  | none => 0

/-- The graph once a node's results are in its working copy. -/
def graphOut (l n : Nat) (d : NodeDef) (s : State) : Graph :=
  let x := s.graph.lanes.get l {}
  let f := (nodeEval s d).2
  { s.graph with
    work := workWith n (nodeEval s d).1.1 (nodeEval s d).1.2 s.graph.work,
    workStat := s.graph.workStat.set n { sat := f.sat, domain := f.dom, clamp := f.clamp, executed := true },
    lanes := s.graph.lanes.set l { x with exec := x.staged, staged := none, opBusy := 0, ops := x.ops + 1, stepsLeft := stepsOf s x.staged },
    done := s.graph.done ++ [n],
    gt := max s.graph.gt x.time,
    execNow := s.graph.execNow.set n x.opBusy }

/-- The graph after the dispatch that follows, and its mark of completion. -/
def graphOn (n t : Nat) (s : State) : State :=
  let g := dispatchAll s (release s n t s.graph)
  { s with graph := g, cyc := { s.cyc with graphDone := g.done.length = (nodes s).length } }

theorem nodeDone_eq (hd : node? s n = some d) :
    nodeDone l n s = graphOn n (s.graph.lanes.get l {}).time (phaseNode d (nodeEval s d).1.1.out (withGraph s (graphOut l n d s))) := by
  unfold nodeDone
  rw [hd]
  rfl

theorem graphOn_keeps (n t : Nat) (s : State) : ∃ g, Requeued s.graph g ∧
    graphOn n t s = { s with graph := g, cyc := { s.cyc with graphDone := g.done.length = (nodes s).length } } :=
  ⟨_, (requeued_release s n t s.graph).trans (requeued_dispatchAll s _), rfl⟩

theorem exec_nodeOutput (hl : l < 64) (hlive : graphLive s = true) (hexec : (s.graph.lanes.get l {}).exec = some n)
    (hsteps : (s.graph.lanes.get l {}).stepsLeft = 1) :
    exec (.nodeOutputComplete l dur) s = .next (nodeDone l n (withGraph s (laneTick l dur s.graph))) := by
  simp only [exec, execNodeOutputComplete, Machine.unit, hexec, hlive, hsteps, hl, decide_true, if_true, Bool.not_true, Bool.false_or, ne_eq,
    not_true, decide_false, Bool.false_eq_true, if_false]

theorem exec_nodeOutput_rest (hl : l < 64) (h : graphLive s = false) : exec (.nodeOutputComplete l dur) s = .next s := by
  simp only [exec, execNodeOutputComplete, Machine.unit, h, hl, decide_true, if_true, Bool.not_false, Bool.true_or]
  split <;> rfl

theorem nodeOutput_done (hl : l < 64) (hlive : graphLive s = true) (hexec : (s.graph.lanes.get l {}).exec = some n)
    (hsteps : (s.graph.lanes.get l {}).stepsLeft = 1) (hd : node? s n = some d) : Goes (.nodeOutputComplete l dur) s fun t =>
      nodeOut t.graph.work n = (nodeEval s d).1.1.out ∧ t.graph.done = s.graph.done ++ [n] ∧
      (∀ k, k ≠ n → nodeOut t.graph.work k = nodeOut s.graph.work k) ∧ t.graph.cur = s.graph.cur ∧ t.graph.stat = s.graph.stat ∧
      t.cyc = { s.cyc with graphDone := t.graph.done.length = (nodes s).length } ∧ t.dev.phase = s.dev.phase ∧
      { t with graph := s.graph, cyc := s.cyc, dev := s.dev } = s := by
  have hd' : node? (withGraph s (laneTick l dur s.graph)) n = some d := hd
  have hc := (exec_nodeOutput (dur := dur) hl hlive hexec hsteps).trans (congrArg _ (nodeDone_eq hd'))
  rw [nodeEval_laneTick] at hc
  have hwork : (graphOut l n d (withGraph s (laneTick l dur s.graph))).work = workWith n (nodeEval s d).1.1 (nodeEval s d).1.2 s.graph.work := by
    rw [graphOut, nodeEval_laneTick]
    rfl
  have hdone : (graphOut l n d (withGraph s (laneTick l dur s.graph))).done = s.graph.done ++ [n] := rfl
  have hcur : (graphOut l n d (withGraph s (laneTick l dur s.graph))).cur = s.graph.cur := rfl
  have hstat : (graphOut l n d (withGraph s (laneTick l dur s.graph))).stat = s.graph.stat := rfl
  generalize graphOut l n d (withGraph s (laneTick l dur s.graph)) = g at hc hwork hdone hcur hstat
  obtain ⟨r, k, hphase⟩ := phaseNode_cases d (nodeEval s d).1.1.out (withGraph (withGraph s (laneTick l dur s.graph)) g)
  rw [hphase] at hc
  obtain ⟨g', hq, hon⟩ := graphOn_keeps n ((withGraph s (laneTick l dur s.graph)).graph.lanes.get l {}).time
    { withGraph (withGraph s (laneTick l dur s.graph)) g with
      dev := { (withGraph (withGraph s (laneTick l dur s.graph)) g).dev with phaseReq := r, phaseRejects := k } }
  rw [hon] at hc
  have hgwork : g'.work = _ := (hq.get Graph.work).trans hwork
  refine goes_of_eq hc ⟨?_, (hq.get Graph.done).trans hdone, fun j hj => ?_, (hq.get Graph.cur).trans hcur, (hq.get Graph.stat).trans hstat, rfl, rfl, rfl⟩
  · show nodeOut g'.work n = _
    rw [hgwork, nodeOut_workWith, if_pos rfl]
  · show nodeOut g'.work j = _
    rw [hgwork, nodeOut_workWith, if_neg (Ne.symm hj)]

/-! ### Arm engines (R84, R132–R139) -/

theorem sel_engineRun (s : State) (a : Nat) (ref : Stage) :
    (engineRun s a ref).2.sel = (s.arms.get a {}).sel ∧ (engineRun s a ref).2.d = (s.arms.get a {}).d := ⟨rfl, rfl⟩

/-- What an arm's engine leaves of its arm. -/
def armRun (a : Nat) (ref : Stage) (s : State) : Arm :=
  if runs s then { (engineRun s a ref).2 with out := some (engineRun s a ref).1 } else { s.arms.get a {} with out := some (engineBlock s a) }

theorem armRun_keeps (a : Nat) (ref : Stage) (s : State) :
    (armRun a ref s).out = some (if runs s then (engineRun s a ref).1 else engineBlock s a) ∧
    (armRun a ref s).sel = (s.arms.get a {}).sel ∧ (armRun a ref s).d = (s.arms.get a {}).d := by
  obtain ⟨hsel, hd⟩ := sel_engineRun s a ref
  unfold armRun
  split
  · exact ⟨rfl, hsel, hd⟩
  · exact ⟨rfl, rfl, rfl⟩

theorem exec_armEngine {a : Nat} (ha : a < nArms s) (hready : armReady s a = true) (hd : armNode s a = some d) : exec (.armEngineComplete a) s =
    .next { s with arms := s.arms.set a (armRun a (nodeOut s.graph.work d.node) s), cyc := { s.cyc with armsDone := s.cyc.armsDone ++ [a] } } := by
  refine (if_neg (by rw [hready]; decide)).trans ((if_pos (by simpa using ha)).trans ?_)
  rw [hd]
  rfl

theorem armEngine_completes {a : Nat} (ha : a < nArms s) (hready : armReady s a = true) (hd : armNode s a = some d) :
    Goes (.armEngineComplete a) s fun t => (∀ b, b ≠ a → t.arms.get b {} = s.arms.get b {}) ∧
      t.cyc = { s.cyc with armsDone := s.cyc.armsDone ++ [a] } ∧
      (t.arms.get a {}).out = some (if runs s then (engineRun s a (nodeOut s.graph.work d.node)).1 else engineBlock s a) ∧
      (t.arms.get a {}).sel = (s.arms.get a {}).sel ∧ (t.arms.get a {}).d = (s.arms.get a {}).d ∧ { t with arms := s.arms, cyc := s.cyc } = s := by
  have hkeeps := armRun_keeps a (nodeOut s.graph.work d.node) s
  have hc := exec_armEngine ha hready hd
  generalize armRun a (nodeOut s.graph.work d.node) s = x at hc hkeeps
  have hget : ∀ b, (s.arms.set a x).get b {} = if a = b then x else s.arms.get b {} := fun b => get_set ..
  obtain ⟨hout, hsel, hd'⟩ := hkeeps
  refine goes_of_eq hc ⟨fun b hb => (hget b).trans (if_neg (Ne.symm hb)), rfl, ?_, ?_, ?_, rfl⟩
  all_goals
    dsimp only
    rw [hget, if_pos rfl]
    assumption

/-- Settles O18: lanes step, nodes put out, and arm engines complete. -/
theorem stepsOfTheFabric : Obligations.StepsOfTheFabric := by
  unfold Obligations.StepsOfTheFabric
  intro s
  exact ⟨fun l dur n hl hlive hexec hsteps => laneStep_passes hl hlive hexec hsteps,
    fun l dur n sl hl hlive hexec hsteps hp hr hcalm => laneStep_spoils hl hlive hexec hsteps hp hr hcalm,
    fun l dur n d hl hlive hexec hsteps hd => nodeOutput_done hl hlive hexec hsteps hd,
    fun l dur r hl hrest => ⟨exec_laneStep_rest hl hrest, exec_nodeOutput_rest hl hrest⟩,
    fun a ha hready d hd => armEngine_completes ha hready hd,
    fun a ha hready => (if_pos (by rw [hready]; rfl)).trans (if_pos (by simpa using ha))⟩

end Sys2Proof.Proofs
end

section
/-! What a value does that goes to the captures and to the Point Store (R221, R222, R444–R454): it stays within them and what a fault signals. -/

set_option Elab.async false

namespace Sys2Proof.Proofs
open Sys2Proof Sys2Proof.Machine Sys2Proof.Laws

variable {s : State}

/-- What a sample of a capture may touch. -/
abbrev sampleParts : List Part := signalParts ++ [.free]

/-- What the write of a point may touch. -/
abbrev pointParts : List Part := sampleParts ++ [.points, .ptDiscards]

theorem frame_trgWatch (kind idx el : Nat) (v : Int) (s : State) : Frame [.cap, .store] s (trgWatch kind idx el v s) :=
  .foldl _ .refl fun s t _ => by
    extract_lets k
    refine .ite .refl (.ite ?_ ?_)
    · generalize crossStep (par s 0x62 t 6) (par s 0x62 t 7) (par s 0x62 t 8) v (s.cap.primedR.get t false) (s.cap.primedF.get t false) = x
      obtain ⟨f, pr, pf⟩ := x
      exact .ite (.after (frame_trgFire ..) rfl) rfl
    · exact .ite (.after (frame_trgFire ..) rfl) rfl

theorem frame_capWrite (n : Nat) (x : CapVal) (s : State) : Frame [.cap, .store] s (capWrite n x s) := by
  unfold capWrite
  extract_lets c fired col st wasArmed c' a
  have ha : Frame [.cap, .store] s a := rfl
  have hput : ∀ k y h, Frame [.cap, .store] s (capPut k y h a) := fun _ _ _ => .after (frame_capPut ..) ha
  have hstore : ∀ k y h m, Frame [.cap, .store] s (capPut k y h { a with store := m }) := fun _ _ _ m =>
    .after (frame_capPut ..) (ha.step (t := { a with store := m }) (qs := [.store]) rfl)
  generalize a = b at hput hstore ha
  split
  · exact .ite (hput ..) (hput ..)
  · exact .ite (hput ..) (.after (frame_capPut ..) (.after (qs := [.store]) rfl (ha.step (qs := [.store]) rfl)))
  · exact .after (frame_capPut ..) (ha.step (qs := [.store]) rfl)
  · exact ha

theorem frame_capOverflow (hcalm : Calm s) (n : Nat) : Frame sampleParts s (capOverflow n s) := by
  unfold capOverflow
  extract_lets _ c put told
  have htold : Frame [.cap, .store, .mbx] s told := .after (frame_eventTag ..) (frame_capPut ..).mono
  exact .after (frame_raise_signal (htold.calm hcalm) (by decide) (by decide) _) htold.mono

theorem frame_capDrain (s : State) : Frame [.cap] s (capDrain s) := rfl

theorem frame_capTake (hcalm : Calm s) (n : Nat) (x : CapVal) : Frame sampleParts s (capTake n x s) := by
  unfold capTake
  extract_lets c drained full last _ queued
  have hqueued : Frame [.cap, .store, .free] s queued :=
    .after (s := drained) (qs := [.free, .cap]) rfl (.after (frame_capDrain _) (frame_capPut ..).mono)
  exact .ite .refl (.ite (frame_capPut ..).mono (.ite (.after (frame_capOverflow (hqueued.calm hcalm) n) hqueued.mono)
    (.after (frame_capWrite ..) hqueued.mono)))

theorem frame_capTakes (hcalm : Calm s) (x : CapVal) (ns : List Nat) : Frame sampleParts s (ns.foldl (fun s n => capTake n x s) s) :=
  .foldl_calm ns hcalm fun _ hc n _ => frame_capTake hc n x

theorem frame_capFeed (hcalm : Calm s) (kind idx el : Nat) (x : CapVal) : Frame sampleParts s (capFeed kind idx el x s) := by
  have hwatch := frame_trgWatch kind idx el x.v s
  exact .after (frame_capTakes (hwatch.calm hcalm) x _) hwatch.mono

theorem frame_capGap (kind idx : Nat) (s : State) : Frame [.cap, .store] s (capGap kind idx s) :=
  .foldl _ .refl fun _ _ _ => frame_capPut ..

theorem frame_ptCheck (hcalm : Calm s) (p : Nat) (x : Point) : Frame pointParts s (ptCheck p x s) := by
  unfold ptCheck
  dsimp only
  have hset : ∀ y, Frame [.points] s { s with points := s.points.set p y } := fun _ => rfl
  exact .ite ((hset _).mono.trans (.foldl_calm _ ((hset _).calm hcalm) fun _ hc _ _ => (frame_raise_signal hc (by decide) (by decide) _).mono)) (hset _).mono

theorem frame_ptWrite (hcalm : Calm s) (p : Nat) (v : Word) (cycle : CycleNo) (tick : Nat) : Frame pointParts s (ptWrite p v cycle tick s) := by
  unfold ptWrite
  extract_lets x fmt gap age hist first y
  have hcheck : Frame pointParts s (ptCheck p y s) := frame_ptCheck hcalm p y
  exact .ite rfl (.after (frame_capFeed (hcheck.calm hcalm) ..) hcheck)

theorem frame_ptCount (hcalm : Calm s) (p n : Nat) (cycle : CycleNo) (tick : Nat) : Frame pointParts s (ptCount p n cycle tick s) :=
  frame_ptWrite hcalm ..

theorem frame_ptInt (hcalm : Calm s) (p : Nat) (x : Int) (cycle : CycleNo) (tick : Nat) : Frame pointParts s (ptInt p x cycle tick s) :=
  frame_ptWrite hcalm ..

end Sys2Proof.Proofs
end

section
/-! Downstream frames (R48, R169, R188–R199): what their sending leaves of a port, and the frame that has left. -/

set_option Elab.async false

namespace Sys2Proof.Proofs
open Sys2Proof Sys2Proof.Machine Sys2Proof.Laws

variable {s t u : State} {p q : Nat}

/-! ### The service area leaves a port's line as it is (R197, R198) -/

/-- What a port's line shows: generation, lane, lock and squelch, and the frame sent last. -/
def lineView (x : Port) : Gen × LaneState × Bool × Bool × Option Machine.Frame := (x.gen, x.lane, x.locked, x.squelch, x.lastFrame)

/-- Every port shows the same on its line. -/
def SameLines (s t : State) : Prop := Frame [.ports] s t ∧ ∀ q, lineView (port t q) = lineView (port s q)

theorem SameLines.refl (s : State) : SameLines s s := ⟨.refl, fun _ => rfl⟩

theorem SameLines.trans (h : SameLines s t) (g : SameLines t u) : SameLines s u := ⟨h.1.trans g.1, fun q => (g.2 q).trans (h.2 q)⟩

theorem SameLines.after (g : SameLines t u) (h : SameLines s t) : SameLines s u := h.trans g

theorem sameLines_setPort (p : Nat) (f : Port → Port) (s : State) (hf : ∀ x, lineView (f x) = lineView x) : SameLines s (setPort p f s) := by
  refine ⟨rfl, fun q => ?_⟩
  rw [port_setPort]
  split
  · next h => rw [hf, h]
  · rfl

theorem sameLines_sendReq (p : Nat) (r : Option Req) (acc : State × List SvcMsg) : SameLines acc.1 (sendReq p r acc).1 := by
  cases r with
  | none => exact .refl _
  | some r => exact sameLines_setPort p _ acc.1 fun _ => rfl

theorem sameLines_announce (p : Nat) (s : State) : SameLines s (announce p s).1 := by
  unfold announce
  extract_lets x un base grp
  split
  · exact sameLines_sendReq ..
  · exact .refl _

theorem sameLines_sendQueued (p left : Nat) (ms : List SvcMsg) (acc : State × List SvcMsg) : SameLines acc.1 (sendQueued p left ms acc).1 := by
  induction ms generalizing acc with
  | nil => exact .refl _
  | cons m ms ih =>
    unfold sendQueued
    extract_lets a r
    split
    · exact .refl _
    · split
      · exact ih acc
      · cases r with
        | none => exact ih acc
        | some r =>
          dsimp only
          exact .after (ih _) (.after (sameLines_sendReq ..) (sameLines_setPort _ _ _ fun _ => rfl))

theorem sameLines_sendPolls (p n : Nat) (acc : State × List SvcMsg) : SameLines acc.1 (sendPolls p n acc).1 := by
  induction n generalizing acc with
  | zero => exact .refl _
  | succ n ih =>
    unfold sendPolls
    extract_lets a
    split
    · exact .refl _
    · split
      · exact .refl _
      · split
        · exact .refl _
        · dsimp only
          exact .after (ih _) (.after (sameLines_sendReq ..) (sameLines_setPort _ _ _ fun _ => rfl))

theorem sameLines_serviceArea (p : Nat) (s : State) : SameLines s (serviceArea p s).1 := by
  unfold serviceArea
  extract_lets x
  generalize x.svc.partition (fun m => m.reqKind = 0) = parts
  obtain ⟨reps, rest⟩ := parts
  dsimp -zeta only
  extract_lets sent keep a
  have ha : SameLines s a := sameLines_setPort p _ s fun _ => rfl
  have hb : SameLines s (if x.lane = .negotiate then ((announce p a).1, sent ++ (announce p a).2) else (a, sent)).1 := by
    split
    · exact ha.trans (sameLines_announce p a)
    · exact ha
  split
  · exact .after (sameLines_sendPolls ..) (.after (sameLines_sendQueued ..) hb)
  · exact .after (sameLines_sendQueued ..) hb

theorem frame_countClamps (p : Nat) (s : State) : Frame [.moors] s (countClamps p s) :=
  .foldl _ .refl fun _ _ _ => .ite (frame_setMoor ..) .refl

/-! ### The frame that leaves (R188, R192) -/

/-- A frame of a type has left the port in the current cycle, at its generation. -/
def Sent (p : Nat) (ft : FType) (n : CycleNo) (g : Gen) (s : State) : Prop :=
  ∃ f, (port s p).lastFrame = some f ∧ f.ftype = ft ∧ f.cycle = n ∧ f.gen = g

/-- What the sending of a frame on a port does to the lines. -/
structure SendsOn (p : Nat) (ft : FType) (s t : State) : Prop where
  frame : Frame [.moors, .ports, .free] s t
  others : ∀ q, q ≠ p → lineView (port t q) = lineView (port s q)
  gen : (port t p).gen = (port s p).gen
  lit : Machine.lit t p = Machine.lit s p
  sent : Sent p ft s.cyc.n (port s p).gen t

theorem lit_of_line (hf : Frame [.moors, .ports, .free] s t) (hline : lineView (port t q) = lineView (port s q)) : lit t q = lit s q := by
  obtain ⟨-, hlane, hlocked, hsquelch, -⟩ : (port t q).gen = (port s q).gen ∧ (port t q).lane = (port s q).lane ∧
      (port t q).locked = (port s q).locked ∧ (port t q).squelch = (port s q).squelch ∧ (port t q).lastFrame = (port s q).lastFrame := by
    simpa [lineView] using hline
  have hnamed : portNamed t q = portNamed s q := hf.get (portNamed · q)
  rw [lit, lit, portLive, portLive, hnamed, hlane, hlocked, hsquelch]

theorem sent_of_line {ft : FType} {n : CycleNo} {g : Gen} (hline : lineView (port t q) = lineView (port s q)) (h : Sent q ft n g s) : Sent q ft n g t := by
  have hlast : (port t q).lastFrame = (port s q).lastFrame := congrArg (fun x => x.2.2.2.2) hline
  rwa [Sent, hlast]

/-- A port whose frame has left. -/
def framed (f : Machine.Frame) (scr : BitVec 58) (bit : Nat) (x : Port) : Port :=
  { x with lastFrame := some f, scr := scr, lineBit := bit, bypass := if f.cmds.isEmpty then x.bypass else (x.bypass.map (fun y => (y.1, y.2 - 1))).filter (fun y => 0 < y.2) }

/-- The frame of a port in the current cycle. -/
def frameOf (p : Nat) (ft : FType) (hd : List Word) (cmds : List Word) (trims : List (BitVec 64)) (svc : List SvcMsg) (line : List Bool) (s : State) : Machine.Frame :=
  { ftype := ft, gen := (port s p).gen, cycle := s.cyc.n, header := if ft == .inhibit then hd.take 1 else hd, trims := trims, cmds := cmds, svc := svc, line := line }

theorem launchFrame_eq (p : Nat) (ft : FType) (lead : Nat) (cmds : List Word) (trims : List (BitVec 64)) (svc : List SvcMsg) (s : State) :
    ∃ line scr bit, launchFrame p ft lead cmds trims svc s =
      setPort p (framed (frameOf p ft (header s p ft lead trims.length svc.length) cmds trims svc line s) scr bit) { s with free := s.free + 2 } :=
  ⟨_, _, _, rfl⟩

theorem launchFrame_sends (p : Nat) (ft : FType) (lead : Nat) (cmds : List Word) (trims : List (BitVec 64)) (svc : List SvcMsg) (s : State) :
    SendsOn p ft s (launchFrame p ft lead cmds trims svc s) := by
  obtain ⟨line, scr, bit, heq⟩ := launchFrame_eq p ft lead cmds trims svc s
  rw [heq]
  refine ⟨rfl, fun q hq => ?_, ?_, ?_, ?_⟩
  · rw [port_setPort, if_neg (Ne.symm hq)]
    rfl
  · rw [port_setPort, if_pos rfl]
    rfl
  · rw [lit, portLive, port_setPort, if_pos rfl]
    rfl
  · rw [Sent, port_setPort, if_pos rfl]
    exact ⟨_, rfl, rfl, rfl, rfl⟩

/-- Frames that leave after what shows nothing on the lines. -/
theorem SendsOn.after_same {ft : FType} (g : SendsOn p ft t u) (hf : Frame [.moors, .ports, .free] s t) (h : ∀ q, lineView (port t q) = lineView (port s q)) :
    SendsOn p ft s u := by
  have hcyc : t.cyc = s.cyc := hf.get State.cyc
  have hgen : (port t p).gen = (port s p).gen := congrArg Prod.fst (h p)
  refine ⟨hf.trans g.frame, fun q hq => (g.others q hq).trans (h q), g.gen.trans hgen, g.lit.trans (lit_of_line hf (h p)), ?_⟩
  have hsent := g.sent
  rwa [hcyc, hgen] at hsent

theorem sendService_sends (p : Nat) (s : State) : SendsOn p .serviceOnly s (sendService p s) := by
  obtain ⟨hf, hlines⟩ := sameLines_serviceArea p s
  exact (launchFrame_sends p .serviceOnly 0 [] [] _ (serviceArea p s).1).after_same hf.mono hlines

theorem sendWords_sends (p : Nat) (blk : Bool) (lead : Nat) (s : State) : SendsOn p (if blk then .block else .command) s (sendWords p blk lead s) := by
  obtain ⟨hf, hlines⟩ := sameLines_serviceArea p (countClamps p s)
  have hclamps := frame_countClamps p s
  exact (launchFrame_sends p (if blk then .block else .command) lead _ _ _ (serviceArea p (countClamps p s)).1).after_same (.after hf hclamps.mono)
    fun q => (hlines q).trans (congrArg lineView (hclamps.get (port · q)))

/-- Every lit port has sent its frame. -/
theorem sendAll_sends {ft : FType} {f : Nat → State → State} (hf : ∀ p s, SendsOn p ft s (f p s)) (s : State) :
    Frame [.moors, .ports, .free] s (sendAll f s) ∧
    ∀ p, p < nPorts s → lit s p = true → Sent p ft s.cyc.n (port s p).gen (sendAll f s) := by
  have hframe : ∀ (xs : List Nat) (s : State), Frame [.moors, .ports, .free] s (xs.foldl (fun s p => if lit s p then f p s else s) s) :=
    fun xs s => .foldl xs .refl fun x a _ => .ite (hf a x).frame .refl
  refine ⟨hframe _ s, fun p hp hlit => ?_⟩
  have hall : ∀ (xs : List Nat) (t : State), lit t p = true → (port t p).gen = (port s p).gen → t.cyc.n = s.cyc.n →
      (p ∈ xs ∨ Sent p ft s.cyc.n (port s p).gen t) → Sent p ft s.cyc.n (port s p).gen (xs.foldl (fun s p => if lit s p then f p s else s) t) := by
    intro xs
    induction xs with
    | nil => exact fun t _ _ _ h => h.resolve_left (by simp)
    | cons a xs ih =>
      intro t hlit hgen hn h
      rw [List.foldl_cons]
      by_cases ha : a = p
      · subst ha
        have hs := hf a t
        have hsent := hs.sent
        rw [hgen, hn] at hsent
        rw [if_pos hlit]
        exact ih _ (hs.lit.trans hlit) (hs.gen.trans hgen) ((congrArg Cyc.n (hs.frame.get State.cyc)).trans hn) (.inr hsent)
      · have hkeeps : ∀ u, Frame [.moors, .ports, .free] t u → lineView (port u p) = lineView (port t p) →
            Sent p ft s.cyc.n (port s p).gen (xs.foldl (fun s p => if lit s p then f p s else s) u) := fun u hframe hline =>
          ih u ((lit_of_line hframe hline).trans hlit) ((congrArg Prod.fst hline).trans hgen)
            ((congrArg Cyc.n (hframe.get State.cyc)).trans hn)
            (h.imp (fun hmem => (List.mem_cons.mp hmem).resolve_left (Ne.symm ha)) (sent_of_line hline))
        split
        · exact hkeeps _ (hf a t).frame ((hf a t).others p (Ne.symm ha))
        · exact hkeeps t .refl rfl
  exact hall _ s hlit rfl rfl (.inl (List.mem_range.mpr hp))

end Sys2Proof.Proofs
end

section
/-! What the fabric's results touch when they take effect at a launch, and when they are discarded (R48, R54, R59, R67, R68, R89–R95, R140–R144,
R241, R288, R295). -/

set_option Elab.async false

namespace Sys2Proof.Proofs
open Sys2Proof Sys2Proof.Machine Sys2Proof.Laws

variable {s : State}

/-- A source of the catalogue without a reset domain, and not among the four of default level 4. -/
theorem frame_raise_plain (hcalm : Calm s) {src : Nat} (h : 184 ≤ src ∧ src < 208 ∨ 232 ≤ src ∧ src < 252 ∨ 260 ≤ src ∧ src < 353) (d : List Byte) :
    Frame signalParts s (raise src d s) := by
  have hout : ∀ b c, (inRow src b c = true ↔ b ≤ src ∧ src < b + c) := fun b c => by simp [inRow]
  have hdomain : faultDomain src = none := by
    rw [faultDomain, if_neg (by omega), if_neg (by rw [hout]; omega), if_neg (by rw [hout]; omega), if_neg (by rw [hout]; omega),
      if_neg (by rw [hout]; omega), if_neg (by rw [hout]; omega)]
  exact frame_raise_signal hcalm (by simp; omega) hdomain d

/-! ### Node states (R54, R66–R68, R115) -/

theorem frame_spFlags (s : State) : Frame [.graph, .mbx] s (spFlags s) :=
  .foldl _ .refl fun s k _ => by
    extract_lets on rise _ t
    have ht : Frame [.graph] s t := frame_withGraph ..
    exact .ite (.after (frame_event ..) ht.mono) ht.mono

theorem cur_spFlags (s : State) : (spFlags s).graph.cur = s.graph.cur := by
  refine List.foldlRecOn (motive := fun t : State => t.graph.cur = s.graph.cur) _ _ rfl fun t h k _ => ?_
  extract_lets on rise _ u
  have hu : u.graph.cur = s.graph.cur := h
  split
  · exact ((frame_event ..).get fun v : State => v.graph.cur).trans hu
  · exact hu

theorem frame_raiseSat (hcalm : Calm s) (ns : List Nat) : Frame signalParts s (raiseSat ns s) :=
  .foldl_calm ns hcalm fun _ hc _ _ => frame_raise_plain hc (by omega) _

theorem frame_raiseDiverge (hcalm : Calm s) : Frame signalParts s (raiseDiverge s) := by
  unfold raiseDiverge
  extract_lets bad
  clear_value bad
  split
  · exact (frame_clear ..).mono
  · exact frame_raise_signal hcalm (by decide) (by decide) _

/-- The working states become the states in force (R54). -/
theorem commitNodes_keeps (hcalm : Calm s) : Frame (signalParts ++ [.graph]) s (commitNodes s) ∧ (commitNodes s).graph.cur = s.graph.work := by
  unfold commitNodes
  extract_lets g stat rises a
  have ha : Frame [.graph] s a := frame_withGraph ..
  have hflags : Frame [.graph, .mbx] s (spFlags a) := .after (frame_spFlags a) ha.mono
  have hcur : (spFlags a).graph.cur = s.graph.work := cur_spFlags a
  generalize spFlags a = b at hflags hcur
  have hsat := frame_raiseSat (hflags.calm hcalm) rises
  have hcalm' := hsat.calm (hflags.calm hcalm)
  have hdiverge := frame_raiseDiverge hcalm'
  exact ⟨(hflags.mono.step hsat).step hdiverge, ((hdiverge.get fun u : State => u.graph.cur).trans (hsat.get fun u : State => u.graph.cur)).trans hcur⟩

/-! ### Arms (R140–R144, R219) -/

theorem frame_judgeSwitching (hcalm : Calm s) {a : Nat} (ha : a < nArms s) : Frame signalParts s (judgeSwitching a s) := by
  have ha' : a < 12 := Nat.lt_of_lt_of_le ha (by unfold nArms; split <;> decide)
  unfold judgeSwitching
  extract_lets x lim f
  have hclear : Frame signalParts s (clear (184 + a) s) := (frame_clear ..).mono
  exact .ite (.ite hclear .refl) (.ite (frame_raise_plain hcalm (by omega) _) (.ite hclear .refl))

theorem frame_armPoints (hcalm : Calm s) (a : Nat) (block : Bool) : Frame pointParts s (armPoints a block s) := by
  unfold armPoints
  extract_lets x
  refine .foldl_calm _ hcalm fun t ht m _ => ?_
  extract_lets y u
  have hu : Frame pointParts t u := frame_ptCount ht ..
  exact hu.trans (frame_ptInt (hu.calm ht) ..)

theorem frame_setArm (a : Nat) (x : Arm) (s : State) : Frame [.arms] s { s with arms := s.arms.set a x } := rfl

theorem frame_armCommit (hcalm : Calm s) {a : Nat} (ha : a < nArms s) : Frame (pointParts ++ [.arms]) s (armCommit a s) := by
  have ha' : a < 12 := Nat.lt_of_lt_of_le ha (by unfold nArms; split <;> decide)
  unfold armCommit
  extract_lets x
  split
  · exact .refl
  · extract_lets x' b c
    have hb : Frame [.arms] s b := frame_setArm ..
    have hc : Frame (signalParts ++ [.arms]) s c := .ite (.after (frame_raise_plain (hb.calm hcalm) (by omega) _) hb.mono) hb.mono
    have hp := frame_armPoints (hc.calm hcalm) a false
    have hall : Frame (pointParts ++ [.arms]) s (armPoints a false c) := .after hp hc.mono
    have hn : nArms (armPoints a false c) = nArms s := hall.get nArms
    exact .after (frame_judgeSwitching (hall.calm hcalm) (by rw [hn]; exact ha)) hall

theorem frame_armCommitBlock (hcalm : Calm s) (a : Nat) : Frame (pointParts ++ [.arms]) s (armCommitBlock a s) := by
  unfold armCommitBlock
  extract_lets x fb
  have hset := fun y => frame_setArm a y s
  exact .after (frame_armPoints ((hset _).calm hcalm) a true) (hset _).mono

/-- The arms' part of a commit. -/
def armsCommitted (block : Bool) (s : State) : State := (armsUsed s).foldl (fun s a => if block then armCommitBlock a s else armCommit a s) s

theorem frame_armsCommitted (hcalm : Calm s) (block : Bool) : Frame (pointParts ++ [.arms]) s (armsCommitted block s) := by
  have hfold : ∀ (xs : List Nat) (t : State), Calm t → nArms t = nArms s → (∀ a ∈ xs, a < nArms s) →
      Frame (pointParts ++ [.arms]) t (xs.foldl (fun s a => if block then armCommitBlock a s else armCommit a s) t) := by
    intro xs
    induction xs with
    | nil => exact fun _ _ _ _ => .refl
    | cons a xs ih =>
      intro t hc hn hxs
      have hstep : Frame (pointParts ++ [.arms]) t (if block then armCommitBlock a t else armCommit a t) :=
        .ite (frame_armCommitBlock hc a) (frame_armCommit hc (by rw [hn]; exact hxs a List.mem_cons_self))
      exact hstep.trans (ih _ (hstep.calm hc) ((hstep.get nArms).trans hn) fun b hb => hxs b (List.mem_cons_of_mem a hb))
  exact hfold _ s hcalm rfl fun a ha => by simpa using (List.mem_filter.mp ha).2

/-! ### The scheduler (R69, R75, R89–R95) -/

/-- The scheduler's part of a launch keeps the states in force. -/
def KeepsCur (ps : List Part) (s t : State) : Prop := Frame ps s t ∧ t.graph.cur = s.graph.cur

theorem KeepsCur.after {ps qs : List Part} {t u : State} (g : KeepsCur qs t u) (h : KeepsCur ps s t) (hsub : ∀ q ∈ qs, q ∈ ps := by decide) : KeepsCur ps s u :=
  ⟨h.1.step g.1 hsub, g.2.trans h.2⟩

theorem keepsCur_withGraph {g : Graph} (s : State) (h : g.cur = s.graph.cur) : KeepsCur [.graph] s (withGraph s g) := ⟨frame_withGraph .., h⟩

theorem keepsCur_judgeMoves (s : State) : KeepsCur [.graph] s (judgeMoves s) := by
  unfold judgeMoves
  extract_lets g
  split
  · split
    · extract_lets worse
      refine keepsCur_withGraph s ?_
      split <;> rfl
    · exact ⟨.refl, rfl⟩
  · exact ⟨.refl, rfl⟩

theorem keepsCur_judgeBound (hcalm : Calm s) : KeepsCur (signalParts ++ [.graph]) s (judgeBound s) := by
  unfold judgeBound
  extract_lets g bound
  have hmark : KeepsCur [.graph] s (withGraph s { g with boundRaised := true }) := keepsCur_withGraph s rfl
  split
  · exact ⟨.refl, rfl⟩
  · split
    · split
      · exact ⟨.refl, rfl⟩
      · have hraise := frame_raise_plain (hmark.1.calm hcalm) (src := 289) (by omega) (be 4 (normOf g * 256).floor.toNat)
        exact ⟨.after hraise hmark.1.mono, (hraise.get fun u : State => u.graph.cur).trans hmark.2⟩
    · exact ⟨(frame_withGraph ..).mono, rfl⟩

theorem keepsCur_buildSet (s : State) : KeepsCur [.graph] s (buildSet s) := by
  unfold buildSet
  extract_lets g early est
  split
  · exact ⟨.refl, rfl⟩
  · split
    · exact ⟨.refl, rfl⟩
    · exact keepsCur_withGraph s rfl

theorem keepsCur_writeObservables (missed : Bool) (s : State) : KeepsCur [.graph] s (writeObservables missed s) := keepsCur_withGraph s rfl

theorem keepsCur_holdoffTick (s : State) : KeepsCur [.graph] s (holdoffTick s) := keepsCur_withGraph s rfl

theorem keepsCur_schedLaunch (hcalm : Calm s) : KeepsCur (signalParts ++ [.graph]) s (schedLaunch s) := by
  unfold schedLaunch
  extract_lets _ g
  have hmoved : KeepsCur [.graph] s (judgeMoves (writeObservables false (withGraph s g))) :=
    (keepsCur_judgeMoves _).after ((keepsCur_writeObservables ..).after (keepsCur_withGraph s rfl))
  generalize judgeMoves (writeObservables false (withGraph s g)) = t at hmoved
  obtain ⟨hframe, hcur⟩ := hmoved
  have hkeeps : KeepsCur (signalParts ++ [.graph]) s t := ⟨hframe.mono, hcur⟩
  exact (keepsCur_holdoffTick _).after ((keepsCur_buildSet _).after ((keepsCur_judgeBound (hframe.calm hcalm)).after hkeeps))

theorem keepsCur_schedIdle (s : State) : KeepsCur [.graph] s (schedIdle s) := by
  unfold schedIdle
  extract_lets g quiet
  exact (keepsCur_holdoffTick _).after ((keepsCur_judgeMoves _).after ((keepsCur_writeObservables ..).after (keepsCur_withGraph s rfl)))

theorem keepsCur_schedMiss (s : State) : KeepsCur [.graph] s (schedMiss s) := by
  unfold schedMiss
  extract_lets stop t
  exact (keepsCur_withGraph t rfl).after (keepsCur_writeObservables true s)

/-! ### What a launch publishes (R59, R219, R241, R288, R295, R441) -/

theorem frame_shadowWrite (hcalm : Calm s) {c : Nat} (hc : c < 12) : Frame signalParts s (shadowWrite c s) := by
  unfold shadowWrite
  extract_lets n st v lo hi top x pc cc t late y
  have hset : Frame [.pul] s (setPch c y s) := rfl
  exact .ite .refl (.ite (.after (frame_raise_plain (hset.calm hcalm) (by omega) _) hset.mono) hset.mono)

theorem frame_pulLaunch (hcalm : Calm s) : Frame signalParts s (pulLaunch s) := by
  have hshadow : Frame signalParts s ((List.range 12).foldl (fun s c => shadowWrite c s) s) :=
    .foldl_calm _ hcalm fun _ hx c hc => frame_shadowWrite hx (List.mem_range.mp hc)
  have hmask : ∀ t, Frame [.pul] t (maskWrite t) := fun _ => .ite .refl rfl
  exact .after (hmask _) hshadow

theorem frame_pubSend (k : Nat) (d : GoosePubDef) (x : GoosePub) (s : State) : Frame [.stn] s (pubSend k d x s) :=
  .after (frame_maskSend ..) rfl

theorem frame_publish (s : State) : Frame [.stn] s (publish s) :=
  .foldl _ .refl fun s d _ => by
    unfold pubLaunch
    extract_lets x vs
    exact .ite .refl (frame_pubSend ..)

theorem frame_fabricPoint (hcalm : Calm s) (p : Nat) (m : PointMap) : Frame pointParts s (fabricPoint p m s) := by
  unfold fabricPoint
  split
  · exact .refl
  · exact frame_ptWrite hcalm ..

theorem frame_fabricPoints (hcalm : Calm s) : Frame pointParts s (fabricPoints s) := by
  unfold fabricPoints
  split
  · exact .foldl_calm _ hcalm fun _ hx _ _ => frame_fabricPoint hx ..
  · exact .refl

theorem frame_captureNodes (hcalm : Calm s) : Frame sampleParts s (captureNodes s) :=
  .foldl_calm _ hcalm fun _ hx _ _ => .foldl_calm _ hx fun _ hy _ _ => frame_capFeed hy ..

theorem frame_getLaunch (s : State) : Frame [.get, .dev] s (getLaunch s) :=
  .foldl _ .refl fun s p _ => by
    extract_lets x
    split
    · exact .refl
    · extract_lets rest t
      have ht : Frame [.get] s t := rfl
      exact .ite (ht.mono.step (qs := [.dev]) rfl) ht.mono

/-- What a launch's publications may touch. -/
abbrev publishParts : List Part := pointParts ++ [.stn, .get, .dev]

theorem frame_publishAll (hcalm : Calm s) : Frame publishParts s (publishAll s) := by
  unfold publishAll
  have hpulse : Frame publishParts s (publish (pulLaunch s)) := .after (frame_publish _) (frame_pulLaunch hcalm).mono
  have hpoints : Frame publishParts s (fabricPoints (publish (pulLaunch s))) := .after (frame_fabricPoints (hpulse.calm hcalm)) hpulse
  exact .after (frame_getLaunch _) (.after (frame_captureNodes (hpoints.calm hcalm)) hpoints)

/-- What a commit of the fabric's results may touch. -/
abbrev commitParts : List Part := publishParts ++ [.graph, .arms, .tan]

/-- The digest of a cycle's results is kept for its record. -/
def digested (arms : List Byte) (s : State) : State := { s with tan := { s.tan with digest := resultDigest arms s } }

theorem frame_digested (arms : List Byte) (s : State) : Frame [.tan] s (digested arms s) := rfl

theorem commitAll_eq (block : Bool) (s : State) :
    commitAll block s = publishAll (digested (digestArms s) (schedLaunch (armsCommitted block (commitNodes s)))) := by
  simp only [commitAll, digested, armsCommitted]

theorem commitAll_keeps (hcalm : Calm s) (block : Bool) : Frame commitParts s (commitAll block s) ∧ (commitAll block s).graph.cur = s.graph.work := by
  rw [commitAll_eq]
  generalize digestArms s = d
  obtain ⟨hnodes, hcur⟩ := commitNodes_keeps hcalm
  generalize commitNodes s = a at hnodes hcur
  have harms := frame_armsCommitted (hnodes.calm hcalm) block
  have hcurb := harms.get fun u : State => u.graph.cur
  generalize armsCommitted block a = b at harms hcurb
  have hb : Frame commitParts s b := .after harms hnodes.mono
  obtain ⟨hsched, hcurc⟩ := keepsCur_schedLaunch (hb.calm hcalm)
  generalize schedLaunch b = c at hsched hcurc
  have hc : Frame commitParts s c := .after hsched hb
  have hdigest := frame_digested d c
  have hcurd : (digested d c).graph.cur = c.graph.cur := rfl
  generalize digested d c = e at hdigest hcurd
  have he : Frame commitParts s e := .after hdigest hc
  have hpub := frame_publishAll (he.calm hcalm)
  exact ⟨.after hpub he, (hpub.get fun u : State => u.graph.cur).trans (hcurd.trans (hcurc.trans (hcurb.trans hcur)))⟩

end Sys2Proof.Proofs
end

section
/-! The frames of a cycle (R39–R42, R48–R51): packing, the launch tick, the frame deadline. -/

set_option Elab.async false

namespace Sys2Proof.Proofs
open Sys2Proof Sys2Proof.Machine Sys2Proof.Laws

variable {s a b t : State} {p : Nat} {ft : FType}

/-! ### The end of a cycle's frames (R54, R422) -/

/-- The record of the cycle leaves, and the cycle's frames are out. -/
def recorded (launched missed : Bool) (s : State) : State := closeCycle launched missed (sendRecord launched missed s)

/-- The first cycle of a phase is over. -/
def unfirst (s : State) : State := { s with dev := { s.dev with phaseFirst := false } }

theorem frame_unfirst (s : State) : Frame [.dev] s (unfirst s) := rfl

theorem frame_recorded (launched missed : Bool) (s : State) : Frame [.cyc, .tan] s (recorded launched missed s) := rfl

theorem cyc_recorded (launched missed : Bool) (s : State) : (recorded launched missed s).cyc =
    { s.cyc with launched := true, missed := missed, missedPrev := s.cyc.missed } := rfl

theorem launches_recorded (missed : Bool) (s : State) : (recorded true missed s).tan.launches.head? = some s.cyc.n := rfl

/-- The frames of a type are out on every lit port. -/
def AllSent (ft : FType) (s u : State) : Prop :=
  u.cyc.launched = true ∧ u.cyc.missedPrev = s.cyc.missed ∧ u.cyc.n = s.cyc.n ∧ u.cfg = s.cfg ∧
    ∀ p, p < nPorts s → lit s p = true → ∃ f, (port u p).lastFrame = some f ∧ f.ftype = ft ∧ f.cycle = s.cyc.n ∧ f.gen = (port s p).gen

/-- What a cycle may touch between its frames and its record. -/
abbrev closingParts : List Part := commitParts ++ [.obs]

theorem allSent_recorded {f : Nat → State → State} (hf : ∀ p s, SendsOn p ft s (f p s)) (ha : Frame [.now, .time] s a)
    (hb : Frame closingParts (sendAll f a) b) (launched missed : Bool) : AllSent ft s (recorded launched missed b) := by
  obtain ⟨hframe, hsent⟩ := sendAll_sends hf a
  have hcyc : b.cyc.missed = s.cyc.missed ∧ b.cyc.n = s.cyc.n := by
    have hn : b.cyc.n = _ := hb.get fun u => u.cyc.n
    have hm : b.cyc.missed = _ := hb.get fun u => u.cyc.missed
    have hcyc : (sendAll f a).cyc = s.cyc := (hframe.get State.cyc).trans (ha.get State.cyc)
    rw [hn, hm, hcyc]
    exact ⟨rfl, rfl⟩
  have hcfg : b.cfg = s.cfg := (hb.get State.cfg).trans ((hframe.get State.cfg).trans (ha.get State.cfg))
  refine ⟨rfl, hcyc.1, hcyc.2, hcfg, fun p hp hlit => ?_⟩
  have hout := hsent p (by rw [ha.get nPorts]; exact hp) (by rw [ha.get (lit · p)]; exact hlit)
  have hport : (port a p).gen = (port s p).gen := congrArg Port.gen (ha.get (port · p))
  have hn : a.cyc.n = s.cyc.n := ha.get fun u => u.cyc.n
  rw [hport, hn] at hout
  have hline : port (recorded launched missed b) p = port (sendAll f a) p := hb.get (port · p)
  rw [Sent, ← hline] at hout
  exact hout

/-! ### Packing (R41) -/

theorem govCanary_nil (s : State) : ∃ g, govCanary [] s = { s with gov := g } := by
  unfold govCanary
  extract_lets live top _ marked free raised _ moved
  have hmoved : ∃ g, moved = { s with gov := g } := by
    unfold moved
    split
    · exact ⟨_, rfl⟩
    · exact ⟨_, rfl⟩
  exact hmoved

/-- A port's frame is packed. -/
def packed (p k : Nat) (s : State) : State :=
  { s with cyc := { s.cyc with packed := if s.cyc.packed.contains p then s.cyc.packed else s.cyc.packed ++ [p], packTime := max s.cyc.packTime k } }

theorem mem_packed (p k : Nat) (s : State) : p ∈ (packed p k s).cyc.packed := by
  show p ∈ (if s.cyc.packed.contains p then s.cyc.packed else s.cyc.packed ++ [p])
  split
  · next h => exact List.contains_iff_mem.mp h
  · exact List.mem_append_right _ List.mem_cons_self

theorem packReady_packs {k : Nat} (hp : p < nPorts s) (hrun : s.cyc.running = true) (hfrozen : s.cyc.frozen = true) (hopen : s.cyc.launched = false)
    (hlive : portLive s p = true) (hdone : s.cyc.graphDone = true) (harms : armsReadyFor s p = true) (hk : k ≤ 8500) :
    Goes (.packReady p k []) s fun u => p ∈ u.cyc.packed ∧ u.cyc.packTime = max s.cyc.packTime k ∧
      { u with cyc := { u.cyc with packed := s.cyc.packed, packTime := s.cyc.packTime }, gov := s.gov } = s := by
  obtain ⟨g, hg⟩ := govCanary_nil (packed p k s)
  have hall : (s.cyc.running && s.cyc.frozen && !s.cyc.launched && portLive s p && s.cyc.graphDone && armsReadyFor s p && decide (k ≤ 8500)) = true := by
    rw [hrun, hfrozen, hopen, hlive, hdone, harms, decide_eq_true hk]
    rfl
  have hc : exec (.packReady p k []) s = .next (govCanary [] (packed p k s)) := (if_pos (by simpa using hp)).trans (congrArg _ (if_pos hall))
  exact goes_of_eq (hc.trans (congrArg _ hg)) ⟨mem_packed p k s, rfl, rfl⟩

theorem packReady_late {k : Nat} (hp : p < nPorts s) (hk : 8500 < k) : exec (.packReady p k []) s = .next s :=
  (if_pos (by simpa using hp)).trans (congrArg _ (if_neg (by simp only [Bool.and_eq_true, decide_eq_true_eq]; omega)))

/-! ### The launch tick (R40, R42, R54) -/

theorem frame_pushFrame (blk : Bool) (s : State) : Frame [.obs] s (pushFrame blk s) := by
  unfold pushFrame
  extract_lets st tr cmds ps f
  exact .ite rfl rfl

theorem frame_govSlack (slack : Int) (s : State) : Frame [.gov] s (govSlack slack s) := rfl

theorem launch_eq (s : State) : ∃ k, launch s =
    recorded (transmits s) false (unfirst (govSlack k (commitAll false (pushFrame false (sendAll (fun p => sendWords p false (frameLead s)) s))))) := by
  simp only [launch, recorded, unfirst]
  exact ⟨_, rfl⟩

theorem launch_sends (hcalm : Calm a) (ha : Frame [.now, .time] s a) :
    AllSent .command s (launch a) ∧ (launch a).cyc.missed = false ∧ (launch a).graph.cur = a.graph.work ∧ (launch a).dev.phaseFirst = false ∧
      (transmits a = true → (launch a).tan.launches.head? = some a.cyc.n) := by
  obtain ⟨k, heq⟩ := launch_eq a
  rw [heq]
  have hsends : ∀ p s, SendsOn p .command s (sendWords p false (frameLead a) s) := fun p s => sendWords_sends p false (frameLead a) s
  obtain ⟨hout, -⟩ := sendAll_sends hsends a
  have hpush := frame_pushFrame false (sendAll (fun p => sendWords p false (frameLead a)) a)
  have hall := fun b (hb : Frame closingParts (sendAll (fun p => sendWords p false (frameLead a)) a) b) =>
    allSent_recorded hsends ha hb (transmits a) false
  generalize sendAll (fun p => sendWords p false (frameLead a)) a = b at hout hpush hall
  generalize pushFrame false b = c at hpush
  have hc : Frame closingParts b c := hpush.mono
  obtain ⟨hcommit, hcur⟩ := commitAll_keeps (hpush.calm (hout.calm hcalm)) false
  generalize commitAll false c = d at hcommit hcur
  have hd : Frame closingParts b d := .after hcommit hc
  have hwork : d.graph.cur = a.graph.work := hcur.trans ((hpush.get fun u => u.graph.work).trans (hout.get fun u => u.graph.work))
  have hn : d.cyc.n = a.cyc.n := (hd.get fun u => u.cyc.n).trans (hout.get fun u => u.cyc.n)
  have he : Frame closingParts b (unfirst (govSlack k d)) := .after (frame_unfirst _) (.after (frame_govSlack k d) hd)
  refine ⟨hall _ he, rfl, hwork, rfl, fun htx => ?_⟩
  rw [htx, launches_recorded]
  exact congrArg some hn

theorem exec_launchTick {n : Nat} (hrun : s.cyc.running = true) (hopen : s.cyc.launched = false) (hblock : blockFrames s = false)
    (hall : allPacked s = true) : exec (.launchTick n) s = .next (launch (advanceTo n s)) := by
  have ha := frame_advanceTo s n
  have hcyc : (advanceTo n s).cyc = s.cyc := ha.get State.cyc
  refine congrArg Host.Outcome.next (if_pos ?_)
  rw [hcyc, ha.get blockFrames, ha.get allPacked, hrun, hopen, hblock, hall]
  rfl

theorem exec_launchTick_idle {n : Nat} (h : s.cyc.running = false ∨ s.cyc.launched = true ∨ blockFrames s = true ∨ allPacked s = false) :
    exec (.launchTick n) s = .next (advanceTo n s) := by
  have ha := frame_advanceTo s n
  have hcyc : (advanceTo n s).cyc = s.cyc := ha.get State.cyc
  refine congrArg Host.Outcome.next (if_neg ?_)
  rw [hcyc, ha.get blockFrames, ha.get allPacked]
  rcases h with h | h | h | h <;> simp [h]

/-! ### The frame deadline (R40, R48, R50) -/

theorem exec_frameDeadline {n : Nat} (hrun : s.cyc.running = true) (hopen : s.cyc.launched = false)
    (hreached : reached (advanceTo n s) s.cyc.n (parN s 1 0 2 + 85) = true) : exec (.frameDeadline n) s =
      .next (if blockFrames s then launchBlock (advanceTo n s) else if allPacked s then advanceTo n s else missCycle (advanceTo n s)) := by
  have ha := frame_advanceTo s n
  have hcyc : (advanceTo n s).cyc = s.cyc := ha.get State.cyc
  have hpar : parN (advanceTo n s) 1 0 2 = parN s 1 0 2 := ha.get (parN · 1 0 2)
  have hblock : blockFrames (advanceTo n s) = blockFrames s := ha.get blockFrames
  have hpacked : allPacked (advanceTo n s) = allPacked s := ha.get allPacked
  refine congrArg Host.Outcome.next ((if_neg ?_).trans ?_)
  · rw [hcyc, hpar, hreached, hrun, hopen]
    decide
  · rw [hblock, hpacked]

theorem exec_frameDeadline_idle {n : Nat}
    (h : s.cyc.running = false ∨ s.cyc.launched = true ∨ reached (advanceTo n s) s.cyc.n (parN s 1 0 2 + 85) = false) :
    exec (.frameDeadline n) s = .next (advanceTo n s) := by
  have ha := frame_advanceTo s n
  have hcyc : (advanceTo n s).cyc = s.cyc := ha.get State.cyc
  have hpar : parN (advanceTo n s) 1 0 2 = parN s 1 0 2 := ha.get (parN · 1 0 2)
  refine congrArg Host.Outcome.next (if_pos ?_)
  rw [hcyc, hpar]
  rcases h with h | h | h <;> simp [h]

theorem frame_schedMiss (s : State) : Frame [.graph] s (schedMiss s) := (keepsCur_schedMiss s).1

/-- The graph's phase request of a cycle is dropped. -/
def unasked (s : State) : State := { s with dev := { s.dev with phaseReq := none } }

/-- The arms' working selection states are discarded. -/
def armsDiscarded (s : State) : State := { s with arms := s.arms.mapVals (fun _ a => armDiscard a) }

theorem discardAll_eq (s : State) : discardAll s = armsDiscarded (schedMiss (unasked s)) := rfl

theorem frame_armsDiscarded (s : State) : Frame [.arms] s (armsDiscarded s) := rfl

theorem frame_unasked (s : State) : Frame [.dev] s (unasked s) := rfl

theorem frame_discardAll (s : State) : Frame [.graph, .dev, .arms] s (discardAll s) := by
  rw [discardAll_eq]
  exact .after (frame_armsDiscarded _) (.after (frame_schedMiss _) (frame_unasked s).mono)

theorem cur_discardAll (s : State) : (discardAll s).graph.cur = s.graph.cur := by
  rw [discardAll_eq]
  exact ((frame_armsDiscarded _).get fun u => u.graph.cur).trans (keepsCur_schedMiss (unasked s)).2

theorem dev_discardAll (s : State) : (discardAll s).dev = { s.dev with phaseReq := none } := by
  rw [discardAll_eq]
  exact ((frame_armsDiscarded _).get State.dev).trans ((frame_schedMiss _).get State.dev)

/-- A discarded arm keeps its selection state and its direction (R48, R141). -/
theorem arm_discardAll (x : Nat) (s : State) : ((discardAll s).arms.get x {}).sel = (s.arms.get x {}).sel ∧
    ((discardAll s).arms.get x {}).d = (s.arms.get x {}).d := by
  have harms : (discardAll s).arms = s.arms.mapVals (fun _ a => armDiscard a) := by
    rw [discardAll_eq]
    have hmiss : (schedMiss (unasked s)).arms = s.arms := (frame_schedMiss _).get State.arms
    rw [← hmiss]
    rfl
  rw [harms, SMap.get, SMap.get, find_mapVals]
  cases s.arms.find x <;> exact ⟨rfl, rfl⟩

/-- A second miss in a row is a block request, but not on a follower (R51). -/
def missAsks (s : State) : State := if s.cyc.missed && !follower s then { s with cyc := { s.cyc with blockReq := true } } else s

/-- The captures of the nodes have a gap. -/
def nodeGaps (s : State) : State := (nodes s).foldl (fun s n => capGap 1 n.node s) s

theorem missCycle_eq (s : State) : missCycle s = recorded false true (missAsks (nodeGaps (govMiss (raise 1 (be 6 s.cyc.n.toNat)
    (discardAll (sendAll (fun p => sendService p) s)))))) := by
  unfold missCycle
  extract_lets b c _ d
  have hc : c = nodeGaps b := rfl
  have hd : d = missAsks c := rfl
  rw [hd, hc]
  rfl

theorem frame_missAsks (s : State) : Frame [.cycReq] s (missAsks s) := .ite rfl .refl

theorem frame_nodeGaps (s : State) : Frame [.cap, .store] s (nodeGaps s) := .foldl _ .refl fun _ _ _ => frame_capGap ..

theorem frame_govMiss (s : State) : Frame [.gov] s (govMiss s) := .ite .refl rfl

theorem missCycle_sends (hcalm : Calm a) (ha : Frame [.now, .time] s a) :
    AllSent .serviceOnly s (missCycle a) ∧ (missCycle a).cyc.missed = true ∧ (missCycle a).graph.cur = a.graph.cur ∧
      (∀ x, ((missCycle a).arms.get x {}).sel = (a.arms.get x {}).sel ∧ ((missCycle a).arms.get x {}).d = (a.arms.get x {}).d) ∧
      (a.cyc.missed = true → follower a = false → (missCycle a).cyc.blockReq = true) ∧
      (a.dev.porstN = true → a.dev.railHold = false → Latched (missCycle a) 1) := by
  rw [missCycle_eq]
  generalize be 6 a.cyc.n.toNat = detail
  obtain ⟨hout, -⟩ := sendAll_sends sendService_sends a
  have hall := fun b (hb : Frame closingParts (sendAll (fun p => sendService p) a) b) => allSent_recorded sendService_sends ha hb false true
  generalize sendAll (fun p => sendService p) a = b at hout hall
  have hdiscard := frame_discardAll b
  have hcur := cur_discardAll b
  have harm := fun x => arm_discardAll x b
  have hdev := dev_discardAll b
  generalize discardAll b = c at hdiscard hcur harm hdev
  have hc : Frame [.moors, .ports, .free, .graph, .dev, .arms] a c := .after hdiscard hout.mono
  have hcalm' : Calm c := hc.calm hcalm
  have hraise : Frame signalParts c (raise 1 detail c) := frame_raise_signal hcalm' (by decide) (by decide) detail
  have hlatched : c.dev.porstN = true → c.dev.railHold = false → Latched (raise 1 detail c) 1 := fun hp hr =>
    latched_raise_edge (src := 1) (f := ⟨0, false, 1, false, false⟩) (by decide) (fun v => by cases v <;> rfl) rfl hp hr detail
  generalize raise 1 detail c = d at hraise hlatched
  have hgaps : Frame [.gov, .cap, .store] d (nodeGaps (govMiss d)) := .after (frame_nodeGaps _) (frame_govMiss d).mono
  generalize nodeGaps (govMiss d) = e at hgaps
  have he : Frame [.gov, .cap, .store, .cycReq] d (missAsks e) := .after (frame_missAsks e) hgaps.mono
  have hd : Frame closingParts b d := .after hraise hdiscard.mono
  have hbmissed : e.cyc.missed = a.cyc.missed := ((hgaps.get fun u => u.cyc.missed).trans (hd.get fun u => u.cyc.missed)).trans (hout.get fun u => u.cyc.missed)
  have hfollower : follower e = follower a :=
    (hgaps.get follower).trans ((hraise.get follower).trans (hc.get follower))
  refine ⟨hall _ (.after he hd), rfl, ?_, fun x => ?_, fun hm hf => ?_, fun hp hr => ?_⟩
  · exact (he.get fun u => u.graph.cur).trans ((hraise.get fun u => u.graph.cur).trans (hcur.trans (hout.get fun u => u.graph.cur)))
  · have harms : (recorded false true (missAsks e)).arms = c.arms := (he.get State.arms).trans (hraise.get State.arms)
    have hb : b.arms = a.arms := hout.get State.arms
    rw [harms, ← hb]
    exact harm x
  · have hasks : missAsks e = { e with cyc := { e.cyc with blockReq := true } } := if_pos (by rw [hbmissed, hfollower, hm, hf]; rfl)
    rw [hasks]
    rfl
  · have hbdev : b.dev = a.dev := hout.get State.dev
    rw [hbdev] at hdev
    have hlast : Frame [.gov, .cap, .store, .cycReq, .cyc, .tan] d (recorded false true (missAsks e)) := .after (frame_recorded ..) he.mono
    exact (hlast.get (Latched · 1)).mpr (hlatched (by rw [hdev]; exact hp) (by rw [hdev]; exact hr))

/-- What the deadline does with the fabric's results in a cycle that blocks (R50, log 89). -/
def blockResults (done part : Bool) (s : State) : State :=
  if done then commitAll true s else if part then discardAll s else getLaunch (publish (schedIdle (digested [] s)))

theorem frame_blockResults (hcalm : Calm s) (done part : Bool) : Frame closingParts s (blockResults done part s) := by
  have hidle : Frame [.graph, .tan] s (schedIdle (digested [] s)) := .after (keepsCur_schedIdle _).1 (frame_digested [] s).mono
  exact .ite (commitAll_keeps hcalm true).1.mono (.ite (frame_discardAll s).mono (.after (frame_getLaunch _) (.after (frame_publish _) hidle.mono)))

theorem launchBlock_eq (s : State) : launchBlock s = recorded (transmits s)
    (s.dev.state.graphOn && !(s.dev.state.graphOn && s.cyc.graphDone && decide (s.cyc.forceMiss = 0)))
    (unfirst (blockResults (s.dev.state.graphOn && s.cyc.graphDone && decide (s.cyc.forceMiss = 0))
      (s.dev.state.graphOn && !(s.dev.state.graphOn && s.cyc.graphDone && decide (s.cyc.forceMiss = 0)))
      (pushFrame true (sendAll (fun p => sendWords p true 0) s)))) := by
  unfold launchBlock
  extract_lets out done part b c
  rfl

theorem launchBlock_sends (hcalm : Calm a) (ha : Frame [.now, .time] s a) :
    AllSent .block s (launchBlock a) ∧
      (launchBlock a).cyc.missed = (a.dev.state.graphOn && !(a.cyc.graphDone && decide (a.cyc.forceMiss = 0))) := by
  rw [launchBlock_eq]
  have hsends : ∀ p s, SendsOn p .block s (sendWords p true 0 s) := fun p s => sendWords_sends p true 0 s
  obtain ⟨hout, -⟩ := sendAll_sends hsends a
  generalize hdone : (a.dev.state.graphOn && a.cyc.graphDone && decide (a.cyc.forceMiss = 0)) = done
  have hall := fun b (hb : Frame closingParts (sendAll (fun p => sendWords p true 0) a) b) =>
    allSent_recorded hsends ha hb (transmits a) (a.dev.state.graphOn && !done)
  generalize sendAll (fun p => sendWords p true 0) a = b at hout hall
  have hpush := frame_pushFrame true b
  generalize pushFrame true b = c at hpush
  have hresults := frame_blockResults (hpush.calm (hout.calm hcalm)) done (a.dev.state.graphOn && !done)
  generalize blockResults done (a.dev.state.graphOn && !done) c = d at hresults
  refine ⟨hall _ (.after (frame_unfirst _) (.after hresults hpush.mono)), ?_⟩
  rw [cyc_recorded, ← hdone]
  cases a.dev.state.graphOn <;> rfl

/-- Settles O19: the frames of a cycle, packed, launched, and sent at the deadline. -/
theorem framesOfTheCycle : Obligations.FramesOfTheCycle := by
  unfold Obligations.FramesOfTheCycle
  intro s n a sent
  have ha : Frame [.now, .time] s a := frame_advanceTo s n
  have hcyc : a.cyc = s.cyc := ha.get State.cyc
  refine ⟨fun p k hp hrun hfrozen hopen hlive hdone harms hk => packReady_packs hp hrun hfrozen hopen hlive hdone harms hk,
    fun p k hp hk => packReady_late hp hk, fun hrun hopen hblock hpacked hcalm => ?_, fun h => exec_launchTick_idle h,
    fun hrun hopen hreached hblock hpacked hcalm => ?_, fun hrun hopen hreached hblock hcalm => ?_, fun h => exec_frameDeadline_idle h⟩
  · obtain ⟨hsent, hmissed, hcur, hfirst, hlaunch⟩ := launch_sends (ha.calm hcalm) ha
    rw [ha.get transmits, hcyc] at hlaunch
    have hc : exec (.launchTick n) s = .next (launch a) := exec_launchTick hrun hopen hblock hpacked
    generalize launch a = u at hc hsent hmissed hcur hfirst hlaunch
    exact goes_of_eq hc ⟨hsent, hmissed, hcur.trans (ha.get fun u => u.graph.work), hfirst, hlaunch⟩
  · obtain ⟨hsent, hmissed, hcur, harms, hasks, hlatched⟩ := missCycle_sends (ha.calm hcalm) ha
    have harms' : a.arms = s.arms := ha.get State.arms
    have hdev : a.dev = s.dev := ha.get State.dev
    rw [harms'] at harms
    rw [hcyc, ha.get follower] at hasks
    rw [hdev] at hlatched
    have hc : exec (.frameDeadline n) s = .next (if blockFrames s then launchBlock a else if allPacked s then a else missCycle a) := exec_frameDeadline hrun hopen hreached
    rw [hblock, hpacked, if_neg (by decide), if_neg (by decide)] at hc
    generalize missCycle a = u at hc hsent hmissed hcur harms hasks hlatched
    exact goes_of_eq hc ⟨hsent, hmissed, hcur.trans (ha.get fun u => u.graph.cur), harms, hasks, hlatched⟩
  · obtain ⟨hsent, hmissed⟩ := launchBlock_sends (ha.calm hcalm) ha
    have hdev : a.dev = s.dev := ha.get State.dev
    rw [hcyc, hdev] at hmissed
    have hc : exec (.frameDeadline n) s = .next (if blockFrames s then launchBlock a else if allPacked s then a else missCycle a) := exec_frameDeadline hrun hopen hreached
    rw [hblock, if_pos rfl] at hc
    generalize launchBlock a = u at hc hsent hmissed
    exact goes_of_eq hc ⟨hsent, hmissed⟩

end Sys2Proof.Proofs
end

section
/-! Inhibit lines, stale points and errors of the stacked memory (R12, R28, R199, R224, R227, R406, R455). -/

set_option Elab.async false

namespace Sys2Proof.Proofs
open Sys2Proof Sys2Proof.Machine Sys2Proof.Laws

variable {s : State} {p : Nat}

/-! ### Inhibit lines (R199) -/

/-- The INHIBIT frame of a port with light on its line: its port, and nothing else but the free values. -/
theorem sendInhibit_sends (hsending : sending s p = true) :
    ∃ f scr bit, port (sendInhibit p s) p = framed f scr bit { port s p with inhibits := (port s p).inhibits + 1 } ∧
      f.ftype = .inhibit ∧ f.cmds = [] ∧ ((port s p).inhibit = true → f.header = [0xB10C4EF3#32]) ∧
      (∀ q, q ≠ p → port (sendInhibit p s) q = port s q) ∧ Frame [.ports, .free] s (sendInhibit p s) := by
  have hcounted : ∀ q, port (setPort p (fun x => { x with inhibits := x.inhibits + 1 }) s) q =
      if p = q then { port s p with inhibits := (port s p).inhibits + 1 } else port s q := fun q => port_setPort ..
  have hsend : sendInhibit p s = launchFrame p .inhibit 0 [] [] [] (setPort p (fun x => { x with inhibits := x.inhibits + 1 }) s) := if_pos hsending
  have hset := frame_setPort p (fun x => { x with inhibits := x.inhibits + 1 }) s
  rw [hsend]
  generalize setPort p (fun x => { x with inhibits := x.inhibits + 1 }) s = t at hcounted hset
  obtain ⟨line, scr, bit, heq⟩ := launchFrame_eq p .inhibit 0 [] [] [] t
  rw [heq]
  have hport : ∀ f q, port (setPort p f { t with free := t.free + 2 }) q = if p = q then f (port t p) else port t q := fun f q => port_setPort ..
  refine ⟨frameOf p .inhibit (header t p .inhibit 0 0 0) [] [] [] line t, scr, bit, ?_, rfl, rfl, fun hin => ?_, fun q hq => ?_, ?_⟩
  · exact (hport ..).trans ((if_pos rfl).trans (congrArg _ ((hcounted p).trans (if_pos rfl))))
  · have hinhibit : (port t p).inhibit = true := by rw [hcounted, if_pos rfl]; exact hin
    show (header t p .inhibit 0 0 0).take 1 = _
    rw [header, hinhibit]
    rfl
  · rw [hport, if_neg (Ne.symm hq), hcounted, if_neg (Ne.symm hq)]
  · have hfree : Frame [.free] t { t with free := t.free + 2 } := rfl
    exact .after (frame_setPort ..) (.after hfree hset.mono)

theorem exec_inhibitLineRise (hp : p < nPorts s) : exec (.inhibitLineRise p) s = .next (
    if s.srb.inhibit && !(port s p).inhibit then sendInhibit p (setPort p (fun x => { x with inhibit := true, inhibits := 0 }) s) else s) :=
  if_pos (by simpa using hp)

theorem exec_inhibitFrameRepeat (hp : p < nPorts s) :
    exec (.inhibitFrameRepeat p) s = .next (if (port s p).inhibit then sendInhibit p s else s) := if_pos (by simpa using hp)

/-- A line that rises shows the same light. -/
theorem sending_rise (p : Nat) (s : State) : sending (setPort p (fun x => { x with inhibit := true, inhibits := 0 }) s) p = sending s p := by
  have hport : port (setPort p (fun x => { x with inhibit := true, inhibits := 0 }) s) p = { port s p with inhibit := true, inhibits := 0 } :=
    (port_setPort ..).trans (if_pos rfl)
  rw [sending, sending, hport, (frame_setPort p (fun x => { x with inhibit := true, inhibits := 0 }) s).get (portNamed · p)]

theorem inhibitLineRise_sends (hp : p < nPorts s) (hdriven : s.srb.inhibit = true) (hlow : (port s p).inhibit = false) (hsending : sending s p = true) :
    Goes (.inhibitLineRise p) s fun t => (port t p).inhibit = true ∧ (port t p).inhibits = 1 ∧
      (∃ f, (port t p).lastFrame = some f ∧ f.ftype = .inhibit ∧ f.header = [0xB10C4EF3#32] ∧ f.cmds = []) ∧
      (∀ q, q ≠ p → port t q = port s q) ∧ { t with ports := s.ports, free := s.free } = s := by
  have hc := (exec_inhibitLineRise hp).trans (congrArg _ (if_pos (by rw [hdriven, hlow]; rfl)))
  have hport : ∀ q, port (setPort p (fun x => { x with inhibit := true, inhibits := 0 }) s) q =
      if p = q then { port s p with inhibit := true, inhibits := 0 } else port s q := fun q => port_setPort ..
  have hset := frame_setPort p (fun x => { x with inhibit := true, inhibits := 0 }) s
  obtain ⟨f, scr, bit, hsent, htype, hcmds, hheader, hothers, hframe⟩ := sendInhibit_sends ((sending_rise p s).trans hsending)
  generalize setPort p (fun x => { x with inhibit := true, inhibits := 0 }) s = t at hc hport hset hsent hheader hothers hframe
  rw [hport p, if_pos rfl] at hsent hheader
  refine goes_of_eq hc ⟨by rw [hsent]; rfl, by rw [hsent]; rfl, ⟨f, by rw [hsent]; rfl, htype, hheader rfl, hcmds⟩, fun q hq => ?_, ?_⟩
  · rw [hothers q hq, hport, if_neg (Ne.symm hq)]
  · have hall : Frame [.ports, .free] s (sendInhibit p t) := .after hframe hset.mono
    exact hall.get fun u => { u with ports := s.ports, free := s.free }

theorem inhibitFrame_repeats (hp : p < nPorts s) (hhigh : (port s p).inhibit = true) (hsending : sending s p = true) :
    Goes (.inhibitFrameRepeat p) s fun t => (port t p).inhibits = (port s p).inhibits + 1 ∧
      (∃ f, (port t p).lastFrame = some f ∧ f.ftype = .inhibit) ∧ (∀ q, q ≠ p → port t q = port s q) ∧ { t with ports := s.ports, free := s.free } = s := by
  obtain ⟨f, scr, bit, hsent, htype, -, -, hothers, hframe⟩ := sendInhibit_sends hsending
  refine goes_of_eq ((exec_inhibitFrameRepeat hp).trans (congrArg _ (if_pos hhigh))) ⟨by rw [hsent]; rfl, ⟨f, by rw [hsent]; rfl, htype⟩, hothers, ?_⟩
  exact hframe.get fun u => { u with ports := s.ports, free := s.free }

/-! ### Stale points (R224) -/

theorem exec_pointStale {k : Nat} (hk : k < nCells s * 128) : exec (.pointStale k) s = .next (
    if (match staleAfter s k with | some j => decide (j < (s.cyc.n - (s.points.get k {}).wrote).toNat) | none => false)
      then { s with points := s.points.set k { s.points.get k {} with stale := true } } else s) := if_pos (by simpa using hk)

theorem pointStale_rises {k j : Nat} (hk : k < nCells s * 128) (hafter : staleAfter s k = some j)
    (hlong : j < (s.cyc.n - (s.points.get k {}).wrote).toNat) : Goes (.pointStale k) s fun t =>
      t.points.get k {} = { s.points.get k {} with stale := true } ∧
      (∀ i, i ≠ k → t.points.get i {} = s.points.get i {}) ∧ { t with points := s.points } = s := by
  refine goes_of_eq ((exec_pointStale hk).trans (congrArg _ (if_pos (by rw [hafter]; exact decide_eq_true hlong))))
    ⟨(get_set ..).trans (if_pos rfl), fun i hi => (get_set ..).trans (if_neg (Ne.symm hi)), rfl⟩

theorem exec_pointStale_early {k : Nat} (hk : k < nCells s * 128)
    (hearly : ∀ j, staleAfter s k = some j → (s.cyc.n - (s.points.get k {}).wrote).toNat ≤ j) : exec (.pointStale k) s = .next s := by
  refine (exec_pointStale hk).trans (congrArg _ (if_neg ?_))
  cases hafter : staleAfter s k with
  | none => simp
  | some j => simpa using hearly j hafter

/-! ### Errors of the memory (R28, R227, R455) -/

theorem points_flagPoint (addr : Nat) (s : State) (j : Nat) : (flagPoint addr s).points.get j {} =
    if addr / 64 = j then { s.points.get (addr / 64) {} with dataLost := true, rebuild := true } else s.points.get j {} := by
  rw [flagPoint, get_upd]

theorem sramEccError_flags {addr : Nat} (hp : s.dev.porstN = true) (hr : s.dev.railHold = false) (haddr : addr < 0x04000000) (hcalm : Calm s) :
    Goes (.sramEccError addr false false) s fun t => Latched t 287 ∧ (t.points.get (addr / 64) {}).dataLost = true ∧
      (t.points.get (addr / 64) {}).rebuild = true ∧ ∀ j, j ≠ addr / 64 → t.points.get j {} = s.points.get j {} := by
  have hcalm' : Calm (flagPoint addr s) := calm_of_cfg_eq rfl hcalm
  have hp' : (flagPoint addr s).dev.porstN = true := hp
  have hr' : (flagPoint addr s).dev.railHold = false := hr
  have hc : exec (.sramEccError addr false false) s = .next (raise 287 [] (flagPoint addr s)) := congrArg Host.Outcome.next (if_pos haddr)
  have hflag := points_flagPoint addr s
  generalize flagPoint addr s = u at hcalm' hp' hr' hc hflag
  have hlatched : Latched (raise 287 [] u) 287 :=
    latched_raise_edge (src := 287) (f := ⟨3, false, 0, false, false⟩) (by decide) (fun v => by cases v <;> rfl) rfl hp' hr' []
  have hframe : Frame signalParts u (raise 287 [] u) := frame_raise_plain hcalm' (by omega) []
  have hpoint : ∀ j, (raise 287 [] u).points.get j {} = u.points.get j {} := fun j => hframe.get fun u => u.points.get j {}
  refine goes_of_eq hc ⟨hlatched, ?_, ?_, fun j hj => ?_⟩
  · rw [hpoint, hflag, if_pos rfl]
  · rw [hpoint, hflag, if_pos rfl]
  · rw [hpoint, hflag, if_neg (Ne.symm hj)]

/-- Settles O20: inhibit lines, stale points and errors of the memory. -/
theorem inhibitStaleMemory : Obligations.InhibitStaleMemory := by
  unfold Obligations.InhibitStaleMemory
  intro s
  refine ⟨fun p hp hdriven hlow hsending => inhibitLineRise_sends hp hdriven hlow hsending, fun p hp hdriven hlow hdark => ?_,
    fun p hp hfree => ?_, fun p hp hhigh hsending => inhibitFrame_repeats hp hhigh hsending, fun p hp hlow => ?_,
    fun k j hk hafter hlong => pointStale_rises hk hafter hlong, fun k hk hearly => exec_pointStale_early hk hearly,
    fun addr d hp hr => ?_, fun addr hp hr => ?_, fun addr hp hr haddr hcalm => sramEccError_flags hp hr haddr hcalm⟩
  · have hdark' := (sending_rise p s).trans hdark
    exact (exec_inhibitLineRise hp).trans (congrArg _ ((if_pos (by rw [hdriven, hlow]; rfl)).trans (if_neg (by rw [hdark']; decide))))
  · exact (exec_inhibitLineRise hp).trans (congrArg _ (if_neg (by rw [hfree]; simp)))
  · exact (exec_inhibitFrameRepeat hp).trans (congrArg _ (if_neg (by rw [hlow]; decide)))
  · have hc : exec (.sramEccError addr true d) s = .next (raise 286 [] s) := rfl
    exact goes_of_eq hc (latched_raise_edge (f := ⟨3, false, 0, false, false⟩) (by decide) (fun v => by cases v <;> rfl) rfl hp hr [])
  · have hc : exec (.sramEccError addr false true) s = .next (raise 4 [] s) := rfl
    exact goes_of_eq hc (latched_raise_edge (f := ⟨0, false, 4, true, false⟩) (by decide) (fun v => by cases v <;> rfl) rfl hp hr [])

end Sys2Proof.Proofs
end

section
/-! Entry to READY, presets and loss of ranging (R19, R176, R206, R209, R219, R403): what each may touch. -/

set_option Elab.async false

namespace Sys2Proof.Proofs
open Sys2Proof Sys2Proof.Machine Sys2Proof.Laws

variable {s : State}

/-! ### Points of a mooring (R176, R219) -/

theorem frame_pointNow (hcalm : Calm s) (ci k : Nat) (v : Int) : Frame pointParts s (pointNow ci k v s) := frame_ptInt hcalm ..

theorem frame_setPreset (hcalm : Calm s) (ci : Nat) (x : Preset) : Frame (pointParts ++ [.moors]) s (setPreset ci x s) := by
  unfold setPreset
  have hset := frame_setMoor ci (fun m => { m with preset := x }) s
  exact .ite .refl (.after (frame_ptWrite (hset.calm hcalm) ..) hset.mono)

/-! ### Entry to READY (R19, R156, R403) -/

theorem frame_srbFault_plain (hcalm : Calm s) {src : Nat} (hsrc : src ∉ [4, 7, 353, 357]) (hdom : faultDomain src = none) (cause k : Nat) (value e : Int) :
    Frame signalParts s (srbFault src cause k value e s) :=
  .ite .refl (.after (frame_safetyEvent ..) (frame_raise_signal hcalm hsrc hdom _))

theorem frame_hwslRelease (s : State) : Frame [.srb, .ports, .mbx, .cap, .store] s (hwslRelease s) := by
  unfold hwslRelease
  extract_lets _ t
  have ht : Frame [.srb, .ports] s t := rfl
  exact .after (frame_srbGo ..) ht.mono

theorem frame_hwslArm (hcalm : Calm s) : Frame sampleParts s (hwslArm s) := by
  unfold hwslArm
  extract_lets t
  have ht : Frame [.free] s t := rfl
  have hcleared : Frame [.free, .fcru] s (clear 35 t) := .after (frame_clear ..) ht.mono
  exact .ite .refl (.ite (.after (frame_srbGo ..) hcleared.mono) (.after (frame_srbFault_plain (ht.calm hcalm) (by decide) (by decide) ..) ht.mono))

/-- What an entry to READY may touch. -/
abbrev readyParts : List Part := sampleParts ++ [.obs]

theorem frame_obsUnseed (s : State) : Frame [.obs] s (obsUnseed s) := rfl

theorem frame_enterReady (hcalm : Calm s) : Frame readyParts s (enterReady s) := by
  have hmoved := frame_moveState (s := s) .ready
  have hunseeded : Frame readyParts s (obsUnseed (moveState .ready s)) := .after (frame_obsUnseed _) hmoved.mono
  exact .ite .refl (.after (frame_hwslArm (hunseeded.calm hcalm)) hunseeded)

/-- An entry to READY changes the observer's records alone. -/
theorem obs_enterReady (hcalm : Calm s) : ∃ recs, (enterReady s).obs = { s.obs with recs := recs } := by
  have hmoved := frame_moveState (s := s) .ready
  have hunseeded : Frame readyParts s (obsUnseed (moveState .ready s)) := .after (frame_obsUnseed _) hmoved.mono
  have harm : (hwslArm (obsUnseed (moveState .ready s))).obs = (obsUnseed (moveState .ready s)).obs :=
    (frame_hwslArm (hunseeded.calm hcalm)).get State.obs
  have hobs : (moveState .ready s).obs = s.obs := hmoved.get State.obs
  unfold enterReady
  split
  · exact ⟨s.obs.recs, rfl⟩
  · rw [harm, obsUnseed, hobs]
    exact ⟨_, rfl⟩

theorem frame_judgeReady (hcalm : Calm s) : Frame readyParts s (judgeReady s) := .ite (frame_enterReady hcalm) .refl

/-! ### Loss of ranging (R19, R209) -/

/-- What a loss of ranging may touch. -/
abbrev lostParts : List Part := signalParts ++ [.ports, .moors]

theorem frame_lostRanging (hcalm : Calm s) (p m : Nat) : Frame lostParts s (lostRanging p m s) := by
  unfold lostRanging
  extract_lets ci t
  have hgone := frame_moorGo p m .admitted s
  have ht : Frame lostParts s t := .after (frame_raise_plain (hgone.calm hcalm) (by omega) _) hgone.mono
  exact .ite (.after (frame_moveState ..) ht) ht

end Sys2Proof.Proofs
end

section
/-! What the measurement cutoff of a cycle leaves alone (R14, R130, R395, R421, R425–R433): the cycle's counters, the reports taken, the parameters. -/

set_option Elab.async false

namespace Sys2Proof.Proofs
open Sys2Proof Sys2Proof.Machine Sys2Proof.Laws

variable {s t : State}

/-- The cycle's counters, its reports, and the parameters in force. -/
def cutView (s : State) : (CycleNo × Bool × Bool × Nat) × (List Report × List Report × List Report) × SMap Int × Option Plate :=
  ((s.cyc.n, s.cyc.frozen, s.cyc.launched, s.cyc.ctInc), (s.obs.store, s.obs.late, s.obs.taken), s.cfg.par, s.cfg.plate)

theorem calm_of_cutView (h : cutView t = cutView s) (hcalm : Calm s) : Calm t := by
  have hpar : t.cfg.par = s.cfg.par := (congrArg (·.2.2.1) h :)
  have hplate : t.cfg.plate = s.cfg.plate := (congrArg (·.2.2.2) h :)
  intro src f hf hfix hsrc
  have hlvl : faultLevel t src = faultLevel s src := by simp only [faultLevel, parN, par, armTab, hpar, hplate]
  rw [hlvl]
  exact hcalm src f hf hfix hsrc

/-- The steps of a fold keep the view where each starts from a calm configuration. -/
theorem cutView_foldl {α : Type} {f : State → α → State} (xs : List α) (hcalm : Calm s) (hf : ∀ x, Calm x → ∀ a ∈ xs, cutView (f x a) = cutView x) :
    cutView (xs.foldl f s) = cutView s :=
  List.foldlRecOn (motive := fun t : State => cutView t = cutView s) xs f rfl fun t h a ha => (hf t (calm_of_cutView h hcalm) a ha).trans h

/-! ### A follower at the cutoff (R23, R186, R425, R426) -/

theorem cutView_enterReady (hcalm : Calm s) : cutView (enterReady s) = cutView s := by
  have hframe := frame_enterReady hcalm
  obtain ⟨recs, hobs⟩ := obs_enterReady hcalm
  have hn : (enterReady s).cyc.n = s.cyc.n := hframe.get fun u => u.cyc.n
  have hfrozen : (enterReady s).cyc.frozen = s.cyc.frozen := hframe.get fun u => u.cyc.frozen
  have hlaunched : (enterReady s).cyc.launched = s.cyc.launched := hframe.get fun u => u.cyc.launched
  have hinc : (enterReady s).cyc.ctInc = s.cyc.ctInc := hframe.get fun u => u.cyc.ctInc
  have hcfg : (enterReady s).cfg = s.cfg := hframe.get State.cfg
  rw [cutView, cutView, hn, hfrozen, hlaunched, hinc, hcfg, hobs]

theorem cutView_adoptState (hcalm : Calm s) (new : DevState) : cutView (adoptState new s) = cutView s := by
  have hrelease := frame_hwslRelease s
  unfold adoptState
  extract_lets may from_
  split
  · rfl
  · split
    · split
      · exact (cutView_enterReady (hrelease.calm hcalm)).trans (hrelease.get cutView)
      · exact cutView_enterReady hcalm
    · exact (frame_moveState _ .running).get cutView
    · exact (frame_moveState _ _).get cutView

theorem frame_followLane (hcalm : Calm s) (p : Nat) (l : LaneState) (g : Gen) (c : CycleNo) (sc : Option CycleNo) :
    Frame (pointParts ++ [.moors, .ports]) s (followLane p l g c sc s) := by
  unfold followLane
  extract_lets x a b
  have ha : Frame [.ports] s a := .ite .refl (frame_setPort ..)
  have hb : Frame (pointParts ++ [.moors, .ports]) s b := by
    refine .ite ?_ (.ite (.after (frame_setPort ..) ha.mono) ha.mono)
    have hepoch := (frame_setPort p (fun y => { y with epoch := y.epoch + 1 }) a).after ha
    exact .after (.foldl_calm (ps := pointParts ++ [.moors]) _ (hepoch.calm hcalm) fun _ hx _ _ => frame_setPreset hx ..) hepoch.mono
  exact .ite .refl (.after (frame_relight _) (.after (frame_laneGo ..) hb))

theorem cutView_applyValues (hcalm : Calm s) (r : MirrorRec) : cutView (applyValues r s) = cutView s := by
  unfold applyValues
  extract_lets cur arms arms' _ a b
  have ha : cutView a = cutView s := rfl
  have hb : cutView b = cutView s := by
    refine (List.foldlRecOn (motive := fun t : State => cutView t = cutView a) _ _ rfl fun t ht x _ => ?_).trans ha
    split
    · split
      · exact ht
      · exact ht
    · exact ht
  exact (cutView_foldl _ (calm_of_cutView hb hcalm) fun _ hx _ _ => (frame_followLane hx ..).get cutView).trans hb

theorem cutView_settleFrame (launched : Bool) (s : State) : cutView (settleFrame launched s) = cutView s := by
  unfold settleFrame
  extract_lets a
  split
  · rfl
  · split
    · rfl
    · rfl

theorem cutView_toStandby (s : State) : cutView (toStandby s) = cutView s := by
  unfold toStandby
  extract_lets a
  have ha : cutView a = cutView s := (frame_setRole .standby s).get cutView
  split
  · exact ((frame_setRole .eligible a).get cutView).trans ha
  · exact ha

theorem cutView_toResync (s : State) : cutView (toResync s) = cutView s := (frame_toResync s).get cutView

theorem cutView_raise_plain (hcalm : Calm s) {src : Nat} (h : 184 ≤ src ∧ src < 208 ∨ 232 ≤ src ∧ src < 252 ∨ 260 ≤ src ∧ src < 353) (d : List Byte) :
    cutView (raise src d s) = cutView s := (frame_raise_plain hcalm h d).get cutView

theorem cutView_refresh (hcalm : Calm s) (good : Bool) : cutView (refresh good s) = cutView s := by
  unfold refresh
  extract_lets _ a
  have ha : cutView a = cutView s := rfl
  clear_value a
  split
  · split
    · exact (cutView_toStandby a).trans ha
    · exact ha
  · split
    · exact (cutView_toResync _).trans ((cutView_raise_plain (calm_of_cutView ha hcalm) (by omega) []).trans ha)
    · exact ha
  · split
    · exact (cutView_toResync _).trans ((cutView_raise_plain (calm_of_cutView ha hcalm) (by omega) []).trans ha)
    · exact ha
  · exact ha

theorem cutView_followerCutoff (hcalm : Calm s) : cutView (followerCutoff s) = cutView s := by
  unfold followerCutoff
  extract_lets c
  split
  · exact (cutView_refresh (calm_of_cutView (cutView_settleFrame ..) hcalm) false).trans (cutView_settleFrame ..)
  · next r hr =>
    extract_lets skip same held seqBad a b d e
    have ha : cutView a = cutView s := by
      unfold a
      split
      · refine (cutView_raise_plain (src := 303) (calm_of_cutView (s := s) ?_ hcalm) (by omega) _).trans ?_ <;> rfl
      · rfl
    have hb : cutView b = cutView s := (cutView_settleFrame ..).trans ha
    have hd : cutView d = cutView s := by
      unfold d
      split
      · split
        · have hv := cutView_applyValues (calm_of_cutView hb hcalm) r
          exact (cutView_adoptState (calm_of_cutView (hv.trans hb) hcalm) _).trans (hv.trans hb)
        · exact (cutView_adoptState (calm_of_cutView hb hcalm) _).trans hb
      · exact hb
    have he : cutView e = cutView s := by
      unfold e
      split
      · exact ((frame_setPhase _ r.phase).get cutView).trans hd
      · exact hd
    split
    · exact (cutView_toResync _).trans ((cutView_raise_plain (calm_of_cutView he hcalm) (by omega) []).trans he)
    · exact (cutView_refresh (calm_of_cutView he hcalm) _).trans he

/-! ### Silence and split (R421, R429, R432, R433) -/

theorem cutView_leading (hcalm : Calm s) : cutView (leading s) = cutView s := by
  have halone : cutView (alone s) = cutView s := rfl
  have hrole : cutView (setRole .active (raiseEpoch (alone s))) = cutView s :=
    ((frame_setRole ..).get cutView).trans (((frame_raiseEpoch _).get cutView).trans halone)
  exact ((frame_leading_role hcalm).get cutView).trans hrole

theorem cutView_led (hcalm : Calm s) (silence takeover : Bool) : cutView (led silence takeover s) = cutView s := by
  unfold led
  extract_lets a
  have ha : cutView a = cutView s := ((frame_clear ..).get cutView).trans (((frame_withTan ..).get cutView).trans (cutView_leading hcalm))
  split
  · exact (cutView_raise_plain (calm_of_cutView ha hcalm) (by omega) []).trans ha
  · exact ha

theorem cutView_becomeActive (hcalm : Calm s) (silence takeover : Bool) : cutView (becomeActive silence takeover s) = cutView s := by
  have hled := cutView_led hcalm silence takeover
  rw [becomeActive_eq]
  generalize led silence takeover s = u at hled
  split
  · rfl
  · split
    · exact hled
    · split
      · split
        · exact ((frame_moveState _ .blocked).get cutView).trans hled
        · exact hled
      · exact ((frame_takePhase u).get cutView).trans hled

theorem cutView_silenceJudge (hcalm : Calm s) (idle : Bool) : cutView (silenceJudge idle s) = cutView s := by
  unfold silenceJudge
  extract_lets lim silent
  have htan : ∀ x, cutView (withTan x s) = cutView s := fun _ => rfl
  split
  · rfl
  · split
    · exact ((frame_clear _ 309).get cutView).trans (htan _)
    · split
      · exact cutView_becomeActive hcalm true true
      · split
        · rfl
        · exact (cutView_raise_plain (calm_of_cutView (htan _) hcalm) (by omega) []).trans (htan _)

theorem cutView_splitJudge (hcalm : Calm s) : cutView (splitJudge s) = cutView s := by
  have hyield : cutView (raise 306 [] (toResync s)) = cutView s :=
    (cutView_raise_plain (calm_of_cutView (cutView_toResync s) hcalm) (by omega) []).trans (cutView_toResync s)
  unfold splitJudge
  extract_lets hit near yields
  split
  · rfl
  · split
    · exact hyield
    · rfl

theorem cutView_towpaths (hcalm : Calm s) (a b : Bool) : cutView (towpaths a b s) = cutView s := (frame_towpaths hcalm a b).get cutView

theorem cutView_tandemCutoff (hcalm : Calm s) : cutView (tandemCutoff s) = cutView s := by
  unfold tandemCutoff
  extract_lets heard a b _ c d
  have ha : cutView a = cutView s := cutView_towpaths hcalm ..
  have hb : cutView b = cutView s := by
    unfold b
    split
    · exact (cutView_followerCutoff (calm_of_cutView ha hcalm)).trans ha
    · exact ha
  have hc : cutView c = cutView s := hb
  have hd : cutView d = cutView s := (cutView_silenceJudge (calm_of_cutView hc hcalm) false).trans hc
  have hrevert : ∀ u, cutView (revert u) = cutView u := fun u => by unfold revert; split <;> rfl
  split
  · rfl
  · split
    · exact (hrevert _).trans ((cutView_splitJudge (calm_of_cutView hd hcalm)).trans hd)
    · exact hd

end Sys2Proof.Proofs
end

section
/-! The measurement cutoff and the observer update (R14, R22, R30, R43, R80, R150, R152, R153). -/

set_option Elab.async false

namespace Sys2Proof.Proofs
open Sys2Proof Sys2Proof.Machine Sys2Proof.Laws

variable {s t : State}

/-! ### Reports and basin counts at the cutoff (R209, R219, R224) -/

/-- What the points and counts of moorings may touch at a cutoff. -/
abbrev moorCutParts : List Part := pointParts ++ [.moors]

theorem moorCut_count (h : Frame moorCutParts s t) (hcalm : Calm s) (p n : Nat) (c : CycleNo) (k : Nat) : Frame moorCutParts s (ptCount p n c k t) :=
  .after (frame_ptCount (h.calm hcalm) ..) h

theorem moorCut_int (h : Frame moorCutParts s t) (hcalm : Calm s) (p : Nat) (x : Int) (c : CycleNo) (k : Nat) : Frame moorCutParts s (ptInt p x c k t) :=
  .after (frame_ptInt (h.calm hcalm) ..) h

theorem frame_moorCutoff (hcalm : Calm s) (ci : Nat) : Frame moorCutParts s (moorCutoff ci s) := by
  unfold moorCutoff
  extract_lets k n a x c b
  have ha : Frame moorCutParts s a := by
    unfold a
    split
    · exact .ite (frame_setMoor ..).mono (moorCut_int (frame_setMoor ..).mono hcalm ..)
    · exact .refl
  have hc : ∀ i v u, Frame moorCutParts s u → Frame moorCutParts s (c i v u) := fun _ _ _ hu => moorCut_count hu hcalm ..
  have hb : Frame moorCutParts s b := hc _ _ _ (hc _ _ _ (hc _ _ _ ha))
  exact .ite hb (hc _ _ _ (hc _ _ _ (hc _ _ _ (hc _ _ _ (hc _ _ _ hb)))))

theorem frame_reportPoints (hcalm : Calm s) (r : Report) : Frame moorCutParts s (reportPoints s r) := by
  unfold reportPoints
  extract_lets ci k g put a b c d e one
  have hput : ∀ i v u, Frame moorCutParts s u → Frame moorCutParts s (put i v u) := fun _ _ _ hu => moorCut_int hu hcalm ..
  have ha : Frame moorCutParts s a := .ite .refl (frame_setMoor ..).mono
  have hb : Frame moorCutParts s b := .ite (hput _ _ _ ha) (.ite ha (hput _ _ _ ha))
  have hc : Frame moorCutParts s c := hput _ _ _ hb
  have hd : Frame moorCutParts s d := .ite hc (hput _ _ _ hc)
  have he : Frame moorCutParts s e := moorCut_count (hput _ _ _ hd) hcalm ..
  have hone : ∀ i v u, Frame moorCutParts s u → Frame moorCutParts s (one i v u) := fun _ _ u hu => .after (frame_capFeed (hu.calm hcalm) ..) hu
  exact .ite (hone _ _ _ (hone _ _ _ he)) he

theorem frame_gaugeGaps (cis : List Nat) (s : State) : Frame [.cap, .store] s (gaugeGaps cis s) :=
  .foldl _ .refl fun _ _ _ => .ite (frame_capGap ..) .refl

/-! ### Graph inputs (R60, R78, R236–R240, R286, R289, R308) -/

theorem frame_setInput (k : Nat) (xs : List Rat) (s : State) : Frame [.graph] s (setInput k xs s) := rfl

theorem frame_setInputI (k : Nat) (xs : List Int) (s : State) : Frame [.graph] s (setInputI k xs s) := frame_setInput ..

/-- What the freeze of the graph's inputs may touch. -/
abbrev inputParts : List Part := signalParts ++ [.graph, .free, .stn, .get, .getLast]

theorem frame_getFreeze (s : State) : Frame [.get] s (getFreeze s) := rfl

theorem frame_svSet (k : Nat) (x : Sv) (s : State) : Frame [.stn] s (svSet k x s) := rfl

theorem frame_svCutoff (k : Nat) (d : SvDef) (s : State) : Frame [.graph, .free, .stn] s (svCutoff k d s) := by
  unfold svCutoff
  extract_lets x start ta qs vs lost vs' held flags age a b c
  have ha : Frame [.free] s a := rfl
  have hb : Frame [.graph, .free, .stn] s b := .after (frame_svSet ..) ha.mono
  have hc : Frame [.graph, .free, .stn] s c := .after (.foldl (ps := [.graph]) _ .refl fun _ _ _ => frame_setInput ..) hb
  exact .after (frame_setInput ..) hc

theorem frame_svAll (hcalm : Calm s) : Frame inputParts s (svAll s) := by
  unfold svAll
  extract_lets before a lost fresh
  have ha : Frame [.graph, .free, .stn] s a := .foldl _ .refl fun _ _ _ => frame_svCutoff ..
  clear_value a fresh
  split
  · exact .after (frame_raise_plain (ha.calm hcalm) (by omega) _) ha.mono
  · exact .ite (.after (frame_clear ..) ha.mono) ha.mono

theorem frame_gooseCutoff (k : Nat) (d : GooseSubDef) (s : State) : Frame [.graph, .stn] s (gooseCutoff k d s) := by
  unfold gooseCutoff
  extract_lets x y a
  have hset := frame_subSet k y s
  have ha : Frame [.graph, .stn] s a := .after (.foldl (ps := [.graph]) _ .refl fun _ _ _ => frame_setInput ..) hset.mono
  exact .after (frame_setInput ..) ha

theorem frame_gooseAll (s : State) : Frame [.graph, .stn] s (gooseAll s) := .foldl _ .refl fun _ _ _ => frame_gooseCutoff ..

theorem frame_setPch (c : Nat) (x : Pch) (s : State) : Frame [.pul] s (setPch c x s) := rfl

theorem frame_pulCutoff (s : State) : Frame [.graph, .pul] s (pulCutoff s) :=
  .foldl _ .refl fun s c _ => by
    extract_lets x a
    have ha : Frame [.graph, .pul] s a := (frame_setInput ..).mono
    exact .ite (.after (frame_setPch ..) ha) ha

theorem frame_freezeInputs (hcalm : Calm s) : Frame inputParts s (freezeInputs s) := by
  unfold freezeInputs
  extract_lets a b c d
  have ha : Frame inputParts s a := (sampleEnd_getClose hcalm).frame.mono
  have hinput : ∀ {α : Type} (xs : List α) (f : State → α → Nat) (g : State → α → List Int) (u : State),
      Frame [.graph] u (xs.foldl (fun s x => setInputI (f s x) (g s x) s) u) := fun xs _ _ _ => .foldl xs .refl fun _ _ _ => frame_setInputI ..
  have hb : Frame inputParts s b := .after (hinput (getInputs a 0 ++ getInputs a 1) (fun _ x => x.1) (fun _ x => x.2) a) ha
  have hget : Frame inputParts s (getFreeze b) := .after (frame_getFreeze b) hb
  have hsv : Frame inputParts s (svAll (getFreeze b)) := .after (frame_svAll (hget.calm hcalm)) hget
  have hc : Frame inputParts s c := .after (frame_pulCutoff _) (.after (frame_gooseAll _) hsv)
  have hd : Frame inputParts s d := .after (hinput _ (fun _ a => 0xFFE0 + a) (fun s a => (s.arms.get a {}).feedback) c) hc
  exact .after (frame_setInputI ..) (.after (frame_setInputI ..) hd)

/-! ### Categories of cells (R129, R130) -/

/-- The sources that the categories of an arm's cells raise. -/
def CatSource (f : Nat × List Byte) : Prop := f.1 = 264 ∨ f.1 = 265 ∨ f.1 = 266 ∨ 160 ≤ f.1 ∧ f.1 < 172

theorem catSettle_sources (s : State) (a : Nat) (m : Member) (restore : Bool) : ∀ f ∈ (catSettle s a m restore).2.2, CatSource f := by
  unfold catSettle
  extract_lets c0 c0'
  generalize (reportsOf s m.ci).foldl (catReport s m.ci) (c0', none) = out
  obtain ⟨c, cause⟩ := out
  dsimp only
  split
  · split
    · simp
    · intro f hf
      rcases List.mem_cons.mp hf with rfl | hf
      · exact .inl rfl
      · split at hf
        · rw [List.mem_singleton.mp hf]
          exact .inr (.inr (.inl rfl))
        · cases hf
  · generalize (if restore = true then Category.active else if (c.cat == .lost && decide (16 ≤ c.valid)) = true then .active else c.cat) = cat
    split
    · intro f hf
      rw [List.mem_singleton.mp hf]
      exact .inr (.inl rfl)
    · simp

theorem armSettle_sources (s : State) {a : Nat} (ha : a < 12) : ∀ f ∈ (armSettle s a).2.1, CatSource f := by
  unfold armSettle
  extract_lets a0 ms
  have hfold : ∀ (xs : List Member) (acc : Arm × CatFaults × List (Waiting × Status)), (∀ f ∈ acc.2.1, CatSource f) →
      ∀ f ∈ (xs.foldl (fun (acc : Arm × CatFaults × List (Waiting × Status)) m =>
        let ws := restoreOf a0 m.ci
        let (c, good, f) := catSettle s a m (!ws.isEmpty)
        ({ acc.1 with cats := acc.1.cats.set m.ci c }, acc.2.1 ++ f,
         acc.2.2 ++ ws.map (fun w => (w, if good then Status.ok else Status.state)))) acc).2.1, CatSource f := by
    intro xs
    induction xs with
    | nil => exact fun _ h => h
    | cons m xs ih =>
      intro acc hacc
      refine ih _ fun f hf => ?_
      rcases List.mem_append.mp hf with h | h
      · exact hacc f h
      · exact catSettle_sources s a m _ f h
  have hout := hfold ms (a0, [], []) (by simp)
  generalize ms.foldl (fun (acc : Arm × CatFaults × List (Waiting × Status)) m =>
        let ws := restoreOf a0 m.ci
        let (c, good, f) := catSettle s a m (!ws.isEmpty)
        ({ acc.1 with cats := acc.1.cats.set m.ci c }, acc.2.1 ++ f,
         acc.2.2 ++ ws.map (fun w => (w, if good then Status.ok else Status.state)))) (a0, [], []) = out at hout
  obtain ⟨x, fs, rs⟩ := out
  dsimp only at hout ⊢
  split
  · intro f hf
    rcases List.mem_cons.mp hf with rfl | hf
    · exact .inr (.inr (.inr ⟨Nat.le_add_right .., by dsimp only; omega⟩))
    · exact hout f hf
  · exact hout

theorem frame_raise_arm (hcalm : Calm s) {src : Nat} (hlo : 160 ≤ src) (hhi : src < 184) (d : List Byte) : Frame signalParts s (raise src d s) := by
  have hout : ∀ b c, (inRow src b c = true ↔ b ≤ src ∧ src < b + c) := fun b c => by simp [inRow]
  have hdomain : faultDomain src = none := by
    rw [faultDomain, if_neg (by omega), if_neg (by rw [hout]; omega), if_neg (by rw [hout]; omega), if_neg (by rw [hout]; omega),
      if_neg (by rw [hout]; omega), if_neg (by rw [hout]; omega)]
  exact frame_raise_signal hcalm (by simp; omega) hdomain d

theorem frame_catRaise (hcalm : Calm s) {f : Nat × List Byte} (hf : CatSource f) : Frame signalParts s (raise f.1 f.2 s) := by
  rcases hf with h | h | h | ⟨hlo, hhi⟩
  · exact frame_raise_plain hcalm (by omega) _
  · exact frame_raise_plain hcalm (by omega) _
  · exact frame_raise_plain hcalm (by omega) _
  · exact frame_raise_arm hcalm hlo (by omega) _

/-- Arms, their faults and the results of their restores, one arm after another. -/
theorem settled_arms (s : State) (xs : List Nat) (hxs : ∀ a ∈ xs, a < 12) : ∀ acc : State × CatFaults × List (Waiting × Status),
    Frame [.arms] s acc.1 → (∀ f ∈ acc.2.1, CatSource f) →
    Frame [.arms] s (xs.foldl (fun (acc : State × CatFaults × List (Waiting × Status)) a =>
      let (x, f, r) := armSettle s a
      ({ acc.1 with arms := acc.1.arms.set a x }, acc.2.1 ++ f, acc.2.2 ++ r)) acc).1 ∧
    ∀ f ∈ (xs.foldl (fun (acc : State × CatFaults × List (Waiting × Status)) a =>
      let (x, f, r) := armSettle s a
      ({ acc.1 with arms := acc.1.arms.set a x }, acc.2.1 ++ f, acc.2.2 ++ r)) acc).2.1, CatSource f := by
  induction xs with
  | nil => exact fun _ h hf => ⟨h, hf⟩
  | cons a xs ih =>
    intro acc hframe hsrc
    refine ih (fun b hb => hxs b (List.mem_cons_of_mem a hb)) _ (.after (frame_setArm ..) hframe) fun f hf => ?_
    rcases List.mem_append.mp hf with h | h
    · exact hsrc f h
    · exact armSettle_sources s (hxs a List.mem_cons_self) f h

theorem lt_of_armsUsed {a : Nat} (h : a ∈ armsUsed s) : a < 12 :=
  Nat.lt_of_lt_of_le (by simpa using (List.mem_filter.mp h).2 : a < nArms s) (by unfold nArms; split <;> decide)

theorem frame_settleAll (hcalm : Calm s) : Frame (signalParts ++ [.arms]) s (settleAll s) := by
  unfold settleAll
  have hsettled := settled_arms s (armsUsed s) (fun _ => lt_of_armsUsed) (s, [], []) .refl (by simp)
  generalize (armsUsed s).foldl (fun (acc : State × CatFaults × List (Waiting × Status)) a =>
      let (x, f, r) := armSettle s a
      ({ acc.1 with arms := acc.1.arms.set a x }, acc.2.1 ++ f, acc.2.2 ++ r)) (s, [], []) = out at hsettled
  obtain ⟨a, fs, rs⟩ := out
  obtain ⟨ha, hsrc⟩ := hsettled
  dsimp only at ha hsrc ⊢
  have hraised : Frame signalParts a ((fs.mergeSort (fun x y => x.1 ≤ y.1)).foldl (fun s f => raise f.1 f.2 s) a) :=
    .foldl_calm _ (ha.calm hcalm) fun _ hx f hf => frame_catRaise hx (hsrc f (List.mem_mergeSort.mp hf))
  exact .after (.foldl (ps := [.mbx]) rs .refl fun _ _ _ => frame_scheduledResult ..) (.after hraised ha.mono)

/-! ### Gauges of the safety die (R394, R395) -/

theorem frame_setQs (k : Nat) (q : SrbQ) (s : State) : Frame [.srb] s (setQs k q s) := rfl

theorem frame_i0FromMax (k : Nat) (s : State) : Frame [.srb, .mbx] s (i0FromMax k s) := .after (frame_safetyEvent ..) (frame_setQs ..).mono

theorem cutView_hwslTrip (cause k : Nat) (value e : Int) (s : State) : cutView (hwslTrip cause k value e s) = cutView s := by
  unfold hwslTrip
  split
  · rfl
  · exact (frame_srbGo ..).get cutView

theorem cutView_srbFault39 (hcalm : Calm s) (cause k : Nat) (value e : Int) : cutView (srbFault 39 cause k value e s) = cutView s :=
  (frame_srbFault_plain hcalm (by decide) (by decide) ..).get cutView

theorem cutView_gaugeMissing (hcalm : Calm s) : cutView (gaugeMissing s) = cutView s := by
  refine cutView_foldl _ hcalm fun u hu k _ => ?_
  extract_lets ci a _ q b
  have ha : cutView a = cutView u := by
    unfold a
    split
    · split
      · exact (frame_i0FromMax ..).get cutView
      · rfl
    · rfl
  have hb : cutView b = cutView u := ha
  have hcalm' := calm_of_cutView hb hu
  clear_value b
  split
  · exact ha
  · split
    · exact hb
    · split
      · exact (cutView_srbFault39 (calm_of_cutView (cutView_hwslTrip ..) hcalm') ..).trans ((cutView_hwslTrip ..).trans hb)
      · split
        · exact (cutView_srbFault39 hcalm' ..).trans hb
        · exact hb

/-! ### The freeze (R14, R43, R80, R153) -/

/-- The cycle is frozen and its reports are taken. -/
def frozenCycle (s : State) : State :=
  takeReports { s with cyc := { s.cyc with frozen := true, ctInc := (ctIncrement s.time (slewStep (par s 0x32 0 2))).toNat } }

/-- What follows the reports at the freeze: graph inputs, categories, gauges, the pair. -/
theorem cutView_fixed {a c : State} (ha : Calm a) (hc : Frame moorCutParts a c) :
    cutView (tandemCutoff (gaugeMissing (settleAll (freezeInputs c)))) = cutView a := by
  have hcalm := hc.calm ha
  have hinputs := frame_freezeInputs hcalm
  generalize freezeInputs c = d at hinputs
  have hcats := frame_settleAll (hinputs.calm hcalm)
  generalize settleAll d = e at hcats
  have hcalm' := hcats.calm (hinputs.calm hcalm)
  have hgauges := cutView_gaugeMissing hcalm'
  generalize gaugeMissing e = f at hgauges
  exact (cutView_tandemCutoff (calm_of_cutView hgauges hcalm')).trans
    (hgauges.trans ((hcats.get cutView).trans ((hinputs.get cutView).trans (hc.get cutView))))

/-- The graph starts, or stands idle. -/
def graphCut (s : State) : State := if s.dev.state.graphOn then graphStart s else withGraph s (graphIdle s.graph)

theorem graphStart_eq (s : State) : ∃ g h, graphStart s = withGraph s h ∧ Requeued g h ∧ g.work = [] ∧ g.done = [] ∧ g.gt = 0 := by
  unfold graphStart
  extract_lets ns pend free lanes _ g
  have hwork : g.work = [] := rfl
  have hdone : g.done = [] := rfl
  have hgt : g.gt = 0 := rfl
  clear_value g
  generalize (free.filter (fun n => !needsObs n)).map (·.node) = ready
  exact ⟨g, dispatchAll s (Machine.enqueue s 0 ready g), rfl, (requeued_enqueue s 0 ready g).trans (requeued_dispatchAll s _), hwork, hdone, hgt⟩

theorem graphCut_starts (s : State) : cutView (graphCut s) = cutView s ∧
    ((graphCut s).dev.state.graphOn = true → (graphCut s).graph.work = [] ∧ (graphCut s).graph.done = [] ∧ (graphCut s).graph.gt = 0) := by
  unfold graphCut
  split
  · obtain ⟨g, h, heq, hq, hwork, hdone, hgt⟩ := graphStart_eq s
    rw [heq]
    exact ⟨rfl, fun _ => ⟨(hq.get Graph.work).trans hwork, (hq.get Graph.done).trans hdone, (hq.get Graph.gt).trans hgt⟩⟩
  · next h => exact ⟨rfl, fun hon => absurd hon h⟩

theorem cutoff_freezes (hcalm : Calm s) : cutView (cutoff s) = cutView (frozenCycle s) ∧
    ((cutoff s).dev.state.graphOn = true → (cutoff s).graph.work = [] ∧ (cutoff s).graph.done = [] ∧ (cutoff s).graph.gt = 0) := by
  unfold cutoff
  extract_lets _ a cis b c d e
  have hfrozen : cutView a = cutView (frozenCycle s) := rfl
  have ha : Calm a := calm_of_cfg_eq rfl hcalm
  clear_value a
  have hmoors : Frame moorCutParts a b := .foldl_calm _ ha fun _ hx _ _ => frame_moorCutoff hx ..
  have hreports : Frame moorCutParts b (b.obs.taken.foldl reportPoints b) := .foldl_calm _ (hmoors.calm ha) fun _ hx _ _ => frame_reportPoints hx ..
  have hc : Frame moorCutParts a c := .after (frame_gaugeGaps ..) (hmoors.trans hreports)
  clear_value c
  have hd : cutView d = cutView a := cutView_fixed ha hc
  clear_value d
  have hplaced : cutView e = cutView d := rfl
  clear_value e
  obtain ⟨hview, hgraph⟩ := graphCut_starts e
  exact ⟨hview.trans (hplaced.trans (hd.trans hfrozen)), hgraph⟩

end Sys2Proof.Proofs
end

section
/-! The measurement cutoff at its instant, and the observer update that follows it once (R14, R22, R30, R150, R152). -/

set_option Elab.async false

namespace Sys2Proof.Proofs
open Sys2Proof Sys2Proof.Machine Sys2Proof.Laws

variable {s t u : State}

/-! ### The cutoff at its instant (R14) -/

theorem measurementCutoff_freezes {k : Nat} (hcalm : Calm s) (hrun : s.cyc.running = true) (hopen : s.cyc.frozen = false)
    (hreached : reached (advanceTo k s) s.cyc.n (parN s 1 0 2) = true) : let a := advanceTo k s
    Goes (.measurementCutoff k) s fun u => u.cyc.frozen = true ∧ u.cyc.n = s.cyc.n ∧ u.obs.store = [] ∧ u.obs.late = [] ∧
      u.obs.taken = s.obs.late ++ s.obs.store ∧ u.cyc.ctInc = (ctIncrement a.time (slewStep (par s 0x32 0 2))).toNat ∧ u.cfg.par = s.cfg.par ∧
      u.cyc.launched = s.cyc.launched ∧ (u.dev.state.graphOn = true → u.graph.work = [] ∧ u.graph.done = [] ∧ u.graph.gt = 0) := by
  intro a
  have ha : Frame [.now, .time] s a := frame_advanceTo s k
  have hcyc : a.cyc = s.cyc := ha.get State.cyc
  have hobs : a.obs = s.obs := ha.get State.obs
  have hcfg : a.cfg = s.cfg := ha.get State.cfg
  have hpar : parN a 1 0 2 = parN s 1 0 2 := ha.get (parN · 1 0 2)
  have hslew : par a 0x32 0 2 = par s 0x32 0 2 := ha.get (par · 0x32 0 2)
  have hdue : (a.cyc.running && !a.cyc.frozen && reached a a.cyc.n (parN a 1 0 2)) = true := by
    rw [hcyc, hpar, hreached, hrun, hopen]
    rfl
  have hc : exec (.measurementCutoff k) s = .next (cutoff a) := congrArg Host.Outcome.next (if_pos hdue)
  obtain ⟨hview, hgraph⟩ := cutoff_freezes (ha.calm hcalm)
  have hfrozen : cutView (frozenCycle a) = ((a.cyc.n, true, a.cyc.launched, (ctIncrement a.time (slewStep (par a 0x32 0 2))).toNat),
      ([], [], a.obs.late ++ a.obs.store), a.cfg.par, a.cfg.plate) := rfl
  generalize cutoff a = u at hc hview hgraph
  rw [hfrozen, hcyc, hobs, hcfg, hslew] at hview
  simp only [cutView, Prod.mk.injEq] at hview
  obtain ⟨⟨hn, hfroze, hlaunched, hinc⟩, ⟨hstore, hlate, htaken⟩, hparams, -⟩ := hview
  exact goes_of_eq hc ⟨hfroze, hn, hstore, hlate, htaken, hinc, hparams, hlaunched, hgraph⟩

theorem exec_measurementCutoff_idle {k : Nat} (h : s.cyc.running = false ∨ s.cyc.frozen = true ∨ reached (advanceTo k s) s.cyc.n (parN s 1 0 2) = false) :
    exec (.measurementCutoff k) s = .next (advanceTo k s) := by
  have ha := frame_advanceTo s k
  have hcyc : (advanceTo k s).cyc = s.cyc := ha.get State.cyc
  have hpar : parN (advanceTo k s) 1 0 2 = parN s 1 0 2 := ha.get (parN · 1 0 2)
  refine congrArg Host.Outcome.next (if_neg ?_)
  rw [hcyc, hpar]
  rcases h with h | h | h <;> simp [h]

/-! ### The observer update (R150, R152, R161) -/

/-- A step of the observer update: it leaves the current image buffer. -/
def ObsStep (s t : State) : Prop := Frame (pointParts ++ [.obs]) s t ∧ t.obs.curBuf = s.obs.curBuf

theorem ObsStep.trans (h : ObsStep s t) (g : ObsStep t u) : ObsStep s u := ⟨h.1.trans g.1, g.2.trans h.2⟩

theorem ObsStep.after (g : ObsStep t u) (h : ObsStep s t) : ObsStep s u := h.trans g

theorem ObsStep.calm (h : ObsStep s t) (hcalm : Calm s) : Calm t := h.1.calm hcalm

theorem obsStep_of_points (h : Frame pointParts s t) : ObsStep s t := ⟨h.mono, h.get fun u => u.obs.curBuf⟩

theorem obsStep_of_signal (h : Frame signalParts s t) : ObsStep s t := obsStep_of_points h.mono

theorem obsStep_foldl {α : Type} {f : State → α → State} (xs : List α) (hcalm : Calm s) (hf : ∀ x, Calm x → ∀ a ∈ xs, ObsStep x (f x a)) :
    ObsStep s (xs.foldl f s) :=
  List.foldlRecOn (motive := ObsStep s) xs f ⟨.refl, rfl⟩ fun x hx a ha => hx.trans (hf x (hx.calm hcalm) a ha)

theorem frame_obsPoints (hcalm : Calm s) (a ci : Nat) : Frame pointParts s (obsPoints a ci s) := by
  unfold obsPoints
  extract_lets r n k i c b d e f
  have hi : ∀ j v u, Frame pointParts s u → Frame pointParts s (i j v u) := fun _ _ _ hu => .after (frame_ptInt (hu.calm hcalm) ..) hu
  have hc : ∀ j v u, Frame pointParts s u → Frame pointParts s (c j v u) := fun _ _ _ hu => .after (frame_ptCount (hu.calm hcalm) ..) hu
  have hb : Frame pointParts s b := hi _ _ _ .refl
  have hd : Frame pointParts s d := hi _ _ _ hb
  have he : Frame pointParts s e := hi _ _ _ (hi _ _ _ (hi _ _ _ hd))
  have hf : Frame pointParts s f := hi _ _ _ he
  exact hc _ _ _ (hc _ _ _ (hc _ _ _ (hc _ _ _ (hc _ _ _ (hc _ _ _ (hc _ _ _ hf))))))

theorem frame_currentFaults (hcalm : Calm s) {a : Nat} (ha : a < 12) (held : Bool) : Frame signalParts s (currentFaults a held s) := by
  have hdomain : faultDomain (8 + a) = none := by
    have hout : ∀ b c, (inRow (8 + a) b c = true ↔ b ≤ 8 + a ∧ 8 + a < b + c) := fun b c => by simp [inRow]
    rw [faultDomain, if_neg (by omega), if_neg (by rw [hout]; omega), if_neg (by rw [hout]; omega), if_neg (by rw [hout]; omega),
      if_neg (by rw [hout]; omega), if_neg (by rw [hout]; omega)]
  unfold currentFaults
  extract_lets b
  have hb : Frame signalParts s b := .ite (frame_raise_arm hcalm (by omega) (by omega) _) .refl
  exact .ite (.after (frame_raise_signal (hb.calm hcalm) (by simp; omega) hdomain _) hb) (.after (frame_clear ..) hb)

/-- A record of a cell is set. -/
def withObsRec (ci : Nat) (r : ObsRec) (s : State) : State := { s with obs := { s.obs with recs := s.obs.recs.set ci r } }

theorem obsStep_withObsRec (ci : Nat) (r : ObsRec) (s : State) : ObsStep s (withObsRec ci r s) := ⟨rfl, rfl⟩

theorem obsStep_obsArm (s0 : State) (hcalm : Calm s) {a : Nat} (ha : a < 12) : ObsStep s (obsArm s0 a s) := by
  unfold obsArm
  extract_lets held _ b c
  have hb : ObsStep s b := ⟨rfl, rfl⟩
  have hc : ObsStep s c := (obsStep_of_signal (frame_currentFaults (hb.calm hcalm) ha held)).after hb
  clear_value c
  refine (obsStep_foldl _ (hc.calm hcalm) fun x hx m _ => ?_).after hc
  generalize obsCell s0 a m = cell
  obtain ⟨r, n⟩ := cell
  dsimp only
  generalize obsFinish s0 a m r = done
  obtain ⟨r', up⟩ := done
  dsimp only
  have hset : ObsStep x { x with obs := { x.obs with recs := x.obs.recs.set m.ci r' } } := obsStep_withObsRec ..
  generalize ({ x with obs := { x.obs with recs := x.obs.recs.set m.ci r' } } : State) = w at hset
  have hlate : ObsStep x ((List.range n).foldl (fun s _ => raise 267 (be 2 m.ci) s) w) :=
    (obsStep_foldl _ (hset.calm hx) fun _ hy _ _ => obsStep_of_signal (frame_raise_plain hy (by omega) _)).after hset
  generalize (List.range n).foldl (fun s _ => raise 267 (be 2 m.ci) s) w = y at hlate
  have hup : ObsStep x (up.foldl (fun s f => raise 268 (be 2 m.ci ++ be 1 f ++ be 2 r'.capGain ++ be 2 r'.esr) s) y) :=
    (obsStep_foldl _ (hlate.calm hx) fun _ hz _ _ => obsStep_of_signal (frame_raise_plain hz (by omega) _)).after hlate
  exact (obsStep_of_points (frame_obsPoints (hup.calm hx) ..)).after hup

/-- The update of every arm. -/
def armsObserved (s : State) : State := (armsUsed s).foldl (fun t a => obsArm s a t) s

theorem obsStep_armsObserved (hcalm : Calm s) : ObsStep s (armsObserved s) :=
  obsStep_foldl _ hcalm fun _ hx _ ha => obsStep_obsArm s hx (lt_of_armsUsed ha)

/-- The update is done: its stages stand, and its reports and marks are used up. -/
def observedCycle (st : SMap Stage) (s : State) : State :=
  { s with graph := { s.graph with obs := st }, obs := { s.obs with taken := [], corrupt := [] }, cyc := { s.cyc with obsDone := true } }

theorem exec_observerUpdate (hstate : s.dev.state.observes = true) (hfrozen : s.cyc.frozen = true) (hopen : s.cyc.obsDone = false) :
    ∃ st, exec .observerUpdateComplete s = .next (
      let u := writeImage (observedCycle st (armsObserved s))
      if u.cyc.launched || u.cyc.graphDone || !u.dev.state.graphOn then u else graphObsDone 1200 u) :=
  ⟨_, if_neg (by rw [hstate, hfrozen, hopen]; decide)⟩

/-- The image buffer that is not current takes the records (R30). -/
theorem writeImage_writes (s : State) : (writeImage s).obs.curBuf = s.obs.curBuf ∧ (writeImage s).obs.recs = s.obs.recs ∧
    (writeImage s).obs.written = true ∧ (writeImage s).obs.wrCycle = s.cyc.n ∧ (writeImage s).obs.taken = s.obs.taken ∧
    (writeImage s).obs.corrupt = s.obs.corrupt ∧
    (if s.obs.curBuf = 0 then (writeImage s).obs.image1 else (writeImage s).obs.image0) = s.obs.recs ∧ Frame [.obs] s (writeImage s) := by
  unfold writeImage
  extract_lets o
  by_cases h : s.obs.curBuf = 0
  · rw [if_pos h, if_pos h]
    exact ⟨rfl, rfl, rfl, rfl, rfl, rfl, rfl, rfl⟩
  · rw [if_neg h, if_neg h]
    exact ⟨rfl, rfl, rfl, rfl, rfl, rfl, rfl, rfl⟩

theorem graphObsDone_eq (k : Nat) (s : State) : ∃ g h, graphObsDone k s = withGraph s h ∧ Requeued g h ∧ g.cur = s.graph.cur := by
  unfold graphObsDone
  extract_lets ns
  exact ⟨_, _, rfl, (requeued_enqueue ..).trans (requeued_dispatchAll ..), rfl⟩

theorem observerUpdate_writes (hcalm : Calm s) (hstate : s.dev.state.observes = true) (hfrozen : s.cyc.frozen = true) (hopen : s.cyc.obsDone = false) :
    Goes .observerUpdateComplete s fun u => u.cyc.obsDone = true ∧ u.obs.taken = [] ∧ u.obs.corrupt = [] ∧ u.obs.written = true ∧
      u.obs.wrCycle = s.cyc.n ∧ u.obs.curBuf = s.obs.curBuf ∧ (if s.obs.curBuf = 0 then u.obs.image1 else u.obs.image0) = u.obs.recs ∧
      u.cfg = s.cfg ∧ u.cyc.n = s.cyc.n ∧ u.graph.cur = s.graph.cur := by
  obtain ⟨st, hc⟩ := exec_observerUpdate hstate hfrozen hopen
  obtain ⟨hframe, hbuf⟩ := obsStep_armsObserved hcalm
  generalize armsObserved s = a at hc hframe hbuf
  have hcyc : a.cyc.n = s.cyc.n := hframe.get fun u => u.cyc.n
  have hcfg : a.cfg = s.cfg := hframe.get State.cfg
  have hcur : a.graph.cur = s.graph.cur := hframe.get fun u => u.graph.cur
  have hdone : (observedCycle st a).cyc.obsDone = true ∧ (observedCycle st a).cyc.n = a.cyc.n ∧ (observedCycle st a).cfg = a.cfg ∧
      (observedCycle st a).graph.cur = a.graph.cur ∧ (observedCycle st a).obs.taken = [] ∧ (observedCycle st a).obs.corrupt = [] ∧
      (observedCycle st a).obs.curBuf = a.obs.curBuf := ⟨rfl, rfl, rfl, rfl, rfl, rfl, rfl⟩
  generalize observedCycle st a = b at hc hdone
  obtain ⟨hobs, hn, hcfgb, hcurb, htaken, hcorrupt, hbufb⟩ := hdone
  obtain ⟨hwbuf, hwrecs, hwritten, hwcycle, hwtaken, hwcorrupt, hwimage, hwframe⟩ := writeImage_writes b
  have hobs' : (writeImage b).cyc = b.cyc := hwframe.get State.cyc
  have hcfg' : (writeImage b).cfg = b.cfg := hwframe.get State.cfg
  have hcur' : (writeImage b).graph.cur = b.graph.cur := hwframe.get fun u => u.graph.cur
  generalize writeImage b = w at hc hwbuf hwrecs hwritten hwcycle hwtaken hwcorrupt hwimage hobs' hcfg' hcur'
  rw [hbufb, hbuf] at hwimage
  have hall : ∀ v : State, v.obs = w.obs → v.cyc = w.cyc → v.cfg = w.cfg → v.graph.cur = w.graph.cur →
      v.cyc.obsDone = true ∧ v.obs.taken = [] ∧ v.obs.corrupt = [] ∧ v.obs.written = true ∧
      v.obs.wrCycle = s.cyc.n ∧ v.obs.curBuf = s.obs.curBuf ∧ (if s.obs.curBuf = 0 then v.obs.image1 else v.obs.image0) = v.obs.recs ∧
      v.cfg = s.cfg ∧ v.cyc.n = s.cyc.n ∧ v.graph.cur = s.graph.cur := by
    intro v hvobs hvcyc hvcfg hvcur
    rw [hvobs, hvcyc, hvcfg, hvcur]
    exact ⟨by rw [hobs', hobs], hwtaken.trans htaken, hwcorrupt.trans hcorrupt, hwritten, hwcycle.trans (hn.trans hcyc), hwbuf.trans (hbufb.trans hbuf),
      hwimage.trans hwrecs.symm, hcfg'.trans (hcfgb.trans hcfg), by rw [hobs', hn, hcyc], hcur'.trans (hcurb.trans hcur)⟩
  refine goes_of_eq hc ?_
  dsimp only
  split
  · exact hall w rfl rfl rfl rfl
  · obtain ⟨g, h, heq, hq, hg⟩ := graphObsDone_eq 1200 w
    rw [heq]
    exact hall _ rfl rfl rfl ((hq.get Graph.cur).trans hg)

/-- Settles O17: the cutoff freezes a cycle, and the observer update follows. -/
theorem cutoffAndObserver : Obligations.CutoffAndObserver := by
  unfold Obligations.CutoffAndObserver
  intro s hcalm
  refine ⟨fun k hrun hopen hreached => measurementCutoff_freezes hcalm hrun hopen hreached, fun k h => exec_measurementCutoff_idle h,
    fun hstate hfrozen hopen => observerUpdate_writes hcalm hstate hfrozen hopen, fun h => if_pos ?_⟩
  rcases h with h | h | h <;> simp [h]

end Sys2Proof.Proofs
end

section
/-! Reports of the cells: bursts, their checks, and the words that cross into the observer store (R16, R153, R168, R174, R217). -/

set_option Elab.async false

namespace Sys2Proof.Proofs
open Sys2Proof Sys2Proof.Machine Sys2Proof.Laws

variable {s : State}

/-! ### What the reception of a burst leaves of a mooring (R176–R179) -/

/-- A mooring but for its preset and the rangings asked of it. -/
def cellBase (x : Moor) : Moor := { x with preset := {}, reranges := 0 }

/-- What the checks of a burst read: the cell's mooring but for its preset and rangings, the other moorings whole, the port's epoch. -/
def slotView (p m : Nat) (s : State) : (Nat → Moor) × BitVec 16 :=
  (fun c => if c = ciOf p m then cellBase (moor s c) else moor s c, (port s p).epoch)

theorem cellBase_of_slotView {t : State} {p m : Nat} (h : slotView p m t = slotView p m s) : cellBase (moor t (ciOf p m)) = cellBase (moor s (ciOf p m)) := by
  have hc := congrFun (congrArg Prod.fst h) (ciOf p m)
  simpa only [slotView, if_pos] using hc

theorem moor_of_slotView {t : State} {p m c : Nat} (h : slotView p m t = slotView p m s) (hc : c ≠ ciOf p m) : moor t c = moor s c := by
  have hm := congrFun (congrArg Prod.fst h) c
  simpa only [slotView, if_neg hc] using hm

theorem slotView_setMoor {p m : Nat} {f : Moor → Moor} (hf : ∀ x, cellBase (f x) = cellBase x) (s : State) :
    slotView p m (setMoor (ciOf p m) f s) = slotView p m s := by
  refine Prod.ext (funext fun c => ?_) ((frame_setMoor ..).get fun u => (port u p).epoch)
  simp only [slotView, moor_setMoor]
  by_cases hc : c = ciOf p m
  · subst hc
    simp only [if_pos, hf]
  · simp only [if_neg hc, if_neg (Ne.symm hc)]

theorem slotView_setPort {p m k : Nat} {f : Port → Port} (hf : ∀ x, (f x).epoch = x.epoch) (s : State) :
    slotView p m (setPort k f s) = slotView p m s := by
  refine Prod.ext ((frame_setPort k f s).get fun u => (slotView p m u).1) ?_
  simp only [slotView, port_setPort]
  split
  · next hk => rw [hf, hk]
  · rfl

theorem slotView_setPreset (hcalm : Calm s) (p m : Nat) (x : Preset) : slotView p m (setPreset (ciOf p m) x s) = slotView p m s := by
  unfold setPreset
  split
  · rfl
  · have hset := frame_setMoor (ciOf p m) (fun y => { y with preset := x }) s
    exact ((frame_ptWrite (hset.calm hcalm) ..).get (slotView p m)).trans (slotView_setMoor (fun _ => by rfl) s)

/-! ### The steps before the checks -/

/-- A burst with signal ends the loss of signal (R179). -/
def signalBack (p : Nat) (signal : Bool) (s : State) : State :=
  if signal && (port s p).los then clear (96 + p) (setPort p (fun x => { x with los := false }) s) else s

/-- A burst far from its scheduled position asks for a new ranging (R174). -/
def driftAsked (p m : Nat) (off : Int) (s : State) : State :=
  if 2 < off.natAbs then queueRange p m false (setMoor (ciOf p m) (fun x => { x with reranges := cnt32 x.reranges }) s) else s

/-- What an accepted delimiter brings before the word is judged (R174, R177, R179). -/
def delimTaken (p m : Nat) (off : Int) (signal : Bool) (b : BurstMeas) (s : State) : State :=
  driftAsked p m off (signalBack p signal (setPreset (ciOf p m) (presetMove (moor s (ciOf p m)).preset b) s))

/-- A wrong stuff bit counts (R168). -/
def codeCounted (p m : Nat) (burst : Burst) (s : State) : State :=
  if codeError 128 burst then setMoor (ciOf p m) (fun x => { x with codeErrors := cnt32 x.codeErrors }) s else s

/-- A word whose fields are out of form (R217). -/
def malformedCounted (p m : Nat) (s : State) : State := setMoor (ciOf p m) (fun x => { x with malformed := cnt32 x.malformed }) s

theorem burstAccepted_eq (p m : Nat) (off : Int) (burst : Burst) (signal : Bool) (b : BurstMeas) (s : State) :
    burstAccepted p m off burst signal b s = match reportIn burst with
      | none => markCorrupt (ciOf p m) (codeCounted p m burst (delimTaken p m off signal b s))
      | some w =>
        if malformedRep (codeCounted p m burst (delimTaken p m off signal b s)) p (ciOf p m) (reportOf w) then
          markCorrupt (ciOf p m) (malformedCounted p m (codeCounted p m burst (delimTaken p m off signal b s)))
        else acceptReport p m (reportOf w) (codeCounted p m burst (delimTaken p m off signal b s)) := rfl

/-- What the reception of a burst may touch besides the observer's store. -/
abbrev burstParts : List Part := pointParts ++ [.moors, .ports]

theorem slotView_queueRange (p m : Nat) (train : Bool) (s : State) : slotView p m (queueRange p m train s) = slotView p m s :=
  slotView_setPort (fun _ => by rfl) s

theorem frame_signalBack (p : Nat) (signal : Bool) (s : State) : Frame [.ports, .fcru] s (signalBack p signal s) :=
  .ite (.after (frame_clear ..) (frame_setPort ..).mono) .refl

theorem slotView_signalBack (p m : Nat) (signal : Bool) (s : State) : slotView p m (signalBack p signal s) = slotView p m s :=
  ite_keeps _ _ (((frame_clear ..).get (slotView p m)).trans (slotView_setPort (fun _ => by rfl) s))

theorem frame_driftAsked (p m : Nat) (off : Int) (s : State) : Frame [.moors, .ports] s (driftAsked p m off s) :=
  .ite (.after (frame_queueRange ..) (frame_setMoor ..).mono) .refl

theorem slotView_driftAsked (p m : Nat) (off : Int) (s : State) : slotView p m (driftAsked p m off s) = slotView p m s :=
  ite_keeps _ _ ((slotView_queueRange ..).trans (slotView_setMoor (fun _ => by rfl) s))

theorem frame_delimTaken (hcalm : Calm s) (p m : Nat) (off : Int) (signal : Bool) (b : BurstMeas) : Frame burstParts s (delimTaken p m off signal b s) :=
  .after (frame_driftAsked ..) (.after (frame_signalBack ..) (frame_setPreset hcalm ..).mono)

theorem slotView_delimTaken (hcalm : Calm s) (p m : Nat) (off : Int) (signal : Bool) (b : BurstMeas) :
    slotView p m (delimTaken p m off signal b s) = slotView p m s :=
  (slotView_driftAsked ..).trans ((slotView_signalBack ..).trans (slotView_setPreset hcalm ..))

theorem frame_codeCounted (p m : Nat) (burst : Burst) (s : State) : Frame [.moors] s (codeCounted p m burst s) := .ite (frame_setMoor ..) .refl

/-- What the counts of a burst's errors leave of a mooring. -/
theorem moor_codeCounted (p m : Nat) (burst : Burst) (s : State) (c : Nat) : moor (codeCounted p m burst s) c =
    if ciOf p m = c then
      { moor s c with codeErrors := if codeError 128 burst then cnt32 (moor s c).codeErrors else (moor s c).codeErrors }
    else moor s c := by
  unfold codeCounted
  split
  · rw [moor_setMoor]
    split
    · next hc => rw [hc]
    · rfl
  · simp

theorem cellType_congr {t : State} (hcfg : t.cfg = s.cfg) (ci : Nat) : cellType t ci = cellType s ci := by
  unfold cellType parN par armTab
  rw [hcfg]

theorem malformedRep_congr {t : State} {p ci : Nat} {r : ReportWord} (hcfg : t.cfg = s.cfg) (hepoch : (port t p).epoch = (port s p).epoch) :
    malformedRep t p ci r = malformedRep s p ci r := by
  unfold malformedRep isGauge
  rw [cellType_congr hcfg, hepoch]

/-! ### The judgement of a word -/

theorem frame_markCorrupt (ci : Nat) (s : State) : Frame [.obs] s (markCorrupt ci s) := .ite rfl rfl

/-- A corrupt burst is noted for its window and enters nothing. -/
theorem obs_markCorrupt (ci : Nat) (s : State) :
    (markCorrupt ci s).obs.buf = s.obs.buf ∧ (ci ∈ (markCorrupt ci s).obs.corrupt ∨ ci ∈ (markCorrupt ci s).obs.corruptNew) := by
  unfold markCorrupt
  split <;> simp

theorem moor_moorGo_other (p m : Nat) (st : MoorState) (s : State) {c : Nat} (hc : c ≠ ciOf p m) : moor (moorGo p m st s) c = moor s c := by
  unfold moorGo
  extract_lets x lost
  have hlost : moor lost c = moor s c := ite_keeps (moor · c) _ ((frame_rangeCmdLost ..).get (moor · c))
  split
  · rfl
  · rw [moor_setMoor, if_neg (Ne.symm hc), hlost]

theorem st_moorGo (p m : Nat) (st : MoorState) (s : State) : (moor (moorGo p m st s) (ciOf p m)).st = st := by
  unfold moorGo
  extract_lets x lost
  split
  · assumption
  · rw [moor_setMoor, if_pos rfl]

/-- The mooring of a valid report serves (R206). -/
def serves (p m : Nat) (s : State) : State := if (moor s (ciOf p m)).st == .ranged then moorGo p m .serving s else s

/-- A valid report in the capture buffer (R16). -/
def buffered (ci : Nat) (r : ReportWord) (s : State) : State :=
  countBits ci r { s with obs := { s.obs with buf := s.obs.buf ++ [{ ci := ci, rep := r, cycle := windowCycle s }] } }

/-- The fire time in the past that a valid report reports (R217). -/
def firePastCounted (ci : Nat) (s : State) : State := raise 269 (be 2 ci) (setMoor ci (fun x => { x with firePast := cnt32 x.firePast }) s)

theorem acceptReport_eq (p m : Nat) (r : ReportWord) (s : State) : acceptReport p m r s =
    if r.firePast && (moor (buffered (ciOf p m) r (serves p m s)) (ciOf p m)).st == .serving &&
        (port (buffered (ciOf p m) r (serves p m s)) p).lane == .up && !r.gauge then
      firePastCounted (ciOf p m) (buffered (ciOf p m) r (serves p m s))
    else buffered (ciOf p m) r (serves p m s) := rfl

theorem frame_serves (p m : Nat) (s : State) : Frame [.ports, .mbx, .moors] s (serves p m s) := .ite (frame_moorGo ..) .refl

theorem moor_serves_other (p m : Nat) (s : State) {c : Nat} (hc : c ≠ ciOf p m) : moor (serves p m s) c = moor s c :=
  ite_keeps (moor · c) _ (moor_moorGo_other p m .serving s hc)

theorem st_serves (p m : Nat) (s : State) (h : (moor s (ciOf p m)).st = .ranged) : (moor (serves p m s) (ciOf p m)).st = .serving := by
  unfold serves
  rw [if_pos (by simp [h])]
  exact st_moorGo ..

/-- What a mooring keeps when its fire times in the past are counted. -/
theorem frame_firePastCounted (hcalm : Calm s) (ci : Nat) : Frame (signalParts ++ [.moors]) s (firePastCounted ci s) := by
  have hset := frame_setMoor ci (fun x => { x with firePast := cnt32 x.firePast }) s
  exact .after (frame_raise_plain (hset.calm hcalm) (by decide) _) hset.mono

theorem moor_firePastCounted (hcalm : Calm s) (ci c : Nat) :
    moor (firePastCounted ci s) c = if ci = c then { moor s ci with firePast := cnt32 (moor s ci).firePast } else moor s c := by
  have hset := frame_setMoor ci (fun x => { x with firePast := cnt32 x.firePast }) s
  exact ((frame_raise_plain (hset.calm hcalm) (by decide) _).get (moor · c)).trans (moor_setMoor ..)

/-- What a valid report leaves and brings (R16, R206). -/
theorem acceptReport_keeps (hcalm : Calm s) (p m : Nat) (r : ReportWord) : let t := acceptReport p m r s
    Frame (burstParts ++ [.obs]) s t ∧
    t.obs = { s.obs with buf := s.obs.buf ++ [{ ci := ciOf p m, rep := r, cycle := windowCycle s }] } ∧
    (moor t (ciOf p m)).last = some r ∧ ((moor s (ciOf p m)).st = .ranged → (moor t (ciOf p m)).st = .serving) ∧
    ∀ c, c ≠ ciOf p m → moor t c = moor s c := by
  intro t
  have hserves := frame_serves p m s
  have hst := st_serves p m s
  have hothers : ∀ c, c ≠ ciOf p m → moor (serves p m s) c = moor s c := fun c hc => moor_serves_other p m s hc
  have ht : t = acceptReport p m r s := rfl
  clear_value t
  rw [acceptReport_eq] at ht
  generalize serves p m s = u at *
  have hobs : u.obs = s.obs := hserves.get State.obs
  have hwindow : windowCycle u = windowCycle s := hserves.get windowCycle
  have hbuffered : Frame [.moors, .obs] u (buffered (ciOf p m) r u) := rfl
  have hbuf : (buffered (ciOf p m) r u).obs = { u.obs with buf := u.obs.buf ++ [{ ci := ciOf p m, rep := r, cycle := windowCycle u }] } := rfl
  have hmoor : ∀ c, c ≠ ciOf p m → moor (buffered (ciOf p m) r u) c = moor u c := fun c hc => by
    unfold buffered countBits
    rw [moor_setMoor, if_neg (Ne.symm hc)]
    rfl
  have hcell : (moor (buffered (ciOf p m) r u) (ciOf p m)).last = some r ∧
      (moor (buffered (ciOf p m) r u) (ciOf p m)).st = (moor u (ciOf p m)).st := by
    unfold buffered countBits
    rw [moor_setMoor, if_pos rfl]
    exact ⟨rfl, rfl⟩
  generalize buffered (ciOf p m) r u = v at *
  have hv : Frame (burstParts ++ [.obs]) s v := .after hbuffered hserves.mono
  rw [hobs, hwindow] at hbuf
  split at ht
  · have hvcalm := hv.calm hcalm
    have hpast := moor_firePastCounted hvcalm (ciOf p m)
    have hframe := frame_firePastCounted hvcalm (ciOf p m)
    subst ht
    refine ⟨hv.step hframe, (hframe.get State.obs).trans hbuf, ?_, ?_, fun c hc => ?_⟩
    · rw [hpast, if_pos rfl]; exact hcell.1
    · rw [hpast, if_pos rfl]; exact fun h => hcell.2.trans (hst h)
    · rw [hpast, if_neg (Ne.symm hc), hmoor c hc, hothers c hc]
  · subst ht
    exact ⟨hv, hbuf, hcell.1, fun h => hcell.2.trans (hst h), fun c hc => (hmoor c hc).trans (hothers c hc)⟩

end Sys2Proof.Proofs
end

section
/-! The slot of a cell's report, and the observer's store (R16, R153, R174, R177, R217, R398). -/

set_option Elab.async false

namespace Sys2Proof.Proofs
open Sys2Proof Sys2Proof.Machine Sys2Proof.Laws

variable {s : State}

/-! ### The slot of a report -/

/-- A burst, or none, in a slot (R174, R176). -/
def slotHeard (p m : Nat) (off : Int) (d : Option (BitVec 32)) (pay mar : List Bool) (signal : Bool) (meas : BurstMeas) (s : State) : State :=
  match d with
  | some d =>
    if delimOk off (burstOn d pay mar) then burstAccepted p m off (burstOn d pay mar) signal meas s
    else setPreset (ciOf p m) (presetFail (parN s 2 p 10) (moor s (ciOf p m)).preset) s
  | none => setPreset (ciOf p m) (presetFail (parN s 2 p 10) (moor s (ciOf p m)).preset) s

/-- A served mooring whose preset is no longer good asks for a ranging with training (R177). -/
def retrained (p m : Nat) (good : Bool) (s : State) : State :=
  if served (moor s (ciOf p m)).st && (!(moor s (ciOf p m)).preset.valid || ((moor s (ciOf p m)).preset.stale && good)) then queueRange p m true s else s

theorem frame_retrained (p m : Nat) (good : Bool) (s : State) : Frame [.ports] s (retrained p m good s) := .ite (frame_queueRange ..) .refl

/-- The slot of a named mooring on a serving lane that no DISCOVER suspends. -/
def SlotOpen (s : State) (p m : Nat) : Prop :=
  moorNamed s p m = true ∧ (port s p).lane = .up ∧ (port s p).locked = true ∧ slotSuspended s p m = false

theorem exec_reportBurst {p m : Nat} (hp : p < nPorts s) (hm : m < 256) (hopen : SlotOpen s p m) (off : Int) (d : Option (BitVec 32))
    (pay mar : List Bool) (sig : Bool) (meas : BurstMeas) : exec (.reportBurstReceived p m off d pay mar sig meas) s =
      .next (retrained p m (presetGood (moor s (ciOf p m)).preset) (slotHeard p m off d pay mar sig meas s)) := by
  obtain ⟨hnamed, hlane, hlocked, hfree⟩ := hopen
  refine (if_pos (by simp [hp, hm]) : exec (.reportBurstReceived p m off d pay mar sig meas) s = _).trans (congrArg _ ?_)
  exact if_neg (by simp [hnamed, hlane, hlocked, hfree])

theorem exec_reportBurst_closed {p m : Nat} (hp : p < nPorts s) (hm : m < 256)
    (hclosed : moorNamed s p m = false ∨ (port s p).lane ≠ .up ∨ (port s p).locked = false ∨ slotSuspended s p m = true) (off : Int)
    (d : Option (BitVec 32)) (pay mar : List Bool) (sig : Bool) (meas : BurstMeas) :
    exec (.reportBurstReceived p m off d pay mar sig meas) s = .next s := by
  refine (if_pos (by simp [hp, hm]) : exec (.reportBurstReceived p m off d pay mar sig meas) s = _).trans (congrArg _ (if_pos ?_))
  rcases hclosed with h | h | h | h <;> simp [h]

/-! ### A burst whose delimiter is accepted -/

theorem slotHeard_accepted {off : Int} {d : BitVec 32} {pay mar : List Bool} (hok : delimOk off (burstOn d pay mar) = true) (p m : Nat) (sig : Bool)
    (meas : BurstMeas) (s : State) :
    slotHeard p m off (some d) pay mar sig meas s = burstAccepted p m off (burstOn d pay mar) sig meas s := if_pos hok

/-- The state at the judgement of a burst's word. -/
def toJudge (p m : Nat) (off : Int) (b : Burst) (sig : Bool) (meas : BurstMeas) (s : State) : State :=
  codeCounted p m b (delimTaken p m off sig meas s)

theorem frame_toJudge (hcalm : Calm s) (p m : Nat) (off : Int) (b : Burst) (sig : Bool) (meas : BurstMeas) :
    Frame burstParts s (toJudge p m off b sig meas s) :=
  .after (frame_codeCounted ..) (frame_delimTaken hcalm ..)

/-- Up to the judgement of the word, a burst's reception leaves the other moorings, and of its own all but the preset and the counts. -/
theorem toJudge_keeps (hcalm : Calm s) (p m : Nat) (off : Int) (b : Burst) (sig : Bool) (meas : BurstMeas) : let t := toJudge p m off b sig meas s
    (∀ c, c ≠ ciOf p m → moor t c = moor s c) ∧ (port t p).epoch = (port s p).epoch ∧
    cellBase (moor t (ciOf p m)) = { cellBase (moor s (ciOf p m)) with
      codeErrors := if codeError 128 b then cnt32 (moor s (ciOf p m)).codeErrors else (moor s (ciOf p m)).codeErrors } := by
  have hview := slotView_delimTaken hcalm p m off sig meas
  unfold toJudge
  generalize delimTaken p m off sig meas s = u at *
  have hcell := cellBase_of_slotView hview
  have hcode : (moor u (ciOf p m)).codeErrors = (moor s (ciOf p m)).codeErrors := (congrArg Moor.codeErrors hcell :)
  refine ⟨fun c hc => ?_, ?_, ?_⟩
  · rw [moor_codeCounted, if_neg (Ne.symm hc), moor_of_slotView hview hc]
  · exact ((frame_codeCounted ..).get fun v => (port v p).epoch).trans (congrArg Prod.snd hview)
  · rw [moor_codeCounted, if_pos rfl, ← hcode, ← hcell]
    rfl

theorem malformedRep_toJudge (hcalm : Calm s) (p m : Nat) (off : Int) (b : Burst) (sig : Bool) (meas : BurstMeas) (r : ReportWord) :
    malformedRep (toJudge p m off b sig meas s) p (ciOf p m) r = malformedRep s p (ciOf p m) r :=
  malformedRep_congr ((frame_toJudge hcalm ..).get State.cfg) (toJudge_keeps hcalm ..).2.1

/-- A valid report enters the capture buffer (R16, R206). -/
theorem reportBurst_valid {p m : Nat} (hcalm : Calm s) (hp : p < nPorts s) (hm : m < 256) (hopen : SlotOpen s p m) {off : Int} {d : BitVec 32}
    {pay mar : List Bool} (sig : Bool) (meas : BurstMeas) {w : BitVec 128} (hok : delimOk off (burstOn d pay mar) = true)
    (hword : reportIn (burstOn d pay mar) = some w) (hform : malformedRep s p (ciOf p m) (reportOf w) = false) :
    Goes (.reportBurstReceived p m off (some d) pay mar sig meas) s fun t =>
      t.obs = { s.obs with buf := s.obs.buf ++ [{ ci := ciOf p m, rep := reportOf w, cycle := windowCycle s }] } ∧
      (moor t (ciOf p m)).last = some (reportOf w) ∧ ((moor s (ciOf p m)).st = .ranged → (moor t (ciOf p m)).st = .serving) ∧
      (∀ c, c ≠ ciOf p m → moor t c = moor s c) ∧ t.cfg = s.cfg ∧ t.graph.cur = s.graph.cur := by
  have hexec := exec_reportBurst hp hm hopen off (some d) pay mar sig meas
  have hjudge := frame_toJudge hcalm p m off (burstOn d pay mar) sig meas
  obtain ⟨hothers, -, hbase⟩ := toJudge_keeps hcalm p m off (burstOn d pay mar) sig meas
  have hst : (moor (toJudge p m off (burstOn d pay mar) sig meas s) (ciOf p m)).st = (moor s (ciOf p m)).st := (congrArg Moor.st hbase :)
  have hheard : slotHeard p m off (some d) pay mar sig meas s = acceptReport p m (reportOf w) (toJudge p m off (burstOn d pay mar) sig meas s) := by
    rw [slotHeard_accepted hok, burstAccepted_eq, hword]
    exact if_neg (Bool.eq_false_iff.mp ((malformedRep_toJudge hcalm p m off _ sig meas _).trans hform))
  rw [hheard] at hexec
  generalize toJudge p m off (burstOn d pay mar) sig meas s = u at *
  obtain ⟨hframe, hobs, hlast, hserve, hrest⟩ := acceptReport_keeps (hjudge.calm hcalm) p m (reportOf w)
  generalize acceptReport p m (reportOf w) u = v at *
  have hret := frame_retrained p m (presetGood (moor s (ciOf p m)).preset) v
  refine goes_of_eq hexec ⟨?_, ?_, ?_, fun c hc => ?_, ?_, ?_⟩
  · rw [hret.get State.obs, hobs, hjudge.get State.obs, hjudge.get windowCycle]
  · exact (hret.get fun x => (moor x (ciOf p m)).last).trans hlast
  · exact fun h => (hret.get fun x => (moor x (ciOf p m)).st).trans (hserve (hst.trans h))
  · rw [hret.get (moor · c), hrest c hc, hothers c hc]
  · rw [hret.get State.cfg, hframe.get State.cfg, hjudge.get State.cfg]
  · rw [hret.get fun x => x.graph.cur, hframe.get fun x => x.graph.cur, hjudge.get fun x => x.graph.cur]

/-! ### A burst that is corrupt -/

theorem frame_malformedCounted (p m : Nat) (s : State) : Frame [.moors] s (malformedCounted p m s) := frame_setMoor ..

/-- A burst that does not pass the checks, as it is counted (R153, R217). -/
def rejected (p m : Nat) (b : Burst) (s : State) : State :=
  markCorrupt (ciOf p m) (if (reportIn b).isSome then malformedCounted p m s else s)

theorem moor_rejected (p m : Nat) (b : Burst) (s : State) : moor (rejected p m b s) (ciOf p m) = { moor s (ciOf p m) with
    malformed := if (reportIn b).isSome then cnt32 (moor s (ciOf p m)).malformed else (moor s (ciOf p m)).malformed } := by
  unfold rejected
  refine ((frame_markCorrupt ..).get (moor · (ciOf p m))).trans ?_
  split
  · exact (moor_setMoor ..).trans (if_pos rfl)
  · rfl

theorem burstAccepted_rejected {p m : Nat} (hcalm : Calm s) (off : Int) {b : Burst} (sig : Bool) (meas : BurstMeas)
    (h : reportIn b = none ∨ ∃ w, reportIn b = some w ∧ malformedRep s p (ciOf p m) (reportOf w) = true) :
    burstAccepted p m off b sig meas s = rejected p m b (toJudge p m off b sig meas s) := by
  rw [burstAccepted_eq]
  unfold rejected
  rcases h with h | ⟨w, h, hbad⟩
  · rw [h]
    rfl
  · rw [h]
    exact if_pos ((malformedRep_toJudge hcalm p m off b sig meas _).trans hbad)

/-- A burst that fails a check marks its cell corrupt, is counted, and enters nothing (R153, R168, R217). -/
theorem reportBurst_corrupt {p m : Nat} (hcalm : Calm s) (hp : p < nPorts s) (hm : m < 256) (hopen : SlotOpen s p m) {off : Int} {d : BitVec 32}
    {pay mar : List Bool} (sig : Bool) (meas : BurstMeas) (hok : delimOk off (burstOn d pay mar) = true)
    (hbad : reportIn (burstOn d pay mar) = none ∨
      ∃ w, reportIn (burstOn d pay mar) = some w ∧ malformedRep s p (ciOf p m) (reportOf w) = true) :
    Goes (.reportBurstReceived p m off (some d) pay mar sig meas) s fun t => t.obs.buf = s.obs.buf ∧
      (ciOf p m ∈ t.obs.corrupt ∨ ciOf p m ∈ t.obs.corruptNew) ∧ (moor t (ciOf p m)).last = (moor s (ciOf p m)).last ∧
      (moor t (ciOf p m)).st = (moor s (ciOf p m)).st ∧
      (moor t (ciOf p m)).codeErrors =
        (if codeError 128 (burstOn d pay mar) then cnt32 (moor s (ciOf p m)).codeErrors else (moor s (ciOf p m)).codeErrors) ∧
      (moor t (ciOf p m)).malformed =
        (if (reportIn (burstOn d pay mar)).isSome then cnt32 (moor s (ciOf p m)).malformed else (moor s (ciOf p m)).malformed) := by
  have hexec := exec_reportBurst hp hm hopen off (some d) pay mar sig meas
  rw [slotHeard_accepted hok, burstAccepted_rejected hcalm off sig meas hbad] at hexec
  generalize burstOn d pay mar = b at *
  have hobs := (frame_toJudge hcalm p m off b sig meas).get State.obs
  obtain ⟨-, -, hbase⟩ := toJudge_keeps hcalm p m off b sig meas
  generalize toJudge p m off b sig meas s = u at *
  have hmoor := moor_rejected p m b u
  have hmark : (rejected p m b u).obs.buf = u.obs.buf ∧ (ciOf p m ∈ (rejected p m b u).obs.corrupt ∨ ciOf p m ∈ (rejected p m b u).obs.corruptNew) := by
    have hcount : Frame [.moors] u (if (reportIn b).isSome then malformedCounted p m u else u) := .ite (frame_malformedCounted ..) .refl
    have hnoted := obs_markCorrupt (ciOf p m) (if (reportIn b).isSome then malformedCounted p m u else u)
    rwa [hcount.get fun x => x.obs.buf] at hnoted
  generalize rejected p m b u = v at *
  have hret := frame_retrained p m (presetGood (moor s (ciOf p m)).preset) v
  have hlast : (moor u (ciOf p m)).last = (moor s (ciOf p m)).last := (congrArg Moor.last hbase :)
  have hst : (moor u (ciOf p m)).st = (moor s (ciOf p m)).st := (congrArg Moor.st hbase :)
  have hmal : (moor u (ciOf p m)).malformed = (moor s (ciOf p m)).malformed := (congrArg Moor.malformed hbase :)
  have hcode : (moor u (ciOf p m)).codeErrors = (if codeError 128 b then cnt32 (moor s (ciOf p m)).codeErrors else (moor s (ciOf p m)).codeErrors) :=
    (congrArg Moor.codeErrors hbase :)
  refine goes_of_eq hexec ?_
  rw [hret.get State.obs, hret.get (moor · (ciOf p m)), hmoor]
  exact ⟨by rw [hmark.1, hobs], hmark.2, hlast, hst, hcode, by rw [hmal]⟩

/-! ### A slot without an accepted delimiter -/

theorem slotHeard_missed {off : Int} {d : Option (BitVec 32)} {pay mar : List Bool} (h : ∀ x, d = some x → delimOk off (burstOn x pay mar) = false)
    (p m : Nat) (sig : Bool) (meas : BurstMeas) (s : State) :
    slotHeard p m off d pay mar sig meas s = setPreset (ciOf p m) (presetFail (parN s 2 p 10) (moor s (ciOf p m)).preset) s := by
  cases d with
  | none => rfl
  | some x => exact if_neg (by simp [h x rfl])

/-- A slot without an accepted delimiter counts against the preset alone (R176, R178). -/
theorem reportBurst_missed {p m : Nat} (hcalm : Calm s) (hp : p < nPorts s) (hm : m < 256) (hopen : SlotOpen s p m) {off : Int}
    {d : Option (BitVec 32)} {pay mar : List Bool} (sig : Bool) (meas : BurstMeas)
    (hmiss : ∀ x, d = some x → delimOk off (burstOn x pay mar) = false) :
    Goes (.reportBurstReceived p m off d pay mar sig meas) s fun t => t.obs = s.obs ∧ (moor t (ciOf p m)).last = (moor s (ciOf p m)).last ∧
      (moor t (ciOf p m)).st = (moor s (ciOf p m)).st ∧ (∀ c, c ≠ ciOf p m → moor t c = moor s c) ∧ t.cfg = s.cfg := by
  have hexec := exec_reportBurst hp hm hopen off d pay mar sig meas
  rw [slotHeard_missed hmiss] at hexec
  have hview := slotView_setPreset hcalm p m (presetFail (parN s 2 p 10) (moor s (ciOf p m)).preset)
  have hframe := frame_setPreset hcalm (ciOf p m) (presetFail (parN s 2 p 10) (moor s (ciOf p m)).preset)
  generalize setPreset (ciOf p m) (presetFail (parN s 2 p 10) (moor s (ciOf p m)).preset) s = u at *
  have hbase := cellBase_of_slotView hview
  have hret := frame_retrained p m (presetGood (moor s (ciOf p m)).preset) u
  refine goes_of_eq hexec ⟨?_, ?_, ?_, fun c hc => ?_, ?_⟩
  · rw [hret.get State.obs, hframe.get State.obs]
  · exact (hret.get fun x => (moor x (ciOf p m)).last).trans (congrArg Moor.last hbase :)
  · exact (hret.get fun x => (moor x (ciOf p m)).st).trans (congrArg Moor.st hbase :)
  · rw [hret.get (moor · c), moor_of_slotView hview hc]
  · rw [hret.get State.cfg, hframe.get State.cfg]

/-! ### The words of the buffer (R16, R398) -/

/-- What the copy of a gauge's report may touch in the safety die. -/
abbrev gaugeParts : List Part := trapParts ++ [.srb, .cyc]

theorem faultInfo_32 : faultInfo 32 = some ⟨0, false, 2, true, true⟩ := by decide

theorem frame_envelopeJudge (k : Nat) (x : Int) (c : CycleNo) (s : State) : Frame gaugeParts s (envelopeJudge k x c s) := by
  unfold envelopeJudge
  split
  · exact .refl
  · next m _ =>
    extract_lets _ started e
    have hstarted : Frame gaugeParts s started := by
      unfold started
      split
      · exact .refl
      · exact .ite (frame_setQs ..).mono (frame_i0FromMax ..).mono
    refine .ite ?_ (.after (frame_setQs ..) hstarted)
    exact .after (frame_srbFault_trap faultInfo_32 rfl (by decide) ..) (.after (frame_hwslTrip ..) hstarted)

theorem frame_gaugeCopy (r : Report) (s : State) : Frame gaugeParts s (gaugeCopy r s) := by
  unfold gaugeCopy
  extract_lets ks judged
  have hjudged : Frame gaugeParts s judged :=
    .foldl _ .refl fun _ _ _ => .after (frame_envelopeJudge ..) (frame_setQs ..).mono
  have hclear : Frame [.fcru] judged (monitorClear judged) := .ite (frame_clear ..) .refl
  have hdone : Frame [.srb] (monitorClear judged) (rampComplete (monitorClear judged)) := .ite rfl .refl
  exact .ite hjudged (.after hdone (.after hclear hjudged))

/-- A word that reaches the store for its cycle, or too late for it. -/
def crossed (r : Report) (late : Bool) (s : State) : State :=
  { s with obs :=
      if late then { { s.obs with buf := s.obs.buf.erase r } with late := s.obs.late ++ [{ r with late := true }] }
      else { { s.obs with buf := s.obs.buf.erase r } with store := s.obs.store ++ [r] } }

theorem exec_reportWord {ci : Nat} (hci : ci < nCells s) {r : Report} (hr : s.obs.buf.find? (fun r => r.ci = ci) = some r) :
    ∃ t, t = crossed r ((r.cycle = s.cyc.n && s.cyc.frozen) || after 48 s.cyc.n.toNat r.cycle.toNat) s ∧
    exec (.reportWordIngress ci) s = .next (if r.rep.gauge then gaugeCopy r t else t) := by
  refine ⟨_, rfl, ?_⟩
  refine (if_pos (by simp [hci]) : exec (.reportWordIngress ci) s = _).trans (congrArg _ ?_)
  rw [hr]
  rfl

theorem obs_crossed (r : Report) (late : Bool) (s : State) : let t := crossed r late s
    t.obs.buf = s.obs.buf.erase r ∧ (late = true → t.obs.late = s.obs.late ++ [{ r with late := true }] ∧ t.obs.store = s.obs.store) ∧
    (late = false → t.obs.late = s.obs.late ∧ t.obs.store = s.obs.store ++ [r]) ∧ { t with obs := s.obs } = s := by
  cases late <;> exact ⟨rfl, by simp [crossed], by simp [crossed], rfl⟩

theorem reportWord_crosses {ci : Nat} (hci : ci < nCells s) {r : Report} (hr : s.obs.buf.find? (fun r => r.ci = ci) = some r) :
    let late := (r.cycle = s.cyc.n ∧ s.cyc.frozen = true) ∨ after 48 s.cyc.n.toNat r.cycle.toNat = true
    Goes (.reportWordIngress ci) s fun t => t.obs.buf = s.obs.buf.erase r ∧
      (late → t.obs.late = s.obs.late ++ [{ r with late := true }] ∧ t.obs.store = s.obs.store) ∧
      (¬ late → t.obs.late = s.obs.late ∧ t.obs.store = s.obs.store ++ [r]) ∧ (r.rep.gauge = false → { t with obs := s.obs } = s) := by
  intro late
  obtain ⟨t, ht, hexec⟩ := exec_reportWord hci hr
  have hlate : late ↔ ((r.cycle = s.cyc.n && s.cyc.frozen) || after 48 s.cyc.n.toNat r.cycle.toNat) = true := by simp [late]
  generalize ((r.cycle = s.cyc.n && s.cyc.frozen) || after 48 s.cyc.n.toNat r.cycle.toNat) = l at ht hlate
  obtain ⟨hbuf, hyes, hno, hrest⟩ := obs_crossed r l s
  rw [← ht] at hbuf hyes hno hrest
  have hobs : (if r.rep.gauge then gaugeCopy r t else t).obs = t.obs := ite_keeps State.obs _ ((frame_gaugeCopy r t).get State.obs)
  refine goes_of_eq hexec ⟨?_, ?_, ?_, fun hg => ?_⟩
  · rw [hobs, hbuf]
  · rw [hobs]
    exact fun h => hyes (hlate.mp h)
  · rw [hobs]
    exact fun h => hno (Bool.eq_false_iff.mpr (mt hlate.mpr h))
  · rwa [if_neg (by simp [hg])]

theorem exec_reportWord_idle {ci : Nat} (hci : ci < nCells s) (hr : s.obs.buf.find? (fun r => r.ci = ci) = none) :
    exec (.reportWordIngress ci) s = .next s := by
  refine (if_pos (by simp [hci]) : exec (.reportWordIngress ci) s = _).trans (congrArg _ ?_)
  rw [hr]

/-- Settles O16: bursts enter the buffer, are counted as corrupt, or report nothing, and buffered words cross into the store. -/
theorem reports : Obligations.Reports := by
  unfold Obligations.Reports
  intro s
  refine ⟨?_, ?_, ?_, ?_, fun ci r hci hr => reportWord_crosses hci hr, fun ci hci hr => exec_reportWord_idle hci hr⟩
  · intro p m off d pay mar sig meas w b hcalm hp hm hnamed hlane hlocked hfree hok hword hform
    exact reportBurst_valid hcalm hp hm ⟨hnamed, hlane, hlocked, hfree⟩ sig meas hok hword hform
  · intro p m off d pay mar sig meas b hcalm hp hm hnamed hlane hlocked hfree hok hbad
    exact reportBurst_corrupt hcalm hp hm ⟨hnamed, hlane, hlocked, hfree⟩ sig meas hok hbad
  · intro p m off d pay mar sig meas hcalm hp hm hnamed hlane hlocked hfree hmiss
    exact reportBurst_missed hcalm hp hm ⟨hnamed, hlane, hlocked, hfree⟩ sig meas hmiss
  · intro p m off d pay mar sig meas hp hm hclosed
    exact exec_reportBurst_closed hp hm hclosed off d pay mar sig meas

end Sys2Proof.Proofs
end

section
/-! Ranging and the lanes' completion: what their operations leave of ports and moorings (R184, R206–R209). -/

set_option Elab.async false

namespace Sys2Proof.Proofs
open Sys2Proof Sys2Proof.Machine Sys2Proof.Laws

variable {s : State}

/-! ### Moorings but for their SLOT_ASSIGN, and ports but for their progress -/

/-- A mooring but for the SLOT_ASSIGN that it has been sent. -/
def cellOf (x : Moor) : Moor := { x with assigned := false, upSent := 0 }

/-- All moorings but for their SLOT_ASSIGN. -/
def cells (s : State) (c : Nat) : Moor := cellOf (moor s c)

/-- A port but for its queue of messages, the ranging by command, and the progress of its lane. -/
def groundOf (x : Port) : Port := { lineOf x with lane := .dark, stepCycle := 0, acked := [] }

/-- The grounds of all ports. -/
def grounds (s : State) (p : Nat) : Port := groundOf (port s p)

theorem grounds_of_lines {t : State} (h : lines t = lines s) : grounds t = grounds s :=
  funext fun p => congrArg (fun x : Port => { x with lane := .dark, stepCycle := 0, acked := [] }) (congrFun h p)

theorem cells_setMoor {ci : Nat} {f : Moor → Moor} (hf : ∀ x, cellOf (f x) = cellOf x) (s : State) : cells (setMoor ci f s) = cells s := by
  funext c
  simp only [cells, moor_setMoor]
  split
  · next hc => rw [hf, hc]
  · rfl

theorem grounds_setPort {p : Nat} {f : Port → Port} (hf : ∀ x, groundOf (f x) = groundOf x) (s : State) : grounds (setPort p f s) = grounds s := by
  funext k
  simp only [grounds, port_setPort]
  split
  · next hk => rw [hf, hk]
  · rfl

theorem grounds_laneGo (p : Nat) (l : LaneState) (s : State) : grounds (laneGo p l s) = grounds s := by
  unfold laneGo
  split
  · rfl
  · exact ((frame_portChange ..).get grounds).trans (grounds_setPort (fun _ => by rfl) s)

theorem port_laneGo_other {p k : Nat} (hk : k ≠ p) (l : LaneState) (s : State) : port (laneGo p l s) k = port s k := by
  unfold laneGo
  split
  · rfl
  · rw [(frame_portChange ..).get (port · k), port_setPort, if_neg (Ne.symm hk)]

/-! ### SLOT_ASSIGN (R198, R206) -/

theorem frame_queueAssign (p m : Nat) (s : State) : Frame [.ports, .moors] s (queueAssign p m s) := .after (frame_queueSvc ..) (frame_setMoor ..).mono

theorem cells_queueAssign (p m : Nat) (s : State) : cells (queueAssign p m s) = cells s :=
  ((frame_queueSvc ..).get cells).trans (cells_setMoor (fun _ => by rfl) s)

theorem lines_queueAssign (p m : Nat) (s : State) : lines (queueAssign p m s) = lines s :=
  (lines_queueSvc ..).trans ((frame_setMoor ..).get lines)

theorem moor_queueAssign_other {p m c : Nat} (hc : c ≠ ciOf p m) (s : State) : moor (queueAssign p m s) c = moor s c :=
  ((frame_queueSvc ..).get (moor · c)).trans ((moor_setMoor ..).trans (if_neg (Ne.symm hc)))

theorem frame_assignAll (p : Nat) (s : State) : Frame [.ports, .moors] s (assignAll p s) :=
  .ite .refl (.foldl _ .refl fun _ _ _ => .ite (frame_queueAssign ..) .refl)

theorem cells_assignAll (p : Nat) (s : State) : cells (assignAll p s) = cells s := by
  unfold assignAll
  split
  · rfl
  · exact foldl_keeps cells _ _ _ fun _ _ => ite_keeps cells _ (cells_queueAssign ..)

theorem lines_assignAll (p : Nat) (s : State) : lines (assignAll p s) = lines s := by
  unfold assignAll
  split
  · rfl
  · exact foldl_keeps lines _ _ _ fun _ _ => ite_keeps lines _ (lines_queueAssign ..)

/-! ### The delays of a mooring (R209, R219) -/

/-- A new d_down is stored and published. -/
def noteDown (p m : Nat) (dd : Int) (s : State) : State :=
  if (moor s (ciOf p m)).dDown = dd then s else pointNow (ciOf p m) 19 dd (setMoor (ciOf p m) (fun y => { y with dDown := dd }) s)

/-- A new d_up is stored and published. -/
def storeUp (p m : Nat) (du : Int) (s : State) : State :=
  if (moor s (ciOf p m)).dUp = du then s else pointNow (ciOf p m) 20 du (setMoor (ciOf p m) (fun y => { y with dUp := du }) s)

theorem noteUp_eq (p m : Nat) (du : Int) (s : State) : noteUp p m du s =
    if (moor s (ciOf p m)).assigned && decide (tbit (port (storeUp p m du s) p).gen * 10 < absR ((du - (moor s (ciOf p m)).upSent : Int) : Rat)) then
      queueAssign p m (storeUp p m du s)
    else storeUp p m du s := rfl

/-- What the delays of a mooring may touch. -/
abbrev delayParts : List Part := pointParts ++ [.moors]

theorem frame_stored (hcalm : Calm s) (ci k : Nat) (v : Int) (f : Moor → Moor) : Frame delayParts s (pointNow ci k v (setMoor ci f s)) :=
  .after (frame_pointNow ((frame_setMoor ci f s).calm hcalm) ..) (frame_setMoor ..).mono

theorem moor_stored (hcalm : Calm s) (ci k : Nat) (v : Int) (f : Moor → Moor) (c : Nat) :
    moor (pointNow ci k v (setMoor ci f s)) c = if ci = c then f (moor s ci) else moor s c :=
  ((frame_pointNow ((frame_setMoor ci f s).calm hcalm) ..).get (moor · c)).trans (moor_setMoor ..)

theorem frame_noteDown (hcalm : Calm s) (p m : Nat) (dd : Int) : Frame delayParts s (noteDown p m dd s) := .ite .refl (frame_stored hcalm ..)

theorem moor_noteDown (hcalm : Calm s) (p m : Nat) (dd : Int) (c : Nat) :
    moor (noteDown p m dd s) c = if ciOf p m = c then { moor s (ciOf p m) with dDown := dd } else moor s c := by
  unfold noteDown
  split
  · next h =>
    split
    · next hc => rw [← hc, ← h]
    · rfl
  · exact moor_stored hcalm ..

theorem frame_storeUp (hcalm : Calm s) (p m : Nat) (du : Int) : Frame delayParts s (storeUp p m du s) := .ite .refl (frame_stored hcalm ..)

theorem moor_storeUp (hcalm : Calm s) (p m : Nat) (du : Int) (c : Nat) :
    moor (storeUp p m du s) c = if ciOf p m = c then { moor s (ciOf p m) with dUp := du } else moor s c := by
  unfold storeUp
  split
  · next h =>
    split
    · next hc => rw [← hc, ← h]
    · rfl
  · exact moor_stored hcalm ..

/-- What a ranging may touch of delays, ports and moorings. -/
abbrev rangeParts : List Part := pointParts ++ [.moors, .ports]

theorem frame_noteUp (hcalm : Calm s) (p m : Nat) (du : Int) : Frame rangeParts s (noteUp p m du s) := by
  have hstore := frame_storeUp hcalm p m du
  rw [noteUp_eq]
  exact .ite (.after (frame_queueAssign ..) hstore.mono) hstore.mono

theorem lines_noteUp (hcalm : Calm s) (p m : Nat) (du : Int) : lines (noteUp p m du s) = lines s := by
  rw [noteUp_eq]
  exact (ite_keeps lines _ (lines_queueAssign ..)).trans ((frame_storeUp hcalm ..).get lines)

/-- A new d_up touches its mooring alone. -/
theorem moor_noteUp_other (hcalm : Calm s) {p m c : Nat} (hc : c ≠ ciOf p m) (du : Int) : moor (noteUp p m du s) c = moor s c := by
  rw [noteUp_eq]
  refine (ite_keeps (moor · c) _ (moor_queueAssign_other hc _)).trans ?_
  rw [moor_storeUp hcalm, if_neg (Ne.symm hc)]

theorem cells_noteUp (hcalm : Calm s) (p m : Nat) (du : Int) : cells (noteUp p m du s) (ciOf p m) = { cells s (ciOf p m) with dUp := du } := by
  have hstored : cells (storeUp p m du s) (ciOf p m) = { cells s (ciOf p m) with dUp := du } := by
    rw [cells, moor_storeUp hcalm, if_pos rfl]
    rfl
  rw [noteUp_eq]
  exact (ite_keeps (cells · (ciOf p m)) _ (congrFun (cells_queueAssign ..) _)).trans hstored

/-! ### A lane is complete (R184) -/

/-- A port announces its rate step. -/
def announce (s : State) (p : Nat) (y : Port) : Port := { y with stepCycle := stepAt s p (nextFrame s), acked := [] }

/-- A port comes up: its ranged moorings are assigned, and the plate may be ready. -/
def portUp (p : Nat) (s : State) : State := judgeReady (assignAll p (laneGo p .up s))

/-- A port's lane goes up, announces its step, or stays. -/
theorem judgePort_cases (p : Nat) (s : State) :
    judgePort p s = s ∨ ((port s p).lane = .acquire ∨ (port s p).lane = .train) ∧ judgePort p s = portUp p s ∨
    (port s p).lane = .acquire ∧ judgePort p s = laneGo p .negotiate (setPort p (announce s p) s) := by
  unfold judgePort
  extract_lets x
  split
  · exact .inl rfl
  · split
    · next hlane =>
      split
      · exact .inl rfl
      · split
        · exact .inr (.inl ⟨.inl hlane, rfl⟩)
        · split
          · exact .inr (.inr ⟨hlane, rfl⟩)
          · exact .inl rfl
    · next hlane =>
      split
      · exact .inr (.inl ⟨.inr hlane, rfl⟩)
      · exact .inl rfl
    · exact .inl rfl

/-- A lane that neither acquires nor trains is complete or not under way. -/
theorem judgePort_of_lane {p : Nat} (ha : (port s p).lane ≠ .acquire) (ht : (port s p).lane ≠ .train) : judgePort p s = s := by
  rcases judgePort_cases p s with h | ⟨h | h, -⟩ | ⟨h, -⟩
  · exact h
  · exact absurd h ha
  · exact absurd h ht
  · exact absurd h ha

/-- What the completion of a lane may touch. -/
abbrev laneParts : List Part := readyParts ++ [.ports, .moors]

theorem assigned_portUp (p : Nat) (s : State) : Frame [.ports, .moors, .mbx] s (assignAll p (laneGo p .up s)) :=
  .after (frame_assignAll ..) (frame_laneGo ..).mono

theorem frame_portUp (hcalm : Calm s) (p : Nat) : Frame laneParts s (portUp p s) := by
  have hassigned := assigned_portUp p s
  exact .after (frame_judgeReady (hassigned.calm hcalm)) hassigned.mono

theorem frame_judgePort (hcalm : Calm s) (p : Nat) : Frame laneParts s (judgePort p s) := by
  rcases judgePort_cases p s with h | ⟨-, h⟩ | ⟨-, h⟩
  · rw [h]
    exact .refl
  · rw [h]
    exact frame_portUp hcalm p
  · rw [h]
    exact .after (frame_laneGo ..) (frame_setPort ..).mono

theorem cells_portUp (hcalm : Calm s) (p : Nat) : cells (portUp p s) = cells s := by
  have hassigned := assigned_portUp p s
  exact ((frame_judgeReady (hassigned.calm hcalm)).get cells).trans ((cells_assignAll ..).trans ((frame_laneGo ..).get cells))

theorem cells_judgePort (hcalm : Calm s) (p : Nat) : cells (judgePort p s) = cells s := by
  rcases judgePort_cases p s with h | ⟨-, h⟩ | ⟨-, h⟩
  · rw [h]
  · rw [h, cells_portUp hcalm]
  · rw [h, (frame_laneGo ..).get cells, (frame_setPort ..).get cells]

/-- A port that comes up changes its lane and its messages. -/
theorem lines_portUp (hcalm : Calm s) (p : Nat) : lines (portUp p s) = lines (laneGo p .up s) := by
  have hassigned := assigned_portUp p s
  exact ((frame_judgeReady (hassigned.calm hcalm)).get lines).trans (lines_assignAll ..)

theorem grounds_judgePort (hcalm : Calm s) (p : Nat) : grounds (judgePort p s) = grounds s := by
  rcases judgePort_cases p s with h | ⟨-, h⟩ | ⟨-, h⟩
  · rw [h]
  · rw [h, grounds_of_lines (lines_portUp hcalm p), grounds_laneGo]
  · rw [h, grounds_laneGo, grounds_setPort (fun _ => by rfl)]

/-- A lane that trains goes on training or comes up. -/
theorem lane_judgePort_train (hcalm : Calm s) {p : Nat} (ht : (port s p).lane = .train) :
    (port (judgePort p s) p).lane = .train ∨ (port (judgePort p s) p).lane = .up := by
  rcases judgePort_cases p s with h | ⟨-, h⟩ | ⟨ha, -⟩
  · rw [h]
    exact .inl ht
  · have hlines := congrFun (lines_portUp hcalm p) p
    rw [h]
    generalize portUp p s = u at *
    rw [lines, lines, port_laneGo] at hlines
    exact .inr (congrArg Port.lane hlines :)
  · rw [ht] at ha
    cases ha

end Sys2Proof.Proofs
end

section
/-! Answers to a request of ranging: what they bring, and what they leave (R206, R208, R209, R345). -/

set_option Elab.async false

namespace Sys2Proof.Proofs
open Sys2Proof Sys2Proof.Machine Sys2Proof.Laws

variable {s : State}

/-! ### Loss of ranging (R209) -/

/-- FLT_MOORING_LOST of a mooring that is back at ADMITTED. -/
def lostRaised (p m : Nat) (s : State) : State := raise 270 (be 2 (ciOf p m)) (moorGo p m .admitted s)

theorem lostRanging_eq (p m : Nat) (s : State) : lostRanging p m s =
    if (lostRaised p m s).dev.state = .ready && required (lostRaised p m s) (ciOf p m) && !follower (lostRaised p m s) then moveState .loaded (lostRaised p m s)
    else lostRaised p m s := rfl

theorem frame_raise_270 (hcalm : Calm s) (d : List Byte) : Frame signalParts s (raise 270 d s) := frame_raise_plain hcalm (by decide) d

/-- What depends on neither the assertion nor the device state is that of the mooring's change. -/
theorem lostRanging_get {β : Type} (hcalm : Calm s) (p m : Nat) (g : State → β) (hg : ∀ u, g (erase signalParts u) = g u := by intro u; rfl) :
    g (lostRanging p m s) = g (moorGo p m .admitted s) := by
  have hraise : g (lostRaised p m s) = g (moorGo p m .admitted s) := (frame_raise_270 ((frame_moorGo p m .admitted s).calm hcalm) _).get g hg
  have hmoved : ∀ u, g (moveState .loaded u) = g u := fun u => ((frame_moveState (s := u) .loaded).mono (ps := signalParts)).get g hg
  rw [lostRanging_eq]
  split
  · rw [hmoved, hraise]
  · exact hraise

theorem lines_lostRanging (hcalm : Calm s) (p m : Nat) : lines (lostRanging p m s) = lines s :=
  (lostRanging_get hcalm p m lines).trans (lines_moorGo ..)

theorem st_lostRanging (hcalm : Calm s) (p m : Nat) : (moor (lostRanging p m s) (ciOf p m)).st = .admitted :=
  (lostRanging_get hcalm p m fun u => (moor u (ciOf p m)).st).trans (st_moorGo ..)

theorem faultInfo_270 : ∃ f, faultInfo 270 = some f ∧ f.level = false := ⟨_, rfl, by decide⟩

/-- A loss of ranging is recorded (R209). -/
theorem latched_lostRanging (hp : s.dev.porstN = true) (hr : s.dev.railHold = false) (p m : Nat) : Latched (lostRanging p m s) 270 := by
  have hgo := frame_moorGo p m .admitted s
  obtain ⟨f, hf, hlevel⟩ := faultInfo_270
  have hraised : Latched (lostRaised p m s) 270 := latched_raise_edge hf (fun v => by cases v <;> rfl) hlevel
    ((hgo.get (·.dev.porstN)).trans hp) ((hgo.get (·.dev.railHold)).trans hr) _
  rw [lostRanging_eq]
  split
  · exact Latched.kept hraised (kept_moveState _ _ (.self ..))
  · exact hraised

/-! ### The delays of an answer (R206, R209) -/

/-- A mooring as an answer to its request of ranging leaves it. -/
def measured (dd : Int) (g : Gen) (y : Moor) : Moor :=
  { y with dNext := some dd, dCand := none, everRanged := true, known := true, rgen := g.code, assigned := false }

theorem applyRanging_admitted {p m : Nat} {dd du : Int} (hst : (moor s (ciOf p m)).st = .admitted) (hdown : dd ≤ maxDown s p) (hage : ageOk s p m du = true) :
    applyRanging p m dd du s = assignAll p (moorGo p m .ranged (setMoor (ciOf p m) (measured dd (port s p).gen) (noteUp p m du s))) := by
  unfold applyRanging
  extract_lets ci x g
  rw [show x.st = .admitted from hst]
  exact if_neg (by simp [hage]; omega)

theorem frame_assignRanged (p m : Nat) (f : Moor → Moor) (s : State) : Frame [.ports, .mbx, .moors] s (assignAll p (moorGo p m .ranged (setMoor (ciOf p m) f s))) :=
  .after (frame_assignAll ..) (.after (frame_moorGo ..) (frame_setMoor ..).mono)

theorem frame_applyRanging (hcalm : Calm s) (p m : Nat) (dd du : Int) : Frame rangeParts s (applyRanging p m dd du s) := by
  have hup : ∀ f, Frame rangeParts s (noteUp p m du (setMoor (ciOf p m) f s)) := fun f =>
    .after (frame_noteUp ((frame_setMoor ..).calm hcalm) ..) (frame_setMoor ..).mono
  unfold applyRanging
  extract_lets ci x g
  split
  · have hrefused := frame_moorGo p m .refused s
    refine .ite (.after (frame_raise_plain (hrefused.calm hcalm) (by decide) _) hrefused.mono) ?_
    exact .after (frame_assignRanged ..) (frame_noteUp hcalm ..)
  iterate 2
    dsimp -zeta only
    split
    · have hset : ∀ f, Frame [.moors] s (setMoor ci f s) := fun f => frame_setMoor ..
      exact .ite (.after (frame_lostRanging ((hset _).calm hcalm) ..) (hset _).mono) (hup _)
    · exact hup _
  · exact .refl

theorem lines_applyRanging (hcalm : Calm s) (p m : Nat) (dd du : Int) : lines (applyRanging p m dd du s) = lines s := by
  have hset : ∀ f, lines (setMoor (ciOf p m) f s) = lines s := fun f => (frame_setMoor ..).get lines
  have hup : ∀ f, lines (noteUp p m du (setMoor (ciOf p m) f s)) = lines s := fun f =>
    (lines_noteUp ((frame_setMoor ..).calm hcalm) ..).trans (hset f)
  unfold applyRanging
  extract_lets ci x g
  split
  · have hrefused := frame_moorGo p m .refused s
    split
    · exact ((frame_raise_plain (hrefused.calm hcalm) (by decide) _).get lines).trans (lines_moorGo ..)
    · exact (lines_assignAll ..).trans ((lines_moorGo ..).trans (((frame_setMoor ..).get lines).trans (lines_noteUp hcalm ..)))
  iterate 2
    dsimp -zeta only
    split
    · split
      · exact (lines_lostRanging ((frame_setMoor ..).calm hcalm) ..).trans (hset _)
      · exact hup _
    · exact hup _
  · rfl

/-! ### An accepted answer (R208, R345) -/

/-- The request that a reply settles, and the count that it ends. -/
def requestSettled (p m : Nat) (q : Req) (s : State) : State :=
  setMoor (ciOf p m) (fun x => { x with unanswered := 0 }) (if q.kind = 3 then s else dropReq p q.tag s)

/-- The MOORING_RANGE that sent a request completes with the reply (R345). -/
def commandCompleted (p m : Nat) (q : Req) (dd du : Int) (s : State) : State :=
  match (port s p).rangeCmd with
  | some c =>
    if c.mooring = m && !c.completed && c.reqTag = some q.tag then
      rangeDone p c .ok dd du
        (setPort p (fun x => { x with rangeCmd := some { c with completed := true, cycle := s.cyc.n, tick := tickPhase s } }) s)
    else s
  | none => s

/-- The reply's delays applied, and its command completed. -/
def replyTaken (p m : Nat) (q : Req) (pre delim : Nat) (s : State) : State :=
  commandCompleted p m q (measure s p (ciOf p m) q pre 0 delim).1 (measure s p (ciOf p m) q pre 0 delim).2
    (applyRanging p m (measure s p (ciOf p m) q pre 0 delim).1 (measure s p (ciOf p m) q pre 0 delim).2 (requestSettled p m q s))

theorem replyAccepted_eq (p m : Nat) (q : Req) (pre delim : Nat) (s : State) :
    replyAccepted p m q pre delim s = judgeReady (judgePort p (replyTaken p m q pre delim s)) := rfl

theorem frame_dropReq (p tag : Nat) (s : State) : Frame [.ports] s (dropReq p tag s) := frame_setPort ..

theorem frame_requestSettled (p m : Nat) (q : Req) (s : State) : Frame [.ports, .moors] s (requestSettled p m q s) :=
  .after (frame_setMoor ..) (Frame.ite .refl (frame_dropReq ..) : Frame [.ports] s _).mono

theorem frame_commandCompleted (p m : Nat) (q : Req) (dd du : Int) (s : State) : Frame [.ports, .mbx] s (commandCompleted p m q dd du s) := by
  unfold commandCompleted
  split
  · exact .ite (.after (frame_rangeDone ..) (frame_setPort ..).mono) .refl
  · exact .refl

theorem lines_commandCompleted (p m : Nat) (q : Req) (dd du : Int) (s : State) : lines (commandCompleted p m q dd du s) = lines s := by
  unfold commandCompleted
  split
  · exact ite_keeps lines _ (((frame_rangeDone ..).get lines).trans (lines_setPort (fun _ => by rfl) s))
  · rfl

theorem frame_replyTaken (hcalm : Calm s) (p m : Nat) (q : Req) (pre delim : Nat) : Frame rangeParts s (replyTaken p m q pre delim s) := by
  have hsettled := frame_requestSettled p m q s
  exact .after (frame_commandCompleted ..) (.after (frame_applyRanging (hsettled.calm hcalm) ..) hsettled.mono)

theorem lines_replyTaken (hcalm : Calm s) (p m : Nat) (q : Req) (pre delim : Nat) : lines (replyTaken p m q pre delim s) = lines (requestSettled p m q s) :=
  (lines_commandCompleted ..).trans (lines_applyRanging ((frame_requestSettled p m q s).calm hcalm) ..)

/-- What an accepted reply may touch. -/
abbrev replyParts : List Part := rangeParts ++ [.obs]

theorem frame_replyAccepted (hcalm : Calm s) (p m : Nat) (q : Req) (pre delim : Nat) : Frame replyParts s (replyAccepted p m q pre delim s) := by
  have htaken := frame_replyTaken hcalm p m q pre delim
  have hjudged := frame_judgePort (htaken.calm hcalm) p
  rw [replyAccepted_eq]
  exact .after (frame_judgeReady (hjudged.calm (htaken.calm hcalm))) (.after hjudged htaken.mono)

/-- What an entry to READY leaves reads after a reply as after the completion of its lane. -/
theorem replyAccepted_get {β : Type} (hcalm : Calm s) (p m : Nat) (q : Req) (pre delim : Nat) (g : State → β)
    (hg : ∀ u, g (erase readyParts u) = g u := by intro u; rfl) :
    g (replyAccepted p m q pre delim s) = g (judgePort p (replyTaken p m q pre delim s)) := by
  have htaken := frame_replyTaken hcalm p m q pre delim
  rw [replyAccepted_eq]
  exact (frame_judgeReady ((frame_judgePort (htaken.calm hcalm) p).calm (htaken.calm hcalm))).get g hg

theorem cells_replyAccepted (hcalm : Calm s) (p m : Nat) (q : Req) (pre delim : Nat) :
    cells (replyAccepted p m q pre delim s) = cells (replyTaken p m q pre delim s) :=
  (replyAccepted_get hcalm p m q pre delim cells).trans (cells_judgePort ((frame_replyTaken hcalm ..).calm hcalm) p)

theorem grounds_replyAccepted (hcalm : Calm s) (p m : Nat) (q : Req) (pre delim : Nat) :
    grounds (replyAccepted p m q pre delim s) = grounds (requestSettled p m q s) :=
  (replyAccepted_get hcalm p m q pre delim grounds).trans
    ((grounds_judgePort ((frame_replyTaken hcalm ..).calm hcalm) p).trans (grounds_of_lines (lines_replyTaken hcalm ..)))

/-- An admitted mooring whose delays are in bounds is ranged with them (R206, R208). -/
theorem cells_replyTaken_admitted (hcalm : Calm s) {p m : Nat} {q : Req} {pre delim : Nat} {x : Int × Int} (hx : measure s p (ciOf p m) q pre 0 delim = x)
    (hst : (moor s (ciOf p m)).st = .admitted) (hdown : x.1 ≤ maxDown s p) (hage : ageOk s p m x.2 = true) :
    let y := cells (replyTaken p m q pre delim s) (ciOf p m)
    y.st = .ranged ∧ y.dNext = some x.1 ∧ y.dUp = x.2 ∧ y.everRanged = true ∧ y.unanswered = 0 := by
  have hsettled := frame_requestSettled p m q s
  have hst' : (moor (requestSettled p m q s) (ciOf p m)).st = .admitted := by
    have hdrop : Frame [.ports] s (if q.kind = 3 then s else dropReq p q.tag s) := .ite .refl (frame_dropReq ..)
    unfold requestSettled
    rw [moor_setMoor, if_pos rfl, hdrop.get (moor · (ciOf p m)), hst]
  have hcompleted := (frame_commandCompleted p m q x.1 x.2 (applyRanging p m x.1 x.2 (requestSettled p m q s))).get cells
  have happlied := applyRanging_admitted hst' ((hsettled.get (maxDown · p)).symm ▸ hdown) ((hsettled.get (ageOk · p m x.2)).trans hage)
  have hcalm' := hsettled.calm hcalm
  unfold replyTaken
  rw [hx, hcompleted, happlied]
  generalize requestSettled p m q s = u at *
  have hup := cells_noteUp hcalm' p m x.2
  generalize noteUp p m x.2 u = v at *
  have hgo : ∀ w : State, (moor w (ciOf p m)).st = .admitted →
      moor (moorGo p m .ranged w) (ciOf p m) = { moor w (ciOf p m) with st := .ranged, assigned := (moor w (ciOf p m)).assigned && true, unanswered := 0 } := by
    intro w hw
    unfold moorGo
    extract_lets y lost
    have hlost : lost = w := if_neg (by simp [y, hw, served])
    rw [if_neg (by simp [y, hw]), hlost, moor_setMoor, if_pos rfl]
    rfl
  have hstv : (moor v (ciOf p m)).st = .admitted := (congrArg Moor.st hup :).trans hst'
  have hdup : (moor v (ciOf p m)).dUp = x.2 := (congrArg Moor.dUp hup :)
  rw [cells_assignAll, cells, hgo _ (by rw [moor_setMoor, if_pos rfl]; exact hstv), moor_setMoor, if_pos rfl]
  exact ⟨rfl, rfl, hdup, rfl, rfl⟩

end Sys2Proof.Proofs
end

section
/-! Discovery and admission of a cell (R197, R206, R207). -/

set_option Elab.async false

namespace Sys2Proof.Proofs
open Sys2Proof Sys2Proof.Machine Sys2Proof.Laws

variable {s : State}

/-! ### The mooring of a DISC_REPLY -/

/-- What a mooring takes over from the reply that admits its cell. -/
def discStored (r : DiscReply) (y : Moor) : Moor := { y with serial := r.serial, cellRx := r.cellRx, cellTx := r.cellTx }

/-- A mooring with the delays measured at its admission. -/
def discMeasured (p m : Nat) (r : DiscReply) (dd du : Int) (s : State) : State :=
  noteUp p m du (noteDown p m dd (setMoor (ciOf p m) (discStored r) s))

theorem discKnown_admits {p m : Nat} {r : DiscReply} (hst : (moor s (ciOf p m)).st = .vacant) (hgen : (basinGen s p).code ≤ r.genMax)
    (htype : r.cellType = some (cellType s (ciOf p m))) (q : Req) (e : Nat) :
    ∃ dd du, discKnown p m r q e s = queueRange p m true (queueAdmit p m (moorGo p m .admitted (discMeasured p m r dd du s))) := by
  unfold discKnown
  extract_lets ci x genBad typeBad
  have hfits : ¬ (genBad || typeBad) = true := by simp [genBad, typeBad, ci, htype]; omega
  rw [if_neg (by simp [x, ci, hst]), if_neg hfits]
  generalize Machine.measure _ p ci q q.pre r.discIndex e = y
  exact ⟨y.1, y.2, rfl⟩

theorem discMeasured_keeps (hcalm : Calm s) (p m : Nat) (r : DiscReply) (dd du : Int) : let t := discMeasured p m r dd du s
    Frame rangeParts s t ∧ (∀ c, c ≠ ciOf p m → moor t c = moor s c) ∧
    cells t (ciOf p m) = { cellOf (discStored r (moor s (ciOf p m))) with dDown := dd, dUp := du } := by
  unfold discMeasured
  have hset := frame_setMoor (ciOf p m) (discStored r) s
  have hmoor := moor_setMoor (ciOf p m) (discStored r) s
  generalize setMoor (ciOf p m) (discStored r) s = u at *
  have hucalm := hset.calm hcalm
  have hdown := frame_noteDown hucalm p m dd
  have hdownMoor := moor_noteDown hucalm p m dd
  generalize noteDown p m dd u = v at *
  have hvcalm := hdown.calm hucalm
  refine ⟨.after (frame_noteUp hvcalm ..) (.after hdown hset.mono), fun c hc => ?_, ?_⟩
  · rw [moor_noteUp_other hvcalm hc, hdownMoor, if_neg (Ne.symm hc), hmoor, if_neg (Ne.symm hc)]
  · rw [cells_noteUp hvcalm, cells, hdownMoor, if_pos rfl, hmoor, if_pos rfl]
    rfl

/-- A mooring that was not served changes its state with its counts of requests alone. -/
theorem moor_moorGo_unserved {p m : Nat} {st : MoorState} (h : served (moor s (ciOf p m)).st = false) (hst : (moor s (ciOf p m)).st ≠ st) :
    moorGo p m st s =
      setMoor (ciOf p m) (fun y => { y with st := st, assigned := y.assigned && served st, unanswered := 0 }) s := by
  unfold moorGo
  extract_lets x lost
  have hlost : lost = s := if_neg (by simp [x, h])
  rw [if_neg hst, hlost]

/-- A cell that fits a vacant mooring of the plate is admitted there (R206). -/
theorem discKnown_admitted (hcalm : Calm s) {p m : Nat} {r : DiscReply} (hst : (moor s (ciOf p m)).st = .vacant)
    (hgen : (basinGen s p).code ≤ r.genMax) (htype : r.cellType = some (cellType s (ciOf p m))) (q : Req) (e : Nat) :
    let t := discKnown p m r q e s
    (moor t (ciOf p m)).st = .admitted ∧ (moor t (ciOf p m)).serial = r.serial ∧
      (moor t (ciOf p m)).cellRx = r.cellRx ∧ (moor t (ciOf p m)).cellTx = r.cellTx ∧ (∀ c, c ≠ ciOf p m → moor t c = moor s c) ∧
      t.cfg = s.cfg ∧ t.obs = s.obs := by
  obtain ⟨dd, du, heq⟩ := discKnown_admits hst hgen htype q e
  obtain ⟨hframe, hothers, hcell⟩ := discMeasured_keeps hcalm p m r dd du
  rw [heq]
  generalize discMeasured p m r dd du s = u at *
  have hstu : (moor u (ciOf p m)).st = .vacant := (congrArg Moor.st hcell :).trans hst
  rw [moor_moorGo_unserved (by rw [hstu]; rfl) (by rw [hstu]; decide)]
  have hgo := frame_setMoor (ciOf p m) (fun y => { y with st := .admitted, assigned := y.assigned && served .admitted, unanswered := 0 }) u
  have hmoor := moor_setMoor (ciOf p m) (fun y => { y with st := .admitted, assigned := y.assigned && served .admitted, unanswered := 0 }) u
  generalize setMoor (ciOf p m) _ u = v at *
  have hqueue : Frame [.ports] v (queueRange p m true (queueAdmit p m v)) := .after (frame_queueRange ..) (frame_queueSvc ..)
  have hat := hmoor (ciOf p m)
  rw [if_pos rfl] at hat
  refine ⟨?_, ?_, ?_, ?_, fun c hc => ?_, ?_, ?_⟩
  · rw [hqueue.get (moor · (ciOf p m)), hat]
  · rw [hqueue.get (moor · (ciOf p m)), hat]
    exact (congrArg Moor.serial hcell :)
  · rw [hqueue.get (moor · (ciOf p m)), hat]
    exact (congrArg Moor.cellRx hcell :)
  · rw [hqueue.get (moor · (ciOf p m)), hat]
    exact (congrArg Moor.cellTx hcell :)
  · rw [hqueue.get (moor · c), hmoor, if_neg (Ne.symm hc), hothers c hc]
  · rw [hqueue.get State.cfg, hgo.get State.cfg, hframe.get State.cfg]
  · rw [hqueue.get State.obs, hgo.get State.obs, hframe.get State.obs]

/-! ### A cell that is refused (R206) -/

/-- The mooring of a refused cell. -/
def discRefused (p m : Nat) (r : DiscReply) (s : State) : State := moorGo p m .refused (setMoor (ciOf p m) (fun y => { y with serial := r.serial }) s)

/-- A generation too low is recorded. -/
def genRefused (bad : Prop) [Decidable bad] (ci : Nat) (s : State) : State := if bad then raise 271 (be 2 ci) s else s

/-- A type that does not fit is recorded. -/
def typeRefused (bad : Prop) [Decidable bad] (ci : Nat) (s : State) : State := if bad then raise 272 (be 2 ci) s else s

theorem discKnown_refuses {p m : Nat} {r : DiscReply} (hst : (moor s (ciOf p m)).st = .vacant)
    (hbad : r.genMax < (basinGen s p).code ∨ r.cellType ≠ some (cellType s (ciOf p m))) (q : Req) (e : Nat) :
    discKnown p m r q e s = typeRefused (r.cellType ≠ some (cellType s (ciOf p m))) (ciOf p m)
      (genRefused (r.genMax < (basinGen s p).code) (ciOf p m) (discRefused p m r s)) := by
  unfold discKnown
  extract_lets ci x genBad typeBad
  have hunfit : (genBad || typeBad) = true := by
    rcases hbad with h | h
    · simp [genBad, h]
    · simp [typeBad, ci, h]
  rw [if_neg (by simp [x, ci, hst]), if_pos hunfit]
  rfl

theorem frame_genRefused (hcalm : Calm s) (bad : Prop) [Decidable bad] (ci : Nat) : Frame signalParts s (genRefused bad ci s) :=
  .ite (frame_raise_plain hcalm (by decide) _) .refl

theorem frame_typeRefused (hcalm : Calm s) (bad : Prop) [Decidable bad] (ci : Nat) : Frame signalParts s (typeRefused bad ci s) :=
  .ite (frame_raise_plain hcalm (by decide) _) .refl

theorem faultInfo_discovery : ∀ src ∈ [271, 272, 274, 275], ∃ f, faultInfo src = some f ∧ f.level = false := by
  intro src hsrc
  simp only [List.mem_cons, List.not_mem_nil, or_false] at hsrc
  rcases hsrc with rfl | rfl | rfl | rfl <;> exact ⟨_, rfl, by decide⟩

theorem faultAbsent_discovery : ∀ src ∈ [271, 272, 274, 275], ∀ v, faultAbsent v src = false := by
  intro src hsrc v
  simp only [List.mem_cons, List.not_mem_nil, or_false] at hsrc
  rcases hsrc with rfl | rfl | rfl | rfl <;> cases v <;> rfl

/-- The sources of discovery are recorded at each assertion (R207). -/
theorem latched_discovery {src : Nat} (hsrc : src ∈ [271, 272, 274, 275]) (hp : s.dev.porstN = true) (hr : s.dev.railHold = false) (d : List Byte) :
    Latched (raise src d s) src := by
  obtain ⟨f, hf, hlevel⟩ := faultInfo_discovery src hsrc
  exact latched_raise_edge hf (faultAbsent_discovery src hsrc) hlevel hp hr d

/-- A cell that does not fit is refused, with the source of what does not fit (R206). -/
theorem discKnown_refused (hcalm : Calm s) {p m : Nat} {r : DiscReply} (hst : (moor s (ciOf p m)).st = .vacant)
    (hbad : r.genMax < (basinGen s p).code ∨ r.cellType ≠ some (cellType s (ciOf p m))) (hp : s.dev.porstN = true) (hr : s.dev.railHold = false)
    (q : Req) (e : Nat) : let t := discKnown p m r q e s
    (moor t (ciOf p m)).st = .refused ∧ (r.genMax < (basinGen s p).code → Latched t 271) ∧
      (r.cellType ≠ some (cellType s (ciOf p m)) → Latched t 272) ∧ ∀ c, c ≠ ciOf p m → moor t c = moor s c := by
  have hset := frame_setMoor (ciOf p m) (fun y => { y with serial := r.serial }) s
  have hrefused : Frame [.ports, .mbx, .moors] s (discRefused p m r s) := .after (frame_moorGo ..) hset.mono
  have hstate : (moor (discRefused p m r s) (ciOf p m)).st = .refused := st_moorGo ..
  have hothers : ∀ c, c ≠ ciOf p m → moor (discRefused p m r s) c = moor s c := fun c hc => by
    unfold discRefused
    rw [moor_moorGo_other _ _ _ _ hc, moor_setMoor, if_neg (Ne.symm hc)]
  rw [discKnown_refuses hst hbad]
  generalize discRefused p m r s = u at *
  have hucalm := hrefused.calm hcalm
  have hporst : u.dev.porstN = true := (hrefused.get (·.dev.porstN)).trans hp
  have hrail : u.dev.railHold = false := (hrefused.get (·.dev.railHold)).trans hr
  have hgen := frame_genRefused hucalm (r.genMax < (basinGen s p).code) (ciOf p m)
  have hgenLatched : r.genMax < (basinGen s p).code → Latched (genRefused (r.genMax < (basinGen s p).code) (ciOf p m) u) 271 := fun h => by
    unfold genRefused
    rw [if_pos h]
    exact latched_discovery (by decide) hporst hrail _
  have hgenUp : (genRefused (r.genMax < (basinGen s p).code) (ciOf p m) u).dev.porstN = true ∧
      (genRefused (r.genMax < (basinGen s p).code) (ciOf p m) u).dev.railHold = false :=
    ⟨(hgen.get (·.dev.porstN)).trans hporst, (hgen.get (·.dev.railHold)).trans hrail⟩
  generalize genRefused (r.genMax < (basinGen s p).code) (ciOf p m) u = v at *
  have htype := frame_typeRefused (hgen.calm hucalm) (r.cellType ≠ some (cellType s (ciOf p m))) (ciOf p m)
  have hframe : Frame signalParts u (typeRefused (r.cellType ≠ some (cellType s (ciOf p m))) (ciOf p m) v) := hgen.trans htype
  refine ⟨?_, fun h => ?_, fun h => ?_, fun c hc => ?_⟩
  · rw [hframe.get (moor · (ciOf p m)), hstate]
  · unfold typeRefused
    split
    · exact Latched.kept (hgenLatched h) (kept_raise _ _ _ (.self ..))
    · exact hgenLatched h
  · unfold typeRefused
    rw [if_pos h]
    exact latched_discovery (by decide) hgenUp.1 hgenUp.2 _
  · rw [hframe.get (moor · c), hothers c hc]

/-! ### A cell at a mooring that is not vacant -/

theorem discKnown_other {p m : Nat} {r : DiscReply} (hst : (moor s (ciOf p m)).st ≠ .vacant) (hserial : (moor s (ciOf p m)).serial ≠ r.serial)
    (q : Req) (e : Nat) : discKnown p m r q e s = raise 275 (be 2 (ciOf p m)) s :=
  (if_pos hst).trans (if_pos hserial)

theorem discKnown_again {p m : Nat} {r : DiscReply} (hst : (moor s (ciOf p m)).st ≠ .vacant) (hserial : (moor s (ciOf p m)).serial = r.serial)
    (q : Req) (e : Nat) : discKnown p m r q e s = if served (moor s (ciOf p m)).st then lostRanging p m s else s :=
  (if_pos hst).trans (if_neg (not_not_intro hserial))

/-! ### The message (R207) -/

/-- The reply answers an outstanding DISCOVER in its listening window. -/
def DiscAnswers (s : State) (p : Nat) (b : Burst) (e : Nat) (q : Req) (bs : List Byte) : Prop :=
  svcReq s p 0x81 b = some (q, bs) ∧ q.kind = 4 ∧ (port s p).locked = true ∧ inWindow s p q q.pre e = true

theorem exec_discReply {p e : Nat} {b : Burst} {q : Req} {bs : List Byte} (hp : p < nPorts s) (h : DiscAnswers s p b e q bs) :
    exec (.discReplyReceived p b e) s = .next (match (portOrder s p).find? (fun m => locationOf s (ciOf p m) = (discOf bs).location.toNat) with
      | none => raise 274 (be 6 (discOf bs).location.toNat) s
      | some m => discKnown p m (discOf bs) q e s) := by
  obtain ⟨hreq, hkind, hlocked, hwindow⟩ := h
  refine (if_pos (by simp [hp]) : exec (.discReplyReceived p b e) s = _).trans (congrArg _ ?_)
  rw [hreq]
  exact if_neg (by simp [hkind, hlocked, hwindow])

theorem exec_discReply_known {p e m : Nat} {b : Burst} {q : Req} {bs : List Byte} (hp : p < nPorts s) (h : DiscAnswers s p b e q bs)
    (hm : (portOrder s p).find? (fun m => locationOf s (ciOf p m) = (discOf bs).location.toNat) = some m) :
    exec (.discReplyReceived p b e) s = .next (discKnown p m (discOf bs) q e s) := by
  rw [exec_discReply hp h, hm]

theorem exec_discReply_idle {p e : Nat} {b : Burst} (hp : p < nPorts s)
    (h : ∀ q bs, svcReq s p 0x81 b = some (q, bs) → q.kind ≠ 4 ∨ inWindow s p q q.pre e = false) :
    exec (.discReplyReceived p b e) s = .next s := by
  refine (if_pos (by simp [hp]) : exec (.discReplyReceived p b e) s = _).trans (congrArg _ ?_)
  split
  · rfl
  · next q bs hreq =>
    refine if_pos ?_
    rcases h q bs hreq with h | h <;> simp [h]

/-! ### A DISCOVER that falls due (R207) -/

theorem svc_queueSvc (p : Nat) (y : SvcMsg) (s : State) :
    (port (queueSvc p y s) p).svc = (port s p).svc.filter (fun z => !(z.type = y.type && z.mooring = y.mooring)) ++ [y] := by
  unfold queueSvc
  rw [port_setPort, if_pos rfl]

theorem mem_svc_queueSvc (p : Nat) (y : SvcMsg) (s : State) : y ∈ (port (queueSvc p y s) p).svc := by
  rw [svc_queueSvc]
  simp

theorem discoverDue_queued {p : Nat} (hp : p < nPorts s) (h : mayDiscover s p = true) :
    Goes (.discoverDue p) s fun t => (∃ y ∈ (port t p).svc, y.type = 0x01 ∧ y.reqKind = 4) ∧
      (∀ k, k ≠ p → port t k = port s k) ∧ { t with ports := s.ports } = s := by
  refine ⟨queueDiscover p s, (if_pos (by simp [hp])).trans (congrArg _ (if_pos h)), ⟨_, mem_svc_queueSvc .., rfl, rfl⟩, fun k hk => ?_, rfl⟩
  exact (port_setPort ..).trans (if_neg (Ne.symm hk))

theorem exec_discoverDue_idle {p : Nat} (hp : p < nPorts s) (h : mayDiscover s p = false) : exec (.discoverDue p) s = .next s :=
  (if_pos (by simp [hp])).trans (congrArg _ (if_neg (by simp [h])))

end Sys2Proof.Proofs
end

section
/-! The service points of a mooring: one write, and a page of six (R221, R225). -/

set_option Elab.async false

namespace Sys2Proof.Proofs
open Sys2Proof Sys2Proof.Machine Sys2Proof.Laws

variable {s : State}

/-! ### One write of a point (R221) -/

/-- A point record. -/
def pointAt (s : State) (k : Nat) : Point := s.points.get k {}

/-- The write is later than the record, or rebuilds it. -/
def WriteDue (s : State) (k : Nat) (c : CycleNo) (tick : Nat) : Prop := (pointAt s k).rebuild = true ∨ ptLater (pointAt s k) c tick = true

/-- The limit check stores the record, with its flags, and no other. -/
theorem pointAt_ptCheck (hcalm : Calm s) (k : Nat) (x : Point) : (pointAt (ptCheck k x s) k).val = x.val ∧ (pointAt (ptCheck k x s) k).valid = x.valid ∧
    ∀ j, j ≠ k → pointAt (ptCheck k x s) j = pointAt s j := by
  have hset : ∀ y, Frame [.points] s { s with points := s.points.set k y } := fun _ => rfl
  have hrises : ∀ (y : Point) (fs : List Nat), pointAt (fs.foldl (fun s f => raise 290 (be 4 k ++ be 4 y.val.toNat ++ be 1 f) s)
      { s with points := s.points.set k y }) = pointAt { s with points := s.points.set k y } := fun y fs =>
    (Frame.foldl_calm (ps := signalParts) fs ((hset y).calm hcalm) fun _ hc _ _ => frame_raise_plain hc (by decide) _).get pointAt
  have hstored : ∀ y j, pointAt { s with points := s.points.set k y } j = if k = j then y else pointAt s j := fun y j => get_set ..
  unfold ptCheck
  obtain ⟨a, b⟩ := ptFlags s k x
  dsimp -zeta only
  extract_lets rises y t
  have ht : pointAt (if ptLim t k 4 = 1 then rises.foldl (fun s f => raise 290 (be 4 k ++ be 4 y.val.toNat ++ be 1 f) s) t else t) = pointAt t :=
    ite_keeps pointAt _ (hrises y rises)
  rw [ht]
  refine ⟨?_, ?_, fun j hj => ?_⟩
  · rw [hstored, if_pos rfl]
  · rw [hstored, if_pos rfl]
  · rw [hstored, if_neg (Ne.symm hj)]

theorem pointAt_ptWrite_other (hcalm : Calm s) {k j : Nat} (hj : j ≠ k) (v : Word) (c : CycleNo) (tick : Nat) :
    pointAt (ptWrite k v c tick s) j = pointAt s j := by
  unfold ptWrite
  extract_lets x fmt gap age hist first y
  split
  · rfl
  · rw [(frame_capFeed ((frame_ptCheck hcalm k y).calm hcalm) ..).get pointAt]
    exact (pointAt_ptCheck hcalm k y).2.2 j hj

/-- A write that is due puts its value into the record. -/
theorem pointAt_ptWrite_due (hcalm : Calm s) {k : Nat} {c : CycleNo} {tick : Nat} (hdue : WriteDue s k c tick) (v : Word) :
    (pointAt (ptWrite k v c tick s) k).val = v ∧ (pointAt (ptWrite k v c tick s) k).valid = true := by
  unfold ptWrite
  extract_lets x fmt gap age hist first y
  have htaken : ¬ (!x.rebuild && !ptLater x c tick) = true := by
    rcases hdue with h | h
    · simp [show x.rebuild = true from h]
    · simp [show ptLater x c tick = true from h]
  obtain ⟨hval, hvalid, -⟩ := pointAt_ptCheck hcalm k y
  rw [if_neg htaken, (frame_capFeed ((frame_ptCheck hcalm k y).calm hcalm) ..).get pointAt]
  exact ⟨hval, hvalid⟩

/-! ### A page of service points (R225) -/

/-- The point of a value of a page. -/
def pagePoint (ci page i : Nat) : Nat := ptOf ci (48 + 6 * page + i)

/-- A value as it stands in a point of format INT32. -/
def intWord (v : Int) : Word := BitVec.ofInt 32 (clampI (-2147483648) 2147483647 v)

/-- One value of a page is written with the instant of reception. -/
def pageWrite (ci page : Nat) (s : State) (v : Int × Nat) : State := ptInt (pagePoint ci page v.2) v.1 s.cyc.n (tickPhase s) s

theorem writePage_eq (ci page : Nat) (vals : List Int) (s : State) : writePage ci page vals s =
    if vals.length = 6 && vals.all (fun v => v = -2147483648) then s else (vals.take 6).zipIdx.foldl (pageWrite ci page) s := rfl

theorem frame_pageWrite (hcalm : Calm s) (ci page : Nat) (v : Int × Nat) : Frame pointParts s (pageWrite ci page s v) := frame_ptInt hcalm ..

theorem pagePoint_inj {ci page i j : Nat} (h : i ≠ j) : pagePoint ci page i ≠ pagePoint ci page j := by
  unfold pagePoint ptOf
  omega

/-- Values of distinct points that are due are all written, and nothing of the other points. -/
theorem foldl_pageWrite (ci page : Nat) (vs : List (Int × Nat)) (hvs : (vs.map Prod.snd).Nodup) (hcalm : Calm s)
    (hdue : ∀ v ∈ vs, WriteDue s (pagePoint ci page v.2) s.cyc.n (tickPhase s)) : let t := vs.foldl (pageWrite ci page) s
    Frame pointParts s t ∧ (∀ v ∈ vs, (pointAt t (pagePoint ci page v.2)).val = intWord v.1 ∧ (pointAt t (pagePoint ci page v.2)).valid = true) ∧
    ∀ j, j ∉ vs.map Prod.snd → pointAt t (pagePoint ci page j) = pointAt s (pagePoint ci page j) := by
  induction vs generalizing s with
  | nil => exact ⟨.refl, fun v hv => absurd hv List.not_mem_nil, fun _ _ => rfl⟩
  | cons x xs ih =>
    rw [List.map_cons, List.nodup_cons] at hvs
    have hframe := frame_pageWrite hcalm ci page x
    have hother : ∀ i, i ≠ x.2 → pointAt (pageWrite ci page s x) (pagePoint ci page i) = pointAt s (pagePoint ci page i) := fun i hi =>
      pointAt_ptWrite_other hcalm (pagePoint_inj hi) ..
    have hwritten : (pointAt (pageWrite ci page s x) (pagePoint ci page x.2)).val = intWord x.1 ∧
        (pointAt (pageWrite ci page s x) (pagePoint ci page x.2)).valid = true :=
      pointAt_ptWrite_due hcalm (hdue x List.mem_cons_self) _
    rw [List.foldl_cons]
    generalize pageWrite ci page s x = u at *
    have hcyc : u.cyc.n = s.cyc.n := hframe.get (·.cyc.n)
    have htick : tickPhase u = tickPhase s := hframe.get tickPhase
    have hne : ∀ v ∈ xs, v.2 ≠ x.2 := fun v hv h => hvs.1 (h ▸ List.mem_map_of_mem hv)
    have hdue' : ∀ v ∈ xs, WriteDue u (pagePoint ci page v.2) u.cyc.n (tickPhase u) := fun v hv => by
      rw [hcyc, htick, WriteDue, hother v.2 (hne v hv)]
      exact hdue v (List.mem_cons_of_mem x hv)
    obtain ⟨hrest, hall, hkept⟩ := ih hvs.2 (hframe.calm hcalm) hdue'
    refine ⟨hframe.trans hrest, fun v hv => ?_, fun j hj => ?_⟩
    · rcases List.mem_cons.mp hv with rfl | hv
      · rw [hkept _ hvs.1]
        exact hwritten
      · exact hall v hv
    · rw [List.map_cons, List.mem_cons, not_or] at hj
      rw [hkept j hj.2, hother j hj.1]

theorem length_pageVals (bs : List Byte) : (pageVals bs).length = 6 := by simp [pageVals]

/-- A page that holds a value is written whole (R225). -/
theorem writePage_written (hcalm : Calm s) (ci page : Nat) {bs : List Byte} (hsome : ∃ v ∈ pageVals bs, v ≠ -2147483648)
    (hdue : ∀ i, i < 6 → WriteDue s (pagePoint ci page i) s.cyc.n (tickPhase s)) : let t := writePage ci page (pageVals bs) s
    Frame pointParts s t ∧ ∀ i v, (pageVals bs)[i]? = some v →
      (pointAt t (pagePoint ci page i)).val = intWord v ∧ (pointAt t (pagePoint ci page i)).valid = true := by
  have hlength := length_pageVals bs
  have htake : (pageVals bs).take 6 = pageVals bs := List.take_of_length_le hlength.le
  have hkeep : ¬ (decide ((pageVals bs).length = 6) && (pageVals bs).all (fun v => v = -2147483648)) = true := by
    obtain ⟨v, hv, hne⟩ := hsome
    simp only [Bool.and_eq_true, List.all_eq_true, decide_eq_true_eq, not_and]
    exact fun _ h => hne (h v hv)
  rw [writePage_eq, if_neg hkeep, htake]
  have hnodup : ((pageVals bs).zipIdx.map Prod.snd).Nodup := by
    rw [List.zipIdx_map_snd]
    exact List.nodup_range'
  obtain ⟨hframe, hall, -⟩ := foldl_pageWrite ci page (pageVals bs).zipIdx hnodup hcalm fun v hv => by
    have hlt := List.snd_lt_of_mem_zipIdx hv
    exact hdue v.2 (by omega)
  exact ⟨hframe, fun i v hv => hall (v, i) (List.mk_mem_zipIdx_iff_getElem?.mpr hv)⟩

end Sys2Proof.Proofs
end

section
/-! Replies and silence of moorings, and what falls due (R177, R198, R206–R210, R225). -/

set_option Elab.async false

namespace Sys2Proof.Proofs
open Sys2Proof Sys2Proof.Machine Sys2Proof.Laws

variable {s : State}

/-! ### Requests that are settled -/

theorem reqOf_none {p tag : Nat} {t : State} {rs : List Req} (h : (port t p).reqs = rs.filter (fun r => r.tag ≠ tag || r.dead)) : reqOf t p tag = none := by
  unfold reqOf
  rw [h, List.find?_eq_none]
  intro r hr
  simp only [List.mem_reverse, List.mem_filter] at hr
  obtain ⟨-, hr⟩ := hr
  intro hfound
  simp_all

theorem reqs_dropReq (p tag : Nat) (s : State) : (port (dropReq p tag s) p).reqs = (port s p).reqs.filter (fun r => r.tag ≠ tag || r.dead) := by
  unfold dropReq
  rw [port_setPort, if_pos rfl]

/-! ### The answer to a RANGE_REQ (R208) -/

theorem rangeReply_ranged {p m : Nat} (hcalm : Calm s) (hp : p < nPorts s) {d : BitVec 32} {pay mar : List Bool} {k ph : Nat} {q : Req} {bs : List Byte}
    (hreq : svcReq s p 0x82 (burstOn d pay mar) = some (q, bs)) (hm : q.mooring = m) (hfits : replyFits s p 1 q bs (gridAt k ph) = true)
    (hframe : svcField bs 4 7 = q.cycle.toNat % 2 ^ 32) (htrain : (svcField bs 8 8).testBit 0 = q.train) (hst : (moor s (ciOf p m)).st = .admitted)
    (hdown : (measure s p (ciOf p m) q q.pre 0 (gridAt k ph)).1 ≤ maxDown s p)
    (hage : ageOk s p m (measure s p (ciOf p m) q q.pre 0 (gridAt k ph)).2 = true) :
    Goes (.rangeReplyReceived p d pay mar k ph) s fun t => (moor t (ciOf p m)).st = .ranged ∧
      (moor t (ciOf p m)).dNext = some (measure s p (ciOf p m) q q.pre 0 (gridAt k ph)).1 ∧
      (moor t (ciOf p m)).dUp = (measure s p (ciOf p m) q q.pre 0 (gridAt k ph)).2 ∧ (moor t (ciOf p m)).everRanged = true ∧
      (moor t (ciOf p m)).unanswered = 0 ∧ reqOf t p q.tag = none ∧ t.cfg = s.cfg := by
  have hexec : exec (.rangeReplyReceived p d pay mar k ph) s = .next (replyAccepted p m q q.pre (gridAt k ph) s) := by
    refine (if_pos (by simp [hp]) : exec (.rangeReplyReceived p d pay mar k ph) s = _).trans (congrArg _ ?_)
    rw [hreq]
    subst hm
    exact if_pos (by simp [hfits, hframe, htrain])
  have hkind : q.kind = 1 := by
    simp only [replyFits, Bool.and_eq_true, decide_eq_true_eq] at hfits
    exact hfits.1.1.1.1
  generalize hx : measure s p (ciOf p m) q q.pre 0 (gridAt k ph) = x at *
  have hcell := cells_replyTaken_admitted hcalm hx hst hdown hage
  have hcells := congrFun (cells_replyAccepted hcalm p m q q.pre (gridAt k ph)) (ciOf p m)
  have hground := congrFun (grounds_replyAccepted hcalm p m q q.pre (gridAt k ph)) p
  have hcfg := (frame_replyAccepted hcalm p m q q.pre (gridAt k ph)).get State.cfg
  have hreqs : (port (requestSettled p m q s) p).reqs = (port s p).reqs.filter (fun r => r.tag ≠ q.tag || r.dead) := by
    unfold requestSettled
    rw [if_neg (by omega), (frame_setMoor ..).get fun u => (port u p).reqs, reqs_dropReq]
  rw [← hcells] at hcell
  generalize replyAccepted p m q q.pre (gridAt k ph) s = t at *
  generalize requestSettled p m q s = u at *
  obtain ⟨hranged, hnext, hup, hever, hanswered⟩ := hcell
  refine goes_of_eq hexec ⟨hranged, hnext, hup, hever, hanswered, ?_, hcfg⟩
  exact reqOf_none ((congrArg Port.reqs hground :).trans hreqs)

theorem exec_rangeReply_idle {p : Nat} (hp : p < nPorts s) {d : BitVec 32} {pay mar : List Bool} {k ph : Nat}
    (h : ∀ q bs, svcReq s p 0x82 (burstOn d pay mar) = some (q, bs) → replyFits s p 1 q bs (gridAt k ph) = false) :
    exec (.rangeReplyReceived p d pay mar k ph) s = .next s := by
  refine (if_pos (by simp [hp]) : exec (.rangeReplyReceived p d pay mar k ph) s = _).trans (congrArg _ ?_)
  split
  · next q bs hreq => exact if_neg (by simp [h q bs hreq])
  · rfl

/-! ### A request that stays unanswered (R206, R209) -/

theorem exec_requestUnanswered {p m tag : Nat} (hp : p < nPorts s) {q : Req} (hreq : reqOf s p tag = some q) (hkind : q.kind ≤ 2) (hm : q.mooring = m) :
    exec (.requestUnanswered p tag) s = .next (unanswered p m q (dropReq p tag s)) := by
  refine (if_pos (by simp [hp]) : exec (.requestUnanswered p tag) s = _).trans (congrArg _ ?_)
  rw [hreq]
  subst hm
  exact if_pos hkind

/-- A request's silence is counted. -/
def silenceCounted (p m : Nat) (s : State) : State := setMoor (ciOf p m) (fun y => { y with unanswered := (moor s (ciOf p m)).unanswered + 1 }) s

theorem frame_silenceCounted (p m : Nat) (s : State) : Frame [.moors] s (silenceCounted p m s) := frame_setMoor ..

theorem moor_silenceCounted (p m : Nat) (s : State) :
    moor (silenceCounted p m s) (ciOf p m) = { moor s (ciOf p m) with unanswered := (moor s (ciOf p m)).unanswered + 1 } :=
  (moor_setMoor ..).trans (if_pos rfl)

theorem unanswered_few {p m : Nat} (h : (moor s (ciOf p m)).unanswered < 2) (q : Req) :
    ∃ again : Prop, ∃ _ : Decidable again, unanswered p m q s = if again then queueRange p m q.train (silenceCounted p m s) else silenceCounted p m s := by
  unfold unanswered
  extract_lets ci x n t u again
  have hu : u = t := if_neg (by simp [n, x, ci]; omega)
  rw [if_neg (by simp [n, x, ci]; omega), if_neg (by simp [n, x, ci]; omega), hu]
  exact ⟨again, inferInstance, rfl⟩

theorem requestUnanswered_counted {p m tag : Nat} (hp : p < nPorts s) {q : Req} (hreq : reqOf s p tag = some q) (hkind : q.kind ≤ 2)
    (hm : q.mooring = m) (hfew : (moor s (ciOf p m)).unanswered < 2) :
    Goes (.requestUnanswered p tag) s fun t => (moor t (ciOf p m)).unanswered = (moor s (ciOf p m)).unanswered + 1 ∧
      (moor t (ciOf p m)).st = (moor s (ciOf p m)).st ∧ reqOf t p tag = none ∧ { t with ports := s.ports, moors := s.moors } = s := by
  have hexec := exec_requestUnanswered hp hreq hkind hm
  have hdrop := frame_dropReq p tag s
  have hreqs := reqs_dropReq p tag s
  generalize dropReq p tag s = u at *
  have hmoor : moor u (ciOf p m) = moor s (ciOf p m) := hdrop.get (moor · (ciOf p m))
  obtain ⟨again, _, heq⟩ := unanswered_few (hmoor ▸ hfew) q
  have hqueue : Frame [.ports] (silenceCounted p m u) (unanswered p m q u) := by
    rw [heq]
    exact .ite (frame_queueRange ..) .refl
  have hlines : lines (unanswered p m q u) = lines (silenceCounted p m u) := by
    rw [heq]
    exact ite_keeps lines _ (lines_queueSvc ..)
  have hcounted := frame_silenceCounted p m u
  have hcell := moor_silenceCounted p m u
  generalize unanswered p m q u = t at *
  generalize silenceCounted p m u = v at *
  have hall : Frame [.ports, .moors] s t := .after hqueue (.after hcounted hdrop.mono)
  refine goes_of_eq hexec ⟨?_, ?_, ?_, hall.get (fun w => { w with ports := s.ports, moors := s.moors })⟩
  · rw [hqueue.get (moor · (ciOf p m)), hcell, hmoor]
  · rw [hqueue.get (moor · (ciOf p m)), hcell, hmoor]
  · refine reqOf_none ((?_ : (port t p).reqs = (port u p).reqs).trans hreqs)
    exact (congrArg Port.reqs (congrFun hlines p) :).trans (hcounted.get fun w => (port w p).reqs)

theorem unanswered_lost {p m : Nat} (h : 2 ≤ (moor s (ciOf p m)).unanswered) (hserved : served (moor s (ciOf p m)).st = true) (q : Req) :
    unanswered p m q s = lostRanging p m (silenceCounted p m s) :=
  if_pos (by simp [hserved]; omega)

theorem requestUnanswered_lost {p m tag : Nat} (hcalm : Calm s) (hp : p < nPorts s) {q : Req} (hreq : reqOf s p tag = some q) (hkind : q.kind ≤ 2)
    (hm : q.mooring = m) (hthird : 2 ≤ (moor s (ciOf p m)).unanswered) (hst : (moor s (ciOf p m)).st = .ranged ∨ (moor s (ciOf p m)).st = .serving)
    (hporst : s.dev.porstN = true) (hrail : s.dev.railHold = false) :
    Goes (.requestUnanswered p tag) s fun t => (moor t (ciOf p m)).st = .admitted ∧ Latched t 270 := by
  have hexec := exec_requestUnanswered hp hreq hkind hm
  have hdrop := frame_dropReq p tag s
  generalize dropReq p tag s = u at *
  have hmoor : moor u (ciOf p m) = moor s (ciOf p m) := hdrop.get (moor · (ciOf p m))
  have hserved : served (moor u (ciOf p m)).st = true := by
    rw [hmoor]
    rcases hst with h | h <;> rw [h] <;> rfl
  rw [unanswered_lost (hmoor ▸ hthird) hserved] at hexec
  have hcounted : Frame [.ports, .moors] s (silenceCounted p m u) := .after (frame_silenceCounted ..) hdrop.mono
  exact goes_of_eq hexec ⟨st_lostRanging (hcounted.calm hcalm) p m, latched_lostRanging ((hcounted.get (·.dev.porstN)).trans hporst)
    ((hcounted.get (·.dev.railHold)).trans hrail) p m⟩

theorem unanswered_gone {p m : Nat} (h : 2 ≤ (moor s (ciOf p m)).unanswered) (hst : (moor s (ciOf p m)).st = .admitted)
    (hnever : (moor s (ciOf p m)).everRanged = false) (q : Req) : unanswered p m q s = moorGo p m .vacant (silenceCounted p m s) := by
  unfold unanswered
  extract_lets ci x n t
  rw [if_neg (by simp [x, ci, hst, served]), if_pos (by simp [n, x, ci, hst, hnever]; omega)]
  rfl

theorem requestUnanswered_gone {p m tag : Nat} (hp : p < nPorts s) {q : Req} (hreq : reqOf s p tag = some q) (hkind : q.kind ≤ 2)
    (hm : q.mooring = m) (hthird : 2 ≤ (moor s (ciOf p m)).unanswered) (hst : (moor s (ciOf p m)).st = .admitted)
    (hnever : (moor s (ciOf p m)).everRanged = false) :
    Goes (.requestUnanswered p tag) s fun t => (moor t (ciOf p m)).st = .vacant ∧ { t with ports := s.ports, moors := s.moors } = s := by
  have hexec := exec_requestUnanswered hp hreq hkind hm
  have hdrop := frame_dropReq p tag s
  generalize dropReq p tag s = u at *
  have hmoor : moor u (ciOf p m) = moor s (ciOf p m) := hdrop.get (moor · (ciOf p m))
  rw [unanswered_gone (hmoor ▸ hthird) (hmoor ▸ hst) (hmoor ▸ hnever)] at hexec
  have hcounted := frame_silenceCounted p m u
  have hcell : (moor (silenceCounted p m u) (ciOf p m)).st = .admitted := by rw [moor_silenceCounted, hmoor, hst]
  generalize silenceCounted p m u = v at *
  have hgone : Frame [.moors] v (moorGo p m .vacant v) := by
    rw [moor_moorGo_unserved (by rw [hcell]; rfl) (by rw [hcell]; decide)]
    exact frame_setMoor ..
  have hall : Frame [.ports, .moors] s (moorGo p m .vacant v) := .after hgone (.after hcounted hdrop.mono)
  exact goes_of_eq hexec ⟨st_moorGo .., hall.get (fun w => { w with ports := s.ports, moors := s.moors })⟩

theorem exec_requestUnanswered_idle {p tag : Nat} (hp : p < nPorts s) (h : reqOf s p tag = none) : exec (.requestUnanswered p tag) s = .next s := by
  refine (if_pos (by simp [hp]) : exec (.requestUnanswered p tag) s = _).trans (congrArg _ ?_)
  rw [h]

/-! ### Rangings and readmissions that fall due (R209, R210) -/

theorem mem_svc_queueRange (p m : Nat) (train : Bool) (s : State) : ∃ y ∈ (port (queueRange p m train s) p).svc, y.type = 0x03 ∧ y.mooring = m :=
  ⟨_, mem_svc_queueSvc .., rfl, rfl⟩

theorem rangeRefresh_queued {p m : Nat} (hp : p < nPorts s) (hm : m < 256) (hnamed : moorNamed s p m = true) (hst : (moor s (ciOf p m)).st = .serving)
    (hrole : follower s = false) :
    Goes (.rangeRefreshDue p m) s fun t => (∃ y ∈ (port t p).svc, y.type = 0x03 ∧ y.mooring = m) ∧ { t with ports := s.ports } = s :=
  ⟨queueRange p m false s, (if_pos (by simp [hp, hm])).trans (congrArg _ (if_pos (by simp [hnamed, hst, hrole]))), mem_svc_queueRange .., rfl⟩

theorem exec_rangeRefresh_idle {p m : Nat} (hp : p < nPorts s) (hm : m < 256) (hst : (moor s (ciOf p m)).st ≠ .serving) :
    exec (.rangeRefreshDue p m) s = .next s :=
  (if_pos (by simp [hp, hm])).trans (congrArg _ (if_neg (by simp [hst])))

theorem readmission_queued {p m : Nat} (hp : p < nPorts s) (hm : m < 256) (hnamed : moorNamed s p m = true) (hst : (moor s (ciOf p m)).st = .admitted)
    (hever : (moor s (ciOf p m)).everRanged = true) (hrole : follower s = false) :
    Goes (.readmissionDue p m) s fun t => (∃ y ∈ (port t p).svc, y.type = 0x02 ∧ y.mooring = m ∧ y.frames = 8) ∧
      (∃ y ∈ (port t p).svc, y.type = 0x03 ∧ y.mooring = m) ∧ { t with ports := s.ports } = s := by
  refine ⟨queueRange p m true (queueAdmit p m s), (if_pos (by simp [hp, hm])).trans (congrArg _ (if_pos (by simp [hnamed, hst, hever, hrole]))), ?_,
    mem_svc_queueRange .., rfl⟩
  have hadmit : ∃ y ∈ (port (queueAdmit p m s) p).svc, y.type = 0x02 ∧ y.mooring = m ∧ y.frames = 8 := ⟨_, mem_svc_queueSvc .., rfl, rfl, rfl⟩
  generalize queueAdmit p m s = u at *
  obtain ⟨y, hy, htype, hmooring, hframes⟩ := hadmit
  refine ⟨y, ?_, htype, hmooring, hframes⟩
  unfold queueRange
  extract_lets old flags
  rw [svc_queueSvc, List.mem_append, List.mem_filter]
  exact .inl ⟨hy, by simp [htype]⟩

theorem exec_readmission_idle {p m : Nat} (hp : p < nPorts s) (hm : m < 256) (hst : (moor s (ciOf p m)).st ≠ .admitted) :
    exec (.readmissionDue p m) s = .next s :=
  (if_pos (by simp [hp, hm])).trans (congrArg _ (if_neg (by simp [hst])))

/-! ### Service data (R225, R228) -/

theorem exec_svcData_idle {p : Nat} (hp : p < nPorts s) {d : BitVec 32} {pay mar : List Bool} {t k ph : Nat}
    (h : ∀ bs, svcIn (burstOn d pay mar) = some bs → svcField bs 0 0 ≠ 0x84) :
    exec (.svcDataReceived p d pay mar t k ph) s = .next (advanceTo t s) := by
  have hports : nPorts (advanceTo t s) = nPorts s := (frame_advanceTo s t).get nPorts
  refine (if_pos (by simp [hports, hp]) : exec (.svcDataReceived p d pay mar t k ph) s = _).trans (congrArg _ ?_)
  generalize advanceTo t s = a
  split
  · split
    · next bs hbs => exact if_neg (by simp [h bs hbs])
    · rfl
  · have hnone : svcReq a p 0x84 (burstOn d pay mar) = none := by
      unfold svcReq
      split
      · next bs hbs => exact if_neg (h bs hbs)
      · rfl
    rw [hnone]

theorem svcData_follower {p m : Nat} (hcalm : Calm s) (hp : p < nPorts s) {d : BitVec 32} {pay mar : List Bool} {bs : List Byte} {t k ph : Nat}
    (hrole : follower s = true) (hin : svcIn (burstOn d pay mar) = some bs) (htype : svcField bs 0 0 = 0x84) (hm : svcField bs 2 2 = m)
    (hnamed : moorNamed s p m = true) (hpage : svcField bs 4 5 < 10) (hsome : ∃ v ∈ pageVals bs, v ≠ -2147483648)
    (hdue : ∀ i, i < 6 → WriteDue s (pagePoint (ciOf p m) (svcField bs 4 5) i) (advanceTo t s).cyc.n (tickPhase (advanceTo t s))) :
    Goes (.svcDataReceived p d pay mar t k ph) s fun u => (∀ i v, (pageVals bs)[i]? = some v →
      (pointAt u (pagePoint (ciOf p m) (svcField bs 4 5) i)).val = intWord v ∧
      (pointAt u (pagePoint (ciOf p m) (svcField bs 4 5) i)).valid = true) ∧ u.moors = s.moors ∧ u.cfg = s.cfg := by
  have hadvance := frame_advanceTo s t
  have hports : nPorts (advanceTo t s) = nPorts s := hadvance.get nPorts
  have hnamed' : moorNamed (advanceTo t s) p m = true := (hadvance.get (moorNamed · p m)).trans hnamed
  have hexec : exec (.svcDataReceived p d pay mar t k ph) s =
      .next (writePage (ciOf p m) (svcField bs 4 5) (pageVals bs) (advanceTo t s)) := by
    refine (if_pos (by simp [hports, hp]) : exec (.svcDataReceived p d pay mar t k ph) s = _).trans (congrArg _ ?_)
    rw [if_pos ((hadvance.get follower).trans hrole), hin]
    subst hm
    exact if_pos (by simp [htype, hnamed', hpage])
  obtain ⟨hframe, hvals⟩ := writePage_written (hadvance.calm hcalm) (ciOf p m) (svcField bs 4 5) hsome fun i hi => by
    rw [WriteDue, hadvance.get pointAt]
    exact hdue i hi
  refine goes_of_eq hexec ⟨hvals, ?_, ?_⟩
  · rw [hframe.get State.moors, hadvance.get State.moors]
  · rw [hframe.get State.cfg, hadvance.get State.cfg]

/-! ### Training bursts (R177) -/

theorem moor_setPreset (hcalm : Calm s) (ci : Nat) (x : Preset) (c : Nat) :
    moor (setPreset ci x s) c = if ci = c then { moor s ci with preset := x } else moor s c := by
  unfold setPreset
  split
  · next h =>
    split
    · next hc => rw [← hc, ← h]
    · rfl
  · have hset := frame_setMoor ci (fun y => { y with preset := x }) s
    exact ((frame_ptWrite (hset.calm hcalm) ..).get (moor · c)).trans (moor_setMoor ..)

theorem trainingBurst_learned {p m : Nat} (hcalm : Calm s) (hp : p < nPorts s) (hm : m < 256) (hnamed : moorNamed s p m = true)
    (hlocked : (port s p).locked = true) (b : BurstMeas) :
    Goes (.trainingBurstAccepted p m b) s fun t => (moor t (ciOf p m)).preset = presetLearn (port s p).gen b ∧
      (moor t (ciOf p m)).serial = (moor s (ciOf p m)).serial ∧ t.cfg = s.cfg := by
  have hexec : exec (.trainingBurstAccepted p m b) s = .next (judgeReady (judgePort p (setPreset (ciOf p m) (presetLearn (port s p).gen b) s))) :=
    (if_pos (by simp [hp, hm]) : exec (.trainingBurstAccepted p m b) s = _).trans (congrArg _ (if_neg (by simp [hnamed, hlocked])))
  have hset := frame_setPreset hcalm (ciOf p m) (presetLearn (port s p).gen b)
  have hmoor := moor_setPreset hcalm (ciOf p m) (presetLearn (port s p).gen b) (ciOf p m)
  rw [if_pos rfl] at hmoor
  generalize setPreset (ciOf p m) (presetLearn (port s p).gen b) s = u at *
  have hucalm := hset.calm hcalm
  have hjudged := frame_judgePort hucalm p
  have hcells := congrFun (cells_judgePort hucalm p) (ciOf p m)
  generalize judgePort p u = v at *
  have hready := frame_judgeReady (hjudged.calm hucalm)
  refine goes_of_eq hexec ⟨?_, ?_, ?_⟩
  · rw [hready.get (moor · (ciOf p m))]
    exact (congrArg Moor.preset hcells :).trans (congrArg Moor.preset hmoor :)
  · rw [hready.get (moor · (ciOf p m))]
    exact (congrArg Moor.serial hcells :).trans (congrArg Moor.serial hmoor :)
  · rw [hready.get State.cfg, hjudged.get State.cfg, hset.get State.cfg]

theorem exec_trainingBurst_idle {p m : Nat} (hp : p < nPorts s) (hm : m < 256) (hnamed : moorNamed s p m = false) (b : BurstMeas) :
    exec (.trainingBurstAccepted p m b) s = .next s :=
  (if_pos (by simp [hp, hm])).trans (congrArg _ (if_pos (by simp [hnamed])))

/-! ### The obligation -/

/-- Discovery and admission on a port (R206, R207). -/
theorem discovery (hcalm : Calm s) {p : Nat} (hp : p < nPorts s) (b : Burst) (e m : Nat) (q : Req) (bs : List Byte)
    (hanswers : DiscAnswers s p b e q bs)
    (hm : (portOrder s p).find? (fun m => locationOf s (ciOf p m) = (discOf bs).location.toNat) = some m) : let r := discOf bs
     ((moor s (ciOf p m)).st = .vacant → (basinGen s p).code ≤ r.genMax → r.cellType = some (cellType s (ciOf p m)) →
       Goes (.discReplyReceived p b e) s fun t => (moor t (ciOf p m)).st = .admitted ∧ (moor t (ciOf p m)).serial = r.serial ∧
         (moor t (ciOf p m)).cellRx = r.cellRx ∧ (moor t (ciOf p m)).cellTx = r.cellTx ∧ (∀ c, c ≠ ciOf p m → moor t c = moor s c) ∧
         t.cfg = s.cfg ∧ t.obs = s.obs) ∧
     ((moor s (ciOf p m)).st = .vacant → (r.genMax < (basinGen s p).code ∨ r.cellType ≠ some (cellType s (ciOf p m))) → s.dev.porstN = true →
       s.dev.railHold = false →
       Goes (.discReplyReceived p b e) s fun t => (moor t (ciOf p m)).st = .refused ∧ (r.genMax < (basinGen s p).code → Latched t 271) ∧
         (r.cellType ≠ some (cellType s (ciOf p m)) → Latched t 272) ∧ ∀ c, c ≠ ciOf p m → moor t c = moor s c) ∧
     ((moor s (ciOf p m)).st ≠ .vacant → (moor s (ciOf p m)).serial ≠ r.serial → s.dev.porstN = true → s.dev.railHold = false →
       Goes (.discReplyReceived p b e) s fun t => Latched t 275 ∧ t.moors = s.moors) ∧
     (((moor s (ciOf p m)).st = .ranged ∨ (moor s (ciOf p m)).st = .serving) → (moor s (ciOf p m)).serial = r.serial → s.dev.porstN = true →
       s.dev.railHold = false → Goes (.discReplyReceived p b e) s fun t => Latched t 270 ∧ (moor t (ciOf p m)).st = .admitted) ∧
     (((moor s (ciOf p m)).st = .admitted ∨ (moor s (ciOf p m)).st = .refused) → (moor s (ciOf p m)).serial = r.serial →
       exec (.discReplyReceived p b e) s = .next s) := by
  have hexec := exec_discReply_known hp hanswers hm
  refine ⟨fun hst hgen htype => goes_of_eq hexec (discKnown_admitted hcalm hst hgen htype q e),
    fun hst hbad hporst hrail => goes_of_eq hexec (discKnown_refused hcalm hst hbad hporst hrail q e), fun hst hserial hporst hrail => ?_,
    fun hst hserial hporst hrail => ?_, fun hst hserial => ?_⟩
  · rw [discKnown_other hst hserial] at hexec
    exact goes_of_eq hexec ⟨latched_discovery (by decide) hporst hrail _, (frame_raise_plain hcalm (by decide) _).get State.moors⟩
  · have hserved : served (moor s (ciOf p m)).st = true ∧ (moor s (ciOf p m)).st ≠ .vacant := by
      rcases hst with h | h <;> rw [h] <;> exact ⟨rfl, by decide⟩
    rw [discKnown_again hserved.2 hserial, if_pos hserved.1] at hexec
    exact goes_of_eq hexec ⟨latched_lostRanging hporst hrail p m, st_lostRanging hcalm p m⟩
  · have hserved : served (moor s (ciOf p m)).st = false ∧ (moor s (ciOf p m)).st ≠ .vacant := by
      rcases hst with h | h <;> rw [h] <;> exact ⟨rfl, by decide⟩
    rw [hexec, discKnown_again hserved.2 hserial, if_neg (by simp [hserved.1])]

theorem discovery_unnamed (hcalm : Calm s) {p e : Nat} (hp : p < nPorts s) {b : Burst} {q : Req} {bs : List Byte} (hanswers : DiscAnswers s p b e q bs)
    (hm : (portOrder s p).find? (fun m => locationOf s (ciOf p m) = (discOf bs).location.toNat) = none) (hporst : s.dev.porstN = true)
    (hrail : s.dev.railHold = false) : Goes (.discReplyReceived p b e) s fun t => Latched t 274 ∧ t.moors = s.moors := by
  have hexec := exec_discReply hp hanswers
  rw [hm] at hexec
  exact goes_of_eq hexec ⟨latched_discovery (by decide) hporst hrail _, (frame_raise_plain hcalm (by decide) _).get State.moors⟩

/-- Settles O21: discovery and admission, then the answers, the silence and the training of moorings. -/
theorem admissionAndRanging : Obligations.AdmissionAndRanging := by
  unfold Obligations.AdmissionAndRanging
  refine ⟨fun s hcalm p hp => ⟨?_, ?_, fun b e h => exec_discReply_idle hp h, discoverDue_queued hp, exec_discoverDue_idle hp⟩,
    fun s hcalm p m hp hm => ⟨?_, ?_, ?_, ?_, ?_, ?_, ?_, ?_, ?_, ?_, ?_, ?_, ?_, ?_⟩⟩
  · exact fun b e m q bs hreq hkind hlocked hwindow hfind => discovery hcalm hp b e m q bs ⟨hreq, hkind, hlocked, hwindow⟩ hfind
  · exact fun b e q bs hreq hkind hlocked hwindow hfind hporst hrail => discovery_unnamed hcalm hp ⟨hreq, hkind, hlocked, hwindow⟩ hfind hporst hrail
  · exact fun d pay mar k ph q bs hreq hmooring hfits hframe htrain hst hdown hage =>
      rangeReply_ranged hcalm hp hreq hmooring hfits hframe htrain hst hdown hage
  · exact fun d pay mar k ph h => exec_rangeReply_idle hp h
  · exact fun tag q hreq hkind hmooring hfew => requestUnanswered_counted hp hreq hkind hmooring hfew
  · exact fun tag q hreq hkind hmooring hthird hst hporst hrail => requestUnanswered_lost hcalm hp hreq hkind hmooring hthird hst hporst hrail
  · exact fun tag q hreq hkind hmooring hthird hst hnever => requestUnanswered_gone hp hreq hkind hmooring hthird hst hnever
  · exact fun tag h => exec_requestUnanswered_idle hp h
  · exact rangeRefresh_queued hp hm
  · exact exec_rangeRefresh_idle hp hm
  · exact readmission_queued hp hm
  · exact exec_readmission_idle hp hm
  · exact fun d pay mar bs t k ph hrole hin htype hmooring hnamed hpage hsome hdue =>
      svcData_follower hcalm hp hrole hin htype hmooring hnamed hpage hsome hdue
  · exact fun d pay mar t k ph h => exec_svcData_idle hp h
  · exact fun b hnamed hlocked => trainingBurst_learned hcalm hp hm hnamed hlocked b
  · exact fun b hnamed => exec_trainingBurst_idle hp hm hnamed b

end Sys2Proof.Proofs
end

section
/-! Rate steps, losses and relocks of a basin port: the rules of what they touch (R163, R180, R184, R206). -/

set_option Elab.async false

namespace Sys2Proof.Proofs
open Sys2Proof Sys2Proof.Machine Sys2Proof.Laws

variable {s : State}

/-! ### What a relock leaves of the ports (R180, R375) -/

/-- A port but for what a relock changes of it. -/
def baseOf (x : Port) : Port := { x with lane := .dark, relockFrom := .dark, locked := false, squelch := false }

/-- The bases of all ports. -/
def bases (s : State) (p : Nat) : Port := baseOf (port s p)

theorem port_portRelock (q : Nat) (s : State) (p : Nat) : port (portRelock q s) p =
    if q = p ∧ (port s q).lane ≠ .dark ∧ (port s q).lane ≠ .relock then
      { port s q with lane := .relock, relockFrom := (port s q).lane, locked := false, squelch := true }
    else port s p := by
  unfold portRelock
  extract_lets x
  by_cases hx : x.lane = .dark ∨ x.lane = .relock
  · rw [if_pos hx, if_neg]
    rintro ⟨-, hd, hr⟩
    exact hx.elim hd hr
  · have hlane : (port s q).lane ≠ .dark ∧ (port s q).lane ≠ .relock := not_or.mp hx
    rw [if_neg hx, (frame_portChange ..).get (port · p)]
    by_cases hp : q = p
    · rw [if_pos ⟨hp, hlane⟩]
      simp only [port, get_set, if_pos hp]
      rfl
    · rw [if_neg fun h => hp h.1]
      simp only [port, get_set, if_neg hp]

theorem bases_portRelock (q : Nat) (s : State) : bases (portRelock q s) = bases s := by
  funext p
  rw [bases, port_portRelock]
  split
  · next h => rw [← h.1]; rfl
  · rfl

/-- A relocking port is not touched by a further relock. -/
theorem port_portRelock_relocking {p : Nat} (q : Nat) (h : (port s p).lane = .relock) : port (portRelock q s) p = port s p := by
  rw [port_portRelock]
  refine if_neg ?_
  rintro ⟨hq, -, hlane⟩
  exact hlane (hq ▸ h)

/-- What every block reset but a basin port's leaves, and what a relock leaves, is kept by an assertion. -/
theorem resetProof_ports {src : Nat} {P : State → Prop} (hframe : ∀ s t : State, port t = port s → P s → P t) (hrelock : ∀ s q, P s → P (portRelock q s)) :
    ResetProof src P where
  frame h hP := hframe _ _ (h.get port) hP
  reset := by
    intro s d _ hP
    cases d with
    | basinPort q =>
      rw [blockReset]
      exact hrelock _ q (hframe s _ rfl hP)
    | stationPort q =>
      refine hframe s _ ?_ hP
      rw [blockReset, (frame_linkDown ..).get port]
    | pulseChannel c => exact hframe s _ rfl hP
    | fabric => exact hframe s _ ((frame_fabricReset s).get port) hP

theorem bases_raise (hcalm : Calm s) {src : Nat} (hsrc : src ∉ [4, 7, 353, 357]) (d : List Byte) : bases (raise src d s) = bases s :=
  (resetProof_ports (src := src) (P := fun t => bases t = bases s) (fun _ _ h hP => (funext fun p => congrArg baseOf (congrFun h p)).trans hP)
    fun _ q hP => (bases_portRelock q _).trans hP).raise (fun _ hf => appliedLevel_ne_five hcalm hsrc hf) d rfl

/-- A relocking port stays as it is at an assertion. -/
theorem port_raise_relocking (hcalm : Calm s) {src p : Nat} (hsrc : src ∉ [4, 7, 353, 357]) (d : List Byte) (h : (port s p).lane = .relock) :
    port (raise src d s) p = port s p :=
  (resetProof_ports (src := src) (P := fun t => port t p = port s p) (fun _ _ ht hP => (congrFun ht p).trans hP) fun _ q hP =>
    (port_portRelock_relocking q (hP ▸ h)).trans hP).raise (fun _ hf => appliedLevel_ne_five hcalm hsrc hf) d rfl

/-! ### The sources of a basin port -/

theorem basinSource {k p : Nat} (hk : k = 64 ∨ k = 96 ∨ k = 128) (hp : p < 32) : k + p ∉ [4, 7, 353, 357] := by
  simp only [List.mem_cons, List.not_mem_nil, or_false]
  omega

theorem nPorts_le (s : State) : nPorts s ≤ 32 := by
  unfold nPorts
  split <;> omega

/-- The source of a port that the variant has is recorded where it was not asserted (R370). -/
theorem latched_basin {k p : Nat} (hk : k = 64 ∨ k = 96) (hp : p < nPorts s) (hporst : s.dev.porstN = true) (hrail : s.dev.railHold = false)
    (hx : (rec? s (k + p)).active = false) (d : List Byte) : Latched (raise (k + p) d s) (k + p) := by
  have hinfo : ∃ f, faultInfo (k + p) = some f := by
    have hle := nPorts_le s
    have h32 : ∀ q < 32, (faultInfo (64 + q)).isSome = true ∧ (faultInfo (96 + q)).isSome = true := by decide
    obtain ⟨h64, h96⟩ := h32 p (by omega)
    rcases hk with rfl | rfl
    · exact Option.isSome_iff_exists.mp h64
    · exact Option.isSome_iff_exists.mp h96
  obtain ⟨f, hf⟩ := hinfo
  refine raise_latches d s hf ?_ hporst hrail hx
  unfold nPorts at hp
  unfold faultAbsent inRow
  cases hv : s.dev.variant with
  | sv8x32 => rfl
  | sv8x16 =>
    have hp16 : p < 16 := by simpa only [hv] using hp
    simp only [beq_self_eq_true, Bool.true_and, Bool.or_eq_false_iff, Bool.and_eq_false_iff, decide_eq_false_iff_not, not_le, not_lt]
    omega

/-! ### Lights (R180, R188) -/

/-- A port but for its squelch. -/
def unlit (x : Port) : Port := { x with squelch := false }

theorem unlit_relight (s : State) (p : Nat) : unlit (port (relight s) p) = unlit (port s p) := by
  unfold relight port SMap.get
  rw [find_mapVals]
  cases s.ports.find p <;> rfl

/-! ### A step that fails (R184) -/

/-- An attempt at the step is counted. -/
def attemptCounted (p : Nat) (s : State) : State := setPort p (fun x => { x with attempts := (port s p).attempts + 1 }) s

theorem stepFailed_eq (p : Nat) (s : State) : stepFailed p s =
    if (port s p).attempts + 1 = parN (attemptCounted p s) 2 p 8 then raise (128 + p) (be 1 p) (attemptCounted p s) else attemptCounted p s := rfl

theorem frame_attemptCounted (p : Nat) (s : State) : Frame [.ports] s (attemptCounted p s) := frame_setPort ..

theorem frame_stepFailed (hcalm : Calm s) {p : Nat} (hp : p < 32) : Frame reactParts s (stepFailed p s) := by
  have hcount := frame_attemptCounted p s
  rw [stepFailed_eq]
  exact .ite (.after (frame_raise_any (hcount.calm hcalm) (basinSource (by decide) hp) _) hcount.mono) hcount.mono

theorem bases_stepFailed (hcalm : Calm s) {p : Nat} (hp : p < 32) :
    bases (stepFailed p s) p = { bases s p with attempts := (bases s p).attempts + 1 } := by
  have hcount : bases (attemptCounted p s) p = { bases s p with attempts := (bases s p).attempts + 1 } := by
    unfold attemptCounted
    rw [bases, port_setPort, if_pos rfl]
    rfl
  have hcalm' := (frame_attemptCounted p s).calm hcalm
  rw [stepFailed_eq]
  exact (ite_keeps (bases · p) _ (congrFun (bases_raise hcalm' (basinSource (by decide) hp) _) p)).trans hcount

/-! ### Moorings that are released (R206) -/

theorem moor_vacate_other {p m c : Nat} (hc : c ≠ ciOf p m) (s : State) : moor (vacate p m s) c = moor s c := by
  unfold vacate
  extract_lets x drop gone left
  have hleft : moor left c = moor s c := by
    unfold left
    rw [moor_setMoor, if_neg (Ne.symm hc), (frame_setPort ..).get (moor · c), moor_moorGo_other _ _ _ _ hc]
  exact (ite_keeps (moor · c) _ ((frame_queueSvc ..).get (moor · c))).trans hleft

theorem st_vacate (p m : Nat) (s : State) : (moor (vacate p m s) (ciOf p m)).st = .vacant := by
  unfold vacate
  extract_lets x drop gone left
  have hleft : (moor left (ciOf p m)).st = .vacant := by
    unfold left
    rw [moor_setMoor, if_pos rfl, (frame_setPort ..).get (moor · (ciOf p m))]
    exact st_moorGo ..
  exact (ite_keeps (fun u => (moor u (ciOf p m)).st) _ ((frame_queueSvc ..).get fun u => (moor u (ciOf p m)).st)).trans hleft

theorem ciOf_inj {p a b : Nat} (h : ciOf p a = ciOf p b) : a = b := by
  unfold ciOf at h
  omega

/-- Released moorings are vacant, and one that was stays so. -/
theorem st_foldl_vacate (p : Nat) (ms : List Nat) (s : State) (m : Nat) (h : m ∈ ms ∨ (moor s (ciOf p m)).st = .vacant) :
    (moor (ms.foldl (fun s m => vacate p m s) s) (ciOf p m)).st = .vacant := by
  induction ms generalizing s with
  | nil => exact h.resolve_left (by simp)
  | cons k ks ih =>
    rw [List.foldl_cons]
    by_cases hk : m = k
    · subst hk
      exact ih _ (.inr (st_vacate ..))
    · refine ih _ (h.imp (fun hm => (List.mem_cons.mp hm).resolve_left hk) fun hst => ?_)
      rwa [moor_vacate_other fun hci => hk (ciOf_inj hci)]

/-! ### Moorings that fall back -/

theorem port_moorGo_other {p k : Nat} (hk : k ≠ p) (m : Nat) (st : MoorState) (s : State) : port (moorGo p m st s) k = port s k := by
  have hlost : port (rangeCmdLost p m s) k = port s k := by
    unfold rangeCmdLost
    split
    · refine ite_keeps (port · k) _ ?_
      rw [(frame_rangeDone ..).get (port · k), port_setPort, if_neg (Ne.symm hk)]
    · rfl
  unfold moorGo
  extract_lets x lost
  have hlost' : port lost k = port s k := ite_keeps (port · k) _ hlost
  split
  · rfl
  · exact ((frame_setMoor ..).get (port · k)).trans hlost'

end Sys2Proof.Proofs
end

section
/-! The rate step of a basin lane (R184, R197, R206). -/

set_option Elab.async false

namespace Sys2Proof.Proofs
open Sys2Proof Sys2Proof.Machine Sys2Proof.Laws

variable {s : State}

/-! ### An acknowledgement (R184, R197) -/

/-- A mooring's acknowledgement is noted. -/
def acknowledged (p m : Nat) (s : State) : State := setPort p (fun y => { y with acked := y.acked ++ [m] }) s

theorem stepAck_noted {p : Nat} (hcalm : Calm s) (hp : p < nPorts s) {d : BitVec 32} {pay mar : List Bool} {k ph : Nat} {q : Req} {bs : List Byte}
    (hreq : svcReq s p 0x83 (burstOn d pay mar) = some (q, bs)) (hkind : q.kind = 3) (hasked : svcField bs 2 2 ∈ q.asked)
    (hlane : (port s p).lane = .negotiate) (hnew : svcField bs 2 2 ∉ (port s p).acked) (hgen : svcField bs 4 4 = (basinGen s p).code)
    (hcycle : svcField bs 5 8 = (port s p).stepCycle.toNat % 2 ^ 32)
    (hwindow : inWindow s p q (preBits (port s p).gen (!presetGood (moor s (ciOf p (svcField bs 2 2))).preset)) (gridAt k ph) = true) :
    Goes (.stepAckReceived p d pay mar k ph) s fun t =>
      (port t p).acked = (port s p).acked ++ [svcField bs 2 2] ∧ (port t p).lane = .negotiate ∧ t.cfg = s.cfg := by
  have hexec : exec (.stepAckReceived p d pay mar k ph) s = .next (replyAccepted p (svcField bs 2 2) q
      (preBits (port s p).gen (!presetGood (moor s (ciOf p (svcField bs 2 2))).preset))
      (gridAt k ph - (svcField bs 2 2 - q.asked.headD 0 / 8 * 8) * burstBits (port s p).gen false * 64) (acknowledged p (svcField bs 2 2) s)) := by
    refine (if_pos (by simp [hp]) : exec (.stepAckReceived p d pay mar k ph) s = _).trans (congrArg _ ?_)
    rw [hreq]
    exact if_pos (by simp [hkind, hasked, hlane, hnew, hgen, hcycle, hwindow])
  generalize gridAt k ph - (svcField bs 2 2 - q.asked.headD 0 / 8 * 8) * burstBits (port s p).gen false * 64 = e at hexec
  generalize preBits (port s p).gen (!presetGood (moor s (ciOf p (svcField bs 2 2))).preset) = pre at hexec
  generalize svcField bs 2 2 = m at *
  have hnoted : Frame [.ports] s (acknowledged p m s) := frame_setPort ..
  have hport : port (acknowledged p m s) p = { port s p with acked := (port s p).acked ++ [m] } := (port_setPort ..).trans (if_pos rfl)
  generalize acknowledged p m s = u at *
  have hucalm := hnoted.calm hcalm
  have hsettled : lines (requestSettled p m q u) = lines u := by
    unfold requestSettled
    rw [if_pos hkind]
    exact (frame_setMoor ..).get lines
  have htaken := congrFun ((lines_replyTaken hucalm p m q pre e).trans hsettled) p
  have hframe := frame_replyAccepted hucalm p m q pre e
  have hlines := congrFun (replyAccepted_get hucalm p m q pre e lines) p
  generalize replyTaken p m q pre e u = v at *
  have hstay : (port v p).lane = .negotiate := (congrArg Port.lane htaken :).trans ((congrArg Port.lane hport :).trans hlane)
  rw [judgePort_of_lane (by rw [hstay]; decide) (by rw [hstay]; decide)] at hlines
  have hall := hlines.trans htaken
  generalize replyAccepted p m q pre e u = t at *
  refine goes_of_eq hexec ⟨?_, ?_, ?_⟩
  · exact (congrArg Port.acked hall :).trans (congrArg Port.acked hport :)
  · exact (congrArg Port.lane hall :).trans ((congrArg Port.lane hport :).trans hlane)
  · exact (hframe.get State.cfg).trans (hnoted.get State.cfg)

theorem exec_stepAck_idle {p : Nat} (hp : p < nPorts s) {d : BitVec 32} {pay mar : List Bool} {k ph : Nat}
    (h : (port s p).lane ≠ .negotiate ∨ svcReq s p 0x83 (burstOn d pay mar) = none) : exec (.stepAckReceived p d pay mar k ph) s = .next s := by
  refine (if_pos (by simp [hp]) : exec (.stepAckReceived p d pay mar k ph) s = _).trans (congrArg _ ?_)
  rcases h with h | h
  · split
    · exact if_neg (by simp [h])
    · rfl
  · rw [h]

/-! ### The deadline of the acknowledgements (R184) -/

/-- STEP_CANCEL of an announced step. -/
def stepCancel (s : State) (p : Nat) : SvcMsg :=
  { type := 0x06, flags := 1, payload := be 1 0 ++ be 4 ((port s p).stepCycle.toNat % 2 ^ 32), frames := 9, til := some (port s p).stepCycle }

/-- The step is cancelled, and the next one held. -/
def stepCancelled (p : Nat) (s : State) : State :=
  setPort p (fun x => { x with svc := stepCancel s p :: x.svc, holdUntil := some (s.cyc.n + 1000), acked := [] }) s

theorem stepAckDeadline_cancelled {p : Nat} (hcalm : Calm s) (hp : p < nPorts s) (hlane : (port s p).lane = .negotiate) (hrole : follower s = false)
    (hreq : (unacked s p).any (fun m => required s (ciOf p m)) = true) :
    Goes (.stepAckDeadline p) s fun t => (port t p).lane = .acquire ∧ (port t p).holdUntil = some (s.cyc.n + 1000) ∧
      (port t p).attempts = (port s p).attempts + 1 ∧ (port t p).acked = [] ∧
      (∃ y ∈ (port t p).svc, y.type = 0x06 ∧ y.til = some (port s p).stepCycle) ∧ t.moors = s.moors := by
  have hexec : exec (.stepAckDeadline p) s = .next (laneGo p .acquire (stepFailed p (stepCancelled p s))) := by
    refine (if_pos (by simp [hp]) : exec (.stepAckDeadline p) s = _).trans (congrArg _ ?_)
    rw [if_neg (by simp [hlane, hrole])]
    exact if_pos hreq
  have hp32 : p < 32 := Nat.lt_of_lt_of_le hp (nPorts_le s)
  have hcancel : Frame [.ports] s (stepCancelled p s) := frame_setPort ..
  have hport : port (stepCancelled p s) p =
      { port s p with svc := stepCancel s p :: (port s p).svc, holdUntil := some (s.cyc.n + 1000), acked := [] } := (port_setPort ..).trans (if_pos rfl)
  generalize stepCancelled p s = u at *
  have hbase := bases_stepFailed (hcancel.calm hcalm) hp32
  have hfail := frame_stepFailed (hcancel.calm hcalm) hp32
  rw [bases, bases, hport] at hbase
  generalize stepFailed p u = v at *
  have hgo := port_laneGo p .acquire v
  have hframe := frame_laneGo p .acquire v
  generalize laneGo p .acquire v = t at *
  refine goes_of_eq hexec ⟨?_, ?_, ?_, ?_, ⟨stepCancel s p, ?_, rfl, rfl⟩, ?_⟩
  · rw [hgo]
  · rw [hgo]
    exact (congrArg Port.holdUntil hbase :)
  · rw [hgo]
    exact (congrArg Port.attempts hbase :)
  · rw [hgo]
    exact (congrArg Port.acked hbase :)
  · have hsvc : (port v p).svc = stepCancel s p :: (port s p).svc := (congrArg Port.svc hbase :)
    rw [hgo, hsvc]
    exact List.mem_cons_self
  · rw [hframe.get State.moors, hfail.get State.moors, hcancel.get State.moors]

theorem lines_foldl_vacate (p : Nat) (ms : List Nat) (s : State) : lines (ms.foldl (fun s m => vacate p m s) s) = lines s :=
  foldl_keeps lines _ _ _ fun _ _ => lines_vacate ..

theorem stepAckDeadline_released {p : Nat} (hp : p < nPorts s) (hlane : (port s p).lane = .negotiate) (hrole : follower s = false)
    (hreq : (unacked s p).any (fun m => required s (ciOf p m)) = false) :
    Goes (.stepAckDeadline p) s fun t => (∀ m ∈ unacked s p, (moor t (ciOf p m)).st = .vacant) ∧ (port t p).lane = .negotiate ∧
      { t with ports := s.ports, moors := s.moors, mbx := s.mbx, host := s.host, stn := s.stn } = s := by
  have hexec : exec (.stepAckDeadline p) s = .next ((unacked s p).foldl (fun s m => vacate p m s) s) := by
    refine (if_pos (by simp [hp]) : exec (.stepAckDeadline p) s = _).trans (congrArg _ ?_)
    rw [if_neg (by simp [hlane, hrole])]
    exact if_neg (by rw [hreq]; exact Bool.false_ne_true)
  have hvacant : ∀ m ∈ unacked s p, (moor ((unacked s p).foldl (fun s m => vacate p m s) s) (ciOf p m)).st = .vacant :=
    fun m hm => st_foldl_vacate p (unacked s p) s m (.inl hm)
  have hlines := congrFun (lines_foldl_vacate p (unacked s p) s) p
  have hframe : Frame [.ports, .mbx, .moors] s ((unacked s p).foldl (fun s m => vacate p m s) s) := .foldl _ .refl fun _ _ _ => frame_vacate ..
  generalize (unacked s p).foldl (fun s m => vacate p m s) s = t at *
  exact goes_of_eq hexec ⟨hvacant, (congrArg Port.lane hlines :).trans hlane,
    hframe.get (fun u => { u with ports := s.ports, moors := s.moors, mbx := s.mbx, host := s.host, stn := s.stn })⟩

theorem exec_stepAckDeadline_idle {p : Nat} (hp : p < nPorts s) (hlane : (port s p).lane ≠ .negotiate) : exec (.stepAckDeadline p) s = .next s :=
  (if_pos (by simp [hp])).trans (congrArg _ (if_pos (by simp [hlane])))

/-! ### Cycle S (R184) -/

/-- The served moorings of a port fall back to ADMITTED. -/
def fallenBack (p : Nat) (s : State) : State :=
  (portOrder s p).foldl (fun s m => if served (moor s (ciOf p m)).st then moorGo p m .admitted s else s) s

/-- A port changes generation, dark until it is locked again. -/
def regeared (p : Nat) (s : State) : State :=
  setPort p (fun x => { x with gen := basinGen s p, locked := false, squelch := true, reqs := [], svc := [] }) s

theorem frame_fallenBack (p : Nat) (s : State) : Frame [.ports, .mbx, .moors] s (fallenBack p s) :=
  .foldl _ .refl fun _ _ _ => .ite (frame_moorGo ..) .refl

theorem port_fallenBack_other {p k : Nat} (hk : k ≠ p) (s : State) : port (fallenBack p s) k = port s k :=
  foldl_keeps (port · k) _ _ _ fun _ _ => ite_keeps (port · k) _ (port_moorGo_other hk ..)

theorem stepCycleStart_steps {p : Nat} (hp : p < nPorts s) (hlane : (port s p).lane = .negotiate) (hrole : follower s = false)
    (hall : unacked s p = []) :
    Goes (.stepCycleStart p) s fun t => (port t p).lane = .step ∧ (port t p).gen = basinGen s p ∧ (port t p).locked = false ∧
      (port t p).squelch = true ∧ (port t p).reqs = [] ∧ (port t p).svc = [] ∧ (∀ k, k ≠ p → port t k = port s k) ∧
      { t with ports := s.ports, moors := s.moors, mbx := s.mbx, host := s.host, stn := s.stn } = s := by
  have hexec : exec (.stepCycleStart p) s = .next (laneGo p .step (regeared p (fallenBack p s))) :=
    (if_pos (by simp [hp]) : exec (.stepCycleStart p) s = _).trans (congrArg _ (if_neg (by simp [hlane, hrole, hall])))
  have hback := frame_fallenBack p s
  have hother : ∀ k, k ≠ p → port (fallenBack p s) k = port s k := fun k hk => port_fallenBack_other hk s
  generalize fallenBack p s = u at *
  have hgen : basinGen u p = basinGen s p := hback.get (basinGen · p)
  have hgear : Frame [.ports] u (regeared p u) := frame_setPort ..
  have hport : ∀ k, port (regeared p u) k =
      if p = k then { port u p with gen := basinGen u p, locked := false, squelch := true, reqs := [], svc := [] } else port u k := fun k => port_setPort ..
  generalize regeared p u = v at *
  have hgo := port_laneGo p .step v
  have hgoOther : ∀ k, k ≠ p → port (laneGo p .step v) k = port v k := fun k hk => port_laneGo_other hk _ v
  have hframe : Frame [.ports, .mbx, .moors] s (laneGo p .step v) := .after (frame_laneGo ..) (.after hgear hback)
  generalize laneGo p .step v = t at *
  rw [hport, if_pos rfl, hgen] at hgo
  refine goes_of_eq hexec ⟨?_, ?_, ?_, ?_, ?_, ?_, fun k hk => ?_,
    hframe.get (fun w => { w with ports := s.ports, moors := s.moors, mbx := s.mbx, host := s.host, stn := s.stn })⟩
  iterate 6 rw [hgo]
  rw [hgoOther k hk, hport, if_neg (Ne.symm hk), hother k hk]

theorem exec_stepCycleStart_idle {p : Nat} (hp : p < nPorts s) (hlane : (port s p).lane ≠ .negotiate) : exec (.stepCycleStart p) s = .next s :=
  (if_pos (by simp [hp])).trans (congrArg _ (if_pos (by simp [hlane])))

/-! ### The end of the gap (R184) -/

/-- A mooring at the new generation has neither preset nor assignment. -/
def presetCleared (p : Nat) (s : State) (m : Nat) : State := setMoor (ciOf p m) (fun x => { x with assigned := false }) (setPreset (ciOf p m) {} s)

/-- All moorings of a port. -/
def presetsCleared (p : Nat) (s : State) : State := (portOrder s p).foldl (presetCleared p) s

/-- The port's new epoch. -/
def epochRaised (p : Nat) (s : State) : State := setPort p (fun x => { x with epoch := x.epoch + 1 }) s

theorem frame_presetCleared (hcalm : Calm s) (p m : Nat) : Frame (pointParts ++ [.moors]) s (presetCleared p s m) :=
  .after (frame_setMoor ..) (frame_setPreset hcalm ..)

theorem preset_presetCleared (hcalm : Calm s) (p m c : Nat) :
    (moor (presetCleared p s m) c).preset = if ciOf p m = c then {} else (moor s c).preset := by
  unfold presetCleared
  rw [moor_setMoor]
  split
  · next hc => exact congrArg Moor.preset ((moor_setPreset hcalm ..).trans (if_pos rfl))
  · next hc => rw [moor_setPreset hcalm, if_neg hc]

theorem presetsCleared_keeps (p : Nat) (ms : List Nat) (hcalm : Calm s) : let t := ms.foldl (presetCleared p) s
    Frame (pointParts ++ [.moors]) s t ∧ ∀ c, (c ∈ ms.map (ciOf p) ∨ (moor s c).preset = {}) → (moor t c).preset = {} := by
  induction ms generalizing s with
  | nil => exact ⟨.refl, fun c h => h.resolve_left (by simp)⟩
  | cons m ms ih =>
    have hframe := frame_presetCleared hcalm p m
    have hpreset := preset_presetCleared hcalm p m
    rw [List.foldl_cons]
    generalize presetCleared p s m = u at *
    obtain ⟨hrest, hall⟩ := ih (hframe.calm hcalm)
    refine ⟨hframe.trans hrest, fun c hc => hall c ?_⟩
    rw [hpreset]
    by_cases hm : ciOf p m = c
    · exact .inr (if_pos hm)
    · rw [if_neg hm]
      refine hc.imp (fun h => ?_) id
      rw [List.map_cons, List.mem_cons] at h
      exact h.resolve_left (Ne.symm hm)

theorem stepGap_trains {p : Nat} (hcalm : Calm s) (hp : p < nPorts s) (hlane : (port s p).lane = .step) (hlocked : (port s p).locked = true)
    (hrole : follower s = false) :
    Goes (.stepGapElapsed p) s fun t => (port t p).epoch = (port s p).epoch + 1 ∧ ((port t p).lane = .train ∨ (port t p).lane = .up) ∧
      (∀ m ∈ portOrder s p, (moor t (ciOf p m)).preset = {}) ∧ t.cfg = s.cfg := by
  have hexec : exec (.stepGapElapsed p) s = .next (judgePort p (rangeAll p (laneGo p .train (epochRaised p (presetsCleared p s))))) :=
    (if_pos (by simp [hp]) : exec (.stepGapElapsed p) s = _).trans (congrArg _ (if_neg (by simp [hlane, hlocked, hrole])))
  obtain ⟨hclear, hpresets⟩ := presetsCleared_keeps p (portOrder s p) hcalm
  change Frame (pointParts ++ [.moors]) s (presetsCleared p s) at hclear
  change ∀ c, _ → (moor (presetsCleared p s) c).preset = {} at hpresets
  generalize presetsCleared p s = u at *
  have hraise : Frame [.ports] u (epochRaised p u) := frame_setPort ..
  have hport : port (epochRaised p u) p = { port u p with epoch := (port u p).epoch + 1 } := (port_setPort ..).trans (if_pos rfl)
  generalize epochRaised p u = v at *
  have hgo := port_laneGo p .train v
  have hgoFrame := frame_laneGo p .train v
  generalize laneGo p .train v = w at *
  have hrange := frame_rangeAll p w
  have hlines := congrFun (lines_rangeAll p w) p
  generalize rangeAll p w = x at *
  have hx : Frame laneParts u x := .after hrange (.after hgoFrame hraise.mono)
  have hxcalm : Calm x := hx.calm (hclear.calm hcalm)
  have htrain : (port x p).lane = .train := (congrArg Port.lane hlines :).trans (congrArg Port.lane hgo :)
  have hground := congrFun (grounds_judgePort hxcalm p) p
  have hjudge := lane_judgePort_train hxcalm htrain
  have hcells := cells_judgePort hxcalm p
  have hframe := frame_judgePort hxcalm p
  generalize judgePort p x = t at *
  have hmoors : x.moors = u.moors := (hrange.get State.moors).trans ((hgoFrame.get State.moors).trans (hraise.get State.moors))
  have hepoch : (port u p).epoch = (port s p).epoch := hclear.get fun y => (port y p).epoch
  refine goes_of_eq hexec ⟨?_, hjudge, fun m hm => ?_, ?_⟩
  · calc (port t p).epoch = (port x p).epoch := (congrArg Port.epoch hground :)
      _ = (port w p).epoch := (congrArg Port.epoch hlines :)
      _ = (port v p).epoch := (congrArg Port.epoch hgo :)
      _ = (port s p).epoch + 1 := (congrArg Port.epoch hport :).trans (by rw [hepoch])
  · have hm' : (moor x (ciOf p m)).preset = {} := by
      unfold moor
      rw [hmoors]
      exact hpresets _ (.inl (List.mem_map_of_mem hm))
    exact (congrArg Moor.preset (congrFun hcells (ciOf p m)) :).trans hm'
  · rw [hframe.get State.cfg, hx.get State.cfg, hclear.get State.cfg]

theorem exec_stepGap_idle {p : Nat} (hp : p < nPorts s) (hlane : (port s p).lane ≠ .step) : exec (.stepGapElapsed p) s = .next s :=
  (if_pos (by simp [hp])).trans (congrArg _ (if_pos (by simp [hlane])))

/-! ### A lock or a training that fails (R184) -/

/-- A port whose step has failed is in ACQUIRE at BL1, dark, with its attempt counted. -/
theorem port_failed {p : Nat} (hcalm : Calm s) (hp : p < 32) : let t := toAcquire p (stepFailed p s)
    (port t p).lane = .acquire ∧ (port t p).gen = .bl1 ∧ (port t p).attempts = (bases s p).attempts + 1 ∧ (port t p).locked = false := by
  have hbase := bases_stepFailed hcalm hp
  have hattempts : (port (stepFailed p s) p).attempts = (bases s p).attempts + 1 := (congrArg Port.attempts hbase :)
  have hlines := lines_toAcquire p (stepFailed p s)
  generalize stepFailed p s = u at *
  generalize toAcquire p u = t at *
  exact ⟨(congrArg Port.lane hlines :), (congrArg Port.gen hlines :), (congrArg Port.attempts hlines :).trans hattempts, (congrArg Port.locked hlines :)⟩

theorem stepLockTimeout_fails {p : Nat} (hcalm : Calm s) (hp : p < nPorts s) (hlane : (port s p).lane = .step) (hlocked : (port s p).locked = false)
    (hrole : follower s = false) :
    Goes (.stepLockTimeout p) s fun t => (port t p).lane = .acquire ∧ (port t p).gen = .bl1 ∧ (port t p).attempts = (port s p).attempts + 1 := by
  have hp32 : p < 32 := Nat.lt_of_lt_of_le hp (nPorts_le s)
  have hexec : exec (.stepLockTimeout p) s = .next (toAcquire p (stepFailed p (raise (64 + p) (be 1 p) s))) :=
    (if_pos (by simp [hp]) : exec (.stepLockTimeout p) s = _).trans (congrArg _ (if_neg (by simp [hlane, hlocked, hrole])))
  have hsrc := basinSource (k := 64) (by decide) hp32
  have hbase := congrFun (bases_raise hcalm hsrc (be 1 p)) p
  have hcalm' := (frame_raise_any hcalm hsrc (be 1 p)).calm hcalm
  generalize raise (64 + p) (be 1 p) s = u at *
  obtain ⟨hacquire, hgen, hattempts, -⟩ := port_failed hcalm' hp32
  exact goes_of_eq hexec ⟨hacquire, hgen, hattempts.trans (congrArg (fun x : Port => x.attempts + 1) hbase :)⟩

theorem trainTimeout_fails {p : Nat} (hcalm : Calm s) (hp : p < nPorts s) (hlane : (port s p).lane = .train) (hrole : follower s = false) :
    Goes (.trainTimeout p) s fun t => (port t p).lane = .acquire ∧ (port t p).gen = .bl1 ∧ (port t p).attempts = (port s p).attempts + 1 ∧
      (port t p).locked = false := by
  have hp32 : p < 32 := Nat.lt_of_lt_of_le hp (nPorts_le s)
  have hexec : exec (.trainTimeout p) s = .next (toAcquire p (stepFailed p s)) :=
    (if_pos (by simp [hp]) : exec (.trainTimeout p) s = _).trans (congrArg _ (if_neg (by simp [hlane, hrole])))
  exact goes_of_eq hexec (port_failed hcalm hp32)

theorem exec_stepLockTimeout_idle {p : Nat} (hp : p < nPorts s) (hlane : (port s p).lane ≠ .step) : exec (.stepLockTimeout p) s = .next s :=
  (if_pos (by simp [hp])).trans (congrArg _ (if_pos (by simp [hlane])))

theorem exec_trainTimeout_idle {p : Nat} (hp : p < nPorts s) (hlane : (port s p).lane ≠ .train) : exec (.trainTimeout p) s = .next s :=
  (if_pos (by simp [hp])).trans (congrArg _ (if_pos (by simp [hlane])))

end Sys2Proof.Proofs
end

section
/-! Loss of signal and of lock of a basin port, and its relock (R163, R179–R181, R184, R275). -/

set_option Elab.async false

namespace Sys2Proof.Proofs
open Sys2Proof Sys2Proof.Machine Sys2Proof.Laws

variable {s : State}

/-! ### Loss of signal (R179) -/

/-- A port without signal. -/
def signalLost (p : Nat) (s : State) : State := setPort p (fun x => { x with los := true }) s

theorem basinLos_noted {p : Nat} (hcalm : Calm s) (hp : p < nPorts s) (hlane : (port s p).lane ≠ .dark)
    (hadm : (portOrder s p).any (fun m => admitted (moor s (ciOf p m)).st) = true) (hlos : (port s p).los = false) :
    Goes (.basinLos p) s fun t => (port t p).los = true ∧ t.moors = s.moors ∧
      (s.dev.porstN = true → s.dev.railHold = false → (rec? s (96 + p)).active = false → Latched t (96 + p)) := by
  have hp32 : p < 32 := Nat.lt_of_lt_of_le hp (nPorts_le s)
  have hexec : exec (.basinLos p) s = .next (raise (96 + p) (be 1 p) (signalLost p s)) :=
    (if_pos (by simp [hp]) : exec (.basinLos p) s = _).trans (congrArg _ (if_neg (by simp [hlane, hadm, hlos])))
  have hset : Frame [.ports] s (signalLost p s) := frame_setPort ..
  have hport : (port (signalLost p s) p).los = true := by
    unfold signalLost
    rw [port_setPort, if_pos rfl]
  generalize signalLost p s = u at *
  have hsrc := basinSource (k := 96) (by decide) hp32
  have hucalm := hset.calm hcalm
  have hbase := congrFun (bases_raise hucalm hsrc (be 1 p)) p
  have hframe := frame_raise_any hucalm hsrc (be 1 p)
  refine goes_of_eq hexec ⟨(congrArg Port.los hbase :).trans hport, (hframe.get State.moors).trans (hset.get State.moors), fun hporst hrail hx => ?_⟩
  refine latched_basin (.inr rfl) ?_ ((hset.get (·.dev.porstN)).trans hporst) ((hset.get (·.dev.railHold)).trans hrail) ?_ _
  · rwa [hset.get nPorts]
  · rwa [hset.get (rec? · (96 + p))]

theorem exec_basinLos_dark {p : Nat} (hp : p < nPorts s) (hlane : (port s p).lane = .dark) : exec (.basinLos p) s = .next s :=
  (if_pos (by simp [hp])).trans (congrArg _ (if_pos (by simp [hlane])))

/-! ### Loss of lock (R180) -/

theorem basinLol_relocks {p : Nat} (hcalm : Calm s) (hp : p < nPorts s) (hlit : (port s p).lane ≠ .dark) (hlock : (port s p).lane ≠ .relock) :
    Goes (.basinLol p) s fun t => (port t p).lane = .relock ∧ (port t p).relockFrom = (port s p).lane ∧ (port t p).locked = false ∧
      (port t p).squelch = true ∧ t.moors = s.moors ∧
      (s.dev.porstN = true → s.dev.railHold = false → (rec? s (64 + p)).active = false → Latched t (64 + p)) := by
  have hp32 : p < 32 := Nat.lt_of_lt_of_le hp (nPorts_le s)
  have hexec : exec (.basinLol p) s = .next (raise (64 + p) (be 1 p) (portRelock p s)) :=
    (if_pos (by simp [hp]) : exec (.basinLol p) s = _).trans (congrArg _ (if_neg hlit))
  have hrelock := frame_portRelock (s := s) p
  have hport : port (portRelock p s) p = { port s p with lane := .relock, relockFrom := (port s p).lane, locked := false, squelch := true } :=
    (port_portRelock ..).trans (if_pos ⟨rfl, hlit, hlock⟩)
  generalize portRelock p s = u at *
  have hsrc := basinSource (k := 64) (by decide) hp32
  have hucalm := hrelock.calm hcalm
  have hstay := port_raise_relocking hucalm hsrc (be 1 p) (by rw [hport])
  have hframe := frame_raise_any hucalm hsrc (be 1 p)
  refine goes_of_eq hexec ?_
  rw [hstay, hport]
  refine ⟨rfl, rfl, rfl, rfl, (hframe.get State.moors).trans (hrelock.get State.moors), fun hporst hrail hx => ?_⟩
  refine latched_basin (.inl rfl) ?_ ((hrelock.get (·.dev.porstN)).trans hporst) ((hrelock.get (·.dev.railHold)).trans hrail) ?_ _
  · rwa [hrelock.get nPorts]
  · rwa [hrelock.get (rec? · (64 + p))]

theorem exec_basinLol_dark {p : Nat} (hp : p < nPorts s) (hlane : (port s p).lane = .dark) : exec (.basinLol p) s = .next s :=
  (if_pos (by simp [hp])).trans (congrArg _ (if_pos hlane))

/-! ### A port's relock (R163, R181, R275) -/

/-- The band of the relock, from the cache or by a full search. -/
def bandTaken (p : Nat) (miss : Bool) (s : State) : State := if miss then bandMiss (16 * p + (port s p).gen.code) s else s

/-- The port's block reset ends, and its loss of lock. -/
def lossEnded (p : Nat) (miss : Bool) (s : State) : State :=
  clear (64 + p) { bandTaken p miss s with
    dev := { (bandTaken p miss s).dev with blockReset := (bandTaken p miss s).dev.blockReset.filter (· ≠ .basinPort p) } }

/-- The port is locked again, and lit where the unit transmits. -/
def relit (p : Nat) (s : State) : State :=
  relight (setPort p (fun y => { y with locked := true, lockTick := s.now, scr := 0, lineBit := 0 }) s)

theorem exec_relockComplete {p : Nat} (hp : p < nPorts s) (hlit : (port s p).lane ≠ .dark) (hlocked : (port s p).locked = false)
    (hpll : pllALocked s = true) (miss : Bool) : exec (.basinRelockComplete p miss) s = .next
      (if (port s p).lane = .relock ∧ (port s p).relockFrom ≠ .up ∧ (port s p).gen ≠ .bl1 then toAcquire p (lossEnded p miss s)
       else if (port s p).lane = .relock then
         (if (port s p).relockFrom = .up then laneGo p .up (relit p (lossEnded p miss s))
          else judgePort p (rangeAll p (laneGo p .acquire (relit p (lossEnded p miss s)))))
       else judgePort p (relit p (lossEnded p miss s))) :=
  (if_pos (by simp [hp]) : exec (.basinRelockComplete p miss) s = _).trans (congrArg _ (if_neg (by simp [hlit, hlocked, hpll])))

theorem exec_relockComplete_idle {p : Nat} (hp : p < nPorts s) (hpll : pllALocked s = false) (miss : Bool) :
    exec (.basinRelockComplete p miss) s = .next s :=
  (if_pos (by simp [hp])).trans (congrArg _ (if_pos (by simp [hpll])))

theorem frame_bandTaken (p : Nat) (miss : Bool) (s : State) : Frame [.clk] s (bandTaken p miss s) := .ite rfl .refl

theorem frame_lossEnded (p : Nat) (miss : Bool) (s : State) : Frame [.clk, .devBlock, .fcru] s (lossEnded p miss s) := by
  have hband := frame_bandTaken p miss s
  unfold lossEnded
  generalize bandTaken p miss s = u at *
  have hdev : Frame [.devBlock] u { u with dev := { u.dev with blockReset := u.dev.blockReset.filter (· ≠ .basinPort p) } } := rfl
  exact .after (frame_clear ..) (.after hdev hband.mono)

theorem clk_lossEnded (p : Nat) (miss : Bool) (s : State) : (lossEnded p miss s).clk = (bandTaken p miss s).clk := by
  unfold lossEnded
  exact (frame_clear ..).get State.clk

theorem active_lossEnded (p : Nat) (miss : Bool) (s : State) : (rec? (lossEnded p miss s) (64 + p)).active = false := clear_active ..

theorem clk_bandTaken (p : Nat) (miss : Bool) (s : State) : (bandTaken p miss s).clk.cacheMisses = s.clk.cacheMisses + (if miss then 1 else 0) ∧
    (bandTaken p miss s).clk.bands = (if miss then (bandMiss (16 * p + (port s p).gen.code) s).clk.bands else s.clk.bands) := by
  cases miss <;> simp [bandTaken, bandMiss]

theorem frame_relit (p : Nat) (s : State) : Frame [.ports] s (relit p s) := .after (frame_relight _) (frame_setPort ..)

/-- A port that is locked again, but for its light. -/
theorem unlit_relit (p : Nat) (s : State) :
    unlit (port (relit p s) p) = { unlit (port s p) with locked := true, lockTick := s.now, scr := 0, lineBit := 0 } := by
  unfold relit
  rw [unlit_relight, port_setPort, if_pos rfl]
  rfl

/-- A port comes back UP where it had been UP (R181). -/
theorem relockComplete_up {p : Nat} (hp : p < nPorts s) (hlane : (port s p).lane = .relock) (hfrom : (port s p).relockFrom = .up)
    (hlocked : (port s p).locked = false) (hpll : pllALocked s = true) (miss : Bool) :
    Goes (.basinRelockComplete p miss) s fun t => (port t p).lane = .up ∧ (port t p).locked = true ∧ (port t p).lockTick = s.now ∧
      (rec? t (64 + p)).active = false ∧ t.clk.cacheMisses = s.clk.cacheMisses + (if miss then 1 else 0) ∧
      t.clk.bands = (if miss then (bandMiss (16 * p + (port s p).gen.code) s).clk.bands else s.clk.bands) ∧
      { t with ports := s.ports, clk := s.clk, dev := s.dev, fcru := s.fcru, mbx := s.mbx, host := s.host, stn := s.stn } = s := by
  have hexec := exec_relockComplete hp (by rw [hlane]; decide) hlocked hpll miss
  rw [if_neg fun h => h.2.1 hfrom, if_pos hlane, if_pos hfrom] at hexec
  have hended := frame_lossEnded p miss s
  have hclk := clk_lossEnded p miss s
  obtain ⟨hmisses, hbands⟩ := clk_bandTaken p miss s
  have hactive := active_lossEnded p miss s
  generalize lossEnded p miss s = u at *
  have hlit := frame_relit p u
  have hport := unlit_relit p u
  generalize relit p u = v at *
  have hgo := port_laneGo p .up v
  have hgoFrame := frame_laneGo p .up v
  generalize laneGo p .up v = t at *
  have hall : Frame [.clk, .devBlock, .fcru, .ports, .mbx] s t := .after hgoFrame (.after hlit hended.mono)
  have hlast : Frame [.ports, .mbx] u t := .after hgoFrame hlit.mono
  have hnow : u.now = s.now := hended.get State.now
  refine goes_of_eq hexec ⟨?_, ?_, ?_, ?_, ?_, ?_,
    hall.get (fun w => { w with ports := s.ports, clk := s.clk, dev := s.dev, fcru := s.fcru, mbx := s.mbx, host := s.host, stn := s.stn })⟩
  · rw [hgo]
  · rw [hgo]
    exact (congrArg Port.locked hport :)
  · rw [hgo]
    exact (congrArg Port.lockTick hport :).trans hnow
  · rw [hlast.get (rec? · (64 + p)), hactive]
  · rw [hlast.get State.clk, hclk, hmisses]
  · rw [hlast.get State.clk, hclk, hbands]

/-- A port that had left BL1 starts again in ACQUIRE (R184). -/
theorem relockComplete_acquire {p : Nat} (hp : p < nPorts s) (hlane : (port s p).lane = .relock) (hfrom : (port s p).relockFrom ≠ .up)
    (hgen : (port s p).gen ≠ .bl1) (hlocked : (port s p).locked = false) (hpll : pllALocked s = true) (miss : Bool) :
    Goes (.basinRelockComplete p miss) s fun t => (port t p).lane = .acquire ∧ (port t p).gen = .bl1 ∧ (port t p).locked = false ∧
      t.moors = s.moors := by
  have hexec := exec_relockComplete hp (by rw [hlane]; decide) hlocked hpll miss
  rw [if_pos ⟨hlane, hfrom, hgen⟩] at hexec
  have hended := frame_lossEnded p miss s
  generalize lossEnded p miss s = u at *
  have hlines := lines_toAcquire p u
  have hframe := frame_toAcquire p u
  generalize toAcquire p u = t at *
  exact goes_of_eq hexec ⟨(congrArg Port.lane hlines :), (congrArg Port.gen hlines :), (congrArg Port.locked hlines :),
    (hframe.get State.moors).trans (hended.get State.moors)⟩

/-- A port that locks in ACQUIRE stays at its generation (R163). -/
theorem relockComplete_locked {p : Nat} (hcalm : Calm s) (hp : p < nPorts s) (hlane : (port s p).lane = .acquire) (hlocked : (port s p).locked = false)
    (hpll : pllALocked s = true) (miss : Bool) :
    Goes (.basinRelockComplete p miss) s fun t => (port t p).locked = true ∧ (port t p).lockTick = s.now ∧ (port t p).gen = (port s p).gen := by
  have hexec := exec_relockComplete hp (by rw [hlane]; decide) hlocked hpll miss
  rw [if_neg (by rw [hlane]; simp), if_neg (by rw [hlane]; decide)] at hexec
  have hended := frame_lossEnded p miss s
  generalize lossEnded p miss s = u at *
  have hlit := frame_relit p u
  have hport := unlit_relit p u
  generalize relit p u = v at *
  have hvcalm : Calm v := hlit.calm (hended.calm hcalm)
  have hground := congrFun (grounds_judgePort hvcalm p) p
  generalize judgePort p v = t at *
  have hnow : u.now = s.now := hended.get State.now
  have hgen : (port u p).gen = (port s p).gen := hended.get fun w => (port w p).gen
  refine goes_of_eq hexec ⟨?_, ?_, ?_⟩
  · exact (congrArg Port.locked hground :).trans (congrArg Port.locked hport :)
  · exact (congrArg Port.lockTick hground :).trans ((congrArg Port.lockTick hport :).trans hnow)
  · exact (congrArg Port.gen hground :).trans ((congrArg Port.gen hport :).trans hgen)

/-- Settles O22: the rate step of a lane, and the losses and relocks of its port. -/
theorem rateStepAndLossOfBasin : Obligations.RateStepAndLossOfBasin := by
  unfold Obligations.RateStepAndLossOfBasin
  refine ⟨fun s hcalm p hp => ⟨?_, fun d pay mar k ph h => exec_stepAck_idle hp h, stepAckDeadline_cancelled hcalm hp, stepAckDeadline_released hp,
      stepCycleStart_steps hp, stepGap_trains hcalm hp, stepLockTimeout_fails hcalm hp, trainTimeout_fails hcalm hp,
      fun h => ⟨exec_stepAckDeadline_idle hp h, exec_stepCycleStart_idle hp h⟩, fun h => ⟨exec_stepGap_idle hp h, exec_stepLockTimeout_idle hp h⟩,
      exec_trainTimeout_idle hp⟩,
    fun s hcalm p hp => ⟨basinLos_noted hcalm hp, basinLol_relocks hcalm hp, fun h => ⟨exec_basinLol_dark hp h, exec_basinLos_dark hp h⟩,
      fun miss hlane hfrom hlocked hpll => relockComplete_up hp hlane hfrom hlocked hpll miss,
      fun miss hlane hfrom hgen hlocked hpll => relockComplete_acquire hp hlane hfrom hgen hlocked hpll miss,
      fun miss hlane hlocked hpll => relockComplete_locked hcalm hp hlane hlocked hpll miss, fun miss hpll => exec_relockComplete_idle hp hpll miss⟩⟩
  intro d pay mar k ph q bs m hreq hkind hasked hlane hnew hgen hcycle hwindow
  exact stepAck_noted hcalm hp hreq hkind hasked hlane hnew hgen hcycle hwindow

end Sys2Proof.Proofs
end

section
/-! What the pulse engine and the captures do while cycles run: the device state and its phase stand (R19, R20, R305, R445). -/

set_option Elab.async false

namespace Sys2Proof.Proofs
open Sys2Proof Sys2Proof.Machine Sys2Proof.Laws

variable {s : State}

/-! ### Steps that leave the device state while cycles run -/

/-- The device state and the control phase. -/
def modeOf (s : State) : DevState × Phase := (s.dev.state, s.dev.phase)

/-- A step that stays within what any assertion may touch, and leaves the device state and its phase while cycles run (R20). -/
structure Steady (s t : State) : Prop where
  frame : Frame reactParts s t
  mode : s.cyc.running = true → modeOf t = modeOf s

theorem Steady.refl : Steady s s := ⟨.refl, fun _ => rfl⟩

theorem Steady.trans {t u : State} (h : Steady s t) (g : Steady t u) : Steady s u :=
  ⟨h.frame.trans g.frame, fun hrun => (g.mode ((h.frame.get (·.cyc.running)).trans hrun)).trans (h.mode hrun)⟩

theorem Steady.calm {t : State} (h : Steady s t) (hcalm : Calm s) : Calm t := h.frame.calm hcalm

theorem Steady.of_frame {ps : List Part} {t : State} (h : Frame ps s t) (hsub : ∀ q ∈ ps, q ∈ reactParts := by decide)
    (hmode : ∀ u, modeOf (erase ps u) = modeOf u := by intro u; rfl) : Steady s t :=
  ⟨h.mono hsub, fun _ => h.get modeOf hmode⟩

theorem Steady.ite {c : Prop} [Decidable c] {t u : State} (ht : Steady s t) (hu : Steady s u) : Steady s (if c then t else u) := by
  split
  · exact ht
  · exact hu

theorem Steady.foldl {α : Type} {f : State → α → State} (xs : List α) (hcalm : Calm s) (hf : ∀ x, Calm x → ∀ a ∈ xs, Steady x (f x a)) :
    Steady s (xs.foldl f s) :=
  (List.foldlRecOn (motive := fun t => Steady s t ∧ Calm t) xs f ⟨.refl, hcalm⟩ fun t ht a ha =>
    ⟨ht.1.trans (hf t ht.2 a ha), (hf t ht.2 a ha).calm ht.2⟩).1

/-! ### Assertions (R20, R376) -/

theorem mode_react4 (block : Bool) (h : s.cyc.running = true) : modeOf (react4 block s) = modeOf s := by
  unfold react4
  split
  · rfl
  · rfl
  · dsimp only
    split
    · rfl
    · next hstopped => exact absurd h hstopped

/-- A fault below level 5 waits for the boundary while cycles run. -/
theorem steady_raise_of_level {src : Nat} (hlvl : ∀ f, faultInfo src = some f → (appliedLevel s src f).1 ≠ 5) (d : List Byte) : Steady s (raise src d s) := by
  refine ⟨(frame_raise_of_level hlvl d).mono (raiseParts_subset_reactParts src), fun hrun => ?_⟩
  unfold raise
  split
  · rfl
  · next f hf =>
    split
    · rfl
    · unfold assertSource
      extract_lets lvl logged
      have hlogged : Frame trapParts s logged := .after (frame_trgFault ..) (frame_logSource ..).mono
      have hlow : Frame assertedParts logged (reactLow src f lvl (faultBlock s src) (noteReaction src lvl logged)) :=
        .after (frame_reactLow_low ..) (frame_noteReaction ..).mono
      have hreact : react src f lvl (faultBlock s src) logged =
          if lvl = 4 then react4 (faultBlock s src) (reactLow src f lvl (faultBlock s src) (noteReaction src lvl logged))
          else reactLow src f lvl (faultBlock s src) (noteReaction src lvl logged) := if_neg (hlvl f hf)
      have hkept : modeOf logged = modeOf s := hlogged.get modeOf
      have hrun' : (reactLow src f lvl (faultBlock s src) (noteReaction src lvl logged)).cyc.running = true :=
        (hlow.get (·.cyc.running)).trans ((hlogged.get (·.cyc.running)).trans hrun)
      split
      · exact hkept
      · rw [hreact, ← hkept, ← hlow.get modeOf]
        split
        · exact mode_react4 _ hrun'
        · rfl

theorem steady_raise (hcalm : Calm s) {src : Nat} (hsrc : src ∉ [4, 7, 353, 357]) (d : List Byte) : Steady s (raise src d s) :=
  steady_raise_of_level (fun _ hf => appliedLevel_ne_five hcalm hsrc hf) d

/-! ### Samples of the captures (R445, R456) -/

theorem steady_capOverflow (hcalm : Calm s) (n : Nat) : Steady s (capOverflow n s) := by
  unfold capOverflow
  extract_lets _ c put told
  have htold : Frame [.cap, .store, .mbx] s told := .after (frame_eventTag ..) (frame_capPut ..).mono
  exact (Steady.of_frame htold).trans (steady_raise (htold.calm hcalm) (by decide) _)

theorem steady_capTake (hcalm : Calm s) (n : Nat) (x : CapVal) : Steady s (capTake n x s) := by
  unfold capTake
  extract_lets c drained full last _ queued
  have hqueued : Frame [.cap, .store, .free] s queued :=
    .after (s := drained) (qs := [.free, .cap]) rfl (.after (frame_capDrain _) (frame_capPut ..).mono)
  have hput : ∀ c h, Steady s (capPut n c h s) := fun c h => .of_frame (frame_capPut s n c h)
  have hsteady : Steady s queued := .of_frame hqueued
  exact .ite .refl (.ite (.of_frame (frame_capPut ..)) (.ite (hsteady.trans (steady_capOverflow (hqueued.calm hcalm) n))
    (hsteady.trans (.of_frame (frame_capWrite ..)))))

theorem steady_capEdge (hcalm : Calm s) (ch ev ti eu : Nat) : Steady s (capEdge ch ev ti eu s) :=
  Steady.foldl _ hcalm fun _ hc n _ => steady_capTake hc n _

/-! ### One channel of the pulse engine (R296–R305) -/

theorem steady_setPch (c : Nat) (x : Pch) (s : State) : Steady s (setPch c x s) := .of_frame (frame_setPch c x s)

theorem steady_clear (src : Nat) (s : State) : Steady s (clear src s) := .of_frame (frame_clear s src)

/-- A change of the pulse engine's own values. -/
theorem steady_withPul (x : Pul) (s : State) : Steady s { s with pul := x } := .of_frame (ps := [.pul]) rfl

theorem steady_pulStore (hcalm : Calm s) (c t ti : Nat) (old new : Pch) (evs : List Nat) : Steady s (pulStore c t ti old new evs s) := by
  have hset := steady_setPch c new s
  exact hset.trans (.foldl _ (hset.calm hcalm) fun _ hc _ _ => steady_capEdge hc ..)

theorem steady_pulEval (hcalm : Calm s) (c t ti : Nat) (old new : Pch) (evs : List Nat) : Steady s (pulEval c t ti old new evs s) := by
  unfold pulEval
  exact .ite (steady_pulStore hcalm ..) (steady_pulStore hcalm ..)

theorem steady_clampFault (hcalm : Calm s) {c : Nat} (hc : c < 12) (old new : Pch) : Steady s (clampFault c old new s) :=
  .ite (steady_raise hcalm (by simp; omega) _) .refl

theorem steady_tripOne (hcalm : Calm s) {c : Nat} (hc : c < 12) (ti t : Nat) : Steady s (tripOne ti t c s) := by
  unfold tripOne
  extract_lets x n aOff off offs y hit armed traced
  have hraise : ∀ v : State, Steady s v → Steady s (if hit then raise (208 + c) (be 1 c ++ be 1 ti) v else v) := fun v hv =>
    .ite (hv.trans (steady_raise (hv.calm hcalm) (by simp; omega) _)) hv
  have heval := steady_pulEval hcalm c t ti x armed [4]
  have htraced : Steady s traced := heval.trans (.of_frame (frame_trgKind _ 5 _))
  exact .ite .refl (hraise _ htraced)

theorem steady_tripAgain (hcalm : Calm s) {c : Nat} (hc : c < 12) (t : Nat) : Steady s (tripAgain c t s) :=
  .foldl _ hcalm fun _ hx _ _ => steady_tripOne hx hc ..

theorem steady_maskEvent (hcalm : Calm s) (kind c t : Nat) : Steady s (maskEvent kind c t s) := by
  unfold maskEvent
  extract_lets seen due m _ masked
  have hmasked : Steady s masked := steady_withPul _ s
  refine .ite .refl (hmasked.trans (.foldl _ (hmasked.calm hcalm) fun u hu d _ => ?_))
  extract_lets x y y' cut z
  exact .ite (.ite (steady_pulStore hu ..) .refl) (steady_pulEval hu ..)

/-- A period that ends in a channel that runs. -/
theorem steady_periodEnd (c : Nat) (x : Pch) (s : State) : Steady s (periodEnd c x s).2 := by
  unfold periodEnd
  split
  · exact .refl
  · exact steady_clear ..

theorem steady_startPeriod (hcalm : Calm s) {c : Nat} (hc : c < 12) (t k : Nat) : Steady s (startPeriod c t k s) := by
  unfold startPeriod
  extract_lets x0
  have hclosed : Steady s (if x0.running then periodEnd c x0 s else (x0, s)).2 := by
    split
    · exact steady_periodEnd ..
    · exact .refl
  generalize (if x0.running then periodEnd c x0 s else (x0, s)) = closed at hclosed ⊢
  obtain ⟨x, u⟩ := closed
  dsimp -zeta only at hclosed ⊢
  extract_lets x' y clamped stored _ synced tripped z
  have hclamped : Steady s clamped := hclosed.trans (steady_clampFault (hclosed.calm hcalm) hc ..)
  have hstored : Steady s stored := hclamped.trans (steady_pulStore (hclamped.calm hcalm) ..)
  have hsynced : Steady s synced := .ite (hstored.trans (steady_withPul ..)) hstored
  have hmasked := hsynced.trans (steady_maskEvent (hsynced.calm hcalm) 0 c t)
  have htripped : Steady s tripped := hmasked.trans (steady_tripAgain (hmasked.calm hcalm) hc t)
  exact htripped.trans (steady_pulEval (htripped.calm hcalm) ..)

theorem steady_startChan (hcalm : Calm s) {c : Nat} (hc : c < 12) (t : Nat) : Steady s (startChan c t s) := by
  unfold startChan
  extract_lets x
  have hset : ∀ y, Steady s (setPch c y s) := fun y => steady_setPch c y s
  exact .ite .refl (.ite ((hset _).trans (steady_startPeriod ((hset _).calm hcalm) hc ..)) (hset _))

theorem steady_stopChan (hcalm : Calm s) (c t : Nat) : Steady s (stopChan c t s) := by
  unfold stopChan
  extract_lets x off
  have hoff : Steady s off := steady_pulStore hcalm ..
  exact .ite .refl (.ite (hoff.trans (steady_withPul ..)) hoff)

theorem steady_syncAt (hcalm : Calm s) {c : Nat} (hc : c < 12) (t : Nat) : Steady s (syncAt c t s) := by
  unfold syncAt
  extract_lets x ph cleared x1 synced z w w'
  have hcleared : Steady s cleared := steady_clear ..
  have hset := hcleared.trans (steady_setPch c x1 cleared)
  have hsynced : Steady s synced := .ite (hset.trans (steady_maskEvent (hset.calm hcalm) ..)) hset
  refine .ite .refl (.ite (.ite ?_ ?_) (steady_setPch ..))
  · exact hsynced.trans (steady_startPeriod (hsynced.calm hcalm) hc ..)
  · exact hsynced.trans (steady_pulEval (hsynced.calm hcalm) ..)

/-! ### All channels at a cycle start (R302, R305) -/

theorem steady_pulCycle (hcalm : Calm s) (fresh : Bool) : Steady s (pulCycle fresh s) := by
  unfold pulCycle
  extract_lets t _ masked switched
  have hmasked : Steady s masked := .ite (steady_withPul ..) .refl
  have hswitched : Steady s switched := hmasked.trans (.foldl _ (hmasked.calm hcalm) fun u hu c hc =>
    .ite (steady_startChan hu (List.mem_range.mp hc) t) (.ite .refl (steady_stopChan hu ..)))
  exact hswitched.trans (.foldl _ (hswitched.calm hcalm) fun u hu c hc => .ite (steady_syncAt hu (List.mem_range.mp hc) t) .refl)

end Sys2Proof.Proofs
end

section
/-! Commands that waited for their cycle: which is applied, and what each does at it (R20, R341). -/

set_option Elab.async false

namespace Sys2Proof.Proofs
open Sys2Proof Sys2Proof.Machine Sys2Proof.Laws

variable {s : State}

/-! ### A command leaves the waiting list, and its result is sent -/

/-- A command leaves the waiting list. -/
def unlisted (w : Waiting) (s : State) : State := { s with cyc := { s.cyc with waiting := s.cyc.waiting.erase w } }

theorem frame_unlisted (w : Waiting) (s : State) : Frame [.cycWait] s (unlisted w s) := rfl

/-- The end of a waiting command: counted where it is applied, with its result where it has one at its cycle. -/
def finished (w : Waiting) (x : State × Option Status) : State :=
  match x.2 with
  | some e => scheduledResult w e x.1.cyc.n (if e = .ok then countApplied w.opcode x.1 else x.1)
  | none => countApplied w.opcode x.1

theorem exec_apply {w : Waiting} (hat : atBoundary s = true) (hdue : nextDue s = some w) :
    exec .scheduledCommandApply s = .next (finished w (applyCmd w (unlisted w s))) := by
  refine congrArg Host.Outcome.next ?_
  rw [hat, hdue]
  rfl

theorem exec_apply_idle (h : atBoundary s = false ∨ nextDue s = none) : exec .scheduledCommandApply s = .next s := by
  refine congrArg Host.Outcome.next ?_
  rcases h with h | h
  · rw [h]
  · rw [h]
    cases atBoundary s <;> rfl

theorem frame_finished_ok (w : Waiting) (a : State) : Frame [.mbx] (countApplied w.opcode a) (finished w (a, some .ok)) := frame_scheduledResult ..

theorem frame_finished_refused (w : Waiting) (a : State) {e : Status} (he : e ≠ .ok) : Frame [.mbx] a (finished w (a, some e)) := by
  have hres := frame_scheduledResult (if e = .ok then countApplied w.opcode a else a) w e a.cyc.n
  rw [if_neg he] at hres
  unfold finished
  dsimp only
  rwa [if_neg he]

/-- A frame of messages leaves all but messages. -/
theorem butMessages_of_frame {t : State} (h : Frame [.mbx] s t) : ButMessages s t := by
  unfold ButMessages
  exact h.get fun u => { u with mbx := s.mbx, host := s.host, stn := s.stn }

theorem tan_countApplied (op : Nat) (a : State) :
    (countApplied op a).tan = { a.tan with transferSeq := a.tan.transferSeq + (if isClassA op then 1 else 0) } := by
  unfold countApplied
  split <;> simp

/-- The state of a command that is refused at its cycle. -/
theorem refused_at_cycle {w : Waiting} (hat : atBoundary s = true) (hdue : nextDue s = some w) {e : Status} (he : e ≠ .ok)
    (hcmd : applyCmd w (unlisted w s) = (unlisted w s, some e)) :
    Goes .scheduledCommandApply s fun t => ButMessages { s with cyc := { s.cyc with waiting := s.cyc.waiting.erase w } } t := by
  have hexec := exec_apply hat hdue
  rw [hcmd] at hexec
  exact goes_of_eq hexec (butMessages_of_frame (frame_finished_refused w (unlisted w s) he))

/-- The state of a command that is applied at its cycle. -/
theorem applied_at_cycle {w : Waiting} (hat : atBoundary s = true) (hdue : nextDue s = some w) {a : State}
    (hcmd : applyCmd w (unlisted w s) = (a, some .ok)) {P : State → Prop} (hP : ∀ t, Frame [.mbx] (countApplied w.opcode a) t → P t) :
    Goes .scheduledCommandApply s P := by
  have hexec := exec_apply hat hdue
  rw [hcmd] at hexec
  exact goes_of_eq hexec (hP _ (frame_finished_ok w a))

/-! ### DEBLOCK (R19, R305) -/

theorem applyCmd_deblock {w : Waiting} (h : w.opcode = 0x10) (u : State) : applyCmd w u = ((applyDeblock u).1, some (applyDeblock u).2) := by
  unfold applyCmd
  rw [h]
  rfl

/-- The arms and the phase as the entry to RUNNING leaves them. -/
def runStarted (t : State) : State :=
  { t with arms := (armsUsed t).foldl (fun m a => m.set a (armStart t a (t.arms.get a {}))) t.arms, dev := { t.dev with phaseFirst := true } }

theorem applyDeblock_ok (hrole : follower s = false) (hcheck : deblockCheck s = .ok) :
    applyDeblock s = (pulCycle true (runStarted (moveState .running s)), .ok) := by
  unfold applyDeblock
  rw [if_neg (by simp [hrole]), hcheck]
  rfl

theorem applyDeblock_refused (hrole : follower s = false) (hcheck : deblockCheck s ≠ .ok) : applyDeblock s = (s, deblockCheck s) := by
  unfold applyDeblock
  rw [if_neg (by simp [hrole])]
  split
  · next h => exact absurd h hcheck
  · rfl

theorem ready_of_deblockCheck (h : deblockCheck s = .ok) : s.dev.state = .ready := by
  unfold deblockCheck at h
  by_contra hne
  rw [if_pos (by simp [hne])] at h
  cases h

/-- What an entry to RUNNING may touch. -/
abbrev deblockParts : List Part := reactParts ++ [.dev]

/-- A DEBLOCK that is applied takes READY to RUNNING, in STARTUP. -/
theorem deblocked (hcalm : Calm s) (hrun : s.cyc.running = true) (hready : s.dev.state = .ready) :
    let t := pulCycle true (runStarted (moveState .running s))
    Frame deblockParts s t ∧ t.dev.state = .running ∧ t.dev.phase = .startup ∧ t.dev.phaseFirst = true := by
  have hmove := frame_moveState s .running
  have hstate : (moveState .running s).dev.state = .running := moveState_state ..
  have hphase : (moveState .running s).dev.phase = .startup := by
    unfold moveState
    rw [if_neg (by rw [hready]; decide)]
    extract_lets old phase hold _ moved told
    have hmoved : moved.dev.phase = .startup := if_pos ⟨rfl, hready⟩
    have htold : told.dev.phase = moved.dev.phase := (Frame.after (frame_event ..) (frame_vector ..).mono : Frame [.mbx, .host] moved told).get (·.dev.phase)
    have hsrb : Frame [.srb, .mbx, .cap, .store] told (srbOnState .running (trgState told)) := .after (frame_srbOnState ..) (frame_trgState _).mono
    rw [hsrb.get (·.dev.phase), htold, hmoved]
  generalize moveState .running s = u at *
  have hstart : Frame [.arms, .dev] u (runStarted u) := rfl
  have hmode : modeOf (runStarted u) = (.running, .startup) := congrArg₂ Prod.mk hstate hphase
  have hfirst : (runStarted u).dev.phaseFirst = true := rfl
  generalize runStarted u = v at *
  have hv : Frame deblockParts s v := .after hstart hmove.mono
  obtain ⟨hframe, hkept⟩ := steady_pulCycle (hv.calm hcalm) true
  have hall := (hkept ((hv.get (·.cyc.running)).trans hrun)).trans hmode
  have hphaseFirst : (pulCycle true v).dev.phaseFirst = true := (hframe.get (·.dev.phaseFirst)).trans hfirst
  generalize pulCycle true v = t at *
  exact ⟨.after hframe hv fun _ => List.mem_append_left _, (congrArg Prod.fst hall :), (congrArg Prod.snd hall :), hphaseFirst⟩

/-! ### BLOCK_CLEAR (R19, R403) -/

theorem applyCmd_blockClear {w : Waiting} (h : w.opcode = 0x12) (u : State) : applyCmd w u = ((applyBlockClear u).1, some (applyBlockClear u).2) := by
  unfold applyCmd
  rw [h]
  rfl

/-- The HWSL's block ends with the device's. -/
def hwslCleared (s : State) : State := if s.srb.st = .tripped then hwslRelease s else s

theorem applyBlockClear_ok (hrole : follower s = false) (hok : blockClearOk s = true) : applyBlockClear s = (enterReady (hwslCleared s), .ok) := by
  unfold applyBlockClear
  rw [if_neg (by simp [hrole]), if_neg (by simp [hok])]
  rfl

theorem applyBlockClear_refused (hrole : follower s = false) (hok : blockClearOk s = false) : applyBlockClear s = (s, .state) := by
  unfold applyBlockClear
  rw [if_neg (by simp [hrole]), if_pos (by simp [hok])]

theorem faultInfo_35 : faultInfo 35 = some ⟨0, true, 4, true, true⟩ := by decide

/-- A failed self-test of the HWSL waits for the boundary too. -/
theorem steady_hwslArm (s : State) : Steady s (hwslArm s) := by
  unfold hwslArm
  extract_lets t
  have ht : Steady s t := .of_frame (ps := [.free]) rfl
  have hcleared : Steady s (clear 35 t) := ht.trans (steady_clear ..)
  have hfault : Steady t (srbFault 35 0 0 0 0 t) := by
    unfold srbFault
    refine .ite .refl ?_
    have hraise : Steady t (raise 35 (safetyDetail 0 0 0 0) t) := steady_raise_of_level (fun f hf => by
      obtain rfl := Option.some.inj (faultInfo_35.symm.trans hf)
      rw [appliedLevel_of_fixed faultInfo_35 rfl]
      decide) _
    exact hraise.trans (.of_frame (frame_safetyEvent ..))
  exact .ite .refl (.ite (hcleared.trans (.of_frame (frame_srbGo ..))) (ht.trans hfault))

/-- A unit in cycles that was not in READY enters it, whatever the self-test finds. -/
theorem entersReady (hrun : s.cyc.running = true) (hstate : s.dev.state ≠ .ready) :
    Frame (reactParts ++ [.obs]) s (enterReady s) ∧ (enterReady s).dev.state = .ready := by
  have hmove := frame_moveState s .ready
  have hready : (moveState .ready s).dev.state = .ready := moveState_state ..
  have hseed := frame_obsUnseed (moveState .ready s)
  have heq : enterReady s = hwslArm (obsUnseed (moveState .ready s)) := if_neg hstate
  rw [heq]
  have hu : Frame (reactParts ++ [.obs]) s (obsUnseed (moveState .ready s)) := .after hseed hmove.mono
  have hready' : (obsUnseed (moveState .ready s)).dev.state = .ready := (hseed.get (·.dev.state)).trans hready
  generalize obsUnseed (moveState .ready s) = u at *
  obtain ⟨hframe, hkept⟩ := steady_hwslArm u
  exact ⟨.after hframe hu fun _ => List.mem_append_left _, (congrArg Prod.fst (hkept ((hu.get (·.cyc.running)).trans hrun))).trans hready'⟩

/-- A BLOCK_CLEAR that is applied takes BLOCKED to READY. -/
theorem blockCleared (hrun : s.cyc.running = true) (hok : blockClearOk s = true) :
    Frame (reactParts ++ [.obs]) s (enterReady (hwslCleared s)) ∧ (enterReady (hwslCleared s)).dev.state = .ready := by
  have hblocked : s.dev.state = .blocked := by
    simp only [blockClearOk, Bool.and_eq_true, beq_iff_eq] at hok
    exact hok.1.1.1.1
  have hclear : Frame [.srb, .ports, .mbx, .cap, .store] s (hwslCleared s) := .ite (frame_hwslRelease s) .refl
  generalize hwslCleared s = u at *
  obtain ⟨hframe, hready⟩ := entersReady (s := u) ((hclear.get (·.cyc.running)).trans hrun) (by rw [hclear.get (·.dev.state), hblocked]; decide)
  exact ⟨.after hframe hclear.mono, hready⟩

end Sys2Proof.Proofs
end

section
/-! Commands of phases, domains, setpoints, cells and counters at their cycle (R24, R67, R97, R114, R129, R130, R223, R266, R307). -/

set_option Elab.async false

namespace Sys2Proof.Proofs
open Sys2Proof Sys2Proof.Machine Sys2Proof.Laws

variable {s : State}

/-! ### PHASE_SET (R24, R25) -/

theorem applyCmd_phase {w : Waiting} (h : w.opcode = 0x13) (u : State) :
    applyCmd w u = ((applyPhase (w.arg 0) u).1, some (applyPhase (w.arg 0) u).2) := by
  unfold applyCmd
  rw [h]
  rfl

/-- A phase is entered, and its first cycle begins. -/
def phaseEntered (q : Phase) (s : State) : State := { setPhase q s with dev := { (setPhase q s).dev with phaseFirst := true } }

theorem applyPhase_ok {p : Nat} {q : Phase} (hq : Phase.ofCode p = some q) (hrun : s.dev.state = .running) (hnow : s.dev.recoveryNow = false)
    (hstep : phaseStep s.dev.phase q = true) : applyPhase p s = (phaseEntered q s, .ok) := by
  unfold applyPhase
  rw [hq]
  exact if_neg (by simp [hrun, hnow, hstep])

theorem applyPhase_refused {p : Nat} {q : Phase} (hq : Phase.ofCode p = some q)
    (h : s.dev.state ≠ .running ∨ s.dev.recoveryNow = true ∨ phaseStep s.dev.phase q = false) : applyPhase p s = (s, .state) := by
  unfold applyPhase
  rw [hq]
  refine if_pos ?_
  rcases h with h | h | h <;> simp [h]

theorem phaseStep_irrefl (q : Phase) : phaseStep q q = false := by cases q <;> rfl

theorem dev_phaseEntered {q : Phase} (hstep : phaseStep s.dev.phase q = true) :
    (phaseEntered q s).dev = { s.dev with phase := q, phaseFirst := true } := by
  have hne : s.dev.phase ≠ q := fun h => by
    rw [h, phaseStep_irrefl] at hstep
    cases hstep
  have hdev : (setPhase q s).dev = { s.dev with phase := q } := by
    unfold setPhase
    rw [if_neg hne]
    exact (Frame.after (frame_event ..) (frame_vector ..).mono : Frame [.mbx, .host] { s with dev := { s.dev with phase := q } } _).get State.dev
  unfold phaseEntered
  rw [hdev]

theorem butDev_phaseEntered (q : Phase) (s : State) : { phaseEntered q s with dev := s.dev, host := s.host, mbx := s.mbx } = s :=
  ((frame_setPhase s q).get fun u => { u with dev := s.dev, host := s.host, mbx := s.mbx } :)

/-! ### TIME_DOMAIN_SELECT (R266) -/

theorem applyCmd_domain {w : Waiting} (h : w.opcode = 0x16) (u : State) :
    applyCmd w u = ((applyDomain (w.arg 0) u).1, some (applyDomain (w.arg 0) u).2) := by
  unfold applyCmd
  rw [h]
  rfl

theorem applyDomain_ok {i : Nat} (h : switchBad s i = none) : applyDomain i s = (switchDomain i false s, .ok) := by
  unfold applyDomain
  rw [h]

theorem applyDomain_refused {i : Nat} {e : Status} (h : switchBad s i = some e) : applyDomain i s = (s, e) := by
  unfold applyDomain
  rw [h]

/-- The statuses of a refused switch. -/
theorem switchBad_ne_ok {i : Nat} {e : Status} (h : switchBad s i = some e) : e ≠ .ok := by
  unfold switchBad at h
  split at h
  · cases h
  · split at h
    · obtain rfl := Option.some.inj h
      decide
    · split at h
      · obtain rfl := Option.some.inj h
        decide
      · cases h

/-- The switch of the active domain moves no counter. -/
theorem switchDomain_keeps (hcalm : Calm s) (i : Nat) : let t := switchDomain i false s
    Frame (signalParts ++ [.time]) s t ∧ t.time.active = i ∧ t.time.ct = s.time.ct ∧ t.time.td0 = s.time.td0 ∧ t.time.td1 = s.time.td1 := by
  by_cases h : s.time.active = i
  · have hid : switchDomain i false s = s := if_pos h
    rw [hid]
    exact ⟨.refl, h, rfl, rfl, rfl⟩
  · have heq : switchDomain i false s = timeChange false (ctLeave { s with time := { s.time with active := i } }) := if_neg h
    rw [heq]
    have hset : Frame [.time] s { s with time := { s.time with active := i } } := rfl
    have htime : ∀ u : State, u = { s with time := { s.time with active := i } } →
        u.time.active = i ∧ u.time.ct = s.time.ct ∧ u.time.td0 = s.time.td0 ∧ u.time.td1 = s.time.td1 := by
      rintro u rfl
      exact ⟨rfl, rfl, rfl, rfl⟩
    obtain ⟨hactive, hct, htd0, htd1⟩ := htime _ rfl
    generalize ({ s with time := { s.time with active := i } } : State) = u at *
    have hchange : ∀ v : State, Frame [.time] u v → v.time.active = u.time.active → v.time.ct = u.time.ct → v.time.td0 = u.time.td0 →
        v.time.td1 = u.time.td1 → let t := timeChange false (judgeCtOffset v)
        Frame (signalParts ++ [.time]) s t ∧ t.time.active = i ∧ t.time.ct = s.time.ct ∧ t.time.td0 = s.time.td0 ∧ t.time.td1 = s.time.td1 := by
      intro v hv ha hc h0 h1 t
      have hjudged := frame_judgeCtOffset (hv.calm (hset.calm hcalm))
      have hall : Frame signalParts v t := .after (frame_event ..) hjudged
      rw [hall.get State.time, ha, hc, h0, h1]
      exact ⟨.after hall (.after hv hset.mono), hactive, hct, htd0, htd1⟩
    unfold ctLeave
    split
    · exact hchange u .refl rfl rfl rfl rfl
    · exact hchange { u with time := { u.time with slew := true } } rfl rfl rfl rfl rfl

/-! ### SETPOINT_SET (R17, R114) -/

theorem applyCmd_setpoint {w : Waiting} (h : w.opcode = 0x30) (u : State) :
    applyCmd w u = ((applySetpoint (w.arg 0) w.elems u).1, some (applySetpoint (w.arg 0) w.elems u).2) := by
  unfold applyCmd
  rw [h]
  rfl

/-- A stage with a new value under its limits. -/
def stageValued (s : State) (k : Nat) (ws : List ElemWord) : PStage :=
  { pstage s k with val := outPlain 24 (pstage s k).efloor (pstage s k).eceil (ws.map ewVal) }

/-- A stage's value in force, at its cycle. -/
def setpointTaken (slot k : Nat) (ws : List ElemWord) (s : State) : State :=
  { s with cfg := flipStage k (stageValued s k ws) s.cfg, graph := { s.graph with spCycle := s.graph.spCycle.set slot s.cyc.n } }

theorem applySetpoint_ok {slot k : Nat} {pl : Plate} (hpl : s.cfg.plate = some pl) (hk : pl.slots.find slot = some k) (ws : List ElemWord) :
    applySetpoint slot ws s = (setpointTaken slot k ws s, .ok) := by
  unfold applySetpoint
  rw [hpl]
  dsimp only
  rw [hk]
  rfl

/-! ### Cells (R129, R130) -/

theorem applyCmd_exclude {w : Waiting} (h : w.opcode = 0x32) (u : State) :
    applyCmd w u = ((applyExclude (w.arg 0) u).1, some (applyExclude (w.arg 0) u).2) := by
  unfold applyCmd
  rw [h]
  rfl

/-- A member in category EXCLUDED. -/
def excluded (a ci : Nat) (s : State) : State :=
  { s with arms := s.arms.upd a {} (fun x => { x with cats := x.cats.upd ci {} (fun c => { c with cat := .excluded, valid := 0 }) }) }

theorem arms_excluded (a ci b : Nat) (s : State) : (excluded a ci s).arms.get b {} = if a = b then
    { s.arms.get a {} with cats := (s.arms.get a {}).cats.upd ci {} (fun c => { c with cat := .excluded, valid := 0 }) } else s.arms.get b {} := by
  unfold excluded
  exact get_upd s.arms a {} (fun x => { x with cats := x.cats.upd ci {} (fun c => { c with cat := .excluded, valid := 0 }) }) b {}

theorem applyExclude_ok {ci a : Nat} {m : Member} (hmay : mayExclude s ci = true) (hmem : memberOf s ci = some (a, m)) :
    applyExclude ci s = (excluded a ci s, .ok) := by
  unfold applyExclude
  rw [hmay, hmem]
  rfl

/-- A restore waits for its member's next cutoff. -/
def restoreNoted (w : Waiting) (a : Nat) (s : State) : State := { s with arms := s.arms.upd a {} (fun x => { x with restores := x.restores ++ [w] }) }

theorem arms_restoreNoted (w : Waiting) (a b : Nat) (s : State) : (restoreNoted w a s).arms.get b {} =
    if a = b then { s.arms.get a {} with restores := (s.arms.get a {}).restores ++ [w] } else s.arms.get b {} := by
  unfold restoreNoted
  exact get_upd s.arms a {} (fun x => { x with restores := x.restores ++ [w] }) b {}

theorem applyCmd_restore {w : Waiting} (h : w.opcode = 0x33) {a : Nat} {m : Member} (hmay : mayRestore s (w.arg 0) = true)
    (hmem : memberOf s (w.arg 0) = some (a, m)) : applyCmd w s = (restoreNoted w a s, none) := by
  unfold applyCmd
  rw [h]
  dsimp only
  rw [hmay, hmem]
  rfl

/-! ### The four clearing commands (R67, R97, R223, R307) -/

theorem applyCmd_flags {w : Waiting} (h : w.opcode = 0x40) (u : State) : applyCmd w u = (applyFlags (w.arg 0) (w.arg 1) u, some .ok) := by
  unfold applyCmd
  rw [h]
  rfl

theorem find_applyFlags (first count n : Nat) (s : State) : (applyFlags first count s).graph.stat.find n = (s.graph.stat.find n).map (fun x =>
    if first ≤ n ∧ n < first + count then { x with satCount := 0, domSticky := false, clampSticky := false, satSticky := false } else x) := by
  unfold applyFlags
  dsimp only
  rw [find_mapVals]
  simp only [Bool.and_eq_true, decide_eq_true_eq]

theorem applyCmd_stats {w : Waiting} (h : w.opcode = 0x41) (u : State) : applyCmd w u = (applyStats u, some .ok) := by
  unfold applyCmd
  rw [h]
  rfl

theorem find_applyStats (n : Nat) (s : State) :
    (applyStats s).graph.place.find n = (s.graph.place.find n).map (fun p => { p with moves := 0 }) := by
  unfold applyStats
  dsimp only
  rw [find_mapVals]

theorem applyCmd_minMax {w : Waiting} (h : w.opcode = 0x42) (u : State) : applyCmd w u = (applyMinMax (w.arg 0) (w.arg 1) u, some .ok) := by
  unfold applyCmd
  rw [h]
  rfl

theorem find_applyMinMax (first count n : Nat) (s : State) : (applyMinMax first count s).points.find n =
    (s.points.find n).map (fun x => if first ≤ n ∧ n < first + count then ptMinMaxClear x else x) := by
  unfold applyMinMax
  dsimp only
  rw [find_mapVals]
  simp only [Bool.and_eq_true, decide_eq_true_eq]

theorem applyCmd_pulse {w : Waiting} (h : w.opcode = 0x44) (u : State) : applyCmd w u = (applyPulse (w.arg 0) u, some .ok) := by
  unfold applyCmd
  rw [h]
  rfl

theorem find_applyPulse (mask c : Nat) (s : State) :
    (applyPulse mask s).pul.ch.find c = (s.pul.ch.find c).map (fun x => if mask.testBit c then pulClear x else x) := by
  unfold applyPulse
  dsimp only
  rw [find_mapVals]

end Sys2Proof.Proofs
end

section
/-! The commands that wait for a cycle, as they are applied or refused at it (R20, R341). -/

set_option Elab.async false

namespace Sys2Proof.Proofs
open Sys2Proof Sys2Proof.Machine Sys2Proof.Laws

variable {s : State} {w : Waiting}

/-- The state without a command that has been taken from the waiting list. -/
abbrev withoutCommand (w : Waiting) (s : State) : Cyc := { s.cyc with waiting := s.cyc.waiting.erase w }

/-- TRANSFER_SEQ after a command of an opcode. -/
abbrev Counted (op : Nat) (s t : State) : Prop := t.tan = { s.tan with transferSeq := s.tan.transferSeq + (if isClassA op then 1 else 0) }

theorem counted_of_frame {op : Nat} {a t : State} (ha : a.tan = s.tan) (h : Frame [.mbx] (countApplied op a) t) : Counted op s t := by
  unfold Counted
  rw [h.get State.tan, tan_countApplied, ha]

theorem frame_applied {op : Nat} {a t : State} (h : Frame [.mbx] (countApplied op a) t) : Frame [.mbx, .tan] a t :=
  (frame_countApplied op a).mono.step h

/-! ### DEBLOCK and BLOCK_CLEAR -/

variable (hat : atBoundary s = true) (hdue : nextDue s = some w)
include hat hdue

theorem deblock_applied (hop : w.opcode = 0x10) (hrole : follower s = false) (hcheck : deblockCheck s = .ok) (hcalm : Calm s) :
    Goes .scheduledCommandApply s fun t => t.dev.state = .running ∧ t.dev.phase = .startup ∧ t.dev.phaseFirst = true ∧
      t.cyc.waiting = (withoutCommand w s).waiting ∧ t.cyc.n = s.cyc.n ∧ t.cfg = s.cfg ∧ t.obs = s.obs ∧ t.moors = s.moors := by
  have hrun : s.cyc.running = true := by
    simp only [atBoundary, Bool.and_eq_true] at hat
    exact hat.1
  have hlist := frame_unlisted w s
  have hcmd : applyCmd w (unlisted w s) = (pulCycle true (runStarted (moveState .running (unlisted w s))), some .ok) := by
    rw [applyCmd_deblock hop, applyDeblock_ok ((hlist.get follower).trans hrole) ((hlist.get deblockCheck).trans hcheck)]
  obtain ⟨hframe, hstate, hphase, hfirst⟩ := deblocked (hlist.calm hcalm) ((hlist.get (·.cyc.running)).trans hrun)
    ((hlist.get (·.dev.state)).trans (ready_of_deblockCheck hcheck))
  refine applied_at_cycle hat hdue hcmd fun t ht => ?_
  generalize pulCycle true (runStarted (moveState .running (unlisted w s))) = a at *
  have hend := frame_applied ht
  have hwaiting : (unlisted w s).cyc.waiting = (withoutCommand w s).waiting := rfl
  rw [hend.get State.dev]
  refine ⟨hstate, hphase, hfirst, ?_, ?_, ?_, ?_, ?_⟩
  · rw [hend.get (·.cyc.waiting), hframe.get (·.cyc.waiting), hwaiting]
  · rw [hend.get (·.cyc.n), hframe.get (·.cyc.n), hlist.get (·.cyc.n)]
  · rw [hend.get State.cfg, hframe.get State.cfg, hlist.get State.cfg]
  · rw [hend.get State.obs, hframe.get State.obs, hlist.get State.obs]
  · rw [hend.get State.moors, hframe.get State.moors, hlist.get State.moors]

theorem deblock_refused (hop : w.opcode = 0x10) (hrole : follower s = false) (hcheck : deblockCheck s ≠ .ok) :
    Goes .scheduledCommandApply s fun t => ButMessages { s with cyc := withoutCommand w s } t := by
  have hlist := frame_unlisted w s
  refine refused_at_cycle hat hdue hcheck ?_
  have hsame : deblockCheck (unlisted w s) = deblockCheck s := hlist.get deblockCheck
  rw [applyCmd_deblock hop, applyDeblock_refused ((hlist.get follower).trans hrole) (hsame ▸ hcheck), hsame]

theorem blockClear_applied (hop : w.opcode = 0x12) (hrole : follower s = false) (hok : blockClearOk s = true) :
    Goes .scheduledCommandApply s fun t => t.dev.state = .ready ∧ t.cyc.waiting = (withoutCommand w s).waiting ∧ t.cyc.n = s.cyc.n ∧ t.cfg = s.cfg ∧
      t.moors = s.moors ∧ t.tan.transferSeq = s.tan.transferSeq + 1 := by
  have hrun : s.cyc.running = true := by
    simp only [atBoundary, Bool.and_eq_true] at hat
    exact hat.1
  have hlist := frame_unlisted w s
  have hok' : blockClearOk (unlisted w s) = true := (hlist.get blockClearOk).trans hok
  have hcmd : applyCmd w (unlisted w s) = (enterReady (hwslCleared (unlisted w s)), some .ok) := by
    rw [applyCmd_blockClear hop, applyBlockClear_ok ((hlist.get follower).trans hrole) hok']
  obtain ⟨hframe, hstate⟩ := blockCleared ((hlist.get (·.cyc.running)).trans hrun) hok'
  refine applied_at_cycle hat hdue hcmd fun t ht => ?_
  generalize enterReady (hwslCleared (unlisted w s)) = a at *
  have hend := frame_applied ht
  have hcount : Counted w.opcode s t := counted_of_frame ((hframe.get State.tan).trans (hlist.get State.tan)) ht
  have hwaiting : (unlisted w s).cyc.waiting = (withoutCommand w s).waiting := rfl
  refine ⟨?_, ?_, ?_, ?_, ?_, ?_⟩
  · rw [hend.get State.dev, hstate]
  · rw [hend.get (·.cyc.waiting), hframe.get (·.cyc.waiting), hwaiting]
  · rw [hend.get (·.cyc.n), hframe.get (·.cyc.n), hlist.get (·.cyc.n)]
  · rw [hend.get State.cfg, hframe.get State.cfg, hlist.get State.cfg]
  · rw [hend.get State.moors, hframe.get State.moors, hlist.get State.moors]
  · rw [hcount, hop]
    rfl

theorem blockClear_refused (hop : w.opcode = 0x12) (hrole : follower s = false) (hok : blockClearOk s = false) :
    Goes .scheduledCommandApply s fun t => ButMessages { s with cyc := withoutCommand w s } t := by
  have hlist := frame_unlisted w s
  refine refused_at_cycle hat hdue (e := .state) (by decide) ?_
  rw [applyCmd_blockClear hop, applyBlockClear_refused ((hlist.get follower).trans hrole) ((hlist.get blockClearOk).trans hok)]

/-! ### PHASE_SET and TIME_DOMAIN_SELECT -/

theorem phaseSet_applied {q : Phase} (hop : w.opcode = 0x13) (hq : Phase.ofCode (w.arg 0) = some q) (hrun : s.dev.state = .running)
    (hnow : s.dev.recoveryNow = false) (hstep : phaseStep s.dev.phase q = true) :
    Goes .scheduledCommandApply s fun t => t.dev = { s.dev with phase := q, phaseFirst := true } ∧ Counted w.opcode s t ∧
      ButMessages { s with dev := t.dev, cyc := withoutCommand w s, tan := t.tan } t := by
  have hcmd : applyCmd w (unlisted w s) = (phaseEntered q (unlisted w s), some .ok) := by
    rw [applyCmd_phase hop, applyPhase_ok (s := unlisted w s) hq hrun hnow hstep]
  have hdev : (phaseEntered q (unlisted w s)).dev = { s.dev with phase := q, phaseFirst := true } := dev_phaseEntered (s := unlisted w s) hstep
  have hrest := butDev_phaseEntered q (unlisted w s)
  refine applied_at_cycle hat hdue hcmd fun t ht => ?_
  generalize phaseEntered q (unlisted w s) = a at *
  have hend := frame_applied ht
  have htan : a.tan = s.tan := (congrArg State.tan hrest :)
  have hbut : { t with dev := s.dev, host := s.host, mbx := s.mbx, stn := s.stn, tan := s.tan } = unlisted w s := by
    have hall := hend.get fun u => { u with dev := s.dev, host := s.host, mbx := s.mbx, stn := s.stn, tan := s.tan }
    exact hall.trans (congrArg (fun u : State => { u with stn := s.stn, tan := s.tan }) hrest :)
  refine ⟨(hend.get State.dev).trans hdev, counted_of_frame htan ht, ?_⟩
  exact (congrArg (fun u : State => { u with dev := t.dev, tan := t.tan }) hbut :)

theorem phaseSet_refused {q : Phase} (hop : w.opcode = 0x13) (hq : Phase.ofCode (w.arg 0) = some q)
    (h : s.dev.state ≠ .running ∨ s.dev.recoveryNow = true ∨ phaseStep s.dev.phase q = false) :
    Goes .scheduledCommandApply s fun t => ButMessages { s with cyc := withoutCommand w s } t := by
  refine refused_at_cycle hat hdue (e := .state) (by decide) ?_
  rw [applyCmd_phase hop, applyPhase_refused (s := unlisted w s) hq h]

theorem domainSelect_applied (hop : w.opcode = 0x16) (hgood : switchBad s (w.arg 0) = none) (hcalm : Calm s) :
    Goes .scheduledCommandApply s fun t => t.time.active = w.arg 0 ∧ t.time.ct = s.time.ct ∧ t.time.td0 = s.time.td0 ∧ t.time.td1 = s.time.td1 ∧
      t.cyc.waiting = (withoutCommand w s).waiting ∧ t.cyc.n = s.cyc.n ∧ t.cfg = s.cfg := by
  have hlist := frame_unlisted w s
  have hcmd : applyCmd w (unlisted w s) = (switchDomain (w.arg 0) false (unlisted w s), some .ok) := by
    rw [applyCmd_domain hop, applyDomain_ok ((hlist.get (switchBad · (w.arg 0))).trans hgood)]
  obtain ⟨hframe, hactive, hct, htd0, htd1⟩ := switchDomain_keeps (hlist.calm hcalm) (w.arg 0)
  refine applied_at_cycle hat hdue hcmd fun t ht => ?_
  generalize switchDomain (w.arg 0) false (unlisted w s) = a at *
  have hend := frame_applied ht
  have hwaiting : (unlisted w s).cyc.waiting = (withoutCommand w s).waiting := rfl
  rw [hend.get State.time]
  refine ⟨hactive, hct, htd0, htd1, ?_, ?_, ?_⟩
  · rw [hend.get (·.cyc.waiting), hframe.get (·.cyc.waiting), hwaiting]
  · rw [hend.get (·.cyc.n), hframe.get (·.cyc.n), hlist.get (·.cyc.n)]
  · rw [hend.get State.cfg, hframe.get State.cfg, hlist.get State.cfg]

theorem domainSelect_refused (hop : w.opcode = 0x16) (hbad : switchBad s (w.arg 0) ≠ none) :
    Goes .scheduledCommandApply s fun t => ButMessages { s with cyc := withoutCommand w s } t := by
  obtain ⟨e, he⟩ := Option.ne_none_iff_exists'.mp hbad
  refine refused_at_cycle hat hdue (switchBad_ne_ok he) ?_
  rw [applyCmd_domain hop, applyDomain_refused (((frame_unlisted w s).get (switchBad · (w.arg 0))).trans he)]

/-! ### Setpoints and cells -/

theorem setpointSet_applied {pl : Plate} {k : Nat} (hop : w.opcode = 0x30) (hpl : s.cfg.plate = some pl) (hk : pl.slots.find (w.arg 0) = some k) :
    Goes .scheduledCommandApply s fun t =>
      let v := outPlain 24 (pstage s k).efloor (pstage s k).eceil (w.elems.map ewVal)
      (t.cfg.stages.get k { val := { e := -128, m := [0] } }).val = v ∧ (t.cfg.stagesI.get k { val := { e := -128, m := [0] } }).val = v ∧
      t.cfg.par = s.cfg.par ∧ t.cfg.parI = s.cfg.parI ∧ t.cfg.plate = s.cfg.plate ∧
      (∀ j, j ≠ k → t.cfg.stages.find j = s.cfg.stages.find j ∧ t.cfg.stagesI.find j = s.cfg.stagesI.find j) ∧
      t.graph = { s.graph with spCycle := s.graph.spCycle.set (w.arg 0) s.cyc.n } ∧ Counted w.opcode s t ∧
      ButMessages { s with cfg := t.cfg, graph := t.graph, cyc := withoutCommand w s, tan := t.tan } t := by
  have hcmd : applyCmd w (unlisted w s) = (setpointTaken (w.arg 0) k w.elems (unlisted w s), some .ok) := by
    rw [applyCmd_setpoint hop, applySetpoint_ok (s := unlisted w s) hpl hk]
  refine applied_at_cycle hat hdue hcmd fun t ht => ?_
  have hcfg : (setpointTaken (w.arg 0) k w.elems (unlisted w s)).cfg = flipStage k (stageValued s k w.elems) s.cfg := rfl
  have hgraph : (setpointTaken (w.arg 0) k w.elems (unlisted w s)).graph = { s.graph with spCycle := s.graph.spCycle.set (w.arg 0) s.cyc.n } := rfl
  have htan : (setpointTaken (w.arg 0) k w.elems (unlisted w s)).tan = s.tan := rfl
  have hbut : { setpointTaken (w.arg 0) k w.elems (unlisted w s) with
      cfg := s.cfg, graph := s.graph, mbx := s.mbx, host := s.host, stn := s.stn, tan := s.tan } = unlisted w s := rfl
  generalize setpointTaken (w.arg 0) k w.elems (unlisted w s) = a at *
  have hend := frame_applied ht
  have htcfg : t.cfg = flipStage k (stageValued s k w.elems) s.cfg := (hend.get State.cfg).trans hcfg
  have hrest := (hend.get fun u => { u with cfg := s.cfg, graph := s.graph, mbx := s.mbx, host := s.host, stn := s.stn, tan := s.tan }).trans hbut
  intro v
  have hvalue : (stageValued s k w.elems).val = v := rfl
  refine ⟨?_, ?_, ?_, ?_, ?_, fun j hj => ?_, (hend.get State.graph).trans hgraph, counted_of_frame htan ht,
    (congrArg (fun u : State => { u with cfg := t.cfg, graph := t.graph, tan := t.tan }) hrest :)⟩
  · rw [htcfg, ← hvalue]
    simp [flipStage, bankSwap]
  · rw [htcfg, ← hvalue]
    simp [flipStage, bankSwap]
  · rw [htcfg]
    rfl
  · rw [htcfg]
    rfl
  · rw [htcfg]
    rfl
  · rw [htcfg]
    simp [flipStage, bankSwap, Ne.symm hj]

theorem cellExclude_applied {a : Nat} {m : Member} (hop : w.opcode = 0x32) (hmay : mayExclude s (w.arg 0) = true)
    (hmem : memberOf s (w.arg 0) = some (a, m)) :
    Goes .scheduledCommandApply s fun t => (((t.arms.get a {}).cats.get (w.arg 0) {}).cat = .excluded) ∧
      (∀ b, b ≠ a → t.arms.get b {} = s.arms.get b {}) ∧ (∀ c, c ≠ w.arg 0 → (t.arms.get a {}).cats.get c {} = (s.arms.get a {}).cats.get c {}) ∧
      Counted w.opcode s t ∧ ButMessages { s with arms := t.arms, cyc := withoutCommand w s, tan := t.tan } t := by
  have hlist := frame_unlisted w s
  have hcmd : applyCmd w (unlisted w s) = (excluded a (w.arg 0) (unlisted w s), some .ok) := by
    rw [applyCmd_exclude hop, applyExclude_ok ((hlist.get (mayExclude · (w.arg 0))).trans hmay) ((hlist.get (memberOf · (w.arg 0))).trans hmem)]
  refine applied_at_cycle hat hdue hcmd fun t ht => ?_
  have harms := fun b => arms_excluded a (w.arg 0) b (unlisted w s)
  have htan : (excluded a (w.arg 0) (unlisted w s)).tan = s.tan := rfl
  have hbut : { excluded a (w.arg 0) (unlisted w s) with
      arms := s.arms, mbx := s.mbx, host := s.host, stn := s.stn, tan := s.tan } = unlisted w s := rfl
  generalize excluded a (w.arg 0) (unlisted w s) = x at *
  have hend := frame_applied ht
  have hrest := (hend.get fun u => { u with arms := s.arms, mbx := s.mbx, host := s.host, stn := s.stn, tan := s.tan }).trans hbut
  refine ⟨?_, fun b hb => ?_, fun c hc => ?_, counted_of_frame htan ht, (congrArg (fun u : State => { u with arms := t.arms, tan := t.tan }) hrest :)⟩
  · rw [hend.get State.arms, harms, if_pos rfl, get_upd, if_pos rfl]
  · rw [hend.get State.arms, harms, if_neg (Ne.symm hb)]
    rfl
  · rw [hend.get State.arms, harms, if_pos rfl, get_upd, if_neg (Ne.symm hc)]
    rfl

theorem cellRestore_noted {a : Nat} {m : Member} (hop : w.opcode = 0x33) (hmay : mayRestore s (w.arg 0) = true)
    (hmem : memberOf s (w.arg 0) = some (a, m)) :
    Goes .scheduledCommandApply s fun t => (t.arms.get a {}).restores = (s.arms.get a {}).restores ++ [w] ∧ (t.arms.get a {}).cats = (s.arms.get a {}).cats ∧
      (∀ b, b ≠ a → t.arms.get b {} = s.arms.get b {}) ∧ Counted w.opcode s t ∧
      ButMessages { s with arms := t.arms, cyc := withoutCommand w s, tan := t.tan } t := by
  have hlist := frame_unlisted w s
  have hexec := exec_apply hat hdue
  rw [applyCmd_restore hop ((hlist.get (mayRestore · (w.arg 0))).trans hmay) ((hlist.get (memberOf · (w.arg 0))).trans hmem)] at hexec
  have harms := fun b => arms_restoreNoted w a b (unlisted w s)
  have htan : (restoreNoted w a (unlisted w s)).tan = s.tan := rfl
  have hbut : { restoreNoted w a (unlisted w s) with
      arms := s.arms, mbx := s.mbx, host := s.host, stn := s.stn, tan := s.tan } = unlisted w s := rfl
  generalize restoreNoted w a (unlisted w s) = x at *
  have hend : Frame [.mbx] (countApplied w.opcode x) (finished w (x, none)) := .refl
  generalize finished w (x, none) = t at *
  have hall := frame_applied hend
  have hrest := (hall.get fun u => { u with arms := s.arms, mbx := s.mbx, host := s.host, stn := s.stn, tan := s.tan }).trans hbut
  refine goes_of_eq hexec ⟨?_, ?_, fun b hb => ?_, counted_of_frame htan hend, (congrArg (fun u : State => { u with arms := t.arms, tan := t.tan }) hrest :)⟩
  · rw [hall.get State.arms, harms, if_pos rfl]
    rfl
  · rw [hall.get State.arms, harms, if_pos rfl]
    rfl
  · rw [hall.get State.arms, harms, if_neg (Ne.symm hb)]
    rfl

end Sys2Proof.Proofs
end

section
/-! The clearing commands at their cycle, and the obligation (R20, R67, R97, R223, R307, R341). -/

set_option Elab.async false

namespace Sys2Proof.Proofs
open Sys2Proof Sys2Proof.Machine Sys2Proof.Laws

variable {s : State} {w : Waiting}

section Clearing
variable (hat : atBoundary s = true) (hdue : nextDue s = some w)
include hat hdue

theorem flagsClear_applied (hop : w.opcode = 0x40) :
    Goes .scheduledCommandApply s fun t => (∀ n, t.graph.stat.find n = (s.graph.stat.find n).map (fun x =>
        if w.arg 0 ≤ n ∧ n < w.arg 0 + w.arg 1 then { x with satCount := 0, domSticky := false, clampSticky := false, satSticky := false } else x)) ∧
      Counted w.opcode s t ∧ ButMessages { s with graph := { s.graph with stat := t.graph.stat }, cyc := withoutCommand w s, tan := t.tan } t := by
  refine applied_at_cycle hat hdue (applyCmd_flags hop _) fun t ht => ?_
  have hstat := fun n => find_applyFlags (w.arg 0) (w.arg 1) n (unlisted w s)
  have htan : (applyFlags (w.arg 0) (w.arg 1) (unlisted w s)).tan = s.tan := rfl
  have hbut : { applyFlags (w.arg 0) (w.arg 1) (unlisted w s) with
      graph := { (applyFlags (w.arg 0) (w.arg 1) (unlisted w s)).graph with stat := s.graph.stat },
      mbx := s.mbx, host := s.host, stn := s.stn, tan := s.tan } = unlisted w s := rfl
  generalize applyFlags (w.arg 0) (w.arg 1) (unlisted w s) = a at *
  have hend := frame_applied ht
  have hrest := (hend.get fun u => { u with graph := { u.graph with stat := s.graph.stat }, mbx := s.mbx, host := s.host, stn := s.stn, tan := s.tan }).trans hbut
  refine ⟨fun n => ?_, counted_of_frame htan ht,
    (congrArg (fun u : State => { u with graph := { u.graph with stat := t.graph.stat }, tan := t.tan }) hrest :)⟩
  rw [hend.get State.graph, hstat]
  rfl

theorem statsClear_applied (hop : w.opcode = 0x41) :
    Goes .scheduledCommandApply s fun t => t.graph.hist = [] ∧ (∀ n, (t.graph.place.get n {}).moves = 0) ∧
      (∀ n, (t.graph.place.get n {}).lane = (s.graph.place.get n {}).lane) ∧
      ButMessages { s with graph := { s.graph with hist := [], place := t.graph.place, table := t.graph.table }, cyc := withoutCommand w s } t := by
  refine applied_at_cycle hat hdue (applyCmd_stats hop _) fun t ht => ?_
  have hcount : countApplied w.opcode (applyStats (unlisted w s)) = applyStats (unlisted w s) := if_neg (by rw [hop]; decide)
  rw [hcount] at ht
  have hhist : (applyStats (unlisted w s)).graph.hist = [] := rfl
  have hplace : ∀ n, ((applyStats (unlisted w s)).graph.place.get n {}).moves = 0 ∧
      ((applyStats (unlisted w s)).graph.place.get n {}).lane = (s.graph.place.get n {}).lane := by
    intro n
    unfold SMap.get
    rw [find_applyStats, show (unlisted w s).graph.place = s.graph.place from rfl]
    cases s.graph.place.find n <;> exact ⟨rfl, rfl⟩
  have hbut : { applyStats (unlisted w s) with
      graph := { (applyStats (unlisted w s)).graph with hist := [], place := s.graph.place, table := s.graph.table },
      mbx := s.mbx, host := s.host, stn := s.stn } = { unlisted w s with graph := { s.graph with hist := [] } } := rfl
  generalize applyStats (unlisted w s) = a at *
  have hrest := (ht.get fun u =>
    { u with graph := { u.graph with hist := [], place := s.graph.place, table := s.graph.table }, mbx := s.mbx, host := s.host, stn := s.stn }).trans hbut
  refine ⟨(ht.get (·.graph.hist)).trans hhist, fun n => ?_, fun n => ?_, ?_⟩
  · rw [ht.get State.graph, (hplace n).1]
  · rw [ht.get State.graph, (hplace n).2]
  · have hempty : t.graph.hist = [] := (ht.get (·.graph.hist)).trans hhist
    have hgraph : { t.graph with hist := [], place := t.graph.place, table := t.graph.table } = t.graph := by rw [← hempty]
    have hall := congrArg (fun u : State => { u with graph := { u.graph with hist := [], place := t.graph.place, table := t.graph.table } }) hrest
    dsimp only at hall
    rw [hgraph] at hall
    exact hall

theorem minMaxClear_applied (hop : w.opcode = 0x42) :
    Goes .scheduledCommandApply s fun t => (∀ n, t.points.find n = (s.points.find n).map (fun x =>
        if w.arg 0 ≤ n ∧ n < w.arg 0 + w.arg 1 then ptMinMaxClear x else x)) ∧ ButMessages { s with points := t.points, cyc := withoutCommand w s } t := by
  refine applied_at_cycle hat hdue (applyCmd_minMax hop _) fun t ht => ?_
  have hcount : countApplied w.opcode (applyMinMax (w.arg 0) (w.arg 1) (unlisted w s)) = applyMinMax (w.arg 0) (w.arg 1) (unlisted w s) :=
    if_neg (by rw [hop]; decide)
  rw [hcount] at ht
  have hpoints := fun n => find_applyMinMax (w.arg 0) (w.arg 1) n (unlisted w s)
  have hbut : { applyMinMax (w.arg 0) (w.arg 1) (unlisted w s) with points := s.points, mbx := s.mbx, host := s.host, stn := s.stn } = unlisted w s := rfl
  generalize applyMinMax (w.arg 0) (w.arg 1) (unlisted w s) = a at *
  have hrest := (ht.get fun u => { u with points := s.points, mbx := s.mbx, host := s.host, stn := s.stn }).trans hbut
  refine ⟨fun n => ?_, (congrArg (fun u : State => { u with points := t.points }) hrest :)⟩
  rw [ht.get State.points, hpoints]
  rfl

theorem pulseClear_applied (hop : w.opcode = 0x44) :
    Goes .scheduledCommandApply s fun t =>
      (∀ c, t.pul.ch.find c = (s.pul.ch.find c).map (fun x => if (w.arg 0).testBit c then pulClear x else x)) ∧
      ButMessages { s with pul := { s.pul with ch := t.pul.ch }, cyc := withoutCommand w s } t := by
  refine applied_at_cycle hat hdue (applyCmd_pulse hop _) fun t ht => ?_
  have hcount : countApplied w.opcode (applyPulse (w.arg 0) (unlisted w s)) = applyPulse (w.arg 0) (unlisted w s) := if_neg (by rw [hop]; decide)
  rw [hcount] at ht
  have hch := fun c => find_applyPulse (w.arg 0) c (unlisted w s)
  have hbut : { applyPulse (w.arg 0) (unlisted w s) with
      pul := { (applyPulse (w.arg 0) (unlisted w s)).pul with ch := s.pul.ch }, mbx := s.mbx, host := s.host, stn := s.stn } = unlisted w s := rfl
  generalize applyPulse (w.arg 0) (unlisted w s) = a at *
  have hrest := (ht.get fun u => { u with pul := { u.pul with ch := s.pul.ch }, mbx := s.mbx, host := s.host, stn := s.stn }).trans hbut
  refine ⟨fun c => ?_, (congrArg (fun u : State => { u with pul := { u.pul with ch := t.pul.ch } }) hrest :)⟩
  rw [ht.get State.pul, hch]
  rfl

end Clearing

/-- Settles O13: each command that waited, applied or refused at the boundary of its cycle. -/
theorem commandsAtTheirCycle : Obligations.CommandsAtTheirCycle := by
  unfold Obligations.CommandsAtTheirCycle
  intro s
  refine ⟨exec_apply_idle, ?_⟩
  intro w hat hdue taken counted refused
  refine ⟨fun hop hrole hcheck hcalm => deblock_applied hat hdue hop hrole hcheck hcalm, fun hop hrole hcheck => deblock_refused hat hdue hop hrole hcheck,
    fun hop hrole hok => blockClear_applied hat hdue hop hrole hok, fun hop hrole hok => blockClear_refused hat hdue hop hrole hok,
    fun q hop hq hrun hnow hstep => phaseSet_applied hat hdue hop hq hrun hnow hstep, fun q hop hq h => phaseSet_refused hat hdue hop hq h,
    fun hop hgood hcalm => domainSelect_applied hat hdue hop hgood hcalm, fun hop hbad => domainSelect_refused hat hdue hop hbad,
    fun pl k hop hpl hk => setpointSet_applied hat hdue hop hpl hk, fun a m hop hmay hmem => cellExclude_applied hat hdue hop hmay hmem,
    fun a m hop hmay hmem => cellRestore_noted hat hdue hop hmay hmem, fun hop => flagsClear_applied hat hdue hop,
    fun hop => statsClear_applied hat hdue hop, fun hop => minMaxClear_applied hat hdue hop, fun hop => pulseClear_applied hat hdue hop⟩

end Sys2Proof.Proofs
end
